-- ==== Sys2Proof/Word.lean ====
section
/-!
DEFINITION. Words, bytes and the finite maps that every memory and register file of the PNX7740 model uses.
-/

namespace Sys2Proof

/-- A register or table word (R4: every register is 32 bits wide). -/
abbrev Word := BitVec 32

/-- A byte of the Hall. -/
abbrev Byte := BitVec 8

/-- A sparse memory: address and value pairs, addresses strictly rising. -/
abbrev Cells (α : Type) := List (Nat × α)

end Sys2Proof
end

