-- ==== Sys2Proof/Syntax.lean ====
section
/-!
DEFINITION. The commands of the PNX7740: one constructor per row of spec/opcode_table.json, in its order.
-/

namespace Sys2Proof

/-- The two host ports (05). -/
inductive Port where
  | a
  | b
  deriving DecidableEq, Repr

/-- How a bus transfer ends (R151, R153): finished, a missing acknowledge after a number of acknowledged bytes, SDA stuck. -/
inductive BusOutcome where
  | ok
  | nack (acked : Nat)
  | stuck
  deriving DecidableEq, Repr

/-- The components of a pixel as a DSI pixel stream carries it, each at its format's width. -/
structure Rgb where
  r : BitVec 10
  g : BitVec 10
  b : BitVec 10
  deriving DecidableEq, Repr

/-- The packed pixel streams accepted (Table 12-2). -/
inductive PixelStream where
  | rgb30
  | rgb24
  | rgb16
  deriving DecidableEq, Repr

/-- What is wrong with a DSI packet (R273, R275): a header bit that ECC corrects, more header bits, the checksum of a long
packet, a data type outside Table 12-2, its virtual channel alone, or a full staging buffer. -/
inductive DsiFault where
  | corrected
  | header
  | checksum
  | dataType (code : BitVec 6)
  | channel
  | overrun
  deriving DecidableEq, Repr

/-- A task whose wait step is out of time, and the level that the pin of a WAIT_PIN step reads then (R148). -/
structure WaitSample where
  task : BitVec 4
  level : Bool
  deriving DecidableEq, Repr

/-- What a scan or a leakage measurement senses (R164, R183): VDDIO in mV, the level of each column in µV — for a scan that of
each key's column while its row was driven — and the levels of the buttons, which a scan alone reads. -/
structure KeyLevels where
  vddio : Nat
  cols : List Nat
  btns : BitVec 8 := 0#8
  deriving DecidableEq, Repr

/-- The level of an encoder pad and the consecutive ticks for which it has shown it (R168). -/
structure PadRun where
  level : Bool
  seen : Nat
  deriving DecidableEq, Repr

/-- A 16-bit parameter of a DCS command, most significant byte first (R276). -/
structure DcsParam where
  high : Byte
  low : Byte
  deriving DecidableEq, Repr

/-- A DCS command as its packet carries it: its virtual channel and its code (R276). -/
structure DcsCommand where
  vc : BitVec 1
  code : Byte
  deriving DecidableEq, Repr

/-- The bytes of a select that pick its command: port A sends two, port B the first alone (R97, R104). -/
structure SelectBytes where
  port : Port
  code : Byte
  second : Byte
  deriving DecidableEq, Repr

/-- A command: an operation, an event or a pin edge of the opcode table, with the data the outside world gives it. A verb
names the ring whose fetched entry it executes, a register write the port whose write buffer it takes the front word of. -/
inductive Instr where
  /-- RESET_REQ_SYSTEM (R86). -/
  | resetReqSystem (port : Port)
  /-- RESET_REQ_CORE (R87). -/
  | resetReqCore (port : Port)
  /-- WDOG_KICK_WRITE (R91). -/
  | wdogKickWrite (port : Port)
  /-- LADDER_REQ_GO (R54). -/
  | ladderReqGo (port : Port)
  /-- LEASE_ENABLE (R17). -/
  | leaseEnable (port : Port)
  /-- LEASE_DISABLE (R19). -/
  | leaseDisable (port : Port)
  /-- MODE_EXPERT (R32). -/
  | modeExpert (port : Port)
  /-- MODE_BASIC (R33). -/
  | modeBasic (port : Port)
  /-- REGISTER_WRITE (R4). -/
  | registerWrite (port : Port)
  /-- PERM_LOCK_WRITE (R109). -/
  | permLockWrite (port : Port)
  /-- DOORBELL_WRITE (R122). -/
  | doorbellWrite (port : Port)
  /-- RING_ENABLE (R119). -/
  | ringEnable (port : Port)
  /-- RING_DISABLE (R121). -/
  | ringDisable (port : Port)
  /-- CUE_RESUME_WRITE (R140). -/
  | cueResumeWrite (port : Port)
  /-- SCORE_START_WRITE (R142). -/
  | scoreStartWrite (port : Port)
  /-- SCORE_STOP_WRITE (R142). -/
  | scoreStopWrite (port : Port)
  /-- KEYS_POP (R177). -/
  | keysPop (port : Port)
  /-- KEYS_COMMIT_GO (R185). -/
  | keysCommitGo (port : Port)
  /-- SENSE_COMMIT_GO (R210). -/
  | senseCommitGo (port : Port)
  /-- TUNE_REQ_WRITE (R215). -/
  | tuneReqWrite (port : Port)
  /-- JRNL_CMD_GO (R270). -/
  | jrnlCmdGo (port : Port)
  /-- SURFACE_ENABLE (R287). -/
  | surfaceEnable (port : Port)
  /-- SURFACE_DISABLE (R287). -/
  | surfaceDisable (port : Port)
  /-- OPEN_GO (R288). -/
  | openGo (port : Port)
  /-- PRESENT_GO (R290). -/
  | presentGo (port : Port)
  /-- DSI_COMMIT_GO (R294). -/
  | dsiCommitGo (port : Port)
  /-- SCAN_REQ_WAKE (R310). -/
  | scanReqWake (port : Port)
  /-- SCAN_REQ_SR_ENTER (R309). -/
  | scanReqSrEnter (port : Port)
  /-- SCAN_COMMIT_GO (R303). -/
  | scanCommitGo (port : Port)
  /-- PIPE_COMMIT_GO (R339). -/
  | pipeCommitGo (port : Port)
  /-- STAVE_REQ_RETRAIN (R356). -/
  | staveReqRetrain (port : Port)
  /-- STAVE_REQ_CRACK_CHECK (R366). -/
  | staveReqCrackCheck (port : Port)
  /-- STAVE_REQ_RECOVER (R364). -/
  | staveReqRecover (port : Port)
  /-- STAVE_COMMIT_GO (R369). -/
  | staveCommitGo (port : Port)
  /-- WALL_HI_WRITE (R376). -/
  | wallHiWrite (port : Port)
  /-- FACE_REPAINT_WRITE (R376). -/
  | faceRepaintWrite (port : Port)
  /-- FACE_COMMIT_GO (R386). -/
  | faceCommitGo (port : Port)
  /-- ENS_COMMIT_GO (R427). -/
  | ensCommitGo (port : Port)
  /-- DESK_TEST_WRITE (R421). -/
  | deskTestWrite (port : Port)
  /-- DESK_RETEST_WRITE (R421). -/
  | deskRetestWrite (port : Port)
  /-- ISSUE_GO (R416). -/
  | issueGo (port : Port)
  /-- POR (R75). -/
  | por
  /-- START_SEQUENCE (R76). -/
  | startSequence (vbat : Nat) (corrected : Bool) (factBad : Bool) (custBad : Bool)
  /-- SUPPLY_START_TIMEOUT (R84). -/
  | supplyStartTimeout
  /-- BOOT_BURST (R79). -/
  | bootBurst (pulses : Nat)
  /-- HOST_RELEASE (R82). -/
  | hostRelease
  /-- BOOT_RAIL_STEP (R83). -/
  | bootRailStep
  /-- BOOT_RAIL_PG_TIMEOUT (R83). -/
  | bootRailPgTimeout
  /-- CRYSTAL_QUALIFIED (R85). -/
  | crystalQualified
  /-- CRYSTAL_LOST (R85). -/
  | crystalLost
  /-- PLL_LOCK (R69). -/
  | pllLock
  /-- RESET_N_LOW (R46). -/
  | resetNLow
  /-- SYSTEM_RESET_END (R76). -/
  | systemResetEnd
  /-- CORE_RESET_AFTER_MOVE (R87). -/
  | coreResetAfterMove
  /-- CORE_RESET_END (R87). -/
  | coreResetEnd
  /-- RESET (R86). -/
  | reset (ring : BitVec 8)
  /-- WDOG_CONFIG (R92). -/
  | wdogConfig (ring : BitVec 8)
  /-- WDOG_KICK (R91). -/
  | wdogKick (ring : BitVec 8)
  /-- WDOG_EARLY (R90). -/
  | wdogEarly
  /-- WDOG_EXPIRY (R90). -/
  | wdogExpiry
  /-- POWER_KEY_HOLD (R62). -/
  | powerKeyHold (vbat : List Nat)
  /-- VBAT_RISE (R62). -/
  | vbatRise (vbat : Nat)
  /-- LADDER_SET (R54). -/
  | ladderSet (ring : BitVec 8)
  /-- LADDER_CONFIG (R60). -/
  | ladderConfig (ring : BitVec 8)
  /-- LADDER_TUNE (R67). -/
  | ladderTune (ring : BitVec 8)
  /-- ALARM_SET (R63). -/
  | alarmSet (ring : BitVec 8)
  /-- IDLE_TIMER (R59). -/
  | idleTimer
  /-- DESCENT_JOBS_IDLE (R56). -/
  | descentJobsIdle
  /-- DESCENT_FRAME_STEP (R56). -/
  | descentFrameStep
  /-- DESCENT_PANEL_STEP (R73). -/
  | descentPanelStep
  /-- DESCENT_CORE_STOP (R56). -/
  | descentCoreStop
  /-- DESCENT_FERMATA_ENTRY (R56). -/
  | descentFermataEntry
  /-- TASK1_HALTED_TACET (R56). -/
  | task1HaltedTacet
  /-- TASK1_TIMEOUT (R56). -/
  | task1Timeout
  /-- HOST_SELECT_WAKE (R61). -/
  | hostSelectWake (port : Port)
  /-- DSI_LANE_WAKE (R274). -/
  | dsiLaneWake
  /-- ASCENT_CORE_START (R64). -/
  | ascentCoreStart
  /-- ASCENT_PLL_SWITCH (R64). -/
  | ascentPllSwitch
  /-- BURST_START (R66). -/
  | burstStart
  /-- BURST_END (R66). -/
  | burstEnd
  /-- TOKEN_REFILL (R67). -/
  | tokenRefill
  /-- VCORE_CONFIRMED (R70). -/
  | vcoreConfirmed (mv : Nat)
  /-- VCORE_TIMEOUT (R70). -/
  | vcoreTimeout
  /-- ALARM_MATCH (R63). -/
  | alarmMatch
  /-- HALL_LEASE (R17). -/
  | hallLease (ring : BitVec 8)
  /-- PAD_SET (R38). -/
  | padSet (ring : BitVec 8)
  /-- MODE_EXPERT_TAKE_EFFECT (R32). -/
  | modeExpertTakeEffect (page : BitVec 4)
  /-- FRAME_BOUNDARY (R299). -/
  | frameBoundary (cycles : Nat)
  /-- SYNTHETIC_FRAME_BOUNDARY (R22). -/
  | syntheticFrameBoundary
  /-- ADC_IDLE_BOUNDARY (R188). -/
  | adcIdleBoundary
  /-- LINK_IDLE_BOUNDARY (R274). -/
  | linkIdleBoundary
  /-- BOUNDARY_WAIT_TIMEOUT (R25). -/
  | boundaryWaitTimeout (ring : BitVec 8)
  /-- HOST_READ (R101). -/
  | hostRead (port : Port) (client : BitVec 8) (off : BitVec 24) (count : Nat) (clockKHz : Nat) (late : List Nat)
  /-- HOST_WRITE (R102). -/
  | hostWrite (port : Port) (client : BitVec 8) (off : BitVec 24) (ws : List Word) (tail : Nat)
  /-- READ_ID (R96). -/
  | readId (port : Port) (count : Nat)
  /-- READ_STATUS (R96). -/
  | readStatus (count : Nat)
  /-- WRITE_ENABLE (R96). -/
  | writeEnable
  /-- RESET_ENABLE (R96). -/
  | resetEnable
  /-- PORT_RESET (R103). -/
  | portReset
  /-- PORT_CONFIG (R99). -/
  | portConfig (ring : BitVec 8)
  /-- PERM_SET (R109). -/
  | permSet (ring : BitVec 8)
  /-- PERM_LOCK (R109). -/
  | permLock (ring : BitVec 8)
  /-- PERM_AUTO_LOCK (R109). -/
  | permAutoLock
  /-- ERR_CLEAR (R112). -/
  | errClear (ring : BitVec 8)
  /-- RING_FILL_DONE (R120). -/
  | ringFillDone (ring : BitVec 8)
  /-- RING_SETUP (R119). -/
  | ringSetup (ring : BitVec 8)
  /-- RING_STOP (R121). -/
  | ringStop (ring : BitVec 8)
  /-- NOP (R133). -/
  | nop (ring : BitVec 8)
  /-- ECHO (R133). -/
  | echo (ring : BitVec 8)
  /-- FENCE (R134). -/
  | fence (ring : BitVec 8)
  /-- FENCE_COMPLETE (R134). -/
  | fenceComplete (ring : BitVec 8)
  /-- FENCE_TIMEOUT (R134). -/
  | fenceTimeout (ring : BitVec 8)
  /-- RESUME (R140). -/
  | resume (ring : BitVec 8)
  /-- EVENT_ROUTE (R136). -/
  | eventRoute (ring : BitVec 8)
  /-- IRQ_ACK (R137). -/
  | irqAck (ring : BitVec 8)
  /-- ENTRY_FETCH (R124). -/
  | entryFetch (ring : BitVec 8)
  /-- ENTRY_WRITE (R125). -/
  | entryWrite (ring : BitVec 8)
  /-- MESSAGE_SEND (R135). -/
  | messageSend (ring : BitVec 8)
  /-- COAL_TICKS_EXPIRY (R138). -/
  | coalTicksExpiry (ring : BitVec 8)
  /-- TASK_START (R142). -/
  | taskStart (ring : BitVec 8)
  /-- TASK_HALT (R142). -/
  | taskHalt (ring : BitVec 8)
  /-- BUF_WRITE (R160). -/
  | bufWrite (ring : BitVec 8)
  /-- BUF_READ (R160). -/
  | bufRead (ring : BitVec 8)
  /-- BUS_CONFIG (R153). -/
  | busConfig (ring : BitVec 8)
  /-- SCORE_LOAD (R161). -/
  | scoreLoad (ring : BitVec 8)
  /-- HALT (R146). -/
  | haltStep (task : BitVec 4)
  /-- SET_PIN (R157). -/
  | setPin (task : BitVec 4)
  /-- WAIT_PIN (R148). -/
  | waitPin (task : BitVec 4) (level : Bool)
  /-- WAIT_TICKS (R146). -/
  | waitTicks (task : BitVec 4)
  /-- WAIT_INPUT (R148). -/
  | waitInput (task : BitVec 4)
  /-- CLEAR_INPUT (R144). -/
  | clearInput (task : BitVec 4)
  /-- I2C_WRITE (R153). -/
  | i2cWrite (task : BitVec 4)
  /-- I2C_READ (R153). -/
  | i2cRead (task : BitVec 4)
  /-- I2C_READ_TO_RING (R159). -/
  | i2cReadToRing (task : BitVec 4)
  /-- SPI_XFER (R155). -/
  | spiXfer (task : BitVec 4)
  /-- SPI_XFER_TO_RING (R159). -/
  | spiXferToRing (task : BitVec 4)
  /-- RAISE_EVENT (R146). -/
  | raiseEvent (task : BitVec 4)
  /-- POST_CUE (R159). -/
  | postCue (task : BitVec 4)
  /-- BRANCH_IF (R146). -/
  | branchIf (task : BitVec 4) (level : Bool)
  /-- CALL (R149). -/
  | callStep (task : BitVec 4)
  /-- RETURN (R149). -/
  | returnStep (task : BitVec 4)
  /-- LOOP (R149). -/
  | loopStep (task : BitVec 4)
  /-- REQUEST_STATE (R54). -/
  | requestState (task : BitVec 4)
  /-- SCORE_WAIT_TIMEOUT (R148). -/
  | scoreWaitTimeout (sample : WaitSample)
  /-- BUS_TRANSFER_END (R151). -/
  | busTransferEnd (bus : BitVec 2) (outcome : BusOutcome) (recovered : Bool) (data : List Byte)
  /-- BUS_STEP_TIMEOUT (R151). -/
  | busStepTimeout (task : BitVec 4)
  /-- SINT_EDGE (R156). -/
  | sintEdge (input : BitVec 2) (rising : Bool)
  /-- SCAN_START (R164). -/
  | scanStart
  /-- SCAN_END (R164). -/
  | scanEnd (levels : KeyLevels)
  /-- LEAK_MEASUREMENT (R183). -/
  | leakMeasurement (levels : KeyLevels)
  /-- ENCODER_TRANSITION (R168). -/
  | encoderTransition (enc : BitVec 1) (a b : PadRun)
  /-- PULSE_EDGE (R170). -/
  | pulseEdge (input : BitVec 1) (rising : Bool)
  /-- PULSE_STOPPED (R172). -/
  | pulseStopped (input : BitVec 1)
  /-- TIMEBASE (R176). -/
  | timebase
  /-- KEY_DRAIN (R179). -/
  | keyDrain
  /-- KEYS_LOAD (R187). -/
  | keysLoad (ring : BitVec 8)
  /-- KEYS_SET (R185). -/
  | keysSet (ring : BitVec 8)
  /-- KEYS_READ (R177). -/
  | keysRead (ring : BitVec 8)
  /-- KEYS_DRAIN (R179). -/
  | keysDrain (ring : BitVec 8)
  /-- KEYS_UNMASK (R181). -/
  | keysUnmask (ring : BitVec 8)
  /-- PULSE_TOTAL_SET (R171). -/
  | pulseTotalSet (ring : BitVec 8)
  /-- ROUND_START (R188). -/
  | roundStart
  /-- CONVERSION (R189). -/
  | conversion (raw : Int)
  /-- IBAT_SAMPLE (R192). -/
  | ibatSample (total : Int)
  /-- PM_COUNT_END (R198). -/
  | pmCountEnd (counts : List Nat)
  /-- RAIL_CLASS_CHANGE (R199). -/
  | railClassChange (rail : BitVec 3) (mv : List Nat)
  /-- SUPPLY_LOSS (R200). -/
  | supplyLoss
  /-- CHG_STAT_CHANGE (R207). -/
  | chgStatChange (level : Bool)
  /-- SENSE_READ (R212). -/
  | senseRead (ring : BitVec 8)
  /-- SENSE_SET (R212). -/
  | senseSet (ring : BitVec 8)
  /-- SLOT_SET (R212). -/
  | slotSet (ring : BitVec 8)
  /-- NTC_TABLE (R212). -/
  | ntcTable (ring : BitVec 8)
  /-- CC_SET (R193). -/
  | ccSet (ring : BitVec 8)
  /-- CHG_SET (R208). -/
  | chgSet (ring : BitVec 8)
  /-- TUNE_RUN (R242). -/
  | tuneRun (ring : BitVec 8)
  /-- TUNE_SET (R241). -/
  | tuneSet (ring : BitVec 8)
  /-- TUNE_READ (R241). -/
  | tuneRead (ring : BitVec 8)
  /-- TUNE_LOAD (R240). -/
  | tuneLoad (ring : BitVec 8)
  /-- TUNE_REBASE (R219). -/
  | tuneRebase (ring : BitVec 8)
  /-- TUNE_PERIOD_TRIGGER (R215). -/
  | tunePeriodTrigger (item : BitVec 3)
  /-- TUNE_RUN_END (R214). -/
  | tuneRunEnd (item : BitVec 3) (vals : List Int)
  /-- TUNE_TIMEOUT (R216). -/
  | tuneTimeout (item : BitVec 3)
  /-- ONE_SECOND_BOUNDARY (R224). -/
  | oneSecondBoundary
  /-- FUSE_STAGE (R238). -/
  | fuseStage (ring : BitVec 8)
  /-- FUSE_PROGRAM (R239). -/
  | fuseProgram (ring : BitVec 8)
  /-- FUSE_PROGRAM_DONE (R239). -/
  | fuseProgramDone (failed : Nat)
  /-- JRNL_APPEND (R250). -/
  | jrnlAppend (ring : BitVec 8)
  /-- JRNL_READ (R248). -/
  | jrnlRead (ring : BitVec 8)
  /-- JRNL_FIND (R248). -/
  | jrnlFind (ring : BitVec 8)
  /-- JRNL_DELETE (R248). -/
  | jrnlDelete (ring : BitVec 8)
  /-- JRNL_COMPACT (R254). -/
  | jrnlCompact (ring : BitVec 8)
  /-- COUNTER_SETUP (R264). -/
  | counterSetup (ring : BitVec 8)
  /-- COUNTER_ADD (R260). -/
  | counterAdd (ring : BitVec 8)
  /-- COUNTER_READ (R259). -/
  | counterRead (ring : BitVec 8)
  /-- COUNTER_FLUSH (R261). -/
  | counterFlush (ring : BitVec 8)
  /-- WORD_PROGRAM_DONE (R244). -/
  | wordProgramDone (verified : Bool) (begun : Word)
  /-- ERASE_START (R258). -/
  | eraseStart
  /-- ERASE_PULSE_DONE (R255). -/
  | erasePulseDone (blank : Bool)
  /-- COUNTER_PROGRAM (R260). -/
  | counterProgram (begun : Word)
  /-- COUNTER_FLUSH_TIMER (R261). -/
  | counterFlushTimer
  /-- COUNTER_ROLLOVER (R262). -/
  | counterRollover
  /-- COMPACTION (R254). -/
  | compaction
  /-- V_SYNC_START (R279). -/
  | vSyncStart
  /-- H_SYNC_START (R275). -/
  | hSyncStart
  /-- SYNC_END (R275). -/
  | syncEnd
  /-- END_OF_TRANSMISSION (R275). -/
  | endOfTransmission
  /-- NULL_BLANKING (R275). -/
  | nullBlanking (vc : BitVec 1)
  /-- COLOR_MODE_OFF (R275). -/
  | colorModeOff (vc : BitVec 1)
  /-- COLOR_MODE_ON (R275). -/
  | colorModeOn (vc : BitVec 1)
  /-- SHUT_DOWN (R275). -/
  | shutDown (vc : BitVec 1)
  /-- TURN_ON_PERIPHERAL (R275). -/
  | turnOnPeripheral (vc : BitVec 1)
  /-- GENERIC_SHORT_WRITE (R275). -/
  | genericShortWrite (vc : BitVec 1)
  /-- GENERIC_READ (R284). -/
  | genericRead (vc : BitVec 1) (params : List Byte)
  /-- SET_MAXIMUM_RETURN_PACKET_SIZE (R275). -/
  | setMaximumReturnPacketSize (vc : BitVec 1) (size : BitVec 16)
  /-- GENERIC_LONG_WRITE (R277). -/
  | genericLongWrite (vc : BitVec 1) (payload : List Byte)
  /-- PACKED_PIXEL_STREAM (R279). -/
  | packedPixelStream (fmt : PixelStream) (pixels : List Rgb)
  /-- DCS_NOP (R276). -/
  | dcsNop (vc : BitVec 1)
  /-- SOFT_RESET (R276). -/
  | softReset (vc : BitVec 1)
  /-- GET_POWER_MODE (R276). -/
  | getPowerMode (vc : BitVec 1)
  /-- GET_PIXEL_FORMAT (R276). -/
  | getPixelFormat (vc : BitVec 1)
  /-- ENTER_SLEEP_MODE (R276). -/
  | enterSleepMode (vc : BitVec 1)
  /-- EXIT_SLEEP_MODE (R276). -/
  | exitSleepMode (vc : BitVec 1)
  /-- SET_DISPLAY_OFF (R276). -/
  | setDisplayOff (vc : BitVec 1)
  /-- SET_DISPLAY_ON (R276). -/
  | setDisplayOn (vc : BitVec 1)
  /-- SET_COLUMN_ADDRESS (R282). -/
  | setColumnAddress (vc : BitVec 1) (sc ec : DcsParam)
  /-- SET_PAGE_ADDRESS (R282). -/
  | setPageAddress (vc : BitVec 1) (sp ep : DcsParam)
  /-- WRITE_MEMORY_START (R282). -/
  | writeMemoryStart (vc : BitVec 1) (data : List Byte)
  /-- WRITE_MEMORY_CONTINUE (R282). -/
  | writeMemoryContinue (vc : BitVec 1) (data : List Byte)
  /-- SET_TEAR_OFF (R276). -/
  | setTearOff (vc : BitVec 1)
  /-- SET_TEAR_ON (R276). -/
  | setTearOn (vc : BitVec 1)
  /-- SET_PIXEL_FORMAT (R276). -/
  | setPixelFormat (vc : BitVec 1) (code : BitVec 8)
  /-- SET_TEAR_SCANLINE (R276). -/
  | setTearScanline (vc : BitVec 1)
  /-- GET_SCANLINE (R276). -/
  | getScanline (vc : BitVec 1)
  /-- DSI_PRESENT (R277). -/
  | dsiPresent (vc : BitVec 1) (full : Bool) (auto : Bool) (x0 : BitVec 16) (y0 : BitVec 16) (x1 : BitVec 16) (y1 : BitVec 16) (tag : BitVec 16)
  /-- DSI_FENCE (R278). -/
  | dsiFence (vc : BitVec 1) (tag : BitVec 16)
  /-- DSI_FENCE_COMPLETE (R278). -/
  | dsiFenceComplete
  /-- SET_REGION_HINT (R277). -/
  | setRegionHint (vc : BitVec 1) (x0 : BitVec 16) (y0 : BitVec 16) (x1 : BitVec 16) (y1 : BitVec 16)
  /-- BUS_TURNAROUND (R284). -/
  | busTurnaround (line : Nat)
  /-- ULPS_ENTRY (R274). -/
  | ulpsEntry
  /-- ULPS_EXIT (R274). -/
  | ulpsExit
  /-- TE_RISE (R285). -/
  | teRise
  /-- TE_FALL (R285). -/
  | teFall
  /-- SURFACE_SET (R287). -/
  | surfaceSet (ring : BitVec 8)
  /-- SURFACE_STOP (R287). -/
  | surfaceStop (ring : BitVec 8)
  /-- SURFACE_OPEN (R288). -/
  | surfaceOpen (ring : BitVec 8)
  /-- PRESENT (R290). -/
  | present (ring : BitVec 8)
  /-- INTAKE_DSI (R294). -/
  | intakeDsi (ring : BitVec 8)
  /-- SURFACE_READ (R287). -/
  | surfaceRead (ring : BitVec 8)
  /-- COPY_FORWARD_DONE (R292). -/
  | copyForwardDone
  /-- FRAME_START (R311). -/
  | frameStart (late : Option Nat) (underrun : List (Nat × Nat))
  /-- STATS_PUBLISH (R316). -/
  | statsPublish
  /-- TRANSITION_SET_IN_FORCE (R306). -/
  | transitionSetInForce
  /-- TRANSITION_COMPLETE (R306). -/
  | transitionComplete (late : Option Nat) (underrun : List (Nat × Nat))
  /-- SR_RESUME (R310). -/
  | srResume (late : Option Nat) (underrun : List (Nat × Nat))
  /-- SCAN_LOAD (R318). -/
  | scanLoad (ring : BitVec 8)
  /-- SCAN_SET (R319). -/
  | scanSet (ring : BitVec 8)
  /-- SCAN_COMMIT (R303). -/
  | scanCommit (ring : BitVec 8)
  /-- SCAN_REFRESH (R310). -/
  | scanRefresh (ring : BitVec 8)
  /-- FREEZE_CLEAR (R314). -/
  | freezeClear (ring : BitVec 8)
  /-- STATS_READ (R316). -/
  | statsRead (ring : BitVec 8)
  /-- SCAN_READ (R319). -/
  | scanRead (ring : BitVec 8)
  /-- PIPE_LOAD (R344). -/
  | pipeLoad (ring : BitVec 8)
  /-- PIPE_SET (R345). -/
  | pipeSet (ring : BitVec 8)
  /-- PIPE_TABLE (R345). -/
  | pipeTable (ring : BitVec 8)
  /-- PIPE_COMMIT (R339). -/
  | pipeCommit (ring : BitVec 8)
  /-- BRIGHT_SET (R336). -/
  | brightSet (ring : BitVec 8)
  /-- PIPE_READ (R345). -/
  | pipeRead (ring : BitVec 8)
  /-- BAND_EXPANSION_START (R424). -/
  | bandExpansionStart
  /-- BAND_PASS_END (R423): how far the desk's sums lie off, by line and column; none is 0. -/
  | bandPassEnd (desk : BitVec 4) (errs : List Int)
  /-- TRAINING_SUCCESS (R356). -/
  | trainingSuccess (packets : Nat)
  /-- TRAINING_ATTEMPT_TIMEOUT (R356). -/
  | trainingAttemptTimeout
  /-- LOCK_LOSS (R357). -/
  | lockLoss
  /-- DRIVER_FAULT (R359). -/
  | driverFault
  /-- PANEL_RAIL_ON (R361). -/
  | panelRailOn
  /-- PNL_PG_RISE (R361). -/
  | pnlPgRise
  /-- PG_TIMEOUT (R361). -/
  | pgTimeout
  /-- CRACK_CHECK_END (R365). -/
  | crackCheckEnd (mv : Nat)
  /-- CRACK_CHECK_DUE (R366). -/
  | crackCheckDue
  /-- DISCHARGE_END (R362). -/
  | dischargeEnd
  /-- PANEL_RAIL_OFF (R362). -/
  | panelRailOff
  /-- PANEL_SUPPLY_LOSS (R364). -/
  | panelSupplyLoss
  /-- STAVE_IDLE_PACKET (R353). -/
  | staveIdlePacket (lane : BitVec 2)
  /-- STAVE_LOAD (R370). -/
  | staveLoad (ring : BitVec 8)
  /-- STAVE_SET (R371). -/
  | staveSet (ring : BitVec 8)
  /-- STAVE_COMMIT (R369). -/
  | staveCommit (ring : BitVec 8)
  /-- PANEL_CHECK (R366). -/
  | panelCheck (ring : BitVec 8)
  /-- PANEL_RECOVER (R364). -/
  | panelRecover (ring : BitVec 8)
  /-- WALL_SECOND_BOUNDARY (R376). -/
  | wallSecondBoundary
  /-- FACE_PUSH (R380). -/
  | facePush
  /-- FULL_FRAME_START (R381). -/
  | fullFrameStart
  /-- FACE_PUSH_END (R385). -/
  | facePushEnd
  /-- FACE_LOAD (R387). -/
  | faceLoad (ring : BitVec 8)
  /-- FACE_SET (R388). -/
  | faceSet (ring : BitVec 8)
  /-- FACE_COMMIT (R386). -/
  | faceCommit (ring : BitVec 8)
  /-- FACE_WALL (R376). -/
  | faceWall (ring : BitVec 8)
  /-- FACE_READ (R388). -/
  | faceRead (ring : BitVec 8)
  /-- JOB_FETCH (R411). -/
  | jobFetch (ring : BitVec 8)
  /-- JOB_START (R412). -/
  | jobStart
  /-- L2_PANEL_LOADED (R404). -/
  | l2PanelLoaded (slot : BitVec 3)
  /-- TILE_END (R418): how far the desk's sums and quotients lie off, by row and column; none is 0. -/
  | tileEnd (desk : BitVec 4) (errs : List (Int × Int))
  /-- BIST_DUE (R421). -/
  | bistDue
  /-- BIST_END (R420). -/
  | bistEnd (passes : Bool)
  /-- ENS_SET (R427). -/
  | ensSet (ring : BitVec 8)
  /-- ENS_COMMIT (R427). -/
  | ensCommit (ring : BitVec 8)
  /-- DESK_TEST (R421). -/
  | deskTest (ring : BitVec 8)
  /-- DESK_RETEST (R421). -/
  | deskRetest (ring : BitVec 8)
  /-- ENS_READ (R428). -/
  | ensRead (ring : BitVec 8)
  /-- JOB_CANCEL (R415). -/
  | jobCancel (ring : BitVec 8)
  /-- BAD_COMMAND_SELECT (R97). -/
  | badCommandSelect (bytes : SelectBytes)
  /-- DSI_PACKET_ERROR (R275). -/
  | dsiPacketError (vc : BitVec 2) (fault : DsiFault)
  /-- DCS_UNKNOWN_COMMAND (R276). -/
  | dcsUnknownCommand (cmd : DcsCommand)
  /-- TAP_TCK_EDGE (R47). -/
  | tapTckEdge (tms : Bool) (tdi : Bool) (levels : BitVec 243)
  /-- DRAIN_WAIT_EXPIRY (R179). -/
  | drainWaitExpiry
  /-- ASCENT_BANKS_POWERED (R64). -/
  | ascentBanksPowered
  /-- CONFIRMING_CHECK (R367). -/
  | confirmingCheck
  deriving DecidableEq, Repr

end Sys2Proof
end

