-- ==== Sys2Proof/Decode.lean ====
section
/-!
DEFINITION. The commands that the command table spells in bits: none, since no row of the table gives bits.
-/

namespace Sys2Proof

/-- The command that a word spells by the table's bits: the table gives no row any bits, so no word spells one. -/
def decodeTableWord (_nbits _w : Nat) : Option Instr := none

end Sys2Proof
end

