-- ==== Sys2Proof/Config.lean ====
section
/-!
DEFINITION. What the spec leaves open: free values, as constants without a body. Nothing can be proved of their values.
-/

namespace Sys2Proof.Config

/-- A free word: the n-th value that the spec leaves undefined in a run (State.free counts them). Log entry 1. -/
opaque freeWord : Nat → Word

/-- The byte at a Hall address that nothing has written since its bank was last powered (R19); the first argument
numbers the power-downs. Log entry 3. -/
opaque hallByte : Nat → Nat → Byte

/-- A word of the Stage or of a Pit that no job has written (R15). -/
opaque stageWord : Nat → Nat → Word

/-- A word of a flash sector whose erase is incomplete, by the number of that erase (R255). -/
opaque tornWord : Nat → Nat → Word

/-- The bits that partly charged cells of a flash word show at the normal reference (R244). -/
opaque weakRead : Nat → Word

/-- What JRNL.SPACE shows of the OPEN sector while there is none. -/
opaque noOpenSector : Word

/-- Whether the chained output of an operation is signed, by the descriptor block and the operation: such an output has no
tensor descriptor whose SIGNED bit says so (R395, R406). -/
opaque chainSigned : List Word → Nat → Bool

/-- The cause code that EV_LADDER_STATE carries for the descent of R83. -/
opaque bootMoveCause : BitVec 4

/-- The factory fuse words of the part with their check bits (Table 10-4, R233). -/
opaque factoryFuse : Nat → BitVec 64

/-- The 8 SECDED check bits of 56 data bits of a fuse word: the spec names the code's kind and not its matrix (R233). -/
opaque secded : BitVec 56 → BitVec 8

/-- The bit of DSI_ERR that a packet counted as OVERRUN sets: the spec names the fault and not its bit (R273). -/
opaque overrunBit : BitVec 4

/-- The alpha that a video pixel leaves in a surface whose ALPHA is 1, by the pixel's word: a pixel stream carries none
(R279, R286). -/
opaque streamAlpha : BitVec 30 → BitVec 2

/-- The quotient by 0 that a measurement without any count or any difference would give (R226, R227), by its dividend. -/
opaque zeroDivisor : Int → Int

end Sys2Proof.Config
end

