-- ==== Sys2Proof/Machine/Bits.lean ====
section
/-!
DEFINITION. Bit fields (R1), saturation and wrapping (R2), byte order, and sparse memories in canonical form.
-/

namespace Sys2Proof.Machine

/-- Bits [hi:lo] of a word as a number (R1). -/
def field (w : Word) (hi lo : Nat) : Nat := (w.toNat >>> lo) % 2 ^ (hi + 1 - lo)

/-- Bit n of a word (R1). -/
def bit (w : Word) (n : Nat) : Bool := (w.toNat >>> n) % 2 == 1

/-- The word with bits [hi:lo] replaced by the low bits of v. -/
def withField (w : Word) (hi lo v : Nat) : Word :=
  let m : Word := BitVec.ofNat 32 ((2 ^ (hi + 1 - lo) - 1) <<< lo)
  (w &&& ~~~m) ||| (BitVec.ofNat 32 (v <<< lo) &&& m)

/-- The word with bit n set to b. -/
def withBit (w : Word) (n : Nat) (b : Bool) : Word := withField w n n b.toNat

/-- A number as a word, modulo 2^32. -/
def word (n : Nat) : Word := BitVec.ofNat 32 n

/-- True where every set bit of w lies in mask (no reserved bit is set). -/
def within (w mask : Word) : Bool := w &&& ~~~mask == 0#32

/-- A saturating increase: stops at max (R2). -/
def satAdd (max a b : Nat) : Nat := min max (a + b)

/-- The signed value of the low w bits of n. -/
def signed (w n : Nat) : Int :=
  let m := n % 2 ^ w
  if m < 2 ^ (w - 1) then (m : Int) else (m : Int) - (2 ^ w : Nat)

/-- The low w bits of an integer in two's complement. -/
def unsigned (w : Nat) (z : Int) : Nat := (z % ((2 ^ w : Nat) : Int)).toNat

/-- An integer limited to [lo, hi]. -/
def clampInt (lo hi z : Int) : Int := max lo (min hi z)

/-- Integer division by d rounded half away from zero. -/
def roundDiv (z : Int) (d : Nat) : Int :=
  if 0 ≤ z then (z + (d / 2 : Nat)) / (d : Int) else - ((-z + (d / 2 : Nat)) / (d : Int))

/-- The four bytes of a word, lowest first (R1). -/
def wordBytes (w : Word) : List Byte :=
  [w.extractLsb' 0 8, w.extractLsb' 8 8, w.extractLsb' 16 8, w.extractLsb' 24 8]

/-- The word of four bytes, lowest first (R1). -/
def bytesWord (b0 b1 b2 b3 : Byte) : Word := b3 ++ b2 ++ b1 ++ b0

/-- The bytes of a list of words in ascending order. -/
def wordsBytes (ws : List Word) : List Byte := ws.flatMap wordBytes

/-- Words of a byte list; a last partial word is filled with zero bytes. -/
def bytesWords : List Byte → List Word
  | b0 :: b1 :: b2 :: b3 :: bs => bytesWord b0 b1 b2 b3 :: bytesWords bs
  | [b0, b1, b2] => [bytesWord b0 b1 b2 0#8]
  | [b0, b1] => [bytesWord b0 b1 0#8 0#8]
  | [b0] => [bytesWord b0 0#8 0#8 0#8]
  | [] => []

/-- Element n of a list of words, 0 beyond its end. -/
def nth (ws : List Word) (n : Nat) : Word := ws.getD n 0#32

/-- The indices below n whose bit is set in a mask. -/
def maskBits (n : Nat) (m : Nat) : List Nat := (List.range n).filter (fun i => m.testBit i)

/-- A number with bit i set to b. -/
def numWithBit (m i : Nat) (b : Bool) : Nat :=
  if m.testBit i == b then m else if b then m + 2 ^ i else m - 2 ^ i

/-- The number of set bits of a word. -/
def popCount (w : Word) : Nat := ((List.range 32).filter (fun i => w.getLsbD i)).length

/-- The lowest n set bits of a word. -/
def lowBits (n : Nat) (w : Word) : Word :=
  (((List.range 32).filter (fun i => w.getLsbD i)).take n).foldl (fun m i => m ||| BitVec.ofNat 32 (2 ^ i)) 0#32

/-- One byte into a CRC-32 of the reflected IEEE 802.3 polynomial (R234). -/
def crcByte (c : Nat) (b : Byte) : Nat :=
  (List.range 8).foldl (fun c _ => if c % 2 = 1 then (c >>> 1) ^^^ 0xEDB88320 else c >>> 1) (c ^^^ b.toNat)

/-- CRC-32 of a byte list: initial value and final exclusive or 0xFFFF_FFFF (R234). -/
def crc32 (bs : List Byte) : Word := word (bs.foldl crcByte 0xFFFFFFFF ^^^ 0xFFFFFFFF)

/-! ### Sparse memories -/

/-- The value listed at a key, if any. -/
def Cells.find {α : Type} (m : Cells α) (k : Nat) : Option α :=
  match m with
  | [] => none
  | (k', v) :: rest => if k' = k then some v else Cells.find rest k

/-- The memory without any entry at a key. -/
def Cells.erase {α : Type} (m : Cells α) (k : Nat) : Cells α := m.filter (fun e => decide (e.1 ≠ k))

/-- An entry put before the first larger key. -/
def Cells.place {α : Type} (m : Cells α) (k : Nat) (v : α) : Cells α :=
  match m with
  | [] => [(k, v)]
  | e :: rest => if k < e.1 then (k, v) :: e :: rest else e :: Cells.place rest k v

/-- The memory with one value listed at a key. -/
def Cells.insert {α : Type} (m : Cells α) (k : Nat) (v : α) : Cells α := Cells.place (Cells.erase m k) k v

/-- The value at a key, where an unlisted key reads as its default. -/
def Cells.get {α : Type} (d : Nat → α) (m : Cells α) (k : Nat) : α := (Cells.find m k).getD (d k)

/-- A write that keeps the canonical form: the default value is not listed. -/
def Cells.put {α : Type} [DecidableEq α] (d : Nat → α) (m : Cells α) (k : Nat) (v : α) : Cells α :=
  if v = d k then Cells.erase m k else Cells.insert m k v

/-- The memory with every value listed in a range of keys removed. -/
def Cells.dropRange {α : Type} (m : Cells α) (lo hi : Nat) : Cells α :=
  m.filter (fun e => decide (e.1 < lo ∨ hi ≤ e.1))

/-- A range of keys filled with one value: the listed keys outside stay, the range lists v. -/
def Cells.fillRange {α : Type} (m : Cells α) (lo len : Nat) (v : α) : Cells α :=
  m.filter (fun e => decide (e.1 < lo)) ++ (List.range len).map (fun i => (lo + i, v)) ++
    m.filter (fun e => decide (lo + len ≤ e.1))

/-- Keys strictly rising. -/
def Cells.rising {α : Type} : Cells α → Bool
  | [] => true
  | [_] => true
  | e :: f :: rest => decide (e.1 < f.1) && Cells.rising (f :: rest)

/-- The canonical form: keys strictly rising and no entry equal to what an unlisted key reads as. -/
def Cells.canon {α : Type} [DecidableEq α] (d : Nat → α) (m : Cells α) : Bool :=
  Cells.rising m && m.all (fun e => decide (e.2 ≠ d e.1))

end Sys2Proof.Machine
end

