-- ==== Sys2Proof/Machine/Regs.lean ====
section
/-!
DEFINITION. The register map: every register and table word of the spec's register tables with its offset in the
client alias (Table 5-7), its reset value, what a host write may change (Table 0-4) and which resets keep it (Table 0-5).
-/

namespace Sys2Proof.Machine

/-- One row of a register table: count words from base, stride bytes apart. por is the value after POR; rw, rws and
w1c are the bits of the access codes RW, RW/S and W1C (the others are RO, WT or reserved); keepCore and keepSys are the
bits that a CORE and a SYSTEM reset keep (marks S, P, X and P, X); undef are the bits marked X (R5). -/
structure RegSpec where
  base : Nat
  stride : Nat
  count : Nat
  por : Word
  rw : Word
  rws : Word
  w1c : Word
  keepCore : Word
  keepSys : Word
  undef : Word
  deriving DecidableEq, Repr

/-! ### Offsets of the DEV page and its table window -/

/-- ID: Table 4-8 of 04_start_reset_and_loss.md. -/
abbrev Reg.DEV_ID : Nat := 0x0
/-- EPOCH: Table 4-8 of 04_start_reset_and_loss.md. -/
abbrev Reg.DEV_EPOCH : Nat := 0x4
/-- METRO_LO: Table 4-8 of 04_start_reset_and_loss.md. -/
abbrev Reg.DEV_METRO_LO : Nat := 0x8
/-- METRO_HI: Table 4-8 of 04_start_reset_and_loss.md. -/
abbrev Reg.DEV_METRO_HI : Nat := 0xC
/-- BOOT_STATUS: Table 4-8 of 04_start_reset_and_loss.md. -/
abbrev Reg.DEV_BOOT_STATUS : Nat := 0x10
/-- RESET_CAUSE: Table 4-8 of 04_start_reset_and_loss.md. -/
abbrev Reg.DEV_RESET_CAUSE : Nat := 0x14
/-- RESET_REQ: Table 4-8 of 04_start_reset_and_loss.md. -/
abbrev Reg.DEV_RESET_REQ : Nat := 0x18
/-- WDOG_CFG: Table 4-8 of 04_start_reset_and_loss.md. -/
abbrev Reg.DEV_WDOG_CFG : Nat := 0x1C
/-- WDOG_KICK: Table 4-8 of 04_start_reset_and_loss.md. -/
abbrev Reg.DEV_WDOG_KICK : Nat := 0x20
/-- WDOG_STATUS: Table 4-8 of 04_start_reset_and_loss.md. -/
abbrev Reg.DEV_WDOG_STATUS : Nat := 0x24
/-- AO_CLK: Table 4-8 of 04_start_reset_and_loss.md. -/
abbrev Reg.DEV_AO_CLK : Nat := 0x28
/-- LADDER_STATE: Table 3-9 of 03_power_ladder.md. -/
abbrev Reg.DEV_LADDER_STATE : Nat := 0x40
/-- LADDER_REQ: Table 3-9 of 03_power_ladder.md. -/
abbrev Reg.DEV_LADDER_REQ : Nat := 0x44
/-- LADDER_CFG: Table 3-9 of 03_power_ladder.md. -/
abbrev Reg.DEV_LADDER_CFG : Nat := 0x48
/-- IDLE: Table 3-9 of 03_power_ladder.md. -/
abbrev Reg.DEV_IDLE : Nat := 0x4C
/-- WAKE_TGT: Table 3-9 of 03_power_ladder.md. -/
abbrev Reg.DEV_WAKE_TGT : Nat := 0x50
/-- WAKE_SRC: Table 3-9 of 03_power_ladder.md. -/
abbrev Reg.DEV_WAKE_SRC : Nat := 0x54
/-- WAKE_TICK: Table 3-9 of 03_power_ladder.md. -/
abbrev Reg.DEV_WAKE_TICK : Nat := 0x58
/-- FORCE: Table 3-9 of 03_power_ladder.md. -/
abbrev Reg.DEV_FORCE : Nat := 0x5C
/-- ALARM: Table 3-9 of 03_power_ladder.md. -/
abbrev Reg.DEV_ALARM : Nat := 0x60
/-- ALARM_CTL: Table 3-9 of 03_power_ladder.md. -/
abbrev Reg.DEV_ALARM_CTL : Nat := 0x64
/-- VCORE_CFG: Table 3-9 of 03_power_ladder.md. -/
abbrev Reg.DEV_VCORE_CFG : Nat := 0x68
/-- BURST_CFG: Table 3-9 of 03_power_ladder.md. -/
abbrev Reg.DEV_BURST_CFG : Nat := 0x6C
/-- BURST_COUNT: Table 3-9 of 03_power_ladder.md. -/
abbrev Reg.DEV_BURST_COUNT : Nat := 0x70
/-- BURST_TICKS: Table 3-9 of 03_power_ladder.md. -/
abbrev Reg.DEV_BURST_TICKS : Nat := 0x74
/-- TACET_CFG: Table 3-9 of 03_power_ladder.md. -/
abbrev Reg.DEV_TACET_CFG : Nat := 0x78
/-- PAD_PULL: Table 2-8 of 02_balls_and_signals.md. -/
abbrev Reg.DEV_PAD_PULL : Nat := 0x80
/-- PAD_DRIVE: Table 2-8 of 02_balls_and_signals.md. -/
abbrev Reg.DEV_PAD_DRIVE : Nat := 0x84
/-- PAD_LATCH: Table 2-8 of 02_balls_and_signals.md. -/
abbrev Reg.DEV_PAD_LATCH : Nat := 0x88
/-- PAD_LEVEL: Table 2-8 of 02_balls_and_signals.md. -/
abbrev Reg.DEV_PAD_LEVEL : Nat := 0x8C
/-- PAD_PG: Table 2-8 of 02_balls_and_signals.md. -/
abbrev Reg.DEV_PAD_PG : Nat := 0x90
/-- LEASE_W0 (32 words, stride 8): Table 1-8 of 01_three_planes.md. -/
abbrev Reg.DEV_LEASE_W0 : Nat := 0x100000
/-- LEASE_W1 (32 words, stride 8): Table 1-8 of 01_three_planes.md. -/
abbrev Reg.DEV_LEASE_W1 : Nat := 0x100004
/-- MODE: Table 1-11 of 01_three_planes.md. -/
abbrev Reg.DEV_MODE : Nat := 0xBC

/-! ### Offsets of the HPORT page and its table window -/

/-- A_CFG: Table 5-10 of 05_host_ports_and_register_space.md. -/
abbrev Reg.HPORT_A_CFG : Nat := 0x1000
/-- A_STATUS: Table 5-10 of 05_host_ports_and_register_space.md. -/
abbrev Reg.HPORT_A_STATUS : Nat := 0x1004
/-- B_CFG: Table 5-10 of 05_host_ports_and_register_space.md. -/
abbrev Reg.HPORT_B_CFG : Nat := 0x1008
/-- B_STATUS: Table 5-10 of 05_host_ports_and_register_space.md. -/
abbrev Reg.HPORT_B_STATUS : Nat := 0x100C
/-- ERR_LOG: Table 5-10 of 05_host_ports_and_register_space.md. -/
abbrev Reg.HPORT_ERR_LOG : Nat := 0x1010
/-- ERR_ADDR: Table 5-10 of 05_host_ports_and_register_space.md. -/
abbrev Reg.HPORT_ERR_ADDR : Nat := 0x1014
/-- ERR_TICK: Table 5-10 of 05_host_ports_and_register_space.md. -/
abbrev Reg.HPORT_ERR_TICK : Nat := 0x1018
/-- ERR_CAUSES: Table 5-10 of 05_host_ports_and_register_space.md. -/
abbrev Reg.HPORT_ERR_CAUSES : Nat := 0x101C
/-- ERR_COUNT: Table 5-10 of 05_host_ports_and_register_space.md. -/
abbrev Reg.HPORT_ERR_COUNT : Nat := 0x1020
/-- PERM_LOCK: Table 5-10 of 05_host_ports_and_register_space.md. -/
abbrev Reg.HPORT_PERM_LOCK : Nat := 0x1024
/-- PERM_0: Table 5-10 of 05_host_ports_and_register_space.md. -/
abbrev Reg.HPORT_PERM_0 : Nat := 0x110000
/-- PERM (63 words, stride 4): Table 5-10 of 05_host_ports_and_register_space.md. -/
abbrev Reg.HPORT_PERM : Nat := 0x110004
/-- MODE: Table 1-11 of 01_three_planes.md. -/
abbrev Reg.HPORT_MODE : Nat := 0x10BC

/-! ### Offsets of the CUE page and its table window -/

/-- IRQ_STAT: Table 6-10 of 06_cue_rings.md. -/
abbrev Reg.CUE_IRQ_STAT : Nat := 0x2000
/-- RESUME: Table 6-10 of 06_cue_rings.md. -/
abbrev Reg.CUE_RESUME : Nat := 0x2004
/-- HALT_LOG: Table 6-10 of 06_cue_rings.md. -/
abbrev Reg.CUE_HALT_LOG : Nat := 0x2008
/-- DB_LOG: Table 6-10 of 06_cue_rings.md. -/
abbrev Reg.CUE_DB_LOG : Nat := 0x200C
/-- EV_PEND (4 words, stride 4): Table 6-10 of 06_cue_rings.md. -/
abbrev Reg.CUE_EV_PEND : Nat := 0x2010
/-- RING_PEND (8 words, stride 4): Table 6-10 of 06_cue_rings.md. -/
abbrev Reg.CUE_RING_PEND : Nat := 0x2020
/-- RING_W0 (256 words, stride 16): Table 6-10 of 06_cue_rings.md. -/
abbrev Reg.CUE_RING_W0 : Nat := 0x120000
/-- RING_W1 (256 words, stride 16): Table 6-10 of 06_cue_rings.md. -/
abbrev Reg.CUE_RING_W1 : Nat := 0x120004
/-- RING_W2 (256 words, stride 16): Table 6-10 of 06_cue_rings.md. -/
abbrev Reg.CUE_RING_W2 : Nat := 0x120008
/-- RING_W3 (256 words, stride 16): Table 6-10 of 06_cue_rings.md. -/
abbrev Reg.CUE_RING_W3 : Nat := 0x12000C
/-- ROUTE_0: Table 6-10 of 06_cue_rings.md. -/
abbrev Reg.CUE_ROUTE_0 : Nat := 0x121000
/-- ROUTE_1: Table 6-10 of 06_cue_rings.md. -/
abbrev Reg.CUE_ROUTE_1 : Nat := 0x121004
/-- ROUTE_2 (2 words, stride 4): Table 6-10 of 06_cue_rings.md. -/
abbrev Reg.CUE_ROUTE_2 : Nat := 0x121008
/-- ROUTE_4 (2 words, stride 4): Table 6-10 of 06_cue_rings.md. -/
abbrev Reg.CUE_ROUTE_4 : Nat := 0x121010
/-- ROUTE_6 (122 words, stride 4): Table 6-10 of 06_cue_rings.md. -/
abbrev Reg.CUE_ROUTE_6 : Nat := 0x121018
/-- DOORBELL (256 words, stride 4): Table 6-10 of 06_cue_rings.md. -/
abbrev Reg.CUE_DOORBELL : Nat := 0x10000
/-- MODE: Table 1-11 of 01_three_planes.md. -/
abbrev Reg.CUE_MODE : Nat := 0x20BC

/-! ### Offsets of the SCORE page and its table window -/

/-- RUN: Table 7-6 of 07_score.md. -/
abbrev Reg.SCORE_RUN : Nat := 0x3000
/-- START: Table 7-6 of 07_score.md. -/
abbrev Reg.SCORE_START : Nat := 0x3004
/-- STOP: Table 7-6 of 07_score.md. -/
abbrev Reg.SCORE_STOP : Nat := 0x3008
/-- OVF: Table 7-6 of 07_score.md. -/
abbrev Reg.SCORE_OVF : Nat := 0x300C
/-- FAULTED: Table 7-6 of 07_score.md. -/
abbrev Reg.SCORE_FAULTED : Nat := 0x3010
/-- PROFILE: Table 7-6 of 07_score.md. -/
abbrev Reg.SCORE_PROFILE : Nat := 0x3014
/-- TASK_CFG (16 words, stride 32): Table 7-6 of 07_score.md. -/
abbrev Reg.SCORE_TASK_CFG : Nat := 0x130000
/-- TASK_RING (16 words, stride 32): Table 7-6 of 07_score.md. -/
abbrev Reg.SCORE_TASK_RING : Nat := 0x130004
/-- TASK_INPUT0 (16 words, stride 32): Table 7-6 of 07_score.md. -/
abbrev Reg.SCORE_TASK_INPUT0 : Nat := 0x130008
/-- TASK_INPUT1 (16 words, stride 32): Table 7-6 of 07_score.md. -/
abbrev Reg.SCORE_TASK_INPUT1 : Nat := 0x13000C
/-- TASK_INPUT2 (16 words, stride 32): Table 7-6 of 07_score.md. -/
abbrev Reg.SCORE_TASK_INPUT2 : Nat := 0x130010
/-- TASK_INPUT3 (16 words, stride 32): Table 7-6 of 07_score.md. -/
abbrev Reg.SCORE_TASK_INPUT3 : Nat := 0x130014
/-- TASK_STAT (16 words, stride 32): Table 7-6 of 07_score.md. -/
abbrev Reg.SCORE_TASK_STAT : Nat := 0x130018
/-- TASK_CNT (16 words, stride 32): Table 7-6 of 07_score.md. -/
abbrev Reg.SCORE_TASK_CNT : Nat := 0x13001C
/-- MODE: Table 1-11 of 01_three_planes.md. -/
abbrev Reg.SCORE_MODE : Nat := 0x30BC

/-! ### Offsets of the KEYS page and its table window -/

/-- CFG: Table 8-5 of 08_keys_encoders_pulses.md. -/
abbrev Reg.KEYS_CFG : Nat := 0x4000
/-- SCAN_CFG: Table 8-5 of 08_keys_encoders_pulses.md. -/
abbrev Reg.KEYS_SCAN_CFG : Nat := 0x4004
/-- ENC_CFG: Table 8-5 of 08_keys_encoders_pulses.md. -/
abbrev Reg.KEYS_ENC_CFG : Nat := 0x4008
/-- PULSE_CFG (2 words, stride 4): Table 8-5 of 08_keys_encoders_pulses.md. -/
abbrev Reg.KEYS_PULSE_CFG : Nat := 0x400C
/-- PULSE_STEP (2 words, stride 4): Table 8-5 of 08_keys_encoders_pulses.md. -/
abbrev Reg.KEYS_PULSE_STEP : Nat := 0x4014
/-- LEAK_CFG: Table 8-5 of 08_keys_encoders_pulses.md. -/
abbrev Reg.KEYS_LEAK_CFG : Nat := 0x401C
/-- FIFO_CFG: Table 8-5 of 08_keys_encoders_pulses.md. -/
abbrev Reg.KEYS_FIFO_CFG : Nat := 0x4020
/-- COMMIT: Table 8-5 of 08_keys_encoders_pulses.md. -/
abbrev Reg.KEYS_COMMIT : Nat := 0x4024
/-- STATUS: Table 8-5 of 08_keys_encoders_pulses.md. -/
abbrev Reg.KEYS_STATUS : Nat := 0x4028
/-- HEAD_LO: Table 8-5 of 08_keys_encoders_pulses.md. -/
abbrev Reg.KEYS_HEAD_LO : Nat := 0x402C
/-- HEAD_HI: Table 8-5 of 08_keys_encoders_pulses.md. -/
abbrev Reg.KEYS_HEAD_HI : Nat := 0x4030
/-- POP: Table 8-5 of 08_keys_encoders_pulses.md. -/
abbrev Reg.KEYS_POP : Nat := 0x4034
/-- THRESH: Table 8-5 of 08_keys_encoders_pulses.md. -/
abbrev Reg.KEYS_THRESH : Nat := 0x4038
/-- HELD (2 words, stride 4): Table 8-5 of 08_keys_encoders_pulses.md. -/
abbrev Reg.KEYS_HELD : Nat := 0x403C
/-- BTN_STATE: Table 8-5 of 08_keys_encoders_pulses.md. -/
abbrev Reg.KEYS_BTN_STATE : Nat := 0x4044
/-- MASKED (2 words, stride 4): Table 8-5 of 08_keys_encoders_pulses.md. -/
abbrev Reg.KEYS_MASKED : Nat := 0x4048
/-- ENC_POS (2 words, stride 4): Table 8-5 of 08_keys_encoders_pulses.md. -/
abbrev Reg.KEYS_ENC_POS : Nat := 0x4050
/-- PULSE_TOTAL (2 words, stride 4): Table 8-5 of 08_keys_encoders_pulses.md. -/
abbrev Reg.KEYS_PULSE_TOTAL : Nat := 0x4058
/-- PULSE_FRAC (2 words, stride 4): Table 8-5 of 08_keys_encoders_pulses.md. -/
abbrev Reg.KEYS_PULSE_FRAC : Nat := 0x4060
/-- PULSE_LAST (2 words, stride 4): Table 8-5 of 08_keys_encoders_pulses.md. -/
abbrev Reg.KEYS_PULSE_LAST : Nat := 0x4068
/-- ERRORS: Table 8-5 of 08_keys_encoders_pulses.md. -/
abbrev Reg.KEYS_ERRORS : Nat := 0x4070
/-- MODE: Table 1-11 of 01_three_planes.md. -/
abbrev Reg.KEYS_MODE : Nat := 0x40BC

/-! ### Offsets of the SENSE page and its table window -/

/-- CFG: Table 9-10 of 09_battery_and_thermal.md. -/
abbrev Reg.SENSE_CFG : Nat := 0x5000
/-- CC_CFG: Table 9-10 of 09_battery_and_thermal.md. -/
abbrev Reg.SENSE_CC_CFG : Nat := 0x5004
/-- COMMIT: Table 9-10 of 09_battery_and_thermal.md. -/
abbrev Reg.SENSE_COMMIT : Nat := 0x5008
/-- STATUS: Table 9-10 of 09_battery_and_thermal.md. -/
abbrev Reg.SENSE_STATUS : Nat := 0x500C
/-- RESULT (8 words, stride 4): Table 9-10 of 09_battery_and_thermal.md. -/
abbrev Reg.SENSE_RESULT : Nat := 0x5010
/-- IBAT: Table 9-10 of 09_battery_and_thermal.md. -/
abbrev Reg.SENSE_IBAT : Nat := 0x5030
/-- PM (4 words, stride 4): Table 9-10 of 09_battery_and_thermal.md. -/
abbrev Reg.SENSE_PM : Nat := 0x5034
/-- NTC_RAW: Table 9-10 of 09_battery_and_thermal.md. -/
abbrev Reg.SENSE_NTC_RAW : Nat := 0x5044
/-- CHG_LO: Table 9-10 of 09_battery_and_thermal.md. -/
abbrev Reg.SENSE_CHG_LO : Nat := 0x5048
/-- CHG_HI: Table 9-10 of 09_battery_and_thermal.md. -/
abbrev Reg.SENSE_CHG_HI : Nat := 0x504C
/-- CC_MISSED: Table 9-10 of 09_battery_and_thermal.md. -/
abbrev Reg.SENSE_CC_MISSED : Nat := 0x5050
/-- LEVELS: Table 9-10 of 09_battery_and_thermal.md. -/
abbrev Reg.SENSE_LEVELS : Nat := 0x5054
/-- CAPS: Table 9-10 of 09_battery_and_thermal.md. -/
abbrev Reg.SENSE_CAPS : Nat := 0x5058
/-- ACT_WARM: Table 9-10 of 09_battery_and_thermal.md. -/
abbrev Reg.SENSE_ACT_WARM : Nat := 0x505C
/-- ACT_HOT: Table 9-10 of 09_battery_and_thermal.md. -/
abbrev Reg.SENSE_ACT_HOT : Nat := 0x5060
/-- ACT_CRIT: Table 9-10 of 09_battery_and_thermal.md. -/
abbrev Reg.SENSE_ACT_CRIT : Nat := 0x5064
/-- ACT_BLOW: Table 9-10 of 09_battery_and_thermal.md. -/
abbrev Reg.SENSE_ACT_BLOW : Nat := 0x5068
/-- ACT_BCRIT: Table 9-10 of 09_battery_and_thermal.md. -/
abbrev Reg.SENSE_ACT_BCRIT : Nat := 0x506C
/-- CHG_CFG: Table 9-10 of 09_battery_and_thermal.md. -/
abbrev Reg.SENSE_CHG_CFG : Nat := 0x5070
/-- CHG_STATUS: Table 9-10 of 09_battery_and_thermal.md. -/
abbrev Reg.SENSE_CHG_STATUS : Nat := 0x5074
/-- SUPPLY_CFG: Table 9-10 of 09_battery_and_thermal.md. -/
abbrev Reg.SENSE_SUPPLY_CFG : Nat := 0x5078
/-- RAIL_STATUS: Table 9-10 of 09_battery_and_thermal.md. -/
abbrev Reg.SENSE_RAIL_STATUS : Nat := 0x507C
/-- RAIL_VBAT: Table 9-10 of 09_battery_and_thermal.md. -/
abbrev Reg.SENSE_RAIL_VBAT : Nat := 0x5080
/-- RAIL_VDDIO: Table 9-10 of 09_battery_and_thermal.md. -/
abbrev Reg.SENSE_RAIL_VDDIO : Nat := 0x5084
/-- RAIL_VDD_CORE: Table 9-10 of 09_battery_and_thermal.md. -/
abbrev Reg.SENSE_RAIL_VDD_CORE : Nat := 0x5088
/-- RAIL_VDD_AO: Table 9-10 of 09_battery_and_thermal.md. -/
abbrev Reg.SENSE_RAIL_VDD_AO : Nat := 0x508C
/-- RAIL_VDD_PHY: Table 9-10 of 09_battery_and_thermal.md. -/
abbrev Reg.SENSE_RAIL_VDD_PHY : Nat := 0x5090
/-- RAIL_VDDA: Table 9-10 of 09_battery_and_thermal.md. -/
abbrev Reg.SENSE_RAIL_VDDA : Nat := 0x5094
/-- NTC0_PT (33 words, stride 4): Table 9-10 of 09_battery_and_thermal.md. -/
abbrev Reg.SENSE_NTC0_PT : Nat := 0x150000
/-- NTC1_PT (33 words, stride 4): Table 9-10 of 09_battery_and_thermal.md. -/
abbrev Reg.SENSE_NTC1_PT : Nat := 0x150100
/-- SLOT_W0 (13 words, stride 8): Table 9-10 of 09_battery_and_thermal.md. -/
abbrev Reg.SENSE_SLOT_W0 : Nat := 0x150200
/-- SLOT_W0_13: Table 9-10 of 09_battery_and_thermal.md. -/
abbrev Reg.SENSE_SLOT_W0_13 : Nat := 0x150268
/-- SLOT_W0_14: Table 9-10 of 09_battery_and_thermal.md. -/
abbrev Reg.SENSE_SLOT_W0_14 : Nat := 0x150270
/-- SLOT_W0_15: Table 9-10 of 09_battery_and_thermal.md. -/
abbrev Reg.SENSE_SLOT_W0_15 : Nat := 0x150278
/-- SLOT_W1 (13 words, stride 8): Table 9-10 of 09_battery_and_thermal.md. -/
abbrev Reg.SENSE_SLOT_W1 : Nat := 0x150204
/-- SLOT_W1_13: Table 9-10 of 09_battery_and_thermal.md. -/
abbrev Reg.SENSE_SLOT_W1_13 : Nat := 0x15026C
/-- SLOT_W1_14: Table 9-10 of 09_battery_and_thermal.md. -/
abbrev Reg.SENSE_SLOT_W1_14 : Nat := 0x150274
/-- SLOT_W1_15: Table 9-10 of 09_battery_and_thermal.md. -/
abbrev Reg.SENSE_SLOT_W1_15 : Nat := 0x15027C
/-- MODE: Table 1-11 of 01_three_planes.md. -/
abbrev Reg.SENSE_MODE : Nat := 0x50BC

/-! ### Offsets of the TUNE page and its table window -/

/-- DELTA: Table 10-7 of 10_tuning.md. -/
abbrev Reg.TUNE_DELTA : Nat := 0x6000
/-- XT_ADJ: Table 10-7 of 10_tuning.md. -/
abbrev Reg.TUNE_XT_ADJ : Nat := 0x6004
/-- REQ: Table 10-7 of 10_tuning.md. -/
abbrev Reg.TUNE_REQ : Nat := 0x6008
/-- BUSY: Table 10-7 of 10_tuning.md. -/
abbrev Reg.TUNE_BUSY : Nat := 0x600C
/-- ITEM0_CFG: Table 10-7 of 10_tuning.md. -/
abbrev Reg.TUNE_ITEM0_CFG : Nat := 0x6010
/-- ITEM_CFG (7 words, stride 4): Table 10-7 of 10_tuning.md. -/
abbrev Reg.TUNE_ITEM_CFG : Nat := 0x6014
/-- ITEM_STAT (8 words, stride 4): Table 10-7 of 10_tuning.md. -/
abbrev Reg.TUNE_ITEM_STAT : Nat := 0x6030
/-- ITEM_TICK (8 words, stride 4): Table 10-7 of 10_tuning.md. -/
abbrev Reg.TUNE_ITEM_TICK : Nat := 0x6050
/-- ITEM_RESULT (8 words, stride 4): Table 10-7 of 10_tuning.md. -/
abbrev Reg.TUNE_ITEM_RESULT : Nat := 0x6070
/-- ITEM_APPLIED (8 words, stride 4): Table 10-7 of 10_tuning.md. -/
abbrev Reg.TUNE_ITEM_APPLIED : Nat := 0x6090
/-- FUSE_STATUS: Table 10-7 of 10_tuning.md. -/
abbrev Reg.TUNE_FUSE_STATUS : Nat := 0x60B0
/-- FUSE_LO (64 words, stride 8): Table 10-7 of 10_tuning.md. -/
abbrev Reg.TUNE_FUSE_LO : Nat := 0x160000
/-- FUSE_HI (64 words, stride 8): Table 10-7 of 10_tuning.md. -/
abbrev Reg.TUNE_FUSE_HI : Nat := 0x160004
/-- STAGE_LO (14 words, stride 8): Table 10-7 of 10_tuning.md. -/
abbrev Reg.TUNE_STAGE_LO : Nat := 0x160200
/-- STAGE_HI (14 words, stride 8): Table 10-7 of 10_tuning.md. -/
abbrev Reg.TUNE_STAGE_HI : Nat := 0x160204
/-- MODE: Table 1-11 of 01_three_planes.md. -/
abbrev Reg.TUNE_MODE : Nat := 0x60BC

/-! ### Offsets of the JRNL page and its table window -/

/-- STATUS: Table 11-10 of 11_journal_flash.md. -/
abbrev Reg.JRNL_STATUS : Nat := 0x7000
/-- CFG: Table 11-10 of 11_journal_flash.md. -/
abbrev Reg.JRNL_CFG : Nat := 0x7004
/-- NEXT_SEQ: Table 11-10 of 11_journal_flash.md. -/
abbrev Reg.JRNL_NEXT_SEQ : Nat := 0x7008
/-- SPACE: Table 11-10 of 11_journal_flash.md. -/
abbrev Reg.JRNL_SPACE : Nat := 0x700C
/-- REJ_LOG: Table 11-10 of 11_journal_flash.md. -/
abbrev Reg.JRNL_REJ_LOG : Nat := 0x7010
/-- REJ_SEQ: Table 11-10 of 11_journal_flash.md. -/
abbrev Reg.JRNL_REJ_SEQ : Nat := 0x7014
/-- WEAR: Table 11-10 of 11_journal_flash.md. -/
abbrev Reg.JRNL_WEAR : Nat := 0x7018
/-- CMD: Table 11-10 of 11_journal_flash.md. -/
abbrev Reg.JRNL_CMD : Nat := 0x701C
/-- CTR_LO (8 words, stride 8): Table 11-10 of 11_journal_flash.md. -/
abbrev Reg.JRNL_CTR_LO : Nat := 0x7020
/-- CTR_HI (8 words, stride 8): Table 11-10 of 11_journal_flash.md. -/
abbrev Reg.JRNL_CTR_HI : Nat := 0x7024
/-- CTR_UNSAVED (8 words, stride 4): Table 11-10 of 11_journal_flash.md. -/
abbrev Reg.JRNL_CTR_UNSAVED : Nat := 0x7060
/-- CMD_ARG (4 words, stride 4): Table 11-10 of 11_journal_flash.md. -/
abbrev Reg.JRNL_CMD_ARG : Nat := 0x7080
/-- CMD_STATUS: Table 11-10 of 11_journal_flash.md. -/
abbrev Reg.JRNL_CMD_STATUS : Nat := 0x7090
/-- CMD_RES (4 words, stride 4): Table 11-10 of 11_journal_flash.md. -/
abbrev Reg.JRNL_CMD_RES : Nat := 0x7094
/-- SECTOR (128 words, stride 4): Table 11-10 of 11_journal_flash.md. -/
abbrev Reg.JRNL_SECTOR : Nat := 0x170000
/-- CTR_TAB (16 words, stride 4): Table 11-10 of 11_journal_flash.md. -/
abbrev Reg.JRNL_CTR_TAB : Nat := 0x170200
/-- MODE: Table 1-11 of 01_three_planes.md. -/
abbrev Reg.JRNL_MODE : Nat := 0x70BC

/-! ### Offsets of the INTAKE page and its table window -/

/-- DSI_CFG: Table 12-7 of 12_pixel_intake.md. -/
abbrev Reg.INTAKE_DSI_CFG : Nat := 0x8000
/-- TE_CFG: Table 12-7 of 12_pixel_intake.md. -/
abbrev Reg.INTAKE_TE_CFG : Nat := 0x8004
/-- COMMIT: Table 12-7 of 12_pixel_intake.md. -/
abbrev Reg.INTAKE_COMMIT : Nat := 0x8008
/-- STATUS: Table 12-7 of 12_pixel_intake.md. -/
abbrev Reg.INTAKE_STATUS : Nat := 0x800C
/-- DSI_ERR: Table 12-7 of 12_pixel_intake.md. -/
abbrev Reg.INTAKE_DSI_ERR : Nat := 0x8010
/-- DSI_ERR_COUNT: Table 12-7 of 12_pixel_intake.md. -/
abbrev Reg.INTAKE_DSI_ERR_COUNT : Nat := 0x8014
/-- OPEN: Table 12-7 of 12_pixel_intake.md. -/
abbrev Reg.INTAKE_OPEN : Nat := 0x8018
/-- OPEN_RESULT: Table 12-7 of 12_pixel_intake.md. -/
abbrev Reg.INTAKE_OPEN_RESULT : Nat := 0x801C
/-- PRES_RECT0: Table 12-7 of 12_pixel_intake.md. -/
abbrev Reg.INTAKE_PRES_RECT0 : Nat := 0x8020
/-- PRES_RECT1: Table 12-7 of 12_pixel_intake.md. -/
abbrev Reg.INTAKE_PRES_RECT1 : Nat := 0x8024
/-- PRESENT: Table 12-7 of 12_pixel_intake.md. -/
abbrev Reg.INTAKE_PRESENT : Nat := 0x8028
/-- PRESENT_RESULT: Table 12-7 of 12_pixel_intake.md. -/
abbrev Reg.INTAKE_PRESENT_RESULT : Nat := 0x802C
/-- FENCE_TAG: Table 12-7 of 12_pixel_intake.md. -/
abbrev Reg.INTAKE_FENCE_TAG : Nat := 0x8030
/-- SURF_FRAME (8 words, stride 4): Table 12-7 of 12_pixel_intake.md. -/
abbrev Reg.INTAKE_SURF_FRAME : Nat := 0x8040
/-- SURF_W0 (8 words, stride 32): Table 12-7 of 12_pixel_intake.md. -/
abbrev Reg.INTAKE_SURF_W0 : Nat := 0x180000
/-- SURF_W1 (8 words, stride 32): Table 12-7 of 12_pixel_intake.md. -/
abbrev Reg.INTAKE_SURF_W1 : Nat := 0x180004
/-- SURF_W2 (8 words, stride 32): Table 12-7 of 12_pixel_intake.md. -/
abbrev Reg.INTAKE_SURF_W2 : Nat := 0x180008
/-- SURF_W3 (8 words, stride 32): Table 12-7 of 12_pixel_intake.md. -/
abbrev Reg.INTAKE_SURF_W3 : Nat := 0x18000C
/-- SURF_W4 (8 words, stride 32): Table 12-7 of 12_pixel_intake.md. -/
abbrev Reg.INTAKE_SURF_W4 : Nat := 0x180010
/-- SURF_W5 (8 words, stride 32): Table 12-7 of 12_pixel_intake.md. -/
abbrev Reg.INTAKE_SURF_W5 : Nat := 0x180014
/-- SURF_W6 (8 words, stride 32): Table 12-7 of 12_pixel_intake.md. -/
abbrev Reg.INTAKE_SURF_W6 : Nat := 0x180018
/-- SURF_W7 (8 words, stride 32): Table 12-7 of 12_pixel_intake.md. -/
abbrev Reg.INTAKE_SURF_W7 : Nat := 0x18001C
/-- MODE: Table 1-11 of 01_three_planes.md. -/
abbrev Reg.INTAKE_MODE : Nat := 0x80BC

/-! ### Offsets of the SCAN page and its table window -/

/-- CLASS: Table 13-6 of 13_scanout_timing.md. -/
abbrev Reg.SCAN_CLASS : Nat := 0x9000
/-- ACTIVE: Table 13-6 of 13_scanout_timing.md. -/
abbrev Reg.SCAN_ACTIVE : Nat := 0x9004
/-- HTIM: Table 13-6 of 13_scanout_timing.md. -/
abbrev Reg.SCAN_HTIM : Nat := 0x9008
/-- VTIM: Table 13-6 of 13_scanout_timing.md. -/
abbrev Reg.SCAN_VTIM : Nat := 0x900C
/-- LAYERS: Table 13-6 of 13_scanout_timing.md. -/
abbrev Reg.SCAN_LAYERS : Nat := 0x9010
/-- OVL_POS: Table 13-6 of 13_scanout_timing.md. -/
abbrev Reg.SCAN_OVL_POS : Nat := 0x9014
/-- LR_CFG: Table 13-6 of 13_scanout_timing.md. -/
abbrev Reg.SCAN_LR_CFG : Nat := 0x9018
/-- SR_CFG: Table 13-6 of 13_scanout_timing.md. -/
abbrev Reg.SCAN_SR_CFG : Nat := 0x901C
/-- FRZ_CFG: Table 13-6 of 13_scanout_timing.md. -/
abbrev Reg.SCAN_FRZ_CFG : Nat := 0x9020
/-- COMMIT: Table 13-6 of 13_scanout_timing.md. -/
abbrev Reg.SCAN_COMMIT : Nat := 0x9024
/-- REQ: Table 13-6 of 13_scanout_timing.md. -/
abbrev Reg.SCAN_REQ : Nat := 0x9028
/-- STATUS: Table 13-6 of 13_scanout_timing.md. -/
abbrev Reg.SCAN_STATUS : Nat := 0x902C
/-- FRAME: Table 13-6 of 13_scanout_timing.md. -/
abbrev Reg.SCAN_FRAME : Nat := 0x9030
/-- STATE: Table 13-6 of 13_scanout_timing.md. -/
abbrev Reg.SCAN_STATE : Nat := 0x9034
/-- FRAME_CYC: Table 13-6 of 13_scanout_timing.md. -/
abbrev Reg.SCAN_FRAME_CYC : Nat := 0x9038
/-- ST_FRAME: Table 13-6 of 13_scanout_timing.md. -/
abbrev Reg.SCAN_ST_FRAME : Nat := 0x903C
/-- ST_INFO: Table 13-6 of 13_scanout_timing.md. -/
abbrev Reg.SCAN_ST_INFO : Nat := 0x9040
/-- ST_LUMA: Table 13-6 of 13_scanout_timing.md. -/
abbrev Reg.SCAN_ST_LUMA : Nat := 0x9044
/-- ST_COUNT: Table 13-6 of 13_scanout_timing.md. -/
abbrev Reg.SCAN_ST_COUNT : Nat := 0x9048
/-- SIG (5 words, stride 4): Table 13-6 of 13_scanout_timing.md. -/
abbrev Reg.SCAN_SIG : Nat := 0x904C
/-- FRZ_STATUS: Table 13-6 of 13_scanout_timing.md. -/
abbrev Reg.SCAN_FRZ_STATUS : Nat := 0x9060
/-- WATCH_RECT0 (4 words, stride 8): Table 13-6 of 13_scanout_timing.md. -/
abbrev Reg.SCAN_WATCH_RECT0 : Nat := 0x190000
/-- WATCH_RECT1 (4 words, stride 8): Table 13-6 of 13_scanout_timing.md. -/
abbrev Reg.SCAN_WATCH_RECT1 : Nat := 0x190004
/-- WATCH_CFG (5 words, stride 4): Table 13-6 of 13_scanout_timing.md. -/
abbrev Reg.SCAN_WATCH_CFG : Nat := 0x190020
/-- WATCH_STAT (5 words, stride 4): Table 13-6 of 13_scanout_timing.md. -/
abbrev Reg.SCAN_WATCH_STAT : Nat := 0x190040
/-- HIST (32 words, stride 4): Table 13-6 of 13_scanout_timing.md. -/
abbrev Reg.SCAN_HIST : Nat := 0x190100
/-- MODE: Table 1-11 of 01_three_planes.md. -/
abbrev Reg.SCAN_MODE : Nat := 0x90BC

/-! ### Offsets of the PIPE page and its table window -/

/-- CFG: Table 14-5 of 14_pixel_pipeline.md. -/
abbrev Reg.PIPE_CFG : Nat := 0xA000
/-- BG: Table 14-5 of 14_pixel_pipeline.md. -/
abbrev Reg.PIPE_BG : Nat := 0xA004
/-- CSC_C (4 words, stride 4): Table 14-5 of 14_pixel_pipeline.md. -/
abbrev Reg.PIPE_CSC_C : Nat := 0xA008
/-- CSC_C4: Table 14-5 of 14_pixel_pipeline.md. -/
abbrev Reg.PIPE_CSC_C4 : Nat := 0xA018
/-- CSC_IN: Table 14-5 of 14_pixel_pipeline.md. -/
abbrev Reg.PIPE_CSC_IN : Nat := 0xA01C
/-- CSC_OUT: Table 14-5 of 14_pixel_pipeline.md. -/
abbrev Reg.PIPE_CSC_OUT : Nat := 0xA020
/-- DM_CFG: Table 14-5 of 14_pixel_pipeline.md. -/
abbrev Reg.PIPE_DM_CFG : Nat := 0xA024
/-- DM_BASE (3 words, stride 4): Table 14-5 of 14_pixel_pipeline.md. -/
abbrev Reg.PIPE_DM_BASE : Nat := 0xA028
/-- OD_CFG: Table 14-5 of 14_pixel_pipeline.md. -/
abbrev Reg.PIPE_OD_CFG : Nat := 0xA034
/-- OD_T01: Table 14-5 of 14_pixel_pipeline.md. -/
abbrev Reg.PIPE_OD_T01 : Nat := 0xA038
/-- OD_T2: Table 14-5 of 14_pixel_pipeline.md. -/
abbrev Reg.PIPE_OD_T2 : Nat := 0xA03C
/-- OD_BASE: Table 14-5 of 14_pixel_pipeline.md. -/
abbrev Reg.PIPE_OD_BASE : Nat := 0xA040
/-- BRIGHT: Table 14-5 of 14_pixel_pipeline.md. -/
abbrev Reg.PIPE_BRIGHT : Nat := 0xA044
/-- COMMIT: Table 14-5 of 14_pixel_pipeline.md. -/
abbrev Reg.PIPE_COMMIT : Nat := 0xA048
/-- STATUS: Table 14-5 of 14_pixel_pipeline.md. -/
abbrev Reg.PIPE_STATUS : Nat := 0xA04C
/-- GEN: Table 14-5 of 14_pixel_pipeline.md. -/
abbrev Reg.PIPE_GEN : Nat := 0xA050
/-- GEN_FRAME: Table 14-5 of 14_pixel_pipeline.md. -/
abbrev Reg.PIPE_GEN_FRAME : Nat := 0xA054
/-- GAIN_EFF: Table 14-5 of 14_pixel_pipeline.md. -/
abbrev Reg.PIPE_GAIN_EFF : Nat := 0xA058
/-- DM_STAT: Table 14-5 of 14_pixel_pipeline.md. -/
abbrev Reg.PIPE_DM_STAT : Nat := 0xA05C
/-- DM_FALL_FRAME: Table 14-5 of 14_pixel_pipeline.md. -/
abbrev Reg.PIPE_DM_FALL_FRAME : Nat := 0xA060
/-- GAMMA_TAB (3072 words, stride 4): Table 14-5 of 14_pixel_pipeline.md. -/
abbrev Reg.PIPE_GAMMA_TAB : Nat := 0x1A0000
/-- OD_D_00 (289 words, stride 4): Table 14-5 of 14_pixel_pipeline.md. -/
abbrev Reg.PIPE_OD_D_00 : Nat := 0x1A4000
/-- OD_D_01 (289 words, stride 4): Table 14-5 of 14_pixel_pipeline.md. -/
abbrev Reg.PIPE_OD_D_01 : Nat := 0x1A4800
/-- OD_D_02 (289 words, stride 4): Table 14-5 of 14_pixel_pipeline.md. -/
abbrev Reg.PIPE_OD_D_02 : Nat := 0x1A5000
/-- OD_D_10 (289 words, stride 4): Table 14-5 of 14_pixel_pipeline.md. -/
abbrev Reg.PIPE_OD_D_10 : Nat := 0x1A6000
/-- OD_D_11 (289 words, stride 4): Table 14-5 of 14_pixel_pipeline.md. -/
abbrev Reg.PIPE_OD_D_11 : Nat := 0x1A6800
/-- OD_D_12 (289 words, stride 4): Table 14-5 of 14_pixel_pipeline.md. -/
abbrev Reg.PIPE_OD_D_12 : Nat := 0x1A7000
/-- OD_D_20 (289 words, stride 4): Table 14-5 of 14_pixel_pipeline.md. -/
abbrev Reg.PIPE_OD_D_20 : Nat := 0x1A8000
/-- OD_D_21 (289 words, stride 4): Table 14-5 of 14_pixel_pipeline.md. -/
abbrev Reg.PIPE_OD_D_21 : Nat := 0x1A8800
/-- OD_D_22 (289 words, stride 4): Table 14-5 of 14_pixel_pipeline.md. -/
abbrev Reg.PIPE_OD_D_22 : Nat := 0x1A9000
/-- OD_D_30 (289 words, stride 4): Table 14-5 of 14_pixel_pipeline.md. -/
abbrev Reg.PIPE_OD_D_30 : Nat := 0x1AA000
/-- OD_D_31 (289 words, stride 4): Table 14-5 of 14_pixel_pipeline.md. -/
abbrev Reg.PIPE_OD_D_31 : Nat := 0x1AA800
/-- OD_D_32 (289 words, stride 4): Table 14-5 of 14_pixel_pipeline.md. -/
abbrev Reg.PIPE_OD_D_32 : Nat := 0x1AB000
/-- COARSE (2048 words, stride 4): Table 14-5 of 14_pixel_pipeline.md. -/
abbrev Reg.PIPE_COARSE : Nat := 0x1AC000
/-- MODE: Table 1-11 of 01_three_planes.md. -/
abbrev Reg.PIPE_MODE : Nat := 0xA0BC

/-! ### Offsets of the STAVE page and its table window -/

/-- CFG: Table 15-11 of 15_stave_and_panel_power.md. -/
abbrev Reg.STAVE_CFG : Nat := 0xB000
/-- DRV_W01: Table 15-11 of 15_stave_and_panel_power.md. -/
abbrev Reg.STAVE_DRV_W01 : Nat := 0xB004
/-- DRV_W23: Table 15-11 of 15_stave_and_panel_power.md. -/
abbrev Reg.STAVE_DRV_W23 : Nat := 0xB008
/-- GATE_CFG: Table 15-11 of 15_stave_and_panel_power.md. -/
abbrev Reg.STAVE_GATE_CFG : Nat := 0xB00C
/-- GATE_TIM: Table 15-11 of 15_stave_and_panel_power.md. -/
abbrev Reg.STAVE_GATE_TIM : Nat := 0xB010
/-- TRAIN_CFG: Table 15-11 of 15_stave_and_panel_power.md. -/
abbrev Reg.STAVE_TRAIN_CFG : Nat := 0xB014
/-- BSKEW: Table 15-11 of 15_stave_and_panel_power.md. -/
abbrev Reg.STAVE_BSKEW : Nat := 0xB018
/-- FAULT_CFG: Table 15-11 of 15_stave_and_panel_power.md. -/
abbrev Reg.STAVE_FAULT_CFG : Nat := 0xB01C
/-- PWR_ON: Table 15-11 of 15_stave_and_panel_power.md. -/
abbrev Reg.STAVE_PWR_ON : Nat := 0xB020
/-- PWR_OFF: Table 15-11 of 15_stave_and_panel_power.md. -/
abbrev Reg.STAVE_PWR_OFF : Nat := 0xB024
/-- PWR_CFG: Table 15-11 of 15_stave_and_panel_power.md. -/
abbrev Reg.STAVE_PWR_CFG : Nat := 0xB028
/-- CRACK_CFG: Table 15-11 of 15_stave_and_panel_power.md. -/
abbrev Reg.STAVE_CRACK_CFG : Nat := 0xB02C
/-- COMMIT: Table 15-11 of 15_stave_and_panel_power.md. -/
abbrev Reg.STAVE_COMMIT : Nat := 0xB030
/-- REQ: Table 15-11 of 15_stave_and_panel_power.md. -/
abbrev Reg.STAVE_REQ : Nat := 0xB034
/-- STATUS: Table 15-11 of 15_stave_and_panel_power.md. -/
abbrev Reg.STAVE_STATUS : Nat := 0xB038
/-- PWR_STATE: Table 15-11 of 15_stave_and_panel_power.md. -/
abbrev Reg.STAVE_PWR_STATE : Nat := 0xB03C
/-- LINK_STAT: Table 15-11 of 15_stave_and_panel_power.md. -/
abbrev Reg.STAVE_LINK_STAT : Nat := 0xB040
/-- CRACK_RESULT: Table 15-11 of 15_stave_and_panel_power.md. -/
abbrev Reg.STAVE_CRACK_RESULT : Nat := 0xB044
/-- DLY_APPLIED: Table 15-11 of 15_stave_and_panel_power.md. -/
abbrev Reg.STAVE_DLY_APPLIED : Nat := 0xB048
/-- GAMMA_REF (4 words, stride 4): Table 15-11 of 15_stave_and_panel_power.md. -/
abbrev Reg.STAVE_GAMMA_REF : Nat := 0x1B0000
/-- MODE: Table 1-11 of 01_three_planes.md. -/
abbrev Reg.STAVE_MODE : Nat := 0xB0BC

/-! ### Offsets of the FACE page and its table window -/

/-- CFG: Table 16-6 of 16_ostinato_face.md. -/
abbrev Reg.FACE_CFG : Nat := 0xC000
/-- BG: Table 16-6 of 16_ostinato_face.md. -/
abbrev Reg.FACE_BG : Nat := 0xC004
/-- PAL (8 words, stride 4): Table 16-6 of 16_ostinato_face.md. -/
abbrev Reg.FACE_PAL : Nat := 0xC008
/-- WALL_LO: Table 16-6 of 16_ostinato_face.md. -/
abbrev Reg.FACE_WALL_LO : Nat := 0xC028
/-- WALL_HI: Table 16-6 of 16_ostinato_face.md. -/
abbrev Reg.FACE_WALL_HI : Nat := 0xC02C
/-- COMMIT: Table 16-6 of 16_ostinato_face.md. -/
abbrev Reg.FACE_COMMIT : Nat := 0xC030
/-- REQ: Table 16-6 of 16_ostinato_face.md. -/
abbrev Reg.FACE_REQ : Nat := 0xC034
/-- STATUS: Table 16-6 of 16_ostinato_face.md. -/
abbrev Reg.FACE_STATUS : Nat := 0xC038
/-- PUSHES: Table 16-6 of 16_ostinato_face.md. -/
abbrev Reg.FACE_PUSHES : Nat := 0xC03C
/-- LAST_SIG: Table 16-6 of 16_ostinato_face.md. -/
abbrev Reg.FACE_LAST_SIG : Nat := 0xC040
/-- WALL_SEC: Table 16-6 of 16_ostinato_face.md. -/
abbrev Reg.FACE_WALL_SEC : Nat := 0xC044
/-- FIELD_VAL (12 words, stride 4): Table 16-6 of 16_ostinato_face.md. -/
abbrev Reg.FACE_FIELD_VAL : Nat := 0xC048
/-- FIELD_W0 (12 words, stride 16): Table 16-6 of 16_ostinato_face.md. -/
abbrev Reg.FACE_FIELD_W0 : Nat := 0x1C0000
/-- FIELD_W1 (12 words, stride 16): Table 16-6 of 16_ostinato_face.md. -/
abbrev Reg.FACE_FIELD_W1 : Nat := 0x1C0004
/-- FIELD_W2 (12 words, stride 16): Table 16-6 of 16_ostinato_face.md. -/
abbrev Reg.FACE_FIELD_W2 : Nat := 0x1C0008
/-- FIELD_W3 (12 words, stride 16): Table 16-6 of 16_ostinato_face.md. -/
abbrev Reg.FACE_FIELD_W3 : Nat := 0x1C000C
/-- GLYPH (256 words, stride 4): Table 16-6 of 16_ostinato_face.md. -/
abbrev Reg.FACE_GLYPH : Nat := 0x1C0100
/-- MODE: Table 1-11 of 01_three_planes.md. -/
abbrev Reg.FACE_MODE : Nat := 0xC0BC

/-! ### Offsets of the ENS page and its table window -/

/-- CFG: Table 18-5 of 18_ensemble_jobs_faults_lease.md. -/
abbrev Reg.ENS_CFG : Nat := 0xD000
/-- COMMIT: Table 18-5 of 18_ensemble_jobs_faults_lease.md. -/
abbrev Reg.ENS_COMMIT : Nat := 0xD004
/-- STATUS: Table 18-5 of 18_ensemble_jobs_faults_lease.md. -/
abbrev Reg.ENS_STATUS : Nat := 0xD008
/-- RETIRED: Table 18-5 of 18_ensemble_jobs_faults_lease.md. -/
abbrev Reg.ENS_RETIRED : Nat := 0xD00C
/-- LEASED: Table 18-5 of 18_ensemble_jobs_faults_lease.md. -/
abbrev Reg.ENS_LEASED : Nat := 0xD010
/-- BUSY: Table 18-5 of 18_ensemble_jobs_faults_lease.md. -/
abbrev Reg.ENS_BUSY : Nat := 0xD014
/-- SUSPECT: Table 18-5 of 18_ensemble_jobs_faults_lease.md. -/
abbrev Reg.ENS_SUSPECT : Nat := 0xD018
/-- CAPPED: Table 18-5 of 18_ensemble_jobs_faults_lease.md. -/
abbrev Reg.ENS_CAPPED : Nat := 0xD01C
/-- DESK_TEST: Table 18-5 of 18_ensemble_jobs_faults_lease.md. -/
abbrev Reg.ENS_DESK_TEST : Nat := 0xD020
/-- DESK_RETEST: Table 18-5 of 18_ensemble_jobs_faults_lease.md. -/
abbrev Reg.ENS_DESK_RETEST : Nat := 0xD024
/-- BIST_RESULT: Table 18-5 of 18_ensemble_jobs_faults_lease.md. -/
abbrev Reg.ENS_BIST_RESULT : Nat := 0xD028
/-- LEASE: Table 18-5 of 18_ensemble_jobs_faults_lease.md. -/
abbrev Reg.ENS_LEASE : Nat := 0xD02C
/-- LEASE_STAT: Table 18-5 of 18_ensemble_jobs_faults_lease.md. -/
abbrev Reg.ENS_LEASE_STAT : Nat := 0xD030
/-- JOB_STAT: Table 18-5 of 18_ensemble_jobs_faults_lease.md. -/
abbrev Reg.ENS_JOB_STAT : Nat := 0xD034
/-- RETIRE_LOG: Table 18-5 of 18_ensemble_jobs_faults_lease.md. -/
abbrev Reg.ENS_RETIRE_LOG : Nat := 0xD038
/-- ISSUE_W (4 words, stride 4): Table 18-5 of 18_ensemble_jobs_faults_lease.md. -/
abbrev Reg.ENS_ISSUE_W : Nat := 0xD040
/-- ISSUE: Table 18-5 of 18_ensemble_jobs_faults_lease.md. -/
abbrev Reg.ENS_ISSUE : Nat := 0xD050
/-- ISSUE_RESULT: Table 18-5 of 18_ensemble_jobs_faults_lease.md. -/
abbrev Reg.ENS_ISSUE_RESULT : Nat := 0xD054
/-- ISSUE_RES (4 words, stride 4): Table 18-5 of 18_ensemble_jobs_faults_lease.md. -/
abbrev Reg.ENS_ISSUE_RES : Nat := 0xD058
/-- MODE: Table 1-11 of 01_three_planes.md. -/
abbrev Reg.ENS_MODE : Nat := 0xD0BC

/-! ### Offsets of the BUS page and its table window -/

/-- I2C_CFG (2 words, stride 4): Table 7-10 of 07_score.md. -/
abbrev Reg.BUS_I2C_CFG : Nat := 0xE000
/-- SPI_CFG (2 words, stride 4): Table 7-10 of 07_score.md. -/
abbrev Reg.BUS_SPI_CFG : Nat := 0xE008
/-- SINT_CFG: Table 7-10 of 07_score.md. -/
abbrev Reg.BUS_SINT_CFG : Nat := 0xE010
/-- STATUS: Table 7-10 of 07_score.md. -/
abbrev Reg.BUS_STATUS : Nat := 0xE014
/-- ERR_LOG: Table 7-10 of 07_score.md. -/
abbrev Reg.BUS_ERR_LOG : Nat := 0xE018
/-- MODE: Table 1-11 of 01_three_planes.md. -/
abbrev Reg.BUS_MODE : Nat := 0xE0BC

/-- Register rows of the DEV page, part 1. -/
def regsDev0 : List RegSpec :=
  [⟨0x0, 4, 1, 0x77400A01#32, 0#32, 0#32, 0#32, 0#32, 0#32, 0#32⟩,
   ⟨0x4, 4, 1, 0#32, 0#32, 0#32, 0#32, 0xFFFF#32, 0xFFFF#32, 0#32⟩,
   ⟨0x8, 4, 1, 0#32, 0#32, 0#32, 0#32, 0xFFFFFFFF#32, 0xFFFFFFFF#32, 0#32⟩,
   ⟨0xC, 4, 1, 0#32, 0#32, 0#32, 0#32, 0xFFFF#32, 0xFFFF#32, 0#32⟩,
   ⟨0x10, 4, 1, 0#32, 0#32, 0#32, 0#32, 0xFFFF3FFF#32, 0xFFFF3FFF#32, 0xFFFF3FFF#32⟩,
   ⟨0x14, 4, 1, 0#32, 0#32, 0#32, 0#32, 0xFFFF0F#32, 0xFFFF0F#32, 0#32⟩,
   ⟨0x18, 4, 1, 0#32, 0#32, 0#32, 0#32, 0#32, 0#32, 0#32⟩,
   ⟨0x1C, 4, 1, 0x10000#32, 0xD0FFFFFF#32, 0#32, 0#32, 0xD0FFFFFF#32, 0#32, 0#32⟩,
   ⟨0x20, 4, 1, 0#32, 0#32, 0#32, 0#32, 0#32, 0#32, 0#32⟩,
   ⟨0x24, 4, 1, 0#32, 0#32, 0#32, 0x3000000#32, 0x3000000#32, 0#32, 0#32⟩,
   ⟨0x28, 4, 1, 0#32, 0#32, 0#32, 0x2#32, 0x7#32, 0x7#32, 0x5#32⟩,
   ⟨0x40, 4, 1, 0#32, 0#32, 0#32, 0x1000#32, 0xFFFF1FF7#32, 0xFFFF07F7#32, 0x7F7#32⟩,
   ⟨0x44, 4, 1, 0#32, 0x7#32, 0#32, 0#32, 0x7#32, 0#32, 0#32⟩,
   ⟨0x48, 4, 1, 0x20#32, 0x377#32, 0#32, 0#32, 0x377#32, 0#32, 0#32⟩,
   ⟨0x4C, 4, 1, 0x2008000#32, 0x87FFFFFF#32, 0#32, 0#32, 0x87FFFFFF#32, 0#32, 0#32⟩,
   ⟨0x50, 4, 1, 0x2CC3C0#32, 0xFFFFFF#32, 0#32, 0#32, 0xFFFFFF#32, 0#32, 0#32⟩,
   ⟨0x54, 4, 1, 0#32, 0#32, 0#32, 0#32, 0xFFF#32, 0xFFF#32, 0#32⟩,
   ⟨0x58, 4, 1, 0#32, 0#32, 0#32, 0#32, 0xFFFFFFFF#32, 0xFFFFFFFF#32, 0#32⟩,
   ⟨0x5C, 4, 1, 0#32, 0#32, 0#32, 0#32, 0x307#32, 0#32, 0#32⟩,
   ⟨0x60, 4, 1, 0#32, 0xFFFFFFFF#32, 0#32, 0#32, 0xFFFFFFFF#32, 0#32, 0#32⟩,
   ⟨0x64, 4, 1, 0#32, 0x1#32, 0#32, 0x2#32, 0x3#32, 0#32, 0#32⟩,
   ⟨0x68, 4, 1, 0x4202E4#32, 0x3FF03FF#32, 0#32, 0#32, 0x3FF03FF#32, 0#32, 0#32⟩,
   ⟨0x6C, 4, 1, 0x4#32, 0xF#32, 0#32, 0#32, 0xF#32, 0#32, 0#32⟩,
   ⟨0x70, 4, 1, 0#32, 0#32, 0#32, 0#32, 0xFFFFFFFF#32, 0xFFFFFFFF#32, 0#32⟩]

/-- Register rows of the DEV page, part 2. -/
def regsDev1 : List RegSpec :=
  [⟨0x74, 4, 1, 0#32, 0#32, 0#32, 0#32, 0xFFFFFFFF#32, 0xFFFFFFFF#32, 0#32⟩,
   ⟨0x78, 4, 1, 0x1E08000#32, 0xFF1FFFF#32, 0#32, 0#32, 0xFF1FFFF#32, 0xFF1FFFF#32, 0#32⟩,
   ⟨0x80, 4, 1, 0x5544656#32, 0x3FFFFFFF#32, 0#32, 0#32, 0x3FFFFFFF#32, 0#32, 0#32⟩,
   ⟨0x84, 4, 1, 0x56#32, 0xFFF#32, 0#32, 0#32, 0xFFF#32, 0#32, 0#32⟩,
   ⟨0x88, 4, 1, 0#32, 0#32, 0#32, 0#32, 0x1FFFF#32, 0x1FFFF#32, 0#32⟩,
   ⟨0x8C, 4, 1, 0#32, 0#32, 0#32, 0#32, 0x803FFFFF#32, 0x803FFFFF#32, 0x803FFFFF#32⟩,
   ⟨0x90, 4, 1, 0#32, 0#32, 0#32, 0#32, 0x1FFF#32, 0x1FFF#32, 0x1FFF#32⟩,
   ⟨0x100000, 8, 32, 0#32, 0x7FF07FF#32, 0#32, 0#32, 0x7FF07FF#32, 0x7FF07FF#32, 0#32⟩,
   ⟨0x100004, 8, 32, 0#32, 0x1133F#32, 0#32, 0#32, 0x101133F#32, 0x101133F#32, 0#32⟩,
   ⟨0xBC, 4, 1, 0#32, 0x1#32, 0#32, 0#32, 0#32, 0#32, 0#32⟩]

/-- Register rows of the DEV page. -/
def regsDev : List RegSpec := regsDev0 ++ regsDev1

/-- Register rows of the HPORT page. -/
def regsHport : List RegSpec :=
  [⟨0x1000, 4, 1, 0x114#32, 0x13F#32, 0#32, 0#32, 0x13F#32, 0#32, 0#32⟩,
   ⟨0x1004, 4, 1, 0#32, 0#32, 0#32, 0#32, 0#32, 0#32, 0#32⟩,
   ⟨0x1008, 4, 1, 0x4#32, 0xF#32, 0#32, 0#32, 0xF#32, 0#32, 0#32⟩,
   ⟨0x100C, 4, 1, 0#32, 0#32, 0#32, 0#32, 0#32, 0#32, 0#32⟩,
   ⟨0x1010, 4, 1, 0#32, 0#32, 0#32, 0x80000000#32, 0x80FF3F3F#32, 0#32, 0#32⟩,
   ⟨0x1014, 4, 1, 0#32, 0#32, 0#32, 0#32, 0xFFFFFFFF#32, 0#32, 0#32⟩,
   ⟨0x1018, 4, 1, 0#32, 0#32, 0#32, 0#32, 0xFFFFFFFF#32, 0#32, 0#32⟩,
   ⟨0x101C, 4, 1, 0#32, 0#32, 0#32, 0xFFFFFFFF#32, 0xFFFFFFFF#32, 0#32, 0#32⟩,
   ⟨0x1020, 4, 1, 0#32, 0#32, 0#32, 0#32, 0xFFFFFFFF#32, 0#32, 0#32⟩,
   ⟨0x1024, 4, 1, 0#32, 0x1#32, 0#32, 0#32, 0x3#32, 0x3#32, 0x2#32⟩,
   ⟨0x110000, 4, 1, 0xF7FFF#32, 0#32, 0#32, 0#32, 0xFFFFFFFF#32, 0xFFFFFFFF#32, 0#32⟩,
   ⟨0x110004, 4, 63, 0#32, 0xF7FFF#32, 0#32, 0#32, 0xF7FFF#32, 0xF7FFF#32, 0#32⟩,
   ⟨0x10BC, 4, 1, 0#32, 0x1#32, 0#32, 0#32, 0#32, 0#32, 0#32⟩]

/-- Register rows of the CUE page. -/
def regsCue : List RegSpec :=
  [⟨0x2000, 4, 1, 0#32, 0#32, 0#32, 0#32, 0#32, 0#32, 0#32⟩,
   ⟨0x2004, 4, 1, 0#32, 0x1FF#32, 0#32, 0#32, 0#32, 0#32, 0#32⟩,
   ⟨0x2008, 4, 1, 0#32, 0#32, 0#32, 0x80000000#32, 0#32, 0#32, 0#32⟩,
   ⟨0x200C, 4, 1, 0#32, 0#32, 0#32, 0x80000000#32, 0#32, 0#32, 0#32⟩,
   ⟨0x2010, 4, 4, 0#32, 0#32, 0#32, 0xFFFFFFFF#32, 0#32, 0#32, 0#32⟩,
   ⟨0x2020, 4, 8, 0#32, 0#32, 0#32, 0xFFFFFFFF#32, 0#32, 0#32, 0#32⟩,
   ⟨0x120000, 16, 256, 0#32, 0x7FFFFF#32, 0#32, 0#32, 0#32, 0#32, 0#32⟩,
   ⟨0x120004, 16, 256, 0#32, 0x83FF3FFF#32, 0#32, 0#32, 0#32, 0#32, 0#32⟩,
   ⟨0x120008, 16, 256, 0#32, 0xFFFFFFFF#32, 0#32, 0#32, 0#32, 0#32, 0#32⟩,
   ⟨0x12000C, 16, 256, 0#32, 0#32, 0#32, 0#32, 0#32, 0#32, 0#32⟩,
   ⟨0x121000, 4, 1, 0#32, 0x7FF#32, 0#32, 0#32, 0#32, 0#32, 0#32⟩,
   ⟨0x121004, 4, 1, 0x200#32, 0x7FF#32, 0#32, 0#32, 0#32, 0#32, 0#32⟩,
   ⟨0x121008, 4, 2, 0#32, 0x7FF#32, 0#32, 0#32, 0#32, 0#32, 0#32⟩,
   ⟨0x121010, 4, 2, 0x200#32, 0x7FF#32, 0#32, 0#32, 0#32, 0#32, 0#32⟩,
   ⟨0x121018, 4, 122, 0#32, 0x7FF#32, 0#32, 0#32, 0#32, 0#32, 0#32⟩,
   ⟨0x10000, 4, 256, 0#32, 0xFFFFFFFF#32, 0#32, 0#32, 0#32, 0#32, 0#32⟩,
   ⟨0x20BC, 4, 1, 0#32, 0x1#32, 0#32, 0#32, 0#32, 0#32, 0#32⟩]

/-- Register rows of the SCORE page. -/
def regsScore : List RegSpec :=
  [⟨0x3000, 4, 1, 0#32, 0#32, 0#32, 0#32, 0xFFFF#32, 0#32, 0#32⟩,
   ⟨0x3004, 4, 1, 0#32, 0#32, 0#32, 0#32, 0#32, 0#32, 0#32⟩,
   ⟨0x3008, 4, 1, 0#32, 0#32, 0#32, 0#32, 0#32, 0#32, 0#32⟩,
   ⟨0x300C, 4, 1, 0#32, 0#32, 0#32, 0xFFFF#32, 0xFFFF#32, 0#32, 0#32⟩,
   ⟨0x3010, 4, 1, 0#32, 0#32, 0#32, 0xFFFF#32, 0xFFFF#32, 0#32, 0#32⟩,
   ⟨0x3014, 4, 1, 0#32, 0#32, 0#32, 0#32, 0x1FFFF#32, 0#32, 0#32⟩,
   ⟨0x130000, 32, 16, 0#32, 0x87FF07FF#32, 0#32, 0#32, 0x87FF07FF#32, 0#32, 0#32⟩,
   ⟨0x130004, 32, 16, 0#32, 0x1FF#32, 0#32, 0#32, 0x1FF#32, 0#32, 0#32⟩,
   ⟨0x130008, 32, 16, 0#32, 0xFFFFF#32, 0#32, 0#32, 0xFFFFF#32, 0#32, 0#32⟩,
   ⟨0x13000C, 32, 16, 0#32, 0xFFFFF#32, 0#32, 0#32, 0xFFFFF#32, 0#32, 0#32⟩,
   ⟨0x130010, 32, 16, 0#32, 0xFFFFF#32, 0#32, 0#32, 0xFFFFF#32, 0#32, 0#32⟩,
   ⟨0x130014, 32, 16, 0#32, 0xFFFFF#32, 0#32, 0#32, 0xFFFFF#32, 0#32, 0#32⟩,
   ⟨0x130018, 32, 16, 0#32, 0#32, 0#32, 0#32, 0x7FFFFFFF#32, 0#32, 0#32⟩,
   ⟨0x13001C, 32, 16, 0#32, 0#32, 0#32, 0#32, 0xFFFFFFFF#32, 0#32, 0#32⟩,
   ⟨0x30BC, 4, 1, 0#32, 0x1#32, 0#32, 0#32, 0#32, 0#32, 0#32⟩]

/-- Register rows of the KEYS page. -/
def regsKeys : List RegSpec :=
  [⟨0x4000, 4, 1, 0x10000#32, 0#32, 0xFFFFFFF#32, 0#32, 0xFFFFFFF#32, 0#32, 0#32⟩,
   ⟨0x4004, 4, 1, 0x1EA40020#32, 0#32, 0xFFFFFFFF#32, 0#32, 0xFFFFFFFF#32, 0#32, 0#32⟩,
   ⟨0x4008, 4, 1, 0x202#32, 0#32, 0x1F1F#32, 0#32, 0x1F1F#32, 0#32, 0#32⟩,
   ⟨0x400C, 4, 2, 0x40040148#32, 0#32, 0xFF07FFFF#32, 0#32, 0xFF07FFFF#32, 0#32, 0#32⟩,
   ⟨0x4014, 4, 2, 0x10000#32, 0#32, 0xFFFFFF#32, 0#32, 0xFFFFFF#32, 0#32, 0#32⟩,
   ⟨0x401C, 4, 1, 0x17220#32, 0#32, 0x1FFFF#32, 0#32, 0x1FFFF#32, 0#32, 0#32⟩,
   ⟨0x4020, 4, 1, 0x320C0030#32, 0#32, 0xFFFDFF3F#32, 0#32, 0xFFFDFF3F#32, 0#32, 0#32⟩,
   ⟨0x4024, 4, 1, 0#32, 0#32, 0#32, 0#32, 0#32, 0#32, 0#32⟩,
   ⟨0x4028, 4, 1, 0#32, 0#32, 0#32, 0x20000#32, 0xFFF7F#32, 0#32, 0#32⟩,
   ⟨0x402C, 4, 1, 0#32, 0#32, 0#32, 0#32, 0xFFFFFFFF#32, 0#32, 0#32⟩,
   ⟨0x4030, 4, 1, 0#32, 0#32, 0#32, 0#32, 0xFFFFFFFF#32, 0#32, 0#32⟩,
   ⟨0x4034, 4, 1, 0#32, 0#32, 0#32, 0#32, 0#32, 0#32, 0#32⟩,
   ⟨0x4038, 4, 1, 0#32, 0#32, 0#32, 0#32, 0x11FFF#32, 0xFF#32, 0xFF#32⟩,
   ⟨0x403C, 4, 2, 0#32, 0#32, 0#32, 0#32, 0xFFFFFFFF#32, 0#32, 0#32⟩,
   ⟨0x4044, 4, 1, 0#32, 0#32, 0#32, 0#32, 0xFFFF#32, 0#32, 0#32⟩,
   ⟨0x4048, 4, 2, 0#32, 0#32, 0#32, 0#32, 0xFFFFFFFF#32, 0#32, 0#32⟩,
   ⟨0x4050, 4, 2, 0#32, 0#32, 0#32, 0#32, 0xFFFFFFFF#32, 0#32, 0#32⟩,
   ⟨0x4058, 4, 2, 0#32, 0#32, 0#32, 0#32, 0xFFFFFFFF#32, 0xFFFFFFFF#32, 0#32⟩,
   ⟨0x4060, 4, 2, 0#32, 0#32, 0#32, 0#32, 0xFFFF#32, 0xFFFF#32, 0#32⟩,
   ⟨0x4068, 4, 2, 0#32, 0#32, 0#32, 0#32, 0xFFFFFFFF#32, 0#32, 0#32⟩,
   ⟨0x4070, 4, 1, 0#32, 0xFFFFFFFF#32, 0#32, 0#32, 0xFFFFFFFF#32, 0#32, 0#32⟩,
   ⟨0x40BC, 4, 1, 0#32, 0x1#32, 0#32, 0#32, 0#32, 0#32, 0#32⟩]

/-- Register rows of the SENSE page, part 1. -/
def regsSense0 : List RegSpec :=
  [⟨0x5000, 4, 1, 0x20048479#32, 0#32, 0xFFFFF47E#32, 0#32, 0xFFFFF47E#32, 0xFFFFF47E#32, 0#32⟩,
   ⟨0x5004, 4, 1, 0#32, 0#32, 0xFFFF#32, 0#32, 0xFFFF#32, 0xFFFF#32, 0#32⟩,
   ⟨0x5008, 4, 1, 0#32, 0#32, 0#32, 0#32, 0#32, 0#32, 0#32⟩,
   ⟨0x500C, 4, 1, 0#32, 0#32, 0#32, 0x302#32, 0x303#32, 0#32, 0#32⟩,
   ⟨0x5010, 4, 8, 0#32, 0#32, 0#32, 0#32, 0xFFFFFFFF#32, 0#32, 0#32⟩,
   ⟨0x5030, 4, 1, 0#32, 0#32, 0#32, 0#32, 0xFFFFFFFF#32, 0#32, 0#32⟩,
   ⟨0x5034, 4, 4, 0#32, 0#32, 0#32, 0#32, 0xFFFFFFFF#32, 0#32, 0#32⟩,
   ⟨0x5044, 4, 1, 0#32, 0#32, 0#32, 0#32, 0x3FFF3FFF#32, 0#32, 0#32⟩,
   ⟨0x5048, 4, 1, 0#32, 0#32, 0#32, 0#32, 0xFFFFFFFF#32, 0xFFFFFFFF#32, 0#32⟩,
   ⟨0x504C, 4, 1, 0#32, 0#32, 0#32, 0#32, 0xFF00FFFF#32, 0xFF00FFFF#32, 0#32⟩,
   ⟨0x5050, 4, 1, 0#32, 0#32, 0#32, 0#32, 0xFFFFFFFF#32, 0xFFFFFFFF#32, 0#32⟩,
   ⟨0x5054, 4, 1, 0#32, 0#32, 0#32, 0#32, 0xFFFF0133#32, 0#32, 0#32⟩,
   ⟨0x5058, 4, 1, 0xF010#32, 0#32, 0#32, 0#32, 0xFFFFFFFF#32, 0#32, 0#32⟩,
   ⟨0x505C, 4, 1, 0xF010#32, 0#32, 0x73F71F#32, 0#32, 0x73F71F#32, 0x73F71F#32, 0#32⟩,
   ⟨0x5060, 4, 1, 0xF010#32, 0#32, 0x73F71F#32, 0#32, 0x73F71F#32, 0x73F71F#32, 0#32⟩,
   ⟨0x5064, 4, 1, 0x317000#32, 0#32, 0x73F71F#32, 0#32, 0x73F71F#32, 0x73F71F#32, 0#32⟩,
   ⟨0x5068, 4, 1, 0x10B004#32, 0#32, 0x73F71F#32, 0#32, 0x73F71F#32, 0x73F71F#32, 0#32⟩,
   ⟨0x506C, 4, 1, 0x50F000#32, 0#32, 0x73F71F#32, 0#32, 0x73F71F#32, 0x73F71F#32, 0#32⟩,
   ⟨0x5070, 4, 1, 0#32, 0x7#32, 0#32, 0#32, 0x7#32, 0x7#32, 0#32⟩,
   ⟨0x5074, 4, 1, 0#32, 0#32, 0#32, 0#32, 0xF7#32, 0xF7#32, 0xF7#32⟩,
   ⟨0x5078, 4, 1, 0x8000104#32, 0#32, 0xFFFF01FF#32, 0#32, 0xFFFF01FF#32, 0xFFFF01FF#32, 0#32⟩,
   ⟨0x507C, 4, 1, 0#32, 0#32, 0#32, 0#32, 0x13F3F#32, 0x13F3F#32, 0x13F3F#32⟩,
   ⟨0x5080, 4, 1, 0x1CC0127#32, 0#32, 0x1FF01FF#32, 0#32, 0x1FF01FF#32, 0x1FF01FF#32, 0#32⟩,
   ⟨0x5084, 4, 1, 0xC600A2#32, 0#32, 0x1FF01FF#32, 0#32, 0x1FF01FF#32, 0x1FF01FF#32, 0#32⟩]

/-- Register rows of the SENSE page, part 2. -/
def regsSense1 : List RegSpec :=
  [⟨0x5088, 4, 1, 0x50003C#32, 0#32, 0x1FF01FF#32, 0#32, 0x1FF01FF#32, 0x1FF01FF#32, 0#32⟩,
   ⟨0x508C, 4, 1, 0x640050#32, 0#32, 0x1FF01FF#32, 0#32, 0x1FF01FF#32, 0x1FF01FF#32, 0#32⟩,
   ⟨0x5090, 4, 1, 0x7E0072#32, 0#32, 0x1FF01FF#32, 0#32, 0x1FF01FF#32, 0x1FF01FF#32, 0#32⟩,
   ⟨0x5094, 4, 1, 0xC600A2#32, 0#32, 0x1FF01FF#32, 0#32, 0x1FF01FF#32, 0x1FF01FF#32, 0#32⟩,
   ⟨0x150000, 4, 33, 0#32, 0#32, 0xFFFF#32, 0#32, 0xFFFF#32, 0xFFFF#32, 0#32⟩,
   ⟨0x150100, 4, 33, 0#32, 0#32, 0xFFFF#32, 0#32, 0xFFFF#32, 0xFFFF#32, 0#32⟩,
   ⟨0x150200, 8, 13, 0#32, 0#32, 0x3FFFFFFF#32, 0#32, 0x3FFFFFFF#32, 0x3FFFFFFF#32, 0#32⟩,
   ⟨0x150268, 8, 1, 0x10000640#32, 0#32, 0x3FFFFFFF#32, 0#32, 0x3FFFFFFF#32, 0x3FFFFFFF#32, 0#32⟩,
   ⟨0x150270, 8, 1, 0x10000CE4#32, 0#32, 0x3FFFFFFF#32, 0#32, 0x3FFFFFFF#32, 0x3FFFFFFF#32, 0#32⟩,
   ⟨0x150278, 8, 1, 0x10000BEA#32, 0#32, 0x3FFFFFFF#32, 0#32, 0x3FFFFFFF#32, 0x3FFFFFFF#32, 0#32⟩,
   ⟨0x150204, 8, 13, 0#32, 0#32, 0x77F#32, 0#32, 0xF10F7F#32, 0xF10F7F#32, 0#32⟩,
   ⟨0x15026C, 8, 1, 0x328#32, 0#32, 0x77F#32, 0#32, 0xF10F7F#32, 0xF10F7F#32, 0#32⟩,
   ⟨0x150274, 8, 1, 0x430#32, 0#32, 0x77F#32, 0#32, 0xF10F7F#32, 0xF10F7F#32, 0#32⟩,
   ⟨0x15027C, 8, 1, 0x530#32, 0#32, 0x77F#32, 0#32, 0xF10F7F#32, 0xF10F7F#32, 0#32⟩,
   ⟨0x50BC, 4, 1, 0#32, 0x1#32, 0#32, 0#32, 0#32, 0#32, 0#32⟩]

/-- Register rows of the SENSE page. -/
def regsSense : List RegSpec := regsSense0 ++ regsSense1

/-- Register rows of the TUNE page. -/
def regsTune : List RegSpec :=
  [⟨0x6000, 4, 1, 0x40#32, 0xFFF#32, 0#32, 0#32, 0xFFF#32, 0#32, 0#32⟩,
   ⟨0x6004, 4, 1, 0#32, 0xFFFF#32, 0#32, 0#32, 0xFFFF#32, 0#32, 0#32⟩,
   ⟨0x6008, 4, 1, 0#32, 0#32, 0#32, 0#32, 0#32, 0#32, 0#32⟩,
   ⟨0x600C, 4, 1, 0#32, 0#32, 0#32, 0#32, 0xFFFFFFFF#32, 0xFFFFFFFF#32, 0xFFFFFFFF#32⟩,
   ⟨0x6010, 4, 1, 0x20003C03#32, 0xFFFFFF03#32, 0#32, 0#32, 0xFFFFFF03#32, 0#32, 0#32⟩,
   ⟨0x6014, 4, 7, 0x20000003#32, 0xFFFFFF03#32, 0#32, 0#32, 0xFFFFFF03#32, 0#32, 0#32⟩,
   ⟨0x6030, 4, 8, 0#32, 0#32, 0#32, 0#32, 0xFFFFFFF7#32, 0xFFFFFFF7#32, 0#32⟩,
   ⟨0x6050, 4, 8, 0#32, 0#32, 0#32, 0#32, 0xFFFFFFFF#32, 0xFFFFFFFF#32, 0#32⟩,
   ⟨0x6070, 4, 8, 0#32, 0#32, 0#32, 0#32, 0xFFFFFFFF#32, 0xFFFFFFFF#32, 0#32⟩,
   ⟨0x6090, 4, 8, 0#32, 0#32, 0#32, 0#32, 0xFFFFFFFF#32, 0xFFFFFFFF#32, 0xFFFFFFFF#32⟩,
   ⟨0x60B0, 4, 1, 0#32, 0#32, 0#32, 0#32, 0xFF13#32, 0xFF13#32, 0xFF13#32⟩,
   ⟨0x160000, 8, 64, 0#32, 0#32, 0#32, 0#32, 0xFFFFFFFF#32, 0xFFFFFFFF#32, 0#32⟩,
   ⟨0x160004, 8, 64, 0#32, 0#32, 0#32, 0#32, 0xFFFFFF#32, 0xFFFFFF#32, 0#32⟩,
   ⟨0x160200, 8, 14, 0#32, 0xFFFFFFFF#32, 0#32, 0#32, 0xFFFFFFFF#32, 0#32, 0#32⟩,
   ⟨0x160204, 8, 14, 0#32, 0xFFFFFF#32, 0#32, 0#32, 0xFFFFFF#32, 0#32, 0#32⟩,
   ⟨0x60BC, 4, 1, 0#32, 0x1#32, 0#32, 0#32, 0#32, 0#32, 0#32⟩]

/-- Register rows of the JRNL page. -/
def regsJrnl : List RegSpec :=
  [⟨0x7000, 4, 1, 0#32, 0#32, 0#32, 0#32, 0xE0000FFF#32, 0xE0000FFF#32, 0xE0000FFF#32⟩,
   ⟨0x7004, 4, 1, 0x1200408#32, 0x1FFFFFF#32, 0#32, 0#32, 0x1FFFFFF#32, 0#32, 0#32⟩,
   ⟨0x7008, 4, 1, 0#32, 0#32, 0#32, 0#32, 0xFFFFFFFF#32, 0xFFFFFFFF#32, 0xFFFFFFFF#32⟩,
   ⟨0x700C, 4, 1, 0#32, 0#32, 0#32, 0#32, 0xFFF7FFF#32, 0xFFF7FFF#32, 0xFFF7FFF#32⟩,
   ⟨0x7010, 4, 1, 0#32, 0#32, 0#32, 0x80000000#32, 0x80000FFF#32, 0#32, 0#32⟩,
   ⟨0x7014, 4, 1, 0#32, 0#32, 0#32, 0#32, 0xFFFFFFFF#32, 0#32, 0#32⟩,
   ⟨0x7018, 4, 1, 0#32, 0#32, 0#32, 0#32, 0xFFFFFFFF#32, 0xFFFFFFFF#32, 0xFFFFFFFF#32⟩,
   ⟨0x701C, 4, 1, 0#32, 0xFF#32, 0#32, 0#32, 0#32, 0#32, 0#32⟩,
   ⟨0x7020, 8, 8, 0#32, 0#32, 0#32, 0#32, 0xFFFFFFFF#32, 0xFFFFFFFF#32, 0xFFFFFFFF#32⟩,
   ⟨0x7024, 8, 8, 0#32, 0#32, 0#32, 0#32, 0x80FFFFFF#32, 0x80FFFFFF#32, 0x80FFFFFF#32⟩,
   ⟨0x7060, 4, 8, 0#32, 0#32, 0#32, 0#32, 0xFFFFFFFF#32, 0xFFFFFFFF#32, 0#32⟩,
   ⟨0x7080, 4, 4, 0#32, 0xFFFFFFFF#32, 0#32, 0#32, 0#32, 0#32, 0#32⟩,
   ⟨0x7090, 4, 1, 0#32, 0#32, 0#32, 0#32, 0#32, 0#32, 0#32⟩,
   ⟨0x7094, 4, 4, 0#32, 0#32, 0#32, 0#32, 0#32, 0#32, 0#32⟩,
   ⟨0x170000, 4, 128, 0#32, 0#32, 0#32, 0#32, 0x7FFFFFFF#32, 0x7FFFFFFF#32, 0x7FFFFFFF#32⟩,
   ⟨0x170200, 4, 16, 0#32, 0#32, 0#32, 0#32, 0xFFFFFFFF#32, 0xFFFFFFFF#32, 0xFFFFFFFF#32⟩,
   ⟨0x70BC, 4, 1, 0#32, 0x1#32, 0#32, 0#32, 0#32, 0#32, 0#32⟩]

/-- Register rows of the INTAKE page. -/
def regsIntake : List RegSpec :=
  [⟨0x8000, 4, 1, 0#32, 0#32, 0x77F#32, 0#32, 0x77F#32, 0#32, 0#32⟩,
   ⟨0x8004, 4, 1, 0xA01#32, 0xFFFFFF03#32, 0#32, 0#32, 0xFFFFFF03#32, 0#32, 0#32⟩,
   ⟨0x8008, 4, 1, 0#32, 0#32, 0#32, 0#32, 0#32, 0#32, 0#32⟩,
   ⟨0x800C, 4, 1, 0x4#32, 0#32, 0#32, 0x20000#32, 0x3001F#32, 0#32, 0#32⟩,
   ⟨0x8010, 4, 1, 0#32, 0#32, 0#32, 0xFFFF#32, 0xFFFF#32, 0#32, 0#32⟩,
   ⟨0x8014, 4, 1, 0#32, 0#32, 0#32, 0#32, 0xFFFFFFFF#32, 0#32, 0#32⟩,
   ⟨0x8018, 4, 1, 0#32, 0#32, 0#32, 0#32, 0#32, 0#32, 0#32⟩,
   ⟨0x801C, 4, 1, 0#32, 0#32, 0#32, 0#32, 0#32, 0#32, 0#32⟩,
   ⟨0x8020, 4, 1, 0#32, 0xFFF0FFF#32, 0#32, 0#32, 0#32, 0#32, 0#32⟩,
   ⟨0x8024, 4, 1, 0#32, 0xFFF0FFF#32, 0#32, 0#32, 0#32, 0#32, 0#32⟩,
   ⟨0x8028, 4, 1, 0#32, 0#32, 0#32, 0#32, 0#32, 0#32, 0#32⟩,
   ⟨0x802C, 4, 1, 0#32, 0#32, 0#32, 0#32, 0#32, 0#32, 0#32⟩,
   ⟨0x8030, 4, 1, 0#32, 0#32, 0#32, 0#32, 0#32, 0#32, 0#32⟩,
   ⟨0x8040, 4, 8, 0#32, 0#32, 0#32, 0#32, 0xFFFFFFFF#32, 0#32, 0#32⟩,
   ⟨0x180000, 32, 8, 0#32, 0x7FFFFF#32, 0#32, 0#32, 0x7FFFFF#32, 0#32, 0#32⟩,
   ⟨0x180004, 32, 8, 0#32, 0x7FFFFF#32, 0#32, 0#32, 0x7FFFFF#32, 0#32, 0#32⟩,
   ⟨0x180008, 32, 8, 0#32, 0x7FFFFF#32, 0#32, 0#32, 0x7FFFFF#32, 0#32, 0#32⟩,
   ⟨0x18000C, 32, 8, 0#32, 0x7FFFFF#32, 0#32, 0#32, 0x7FFFFF#32, 0#32, 0#32⟩,
   ⟨0x180010, 32, 8, 0#32, 0xFFFFFFFF#32, 0#32, 0#32, 0xFFFFFFFF#32, 0#32, 0#32⟩,
   ⟨0x180014, 32, 8, 0#32, 0xFFFF03FF#32, 0#32, 0#32, 0xFFFF03FF#32, 0#32, 0#32⟩,
   ⟨0x180018, 32, 8, 0#32, 0#32, 0#32, 0#32, 0xFFFF01FF#32, 0#32, 0#32⟩,
   ⟨0x18001C, 32, 8, 0#32, 0#32, 0#32, 0#32, 0xFFFFFFFF#32, 0#32, 0#32⟩,
   ⟨0x80BC, 4, 1, 0#32, 0x1#32, 0#32, 0#32, 0#32, 0#32, 0#32⟩]

/-- Register rows of the SCAN page, part 1. -/
def regsScan0 : List RegSpec :=
  [⟨0x9000, 4, 1, 0x2C3C00#32, 0#32, 0xFFFF13#32, 0#32, 0xFFFF13#32, 0#32, 0#32⟩,
   ⟨0x9004, 4, 1, 0x1680168#32, 0#32, 0xFFF0FFF#32, 0#32, 0xFFF0FFF#32, 0#32, 0#32⟩,
   ⟨0x9008, 4, 1, 0x1002010#32, 0#32, 0x3FFFFFFF#32, 0#32, 0x3FFFFFFF#32, 0#32, 0#32⟩,
   ⟨0x900C, 4, 1, 0x600808#32, 0#32, 0x3FFFFFFF#32, 0#32, 0x3FFFFFFF#32, 0#32, 0#32⟩,
   ⟨0x9010, 4, 1, 0#32, 0#32, 0xF0F#32, 0#32, 0xF0F#32, 0#32, 0#32⟩,
   ⟨0x9014, 4, 1, 0#32, 0#32, 0xFFF0FFF#32, 0#32, 0xFFF0FFF#32, 0#32, 0#32⟩,
   ⟨0x9018, 4, 1, 0x53C#32, 0#32, 0x800007FF#32, 0#32, 0x800007FF#32, 0#32, 0#32⟩,
   ⟨0x901C, 4, 1, 0x80030078#32, 0#32, 0x80FFFFFF#32, 0#32, 0x80FFFFFF#32, 0#32, 0#32⟩,
   ⟨0x9020, 4, 1, 0x3#32, 0#32, 0x8000030F#32, 0#32, 0x8000030F#32, 0#32, 0#32⟩,
   ⟨0x9024, 4, 1, 0#32, 0#32, 0#32, 0#32, 0#32, 0#32, 0#32⟩,
   ⟨0x9028, 4, 1, 0#32, 0#32, 0#32, 0#32, 0#32, 0#32, 0#32⟩,
   ⟨0x902C, 4, 1, 0#32, 0#32, 0#32, 0x1E0000#32, 0#32, 0#32, 0#32⟩,
   ⟨0x9030, 4, 1, 0#32, 0#32, 0#32, 0#32, 0xFFFFFFFF#32, 0#32, 0#32⟩,
   ⟨0x9034, 4, 1, 0#32, 0#32, 0#32, 0#32, 0#32, 0#32, 0#32⟩,
   ⟨0x9038, 4, 1, 0#32, 0#32, 0#32, 0#32, 0#32, 0#32, 0#32⟩,
   ⟨0x903C, 4, 1, 0#32, 0#32, 0#32, 0#32, 0#32, 0#32, 0#32⟩,
   ⟨0x9040, 4, 1, 0#32, 0#32, 0#32, 0#32, 0#32, 0#32, 0#32⟩,
   ⟨0x9044, 4, 1, 0#32, 0#32, 0#32, 0#32, 0#32, 0#32, 0#32⟩,
   ⟨0x9048, 4, 1, 0#32, 0#32, 0#32, 0#32, 0#32, 0#32, 0#32⟩,
   ⟨0x904C, 4, 5, 0#32, 0#32, 0#32, 0#32, 0#32, 0#32, 0#32⟩,
   ⟨0x9060, 4, 1, 0#32, 0#32, 0#32, 0x1F#32, 0#32, 0#32, 0#32⟩,
   ⟨0x190000, 8, 4, 0#32, 0#32, 0xFFF0FFF#32, 0#32, 0xFFF0FFF#32, 0#32, 0#32⟩,
   ⟨0x190004, 8, 4, 0#32, 0#32, 0xFFF0FFF#32, 0#32, 0xFFF0FFF#32, 0#32, 0#32⟩,
   ⟨0x190020, 4, 5, 0#32, 0#32, 0x7FF03#32, 0#32, 0x7FF03#32, 0#32, 0#32⟩]

/-- Register rows of the SCAN page, part 2. -/
def regsScan1 : List RegSpec :=
  [⟨0x190040, 4, 5, 0#32, 0#32, 0#32, 0#32, 0#32, 0#32, 0#32⟩,
   ⟨0x190100, 4, 32, 0#32, 0#32, 0#32, 0#32, 0#32, 0#32, 0#32⟩,
   ⟨0x90BC, 4, 1, 0#32, 0x1#32, 0#32, 0#32, 0#32, 0#32, 0#32⟩]

/-- Register rows of the SCAN page. -/
def regsScan : List RegSpec := regsScan0 ++ regsScan1

/-- Register rows of the PIPE page, part 1. -/
def regsPipe0 : List RegSpec :=
  [⟨0xA000, 4, 1, 0x320002#32, 0#32, 0x333317#32, 0#32, 0x333317#32, 0#32, 0#32⟩,
   ⟨0xA004, 4, 1, 0#32, 0#32, 0x3FFFFFFF#32, 0#32, 0x3FFFFFFF#32, 0#32, 0#32⟩,
   ⟨0xA008, 4, 4, 0#32, 0#32, 0xFFFFFFFF#32, 0#32, 0xFFFFFFFF#32, 0#32, 0#32⟩,
   ⟨0xA018, 4, 1, 0#32, 0#32, 0xFFFF#32, 0#32, 0xFFFF#32, 0#32, 0#32⟩,
   ⟨0xA01C, 4, 1, 0#32, 0#32, 0x3FFFFFFF#32, 0#32, 0x3FFFFFFF#32, 0#32, 0#32⟩,
   ⟨0xA020, 4, 1, 0#32, 0#32, 0x3FFFFFFF#32, 0#32, 0x3FFFFFFF#32, 0#32, 0#32⟩,
   ⟨0xA024, 4, 1, 0x10008#32, 0#32, 0x71F1F#32, 0#32, 0x71F1F#32, 0#32, 0#32⟩,
   ⟨0xA028, 4, 3, 0#32, 0#32, 0x7FFFFF#32, 0#32, 0x7FFFFF#32, 0#32, 0#32⟩,
   ⟨0xA034, 4, 1, 0x202#32, 0#32, 0x3FF030F#32, 0#32, 0x3FF030F#32, 0#32, 0#32⟩,
   ⟨0xA038, 4, 1, 0xF00000#32, 0#32, 0xFFFFFFFF#32, 0#32, 0xFFFFFFFF#32, 0#32, 0#32⟩,
   ⟨0xA03C, 4, 1, 0x1E0#32, 0#32, 0xFFFF#32, 0#32, 0xFFFF#32, 0#32, 0#32⟩,
   ⟨0xA040, 4, 1, 0#32, 0#32, 0x7FFFFF#32, 0#32, 0x7FFFFF#32, 0#32, 0#32⟩,
   ⟨0xA044, 4, 1, 0x1000#32, 0#32, 0x1FFF#32, 0#32, 0x1FFF#32, 0#32, 0#32⟩,
   ⟨0xA048, 4, 1, 0#32, 0#32, 0#32, 0#32, 0#32, 0#32, 0#32⟩,
   ⟨0xA04C, 4, 1, 0x20000#32, 0#32, 0#32, 0x80600#32, 0x3F070F#32, 0#32, 0#32⟩,
   ⟨0xA050, 4, 1, 0#32, 0#32, 0#32, 0#32, 0xFFFF#32, 0#32, 0#32⟩,
   ⟨0xA054, 4, 1, 0#32, 0#32, 0#32, 0#32, 0xFFFFFFFF#32, 0#32, 0#32⟩,
   ⟨0xA058, 4, 1, 0x1000#32, 0#32, 0#32, 0#32, 0x1FFF#32, 0#32, 0#32⟩,
   ⟨0xA05C, 4, 1, 0#32, 0#32, 0#32, 0#32, 0xFFFFFF#32, 0#32, 0#32⟩,
   ⟨0xA060, 4, 1, 0#32, 0#32, 0#32, 0#32, 0xFFFFFFFF#32, 0#32, 0#32⟩,
   ⟨0x1A0000, 4, 3072, 0#32, 0#32, 0xFFF#32, 0#32, 0xFFF#32, 0#32, 0#32⟩,
   ⟨0x1A4000, 4, 289, 0#32, 0#32, 0x1FFF#32, 0#32, 0x1FFF#32, 0#32, 0#32⟩,
   ⟨0x1A4800, 4, 289, 0#32, 0#32, 0x1FFF#32, 0#32, 0x1FFF#32, 0#32, 0#32⟩,
   ⟨0x1A5000, 4, 289, 0#32, 0#32, 0x1FFF#32, 0#32, 0x1FFF#32, 0#32, 0#32⟩]

/-- Register rows of the PIPE page, part 2. -/
def regsPipe1 : List RegSpec :=
  [⟨0x1A6000, 4, 289, 0#32, 0#32, 0x1FFF#32, 0#32, 0x1FFF#32, 0#32, 0#32⟩,
   ⟨0x1A6800, 4, 289, 0#32, 0#32, 0x1FFF#32, 0#32, 0x1FFF#32, 0#32, 0#32⟩,
   ⟨0x1A7000, 4, 289, 0#32, 0#32, 0x1FFF#32, 0#32, 0x1FFF#32, 0#32, 0#32⟩,
   ⟨0x1A8000, 4, 289, 0#32, 0#32, 0x1FFF#32, 0#32, 0x1FFF#32, 0#32, 0#32⟩,
   ⟨0x1A8800, 4, 289, 0#32, 0#32, 0x1FFF#32, 0#32, 0x1FFF#32, 0#32, 0#32⟩,
   ⟨0x1A9000, 4, 289, 0#32, 0#32, 0x1FFF#32, 0#32, 0x1FFF#32, 0#32, 0#32⟩,
   ⟨0x1AA000, 4, 289, 0#32, 0#32, 0x1FFF#32, 0#32, 0x1FFF#32, 0#32, 0#32⟩,
   ⟨0x1AA800, 4, 289, 0#32, 0#32, 0x1FFF#32, 0#32, 0x1FFF#32, 0#32, 0#32⟩,
   ⟨0x1AB000, 4, 289, 0#32, 0#32, 0x1FFF#32, 0#32, 0x1FFF#32, 0#32, 0#32⟩,
   ⟨0x1AC000, 4, 2048, 0#32, 0#32, 0x3FFFFFFF#32, 0#32, 0x3FFFFFFF#32, 0#32, 0#32⟩,
   ⟨0xA0BC, 4, 1, 0#32, 0x1#32, 0#32, 0#32, 0#32, 0#32, 0#32⟩]

/-- Register rows of the PIPE page. -/
def regsPipe : List RegSpec := regsPipe0 ++ regsPipe1

/-- Register rows of the STAVE page. -/
def regsStave : List RegSpec :=
  [⟨0xB000, 4, 1, 0x1101#32, 0#32, 0x1333#32, 0#32, 0x1333#32, 0#32, 0#32⟩,
   ⟨0xB004, 4, 1, 0xB400B4#32, 0#32, 0x1FF01FF#32, 0#32, 0x1FF01FF#32, 0#32, 0#32⟩,
   ⟨0xB008, 4, 1, 0#32, 0#32, 0x1FF01FF#32, 0#32, 0x1FF01FF#32, 0#32, 0#32⟩,
   ⟨0xB00C, 4, 1, 0x80003#32, 0#32, 0xFF0377#32, 0#32, 0xFF0377#32, 0#32, 0#32⟩,
   ⟨0xB010, 4, 1, 0x8#32, 0#32, 0x7FF07FF#32, 0#32, 0x7FF07FF#32, 0#32, 0#32⟩,
   ⟨0xB014, 4, 1, 0x3040020#32, 0#32, 0xF0FFFFF#32, 0#32, 0xF0FFFFF#32, 0#32, 0#32⟩,
   ⟨0xB018, 4, 1, 0#32, 0#32, 0xFFFFFFFF#32, 0#32, 0xFFFFFFFF#32, 0#32, 0#32⟩,
   ⟨0xB01C, 4, 1, 0x30A#32, 0#32, 0x3FF#32, 0#32, 0x3FF#32, 0#32, 0#32⟩,
   ⟨0xB020, 4, 1, 0x21212121#32, 0#32, 0xFFFFFFFF#32, 0#32, 0xFFFFFFFF#32, 0#32, 0#32⟩,
   ⟨0xB024, 4, 1, 0x21212121#32, 0#32, 0xFFFFFFFF#32, 0#32, 0xFFFFFFFF#32, 0#32, 0#32⟩,
   ⟨0xB028, 4, 1, 0xCCD000F#32, 0#32, 0xFFFF000F#32, 0#32, 0xFFFF000F#32, 0#32, 0#32⟩,
   ⟨0xB02C, 4, 1, 0x800A00C8#32, 0#32, 0x80FF0FFF#32, 0#32, 0x80FF0FFF#32, 0#32, 0#32⟩,
   ⟨0xB030, 4, 1, 0#32, 0#32, 0#32, 0#32, 0#32, 0#32, 0#32⟩,
   ⟨0xB034, 4, 1, 0#32, 0#32, 0#32, 0#32, 0#32, 0#32, 0#32⟩,
   ⟨0xB038, 4, 1, 0#32, 0#32, 0#32, 0x60260#32, 0xF703F7#32, 0#32, 0#32⟩,
   ⟨0xB03C, 4, 1, 0#32, 0#32, 0#32, 0#32, 0xFF7#32, 0#32, 0#32⟩,
   ⟨0xB040, 4, 1, 0#32, 0#32, 0#32, 0#32, 0xFFFFFFFF#32, 0#32, 0#32⟩,
   ⟨0xB044, 4, 1, 0#32, 0#32, 0#32, 0#32, 0x80FF0003#32, 0#32, 0#32⟩,
   ⟨0xB048, 4, 1, 0#32, 0#32, 0#32, 0#32, 0x3F3F3F3F#32, 0x3F3F3F3F#32, 0x3F3F3F3F#32⟩,
   ⟨0x1B0000, 4, 4, 0#32, 0#32, 0xFFFFFFFF#32, 0#32, 0xFFFFFFFF#32, 0#32, 0#32⟩,
   ⟨0xB0BC, 4, 1, 0#32, 0x1#32, 0#32, 0#32, 0#32, 0#32, 0#32⟩]

/-- Register rows of the FACE page. -/
def regsFace : List RegSpec :=
  [⟨0xC000, 4, 1, 0x50304#32, 0#32, 0xFF0F07#32, 0#32, 0xFF0F07#32, 0#32, 0#32⟩,
   ⟨0xC004, 4, 1, 0#32, 0#32, 0x3FFFFFFF#32, 0#32, 0x3FFFFFFF#32, 0#32, 0#32⟩,
   ⟨0xC008, 4, 8, 0#32, 0#32, 0x3FFFFFFF#32, 0#32, 0x3FFFFFFF#32, 0#32, 0#32⟩,
   ⟨0xC028, 4, 1, 0#32, 0xFFFFFFFF#32, 0#32, 0#32, 0xFFFFFFFF#32, 0xFFFFFFFF#32, 0#32⟩,
   ⟨0xC02C, 4, 1, 0#32, 0xFFFF#32, 0#32, 0#32, 0xFFFF#32, 0xFFFF#32, 0#32⟩,
   ⟨0xC030, 4, 1, 0#32, 0#32, 0#32, 0#32, 0#32, 0#32, 0#32⟩,
   ⟨0xC034, 4, 1, 0#32, 0#32, 0#32, 0#32, 0#32, 0#32, 0#32⟩,
   ⟨0xC038, 4, 1, 0#32, 0#32, 0#32, 0xFFF0006#32, 0xFFF03F7#32, 0#32, 0#32⟩,
   ⟨0xC03C, 4, 1, 0#32, 0#32, 0#32, 0#32, 0xFFFFFFFF#32, 0#32, 0#32⟩,
   ⟨0xC040, 4, 1, 0#32, 0#32, 0#32, 0#32, 0xFFFFFFFF#32, 0#32, 0#32⟩,
   ⟨0xC044, 4, 1, 0#32, 0#32, 0#32, 0#32, 0xFFFFFFFF#32, 0xFFFFFFFF#32, 0xFFFFFFFF#32⟩,
   ⟨0xC048, 4, 12, 0#32, 0#32, 0#32, 0#32, 0xF7FFFFFF#32, 0#32, 0#32⟩,
   ⟨0x1C0000, 16, 12, 0#32, 0#32, 0x8FFF0FFF#32, 0#32, 0x8FFF0FFF#32, 0#32, 0#32⟩,
   ⟨0x1C0004, 16, 12, 0#32, 0#32, 0xFF0FF3FF#32, 0#32, 0xFF0FF3FF#32, 0#32, 0#32⟩,
   ⟨0x1C0008, 16, 12, 0#32, 0#32, 0xFFFFFF#32, 0#32, 0xFFFFFF#32, 0#32, 0#32⟩,
   ⟨0x1C000C, 16, 12, 0#32, 0#32, 0x1FFFFF#32, 0#32, 0x1FFFFF#32, 0#32, 0#32⟩,
   ⟨0x1C0100, 4, 256, 0#32, 0#32, 0x7FFFFFF#32, 0#32, 0x7FFFFFF#32, 0#32, 0#32⟩,
   ⟨0xC0BC, 4, 1, 0#32, 0x1#32, 0#32, 0#32, 0#32, 0#32, 0#32⟩]

/-- Register rows of the ENS page. -/
def regsEns : List RegSpec :=
  [⟨0xD000, 4, 1, 0x10A04#32, 0#32, 0x1FF0F#32, 0#32, 0x1FF0F#32, 0#32, 0#32⟩,
   ⟨0xD004, 4, 1, 0#32, 0#32, 0#32, 0#32, 0#32, 0#32, 0#32⟩,
   ⟨0xD008, 4, 1, 0x100000#32, 0#32, 0#32, 0x2#32, 0#32, 0#32, 0#32⟩,
   ⟨0xD00C, 4, 1, 0#32, 0#32, 0#32, 0#32, 0#32, 0#32, 0#32⟩,
   ⟨0xD010, 4, 1, 0#32, 0#32, 0#32, 0#32, 0#32, 0#32, 0#32⟩,
   ⟨0xD014, 4, 1, 0#32, 0#32, 0#32, 0#32, 0#32, 0#32, 0#32⟩,
   ⟨0xD018, 4, 1, 0#32, 0#32, 0#32, 0#32, 0#32, 0#32, 0#32⟩,
   ⟨0xD01C, 4, 1, 0#32, 0#32, 0#32, 0#32, 0#32, 0#32, 0#32⟩,
   ⟨0xD020, 4, 1, 0#32, 0#32, 0#32, 0#32, 0#32, 0#32, 0#32⟩,
   ⟨0xD024, 4, 1, 0#32, 0#32, 0#32, 0#32, 0#32, 0#32, 0#32⟩,
   ⟨0xD028, 4, 1, 0#32, 0#32, 0#32, 0#32, 0#32, 0#32, 0#32⟩,
   ⟨0xD02C, 4, 1, 0#32, 0#32, 0#32, 0#32, 0#32, 0#32, 0#32⟩,
   ⟨0xD030, 4, 1, 0#32, 0#32, 0#32, 0#32, 0#32, 0#32, 0#32⟩,
   ⟨0xD034, 4, 1, 0#32, 0#32, 0#32, 0#32, 0#32, 0#32, 0#32⟩,
   ⟨0xD038, 4, 1, 0#32, 0#32, 0#32, 0#32, 0#32, 0#32, 0#32⟩,
   ⟨0xD040, 4, 4, 0#32, 0xFFFFFFFF#32, 0#32, 0#32, 0#32, 0#32, 0#32⟩,
   ⟨0xD050, 4, 1, 0#32, 0#32, 0#32, 0#32, 0#32, 0#32, 0#32⟩,
   ⟨0xD054, 4, 1, 0#32, 0#32, 0#32, 0#32, 0#32, 0#32, 0#32⟩,
   ⟨0xD058, 4, 4, 0#32, 0#32, 0#32, 0#32, 0#32, 0#32, 0#32⟩,
   ⟨0xD0BC, 4, 1, 0#32, 0x1#32, 0#32, 0#32, 0#32, 0#32, 0#32⟩]

/-- Register rows of the BUS page. -/
def regsBus : List RegSpec :=
  [⟨0xE000, 4, 2, 0x101#32, 0x103#32, 0#32, 0#32, 0x103#32, 0#32, 0#32⟩,
   ⟨0xE008, 4, 2, 0x10800#32, 0x11F03#32, 0#32, 0#32, 0x11F03#32, 0#32, 0#32⟩,
   ⟨0xE010, 4, 1, 0#32, 0xFF#32, 0#32, 0#32, 0xFF#32, 0#32, 0#32⟩,
   ⟨0xE014, 4, 1, 0#32, 0#32, 0#32, 0#32, 0#32, 0#32, 0#32⟩,
   ⟨0xE018, 4, 1, 0#32, 0#32, 0#32, 0x80000000#32, 0x800FF37F#32, 0#32, 0#32⟩,
   ⟨0xE0BC, 4, 1, 0#32, 0x1#32, 0#32, 0#32, 0#32, 0#32, 0#32⟩]

/-- The page that a register page, a table window or the doorbells belong to (Tables 5-7 and 5-8); 15 where none does. -/
def pageOf (a : Nat) : Nat :=
  if a < 0xF000 then a / 0x1000
  else if 0x10000 ≤ a ∧ a < 0x10400 then 2
  else if 0x100000 ≤ a ∧ a < 0x1F0000 then (a - 0x100000) / 0x10000
  else 15

/-- The register rows of a page by its number (Table 5-8). -/
def pageRegs (p : Nat) : List RegSpec :=
  match p with

  | 0 => regsDev
  | 1 => regsHport
  | 2 => regsCue
  | 3 => regsScore
  | 4 => regsKeys
  | 5 => regsSense
  | 6 => regsTune
  | 7 => regsJrnl
  | 8 => regsIntake
  | 9 => regsScan
  | 10 => regsPipe
  | 11 => regsStave
  | 12 => regsFace
  | 13 => regsEns
  | 14 => regsBus
  | _ => []

/-- The row covers an offset. -/
def RegSpec.covers (r : RegSpec) (a : Nat) : Bool :=
  decide (r.base ≤ a) && decide (a < r.base + r.stride * r.count) && (a - r.base) % r.stride == 0

/-- The register row of an offset, if a register or table word occupies it. -/
def regSpec (a : Nat) : Option RegSpec := (pageRegs (pageOf a)).find? (fun r => r.covers a)

/-- The value of a register or table word after POR (Table 0-5); an unoccupied offset reads 0 (R6). -/
def porWord (a : Nat) : Word :=
  match regSpec a with
  | some r => r.por
  | none => 0#32

end Sys2Proof.Machine
end

