-- ==== Sys2Proof/Machine/State.lean ====
section
/-!
DEFINITION. The state of the PNX7740 as plain data, the ways a command can stop, and the state right after POR.
-/

namespace Sys2Proof.Machine

/-! ### Pins and the TAP (02) -/

/-- The TAP controller of IEEE 1149.1 (R47). -/
inductive TapState where
  | testLogicReset | runTestIdle
  | selectDr | captureDr | shiftDr | exit1Dr | pauseDr | exit2Dr | updateDr
  | selectIr | captureIr | shiftIr | exit1Ir | pauseIr | exit2Ir | updateIr
  deriving DecidableEq, Repr

/-- The boundary-scan port (R47): controller, instruction and data registers, and the level of TDO where it is driven. -/
structure Tap where
  state : TapState := .testLogicReset
  irShift : BitVec 4 := 0xF#4
  ir : BitVec 4 := 0xF#4
  bypass : Bool := false
  shift : BitVec 243 := 0#243
  cells : BitVec 243 := 0#243
  tdo : Option Bool := none
  deriving DecidableEq, Repr

/-- Levels at the bumps that the part drives or samples (Table 2-5). Outputs are what the owner drives; the pad latches
of R43 hold theirs until the owner first drives. pseqAt, pnlAt and chgAt are the levels at the start of the tick. -/
structure Pins where
  pseqEn : BitVec 12 := 0#12
  pseqLatched : BitVec 12 := 0#12
  pnlEn : BitVec 4 := 0#4
  pnlLatched : BitVec 4 := 0#4
  chgEnLow : Bool := false
  chgLatched : Bool := false
  supReq : Bool := true
  alive : Bool := false
  resetN : Bool := true
  chgStat : Bool := true
  kbtn0 : Bool := false
  pg : BitVec 13 := 0#13
  dsiTe : Bool := false
  pseqAt : BitVec 12 := 0#12
  pnlAt : BitVec 4 := 0#4
  chgAt : Bool := false
  deriving DecidableEq, Repr

/-! ### Events (R26, R27) -/

/-- The pending flag of one event: raises held while CORE is stopped, or for a ring that cannot take them (R136). -/
structure EvFlag where
  event : Nat
  count : Nat
  arg : Word
  tick : BitVec 48
  ringOnly : Bool
  deriving DecidableEq, Repr

/-- A raise that Score inputs, durable counters and FACE have still to count: its event, its argument, and the AO edges until
the tick that counts it (R12, R26, R143). -/
structure Raise where
  event : Nat
  arg : Word
  edges : Nat
  deriving DecidableEq, Repr

/-! ### The ladder (03) -/

/-- What clocks CORE. -/
inductive CoreClock where
  | stopped
  | fastRc
  | burst
  | pll (freq : Nat)
  deriving DecidableEq, Repr

/-- The step a ladder move waits to take (Tables 3-3 and 3-5). -/
inductive MoveStep where
  | none
  | jobsIdle | frame | panel | coreStop | fermata | task1
  | coreStart | pllSwitch | banks
  deriving DecidableEq, Repr

/-- The cause of a move, in the code of EV_LADDER_STATE (Table 3-8); boot is the descent of R83, whose code the table does not
give. -/
inductive MoveCause where
  | register | verb | score | idle | forced | wake | boot
  deriving DecidableEq, Repr

/-- The ladder controller beside its registers. -/
structure Ladder where
  core : CoreClock := .stopped
  step : MoveStep := .none
  start : Nat := 0
  cause : MoveCause := .register
  byRing : Option Nat := none
  capped : Bool := false
  ceilThermal : Nat := 0
  ceilBattery : Nat := 0
  ceilSupply : Nat := 0
  wokeAt : Option (BitVec 48) := none
  wakeDue : Bool := false
  d10At : BitVec 48 := 0#48
  idleCount : Nat := 0
  burstOn : Bool := false
  burstFrom : BitVec 48 := 0#48
  tokens : Nat := 0
  refillFrom : BitVec 48 := 0#48
  vcoreAt : Option (BitVec 48) := none
  pllLocked : Bool := false
  refillRings : Bool := false
  deriving DecidableEq, Repr

/-! ### Starts and resets (04) -/

/-- Where the start sequence of Table 4-2 stands. -/
inductive BootStep where
  | por | reset | supplies | tuning | released | tacet
  deriving DecidableEq, Repr

/-- Reset controller, start sequence, watchdog and AO clock beside their registers: the step of the start and whether it
follows POR or a TACET exit; the ticks of its beginning, of B3, B6 and host release; a SYSTEM and a CORE reset that is applied,
with the tick at which it may end and the clock CORE had; the cause of a CORE reset that waits for a move; the rails of R83 still
to be raised, the last one raised and its tick; and whether the watchdog has warned since the last kick or restart. -/
structure Boot where
  step : BootStep := .por
  cold : Bool := true
  startAt : BitVec 48 := 0#48
  b3At : BitVec 48 := 0#48
  b6At : BitVec 48 := 0#48
  releasedAt : BitVec 48 := 0#48
  sysHeld : Bool := false
  sysUntil : BitVec 48 := 0#48
  coreHeld : Bool := false
  coreUntil : BitVec 48 := 0#48
  coreWas : CoreClock := .stopped
  coreWaiting : Option Nat := none
  railsLeft : List Nat := []
  railWait : Bool := false
  railLast : Nat := 0
  railAt : BitVec 48 := 0#48
  wdogEarlyDone : Bool := false
  deriving DecidableEq, Repr

/-! ### Host ports (05) -/

/-- A word in a port's write buffer (R102). -/
structure BufWord where
  client : Nat
  off : Nat
  val : Word
  deriving DecidableEq, Repr

/-- A host word in the crossing unit: its port and the AO edges until it is in force (R12, R13). -/
structure Crossing where
  port : Port
  word : BufWord
  edges : Nat
  deriving DecidableEq, Repr

/-- A host port: its write buffer, the RESET_ENABLE arming of port A, a RESET that waits for the buffer to empty (R103) and
the bytes the last read select returned (the model's own record of what the port sent). -/
structure PortSt where
  wbuf : List BufWord := []
  armed : Bool := false
  resetDue : Bool := false
  sent : List Byte := []
  deriving DecidableEq, Repr

/-! ### Cue rings (06) -/

/-- An entry that waits to be written to a part-to-host ring (Tables 6-4 to 6-7). final marks a completion that finishes
its submission entry. -/
inductive OutEntry where
  | completion (tag verb status sqIndex sqRing : Nat) (res : List Word) (final : Bool)
  | event (number count : Nat) (arg : Word) (tick : BitVec 48)
  | keys (ws : List (BitVec 64))
  | sample (task step : Nat) (tick : Word) (data : List Byte)
  | log (page code : Nat) (tick : Word) (data : List Byte)
  | message (payload : List Word) (srcRing srcClient : Nat)
  deriving DecidableEq, Repr

/-- What a verb that has begun waits for. -/
inductive Wait where
  | commit (page : Nat) (result : Option Nat)
  | ladder
  | fence (target mark : Nat)
  | ringFill (target : Nat)
  | tuneRun (item : Nat)
  | tuneQueued (item : Nat)
  | fuse
  | journal
  | counterFlush (counter : Nat)
  | surface (surf : Nat)
  | present (surf : Nat)
  | staging (page : Nat)
  | crackCheck
  | panelOn
  | deskTest (mask : Nat)
  | scanRefresh
  | taskHalt (mask : Nat)
  | pulseTotal (input : Nat) (total frac : Word)
  deriving DecidableEq, Repr

/-- The submission entry a ring executes: its words, its index, whether its verb's page took no verbs when it was fetched
(R32, R33), its place in the order of fetches, the RECV ring a message goes to (R121, R135), what it waits for since which edge,
and, where its ring has been disabled meanwhile, that ring's owner and PAIR at the disable (R121). -/
structure Fetched where
  words : List Word
  index : Nat
  busy : Bool := false
  seq : Nat := 0
  peer : Nat := 0
  started : Bool := false
  waiting : Option Wait := none
  since : BitVec 48 := 0#48
  timeout : Nat := 0
  orphan : Bool := false
  leftTo : Option (Nat × Nat) := none
  deriving DecidableEq, Repr

/-- A ring beside its descriptor words and doorbell. cutOff: the SEND rings that were enabled when it was last disabled, and that have
not been enabled anew since (R135). -/
structure RingSt where
  finished : Nat := 0
  unsignalled : Nat := 0
  coalFrom : BitVec 48 := 0#48
  outbox : List OutEntry := []
  cur : Option Fetched := none
  enabling : Bool := false
  setupBy : Option Nat := none
  dropped : Bool := false
  cutOff : List Nat := []
  deriving DecidableEq, Repr

/-! ### Boundary requests (R23, R32, R33) -/

/-- A request that a boundary serves in the commit place of R23: a page's commit, for the verb of a ring or for the
page's COMMIT.GO, or the page's switch to BASIC. For the ENS page, desks holds the desks that have not passed a DESK_IDLE
boundary since (R427). -/
structure BoundaryReq where
  page : Nat
  toBasic : Bool
  ring : Option Nat
  desks : Nat := 0
  deriving DecidableEq, Repr

/-! ### The Score and its buses (07) -/

/-- What the end of a bus transfer leaves for the tick that completes its step (R150, R151): the fault's cause, 0 where it ended
well, and the words read with their place in the Score buffers. -/
structure BusEnd where
  cause : Nat
  rbuf : Nat := 0
  words : List Word := []
  deriving DecidableEq, Repr

/-- A Score task beside its task block: where RETURN goes, the LOOP step in progress, the first edge of the wait step in
progress, a stop that waits for a bus transfer's end, the edge of its last step (R143: one step a tick), and a bus transfer that has
ended and whose step has not completed. -/
structure TaskSt where
  callRet : Nat := 0
  loopAt : Nat := 0
  waitFrom : Option (BitVec 48) := none
  stopping : Bool := false
  ranAt : Option (BitVec 48) := none
  busEnd : Option BusEnd := none
  deriving DecidableEq, Repr

/-- A queued bus transfer (R150, R151). -/
structure BusXfer where
  task : Nat
  step : Nat
  target : Nat
  wlen : Nat
  rlen : Nat
  timeout : Nat
  wbuf : Nat
  rbuf : Nat
  read : Bool
  toRing : Bool
  queued : BitVec 48
  sending : List Byte
  cfg : Word := 0#32
  deriving DecidableEq, Repr

/-- What a bus carries (R153, R155): START, a byte that the part sends with the acknowledge it got, a byte that the part reads with the
acknowledge it gives, STOP, up to nine clock pulses that free SDA; a chip select lowered and raised, and an SPI frame with the byte
captured in it. -/
inductive BusSymbol where
  | start
  | sent (b : Byte) (ack : Bool)
  | read (b : Byte) (ack : Bool)
  | stop
  | pulses
  | select (cs : Nat)
  | frame (out : Byte) (captured : Option Byte)
  | deselect (cs : Nat)
  deriving DecidableEq, Repr

/-- The last transfer of a bus (the model's own record): its symbols, the SPI clock mode, and the divisor D of SCK or the I²C rate in
kHz (R153 to R155). -/
structure BusRecord where
  symbols : List BusSymbol
  mode : Nat
  rate : Nat
  deriving DecidableEq, Repr

/-- A line of the SINT detector: its last sample and the edge of that sample (R156). -/
structure SintSt where
  level : Bool
  at_ : BitVec 48
  deriving DecidableEq, Repr

/-- Tasks and bus queues, the last step executed (its edge and its task, R143), the SINT detector and the last transfer of each bus. -/
structure Score where
  tasks : Cells TaskSt := []
  buses : Cells (List BusXfer) := []
  lastStep : Option (BitVec 48 × Nat) := none
  sint : Cells (Option SintSt) := []
  records : Cells (Option BusRecord) := []
  deriving DecidableEq, Repr

/-! ### Keys (08) -/

/-- A key or button beside its recognised state: consecutive opposite readings, the scan end of its press or of its
masking, the next whole second at which a masked source is sampled, and a KEYS_UNMASK that waits. -/
structure KeySt where
  count : Nat := 0
  since : BitVec 48 := 0#48
  sampleAt : Nat := 1
  unmask : Bool := false
  deriving DecidableEq, Repr

/-- An encoder: accepted levels, quarter-steps, and steps since the last scan end (R168, R169). -/
structure EncSt where
  a : Bool := false
  b : Bool := false
  q : Int := 0
  steps : Int := 0
  deriving DecidableEq, Repr

/-- A pulse input: the edge at which it was enabled, that of its last accepted pulse, and whether STOPPED has been raised since (R170,
R172). -/
structure PulseSt where
  since : BitVec 48 := 0#48
  last : Option (BitVec 48) := none
  stopped : Bool := false
  deriving DecidableEq, Repr

/-- The key block beside its registers: fifoAt holds the edge at which each FIFO entry was written (R179), gapAt the end of the last scan
(R183), late the code and the interval of the PULSE entries of this tick, which stand behind those of a scan that ends in it (R174). -/
structure Keys where
  keys : Cells KeySt := []
  encs : Cells EncSt := []
  pulses : Cells PulseSt := []
  fifo : List (BitVec 64) := []
  fifoAt : List (BitVec 48) := []
  late : List (Nat × Nat) := []
  gapAt : BitVec 48 := 0#48
  scanAt : Option (BitVec 48) := none
  scanLast : Option (BitVec 48) := none
  scans : Nat := 0
  drainDue : Bool := false
  timebase : Nat := 0
  deriving DecidableEq, Repr

/-! ### Battery and thermal (09) -/

/-- The SENSE block beside its registers: the tick of the last round, the channels of it still to be converted, whether a
die sensor published in it, the tick of the last conversion and its channel, the tick of the last idle boundary and of the last IBAT mark, rounds
toward the next process count and the start of a running one, the class of each rail (0 none yet, 1 in range, 2 LOW,
3 HIGH) and since when a rail is LOW (R200), the NTCs whose last result was faulted, slot changes that wait for the next
tick (R204), and a start of task 1 that does (R206). -/
structure Sense where
  roundAt : Option (BitVec 48) := none
  left : List Nat := []
  published : Bool := false
  convAt : Option (BitVec 48) := none
  convCh : Nat := 0
  idleAt : Option (BitVec 48) := none
  ibatAt : Option (BitVec 48) := none
  rounds : Nat := 0
  pmFrom : Option (BitVec 48) := none
  rails : Cells Nat := []
  lowSince : Cells (BitVec 48) := []
  ntcGood : List Nat := []
  fresh : List Nat := []
  coreMv : Option Nat := none
  slotsDirty : Bool := false
  task1Due : Bool := false
  deriving DecidableEq, Repr
/-! ### Tuning (10) -/

/-- A tuning item beside its registers: the target and applied fields, the run in progress (trigger, its tick and TIMEOUT,
whether it measures), the trigger of a queued or held run, the reference temperature and the end of the last run. -/
structure TuneItem where
  target : List Int := []
  delta : List Int := []
  applied : List Int := []
  trig : Nat := 0
  measuring : Bool := false
  from_ : BitVec 48 := 0#48
  measureAt : BitVec 48 := 0#48
  timeout : Nat := 0
  queued : Option Nat := none
  held : Option Nat := none
  refTemp : Option Int := none
  endAt : Option (BitVec 48) := none
  periodUsed : Bool := false
  deriving DecidableEq, Repr

/-- The tuning engine beside its registers: items, the accumulator of R224, edges for which the Metronome still holds, the
last item 5 result that was implausible, and the number of bits FUSE_PROGRAM blows. -/
structure Tune where
  items : Cells TuneItem := []
  acc : Int := 0
  hold : Option Nat := none
  badLeak : Option Nat := none
  fuseBits : Nat := 0
  plan : List (BitVec 56) := []
  deriving DecidableEq, Repr

/-! ### The journal (11) -/

/-- Who asked for a piece of journal work: the part itself, the verb of a ring, or JRNL.CMD. -/
inductive JOrigin where
  | part
  | ring (r : Nat)
  | cmd
  deriving DecidableEq, Repr

/-- A record as it is to be written: words 0 to 2, and payload and tag as words with erased filling bytes (Table 11-3). -/
structure JRec where
  w0 : Word
  w1 : Word
  seq : Word
  body : List Word
  deriving DecidableEq, Repr

/-- Why a record is appended. -/
inductive JWhy where
  | verb (delete owner : Nat)
  | base (counter : Nat)
  | copy
  | log (arg : Word)
  deriving DecidableEq, Repr

/-- One step of journal work; those that program or erase take the array, the others take no time. -/
inductive JOp where
  | verb (code : Nat) (args : List Word) (owner : Nat) (payload : List Word)
  | program (a : Nat) (v : Word)
  | append (r : JRec) (why : JWhy)
  | room (r : JRec) (why : JWhy)
  | write (ws : List (Nat × Word)) (r : JRec) (why : JWhy) (sector offset : Nat)
  | erase (p : Nat)
  | pulse (p count pulses : Nat)
  | erased (p : Nat)
  | victim (forced : Bool)
  | copy (p offset : Nat)
  | setup (args : List Word)
  | roll (counter : Nat)
  | spare (p cause : Nat)
  | spareGone
  | assign (p cause x : Nat)
  | flushed (mask : Nat)
  | freshCount
  | answer (code : Nat) (res : List Word)
  deriving DecidableEq, Repr

/-- A piece of journal work with its place in the order of R269. -/
structure JItem where
  id : Nat
  prio : Nat
  ops : List JOp
  origin : JOrigin := .part
  deferred : Bool := false
  told : Bool := false
  begun : Bool := false
  since : BitVec 48 := 0#48
  deriving DecidableEq, Repr

/-- What the flash array does: a word program of an item, counter bits, or an erase pulse of an item. -/
inductive JBusy where
  | word (id a : Nat) (v : Word)
  | bits (c a : Nat) (v : Word)
  | pulse (id p : Nat)
  deriving DecidableEq, Repr

/-- The journal controller beside its registers. weak: bits that hold charge and are not fully programmed; torn: sectors
whose erase is incomplete, with the number of the erase; awaiting: sectors to be erased before any use; since: the ticks of a
counter's unsaved increments, the oldest first; cmdOp: the operation that JRNL.CMD runs or ran last. -/
structure Jrnl where
  weak : Cells Word := []
  torn : Cells Nat := []
  busy : Option JBusy := none
  items : List JItem := []
  nextId : Nat := 0
  seqMax : Nat := 0
  lastOpen : Nat := 127
  fails : Cells Nat := []
  awaiting : List Nat := []
  readonly : Bool := false
  based : List Nat := []
  since : Cells (List (BitVec 48 × Nat)) := []
  cmdOp : Nat := 0
  due : List Nat := []
  flush : List Nat := []
  deriving DecidableEq, Repr

/-! ### Pixel intake (12) -/

/-- A rectangle of pixels, corners inclusive. -/
structure Rect where
  x0 : Nat
  y0 : Nat
  x1 : Nat
  y1 : Nat
  deriving DecidableEq, Repr

/-- Who made a present (Table 12-13). -/
inductive PresentSource where
  | verb
  | register
  | dsi
  | video
  deriving DecidableEq, Repr

/-- A present: its buffer, dirty rectangle (none where clipping left nothing), source, TAG, the ring of its verb, the
presents merged into it, and whether it was queued in self-refresh (R290, R291). -/
structure Present where
  buf : Nat
  rect : Option Rect
  source : PresentSource
  tag : Nat := 0
  ring : Option Nat := none
  merged : Nat := 0
  inSr : Bool := false
  deriving DecidableEq, Repr

/-- A surface beside its descriptor: shown buffer, queued present, open update (buffer, the DSI channel that opened it, the
union of the windows written), behind regions, the buffer of the latest present, whether the next present is FULL
(R290), and an applied present that waits for the copy into the buffer it released (R293). -/
structure SurfSt where
  front : Option Nat := none
  queued : Option Present := none
  openBuf : Option Nat := none
  openBy : Option Nat := none
  written : Option Rect := none
  behind : Cells Rect := []
  latest : Nat := 0
  first : Bool := true
  answer : Option Present := none
  deriving DecidableEq, Repr

/-- A copy-forward that runs or waits: its surface, the buffer copied into, the buffer copied from and the region (R292). -/
structure CopyJob where
  surf : Nat
  dst : Nat
  src : Nat
  region : Rect
  deriving DecidableEq, Repr

/-- A DSI channel: its window where one has been set, the write position, and whether the rest of its update is dropped
(R282, R283). -/
structure Channel where
  cols : Option (Nat × Nat) := none
  rows : Option (Nat × Nat) := none
  x : Nat := 0
  y : Nat := 0
  dropping : Bool := false
  deriving DecidableEq, Repr

/-- A video frame in progress: its surface and buffer, complete lines, pixels of the line, and whether the line has all of
them (R279). -/
structure VideoFrame where
  surf : Nat
  buf : Nat
  line : Nat := 0
  px : Nat := 0
  full : Bool := false
  deriving DecidableEq, Repr

/-- A DSI read request that waits for the bus turnaround (R284). -/
inductive ReadReq where
  | powerMode
  | pixelFormat (vc : Nat)
  | scanline
  | register (off : Nat)
  | bad
  deriving DecidableEq, Repr

/-- What the part last sent on D0 (R284). -/
inductive DsiReply where
  | nothing
  | acknowledge
  | report (bits : Nat)
  | data (generic : Bool) (bytes : List Byte)
  deriving DecidableEq, Repr

/-- INTAKE beside its registers. -/
structure Intake where
  surfs : Cells SurfSt := []
  copies : List CopyJob := []
  chans : Cells Channel := []
  video : Option VideoFrame := none
  fences : List (Nat × Nat) := []
  readReq : Option ReadReq := none
  reply : DsiReply := .nothing
  reportBits : Nat := 0
  maxReturn : Nat := 1
  pixelFormat : Nat := 0
  syncEnds : Nat := 0
  teArmed : Option (BitVec 48) := none
  teFrom : BitVec 48 := 0#48
  teWidth : Nat := 0
  teStaged : Option Word := none
  openReg : Option Nat := none
  deriving DecidableEq, Repr
/-! ### Scan-out (13) -/

/-- Where a guided transition stands (Table 13-3): none, after G1, in G3 (training or power-on), in G4, or in the power-off
steps of a transition to CLASS OFF. -/
inductive TransStep where
  | none
  | g1
  | g3
  | g4
  | off
  deriving DecidableEq, Repr

/-- The statistics of a frame, computed and not yet published (R315, R316), with the watchers whose signature equals the
previous frame's, whether the frame is judged, and the surfaces of which it first shows a present (R313). -/
structure StatSet where
  frame : Nat
  gen : Nat
  count : Nat
  apl : Nat
  max : Nat
  hist : List Nat
  sigs : List Word
  same : List Bool := []
  judged : Bool := false
  shown : List Nat := []
  deriving DecidableEq, Repr

/-- Scan-out beside its registers: whether it runs and a frame is in progress, the last real boundary, the guided
transition, the consecutive frames without a present, the ladder rung, resume causes, dirty rectangles and the full first
push, previous signatures and whether the next frame judges, the surfaces whose present the next frame first shows, and
statistics on their way, a present that the boundary in progress has applied, whether the ladder stopped a panel that cannot
hold its picture (R73), whether a transition has changed the active size since the areas were checked (R341), and the pace set
at the last real boundary: the µs from it to the next frame start, to the next boundary and to the publication of statistics,
the CORE cycles to the next boundary unless CORE's frequency has changed since, and the cycles of the frame itself. -/
structure Scan where
  running : Bool := false
  frameOn : Bool := false
  lastReal : Option (BitVec 48) := none
  lastSynth : Option (BitVec 48) := none
  trans : TransStep := .none
  transAt : BitVec 48 := 0#48
  transPages : List Nat := []
  quiet : Nat := 0
  rung : Nat := 0
  wake : Bool := false
  dirty : Option Rect := none
  fullPush : Bool := true
  push : Option Rect := none
  prevSigs : Cells Word := []
  judges : Bool := false
  firstShown : List Nat := []
  stats : Option StatSet := none
  ready : Option StatSet := none
  bright : Nat := 15
  hidden : Bool := false
  presented : Bool := false
  laddered : Bool := false
  resized : Bool := false
  startUs : Nat := 0
  endUs : Nat := 0
  statsUs : Nat := 0
  cycles : Option Nat := none
  pushLen : Nat := 0
  deriving DecidableEq, Repr
/-! ### The pixel pipeline (14) -/

/-- The pipeline beside its registers: dither phase, a valid overdrive store, areas lost by a change of the active size, a
temperature result seen since the last reset, the display lease asked for, and the bands expanded in the current frame. -/
structure Pipe where
  phase : Nat := 0
  odValid : Bool := false
  odPriming : Bool := false
  mapsLost : Bool := false
  storeLost : Bool := false
  bankKnown : Bool := false
  applied : Bool := false
  deriving DecidableEq, Repr
/-! ### The Stave link and panel power (15) -/

/-- Where the panel power sequencer stands (Tables 15-7 and 15-8): the rails still to raise, the wait for PNL_PG, the crack
check at P4, training at P5, the discharge of F2, or the rails still to lower. A rail stands with its delay in ticks, as it was
when the sequence began (R369). -/
inductive PanelStep where
  | none
  | raising (left : List (Nat × Nat))
  | waitPg
  | crack
  | training
  | discharge
  | lowering (left : List (Nat × Nat))
  deriving DecidableEq, Repr

/-- A packet that was sent: the frame line, or the row of a push, that it was sent in (none outside a frame), its lane, and its
bytes between SOP and EOP (R349, R352, R353). -/
structure SentPacket where
  line : Option Nat
  lane : Nat
  bytes : List Byte
  deriving DecidableEq, Repr

/-- STAVE beside its registers: power step and its start, whether a power-off follows a fault, training
attempts and the cause shown when training ends, packets by lane and those sent since the last frame start, GAO, a GAMMA_REF
that is due, and the crack loop: a running check, whether P4 waits for it, the last failure, whether a check is due, the end
of the last check. -/
structure Stave where
  step : PanelStep := .none
  stepFrom : BitVec 48 := 0#48
  offFault : Bool := false
  tries : Nat := 0
  trainCause : Nat := 0
  seq : Cells Nat := []
  sent : List SentPacket := []
  gao : Bool := false
  gammaDue : Bool := false
  checking : Option (BitVec 48) := none
  checkAtP4 : Bool := false
  failedAt : Option (BitVec 48) := none
  checkDue : Bool := false
  lastCheck : Option (BitVec 48) := none
  deriving DecidableEq, Repr
/-! ### FACE (16) -/

/-- A push or full-frame frame in progress: the fields it shows with the values it shows, whether it is a full frame, and the
pixels sent at the output of stage 3, as their signature, the rows whose LINE packets it sends, its start, and its length in µs
(R380 to R382, R385). -/
structure FacePush where
  shown : List (Nat × Nat)
  full : Bool
  sig : Word
  rows : List Nat := []
  at_ : BitVec 48 := 0#48
  us : Nat := 0
  deriving DecidableEq, Repr

/-- FACE beside its registers: WALL in force and one that takes effect at the next tick, the wall second last served, the
fields to be evaluated at the end of the tick (R376), the value each field was last evaluated to, miss counts, fields that no longer fit (R389), boxes to be pushed as BG, the push in
progress, and the start of the last full-frame frame. -/
structure Face where
  wallNext : Option (BitVec 48) := none
  wall : BitVec 48 := 0#48
  second : Nat := 0
  evals : List Nat := []
  value : Cells Nat := []
  miss : Cells Nat := []
  unfit : List Nat := []
  bgBoxes : List Rect := []
  pushing : Option FacePush := none
  lastFull : Option (BitVec 48) := none
  deriving DecidableEq, Repr

/-! ### The Ensemble (17, 18) -/

/-- A desk tile (R401, R404): its job, its operation, its L2 tile's place in the walk, and its place among the desk tiles of
that L2 tile. -/
structure Tile where
  job : Nat
  op : Nat
  pos : Nat
  row : Nat
  col : Nat
  deriving DecidableEq, Repr

/-- What a desk holds: a job tile or a band pass, with the desk that failed it first where it is a repeat, or a self-test. -/
inductive DeskUse where
  | idle
  | tile (t : Tile) (first : Option Nat)
  | pass (p : Nat) (first : Option Nat)
  | test
  deriving DecidableEq, Repr

/-- The panels of one operation of an L2 tile as elements by row (R401). -/
structure OpPanels where
  a : List (List Nat) := []
  b : List (List Nat) := []
  q : List (List Nat) := []
  deriving DecidableEq, Repr

/-- An L2 tile in flight (R402): its place in the walk, its panels by operation, the desk tiles given out and ended (operation,
row, column), and the chained outputs by operation, row and column (R407). -/
structure L2Tile where
  pos : Nat
  panels : List OpPanels
  given : List (Nat × Nat × Nat) := []
  ended : List (Nat × Nat × Nat) := []
  outs : Cells Nat := []
  deriving DecidableEq, Repr

/-- Where a job stands: checked, running, ended with its status and result words, or ended with its completion queued. -/
inductive JobPhase where
  | checked
  | running
  | ended (status : Nat) (res : List Word)
  | posted
  deriving DecidableEq, Repr

/-- A job in a slot (R411 to R414): its ring (none for register issue) and entry, its owner, its copied descriptor block, its
Stage banks, the next L2 tile of its walk to load, panels held for the whole job, counts, desks retired meanwhile, and the
status and RESULT0 it will end with once its tiles in progress have ended. -/
structure Job where
  id : Nat
  slot : Nat
  ring : Option Nat
  index : Nat
  words : List Word
  owner : Nat
  block : List Word
  phase : JobPhase
  banks : Nat := 0
  next : Nat := 0
  flight : List L2Tile := []
  held : Cells (List (List Nat)) := []
  run : Nat := 0
  again : Nat := 0
  retired : Nat := 0
  ending : Option (Nat × Nat) := none
  orphan : Bool := false
  leftTo : Option Nat := none
  deriving DecidableEq, Repr

/-- A malformed JOB entry whose BAD_VERB completion waits for those of the jobs before it (R141, R410): its ring, the number of the
next job at its fetch, its index, its TAG and its COMPLETION ring. -/
structure BadJob where
  ring : Nat
  before : Nat
  index : Nat
  tag : Nat
  pair : Nat
  deriving DecidableEq, Repr

/-- A request for self-tests (R421): desks still to be tested, desks that passed, and whether retired desks are meant. -/
structure TestAsk where
  left : Nat
  passed : Nat := 0
  retest : Bool
  deriving DecidableEq, Repr

/-- A band in expansion (R423): its number, the next pass, passes done, and passes that failed with the desk that ran them. -/
structure BandSt where
  band : Nat
  next : Nat := 0
  ran : Nat := 0
  redo : List (Nat × Nat) := []
  deriving DecidableEq, Repr

/-- The Ensemble beside its registers: jobs in fetch order, started ones in the order of their start, desks, tiles to be
re-issued with the desk that failed them, the display lease (desks asked for, desks that join, desks in use since the last
FRAME boundary, moves as old and new desk), the band in expansion, the next one and the first and last of the frame, a register issue that
waits for a slot, and the self-tests. -/
structure Ens where
  jobs : List Job := []
  started : List Nat := []
  nextId : Nat := 0
  desks : Cells DeskUse := []
  deskAt : Cells (Option (BitVec 48)) := []
  badJobs : List BadJob := []
  redo : List (Tile × Nat) := []
  lease : Nat := 0
  joining : List Nat := []
  used : Nat := 0
  moves : List (Nat × Nat) := []
  band : Option BandSt := none
  nextBand : Nat := 0
  firstBand : Nat := 0
  bandEnd : Nat := 0
  issue : Option (List Word × Nat) := none
  due : List Nat := []
  dueFrom : BitVec 48 := 0#48
  lastTested : Nat := 15
  asks : Cells TestAsk := []
  stageGen : Nat := 0
  deriving DecidableEq, Repr

/-- The state of the part. -/
structure State where
  /-- Registers and table words as the host reads them, RW/S ones as last written (Table 0-4). -/
  regs : Cells Word
  /-- RW/S registers and table words in force. -/
  force : Cells Word
  /-- The Metronome (R2, R75). -/
  metro : BitVec 48
  /-- AO clock edges since POR, uncorrected: every duration in ticks counts them (R225). -/
  edge : BitVec 48
  /-- The Hall's written bytes; the free byte of Config is read elsewhere (R19). -/
  hall : Cells Byte
  /-- The banks that are powered (R19), by number. -/
  banks : BitVec 48
  /-- Power-downs so far, which number the undefined contents of the Hall. -/
  hallGen : Nat
  /-- AO memory by word: atlas, Score step store, Score buffers (Table 1-3). -/
  ao : Cells Word
  /-- Journal flash by word. -/
  flash : Cells Word
  /-- Fuse words as blown. -/
  fuses : Cells (BitVec 64)
  /-- Free values handed out so far (the model's own field). -/
  free : Nat
  pins : Pins
  tap : Tap
  flags : List EvFlag
  /-- Raises still to be counted, in fabric order (R26). -/
  counting : List Raise
  ladder : Ladder
  boot : Boot
  portA : PortSt
  portB : PortSt
  /-- Host words in the crossing unit, oldest first (R13). -/
  crossing : List Crossing
  rings : Cells RingSt
  /-- The submission ring last fetched from (R124). -/
  fetched : Nat
  commits : List BoundaryReq
  /-- MODE pages whose switch to EXPERT waits for an executing verb (R32). -/
  expertWait : List Nat
  score : Score
  keys : Keys
  sense : Sense
  tune : Tune
  jrnl : Jrnl
  intake : Intake
  scan : Scan
  pipe : Pipe
  stave : Stave
  face : Face
  ens : Ens
  /-- Commands that wait, first in first out. -/
  pending : List Instr
  deriving DecidableEq, Repr

/-- No command faults: the spec gives the block no condition that stops it. The one constructor stands for the interface
and no meaning answers with it. Safe: it is never raised. -/
inductive Fault where
  | none
  deriving DecidableEq, Repr

/-- Why a command has no effect to give. -/
inductive Refusal where
  /-- A command that has no meaning yet, by its mnemonic. Raised by the command table alone. Safe: the machine stops. -/
  | notModelled (mnemonic : String)
  deriving DecidableEq, Repr

/-- The part right after POR is applied: every register at its POR value (unlisted words read it), fields without a
reset value at 0 (DESIGN CHOICE, log entry 2), memories as the log entries name, no command waiting. -/
def State.reset : State where
  regs := []
  force := []
  metro := 0#48
  edge := 0#48
  hall := []
  banks := 0#48
  hallGen := 0
  ao := []
  flash := []
  fuses := []
  free := 0
  pins := {}
  tap := {}
  flags := []
  counting := []
  ladder := {}
  boot := {}
  portA := {}
  portB := {}
  crossing := []
  rings := []
  fetched := 255
  commits := []
  expertWait := []
  score := {}
  keys := {}
  sense := {}
  tune := {}
  jrnl := {}
  intake := {}
  scan := {}
  pipe := {}
  stave := {}
  face := {}
  ens := {}
  pending := []

end Sys2Proof.Machine
end

