-- ==== Sys2Proof/Machine/Ops.lean ====
section
/-!
DEFINITION. Named operations over the state: registers, fields, rings, Hall, leases, banks, AO memory, flash, fuses,
free values, CORE and the ladder's state, and what each reset keeps of the registers.
-/

namespace Sys2Proof.Machine

/-! ### Registers -/

/-- A register or table word as the host would read it back (the shadow of an RW/S word). -/
def State.reg (s : State) (a : Nat) : Word := Cells.get porWord s.regs a

/-- A register or table word written by the part. -/
def State.setReg (s : State) (a : Nat) (v : Word) : State := { s with regs := Cells.put porWord s.regs a v }

/-- A field of a register (R1). -/
def State.fld (s : State) (a hi lo : Nat) : Nat := field (s.reg a) hi lo

/-- A field of a register written by the part. -/
def State.setFld (s : State) (a hi lo v : Nat) : State := s.setReg a (withField (s.reg a) hi lo v)

/-- One bit of a register. -/
def State.flag (s : State) (a n : Nat) : Bool := bit (s.reg a) n

/-- One bit of a register written by the part. -/
def State.setFlag (s : State) (a n : Nat) (b : Bool) : State := s.setReg a (withBit (s.reg a) n b)

/-- A counter field that wraps at its width (R2). -/
def State.bump (s : State) (a hi lo : Nat) : State := s.setFld a hi lo (s.fld a hi lo + 1)

/-- A counter field that saturates (R2). -/
def State.bumpSat (s : State) (a hi lo : Nat) : State :=
  s.setFld a hi lo (satAdd (2 ^ (hi + 1 - lo) - 1) (s.fld a hi lo) 1)

/-- An RW/S word in force. -/
def State.inForce (s : State) (a : Nat) : Word := Cells.get porWord s.force a

/-- An RW/S word put in force. -/
def State.setForce (s : State) (a : Nat) (v : Word) : State := { s with force := Cells.put porWord s.force a v }

/-- A field of an RW/S word in force. -/
def State.ffld (s : State) (a hi lo : Nat) : Nat := field (s.inForce a) hi lo

/-- One bit of an RW/S word in force. -/
def State.fflag (s : State) (a n : Nat) : Bool := bit (s.inForce a) n

/-- The bits of a register that a host write may change (RW, RW/S). -/
def writable (a : Nat) : Word :=
  match regSpec a with
  | some r => r.rw ||| r.rws
  | none => 0#32

/-- A register after a host write of v (Table 0-4): RW and RW/S bits take v, W1C bits that v sets are cleared, all
others stay. -/
def hostWord (a : Nat) (old v : Word) : Word :=
  match regSpec a with
  | some r => (old &&& ~~~(r.rw ||| r.rws ||| r.w1c)) ||| (v &&& (r.rw ||| r.rws)) ||| (old &&& r.w1c &&& ~~~v)
  | none => old

/-- A host write of a register or table word that has no effect beyond its fields (Table 0-4). -/
def State.hostSet (s : State) (a : Nat) (v : Word) : State := s.setReg a (hostWord a (s.reg a) v)

/-- A word is an RW/S word: it belongs to its page's shadow set. -/
def isShadow (a : Nat) : Bool :=
  match regSpec a with
  | some r => r.rws != 0#32
  | none => false

/-! ### Desks -/

/-- What desk d holds. -/
def State.desk (s : State) (d : Nat) : DeskUse := Cells.get (fun _ => .idle) s.ens.desks d

/-- What desk d holds from now on, written with the edge. -/
def State.setDesk (s : State) (d : Nat) (u : DeskUse) : State :=
  { s with ens := { s.ens with
    desks := Cells.put (fun _ => .idle) s.ens.desks d u
    deskAt := Cells.put (fun _ => none) s.ens.deskAt d (if u = .idle then none else some s.edge) } }

/-- A desk holds a job tile. -/
def DeskUse.isTile : DeskUse → Bool
  | .tile _ _ => true
  | _ => false

/-- Desk d is in the display lease. -/
def State.deskLeased (s : State) (d : Nat) : Bool := s.flag Reg.ENS_LEASED d

/-- The unleased desks that hold a tile, as a mask: they have yet to pass a DESK_IDLE boundary (R427). -/
def State.tileDesks (s : State) : Nat :=
  (List.range 16).foldl (fun m d => if (s.desk d).isTile && !s.deskLeased d then m + 2 ^ d else m) 0

/-! ### Time -/

/-- Metronome bits [31:0]. -/
def State.now (s : State) : Word := s.metro.setWidth 32

/-- Ticks since an AO clock edge: durations count edges and are not corrected (R225). -/
def State.elapsed (s : State) (t : BitVec 48) : Nat := (s.edge - t).toNat

/-! ### Free values -/

/-- A fresh free word: a value the spec leaves undefined (log entry 1). -/
def State.takeFree (s : State) : Word × State := (Config.freeWord s.free, { s with free := s.free + 1 })

/-! ### CORE and the ladder -/

/-- CORE has a clock: the register space, the rings and the Hall can be reached (03, Table 3-1). -/
def State.coreOn (s : State) : Bool := s.ladder.core != .stopped

/-- The state in force, or the last rung reached (Table 3-10). -/
def State.cur (s : State) : Nat := s.fld Reg.DEV_LADDER_STATE 2 0

/-- The ladder's target. -/
def State.tgt (s : State) : Nat := s.fld Reg.DEV_LADDER_STATE 6 4

/-- A ladder move is running. -/
def State.moving (s : State) : Bool := s.flag Reg.DEV_LADDER_STATE 7

/-- The FREQ code of a CORE clock (Table 3-10). -/
def freqCode : CoreClock → Nat
  | .stopped => 6
  | .fastRc => 5
  | .burst => 5
  | .pll f => f

/-- CORE takes a clock, and LADDER_STATE.FREQ shows it. -/
def State.setCore (s : State) (c : CoreClock) : State :=
  { s with ladder := { s.ladder with core := c } }.setFld Reg.DEV_LADDER_STATE 10 8 (freqCode c)

/-- The AO blocks run: in every state but POR, TACET and a SYSTEM reset that is applied (R186, R211, R221). -/
def State.aoOn (s : State) : Bool := s.boot.step != .por && s.boot.step != .tacet && !s.boot.sysHeld

/-- The pad supply of rail r (1 VDDIO, 4 VDD_PHY; Table 9-1) is in its operating range: it is absent in TACET, and a rail
that its comparator calls LOW is below its range (R36, Table 2-5). -/
def State.supplyUp (s : State) (r : Nat) : Bool :=
  s.boot.step != .tacet && Cells.get (fun _ => 0) s.sense.rails r != 2

/-- The inputs of VDDIO pads are taken (R36). -/
def State.vddioUp (s : State) : Bool := s.supplyUp 1

/-- CORE serves hosts and rings: from host release on, in TUTTI and MEZZO, outside resets and a CORE that is stopped
(R61, R82, 05). -/
def State.coreServes (s : State) : Bool :=
  (s.boot.step == .released) && s.coreOn && decide (s.cur ≤ 1) && !s.boot.sysHeld && !s.boot.coreHeld

/-- The part answers host ports: CORE serves them and the ports' pads have their supply (R36, R61). -/
def State.portsAnswer (s : State) : Bool := s.coreServes && s.vddioUp

/-- The Hall's banks can be powered: not in PIANISSIMO or below (R52, R66). -/
def State.hallOn (s : State) : Bool := s.coreOn && decide (s.cur ≤ 2)

/-- CORE frequency in MHz in force: PLL codes of Table 3-10, FAST_RC 48, a burst 48 or 50 (R66). -/
def State.coreMHz (s : State) : Nat :=
  match s.ladder.core with
  | .stopped => 0
  | .fastRc => 48
  | .burst => if s.flag Reg.DEV_LADDER_CFG 9 then 50 else 48
  | .pll f => 400 / 2 ^ f

/-! ### Rings -/

/-- A ring's state beside its descriptor. -/
def State.ring (s : State) (r : Nat) : RingSt := Cells.get (fun _ => {}) s.rings r

/-- A ring's state written. -/
def State.setRing (s : State) (r : Nat) (v : RingSt) : State :=
  { s with rings := Cells.put (fun _ => {}) s.rings r v }

/-- Descriptor word w of ring r (Table 6-14). -/
def ringWord (r w : Nat) : Nat := Reg.CUE_RING_W0 + 16 * r + 4 * w

/-- EN of a ring. -/
def State.ringEn (s : State) (r : Nat) : Bool := s.flag (ringWord r 1) 31

/-- TYPE of a ring. -/
def State.ringType (s : State) (r : Nat) : Nat := s.fld (ringWord r 1) 6 4

/-- OWNER of a ring. -/
def State.ringOwner (s : State) (r : Nat) : Nat := s.fld (ringWord r 1) 13 8

/-- PAIR of a ring. -/
def State.ringPair (s : State) (r : Nat) : Nat := s.fld (ringWord r 1) 23 16

/-- N, the number of entries of a ring (R118). -/
def State.ringSize (s : State) (r : Nat) : Nat := 2 ^ s.fld (ringWord r 1) 3 0

/-- E, the bytes of one entry of a ring (R118). -/
def State.entryBytes (s : State) (r : Nat) : Nat := if s.ringType r = 4 then 64 else 32

/-- Hall byte of entry i of a ring (R118). -/
def State.entryAddr (s : State) (r i : Nat) : Nat := s.fld (ringWord r 0) 22 0 + s.entryBytes r * i

/-- HALTED of a ring. -/
def State.ringHalted (s : State) (r : Nat) : Bool := s.flag (ringWord r 3) 13

/-- INDEX of a ring. -/
def State.ringIndex (s : State) (r : Nat) : Nat := s.fld (ringWord r 3) 11 0

/-- The doorbell value of a ring: TAIL. -/
def State.ringTail (s : State) (r : Nat) : Nat := field (s.reg (Reg.CUE_DOORBELL + 4 * r)) 11 0

/-- The ring is a submission ring: COMMAND, JOB or MESSAGE SEND (Table 6-1). -/
def State.isSubmission (s : State) (r : Nat) : Bool :=
  s.ringType r == 0 || s.ringType r == 4 || (s.ringType r == 5 && !s.flag (ringWord r 1) 7)

/-- Entries written and not yet released on a part-to-host ring. -/
def State.ringUsed (s : State) (r : Nat) : Nat :=
  (s.ringIndex r + s.ringSize r - s.ringTail r) % s.ringSize r

/-- A ring of this TYPE takes the entry (Table 6-1). -/
def OutEntry.fits (type : Nat) : OutEntry → Bool
  | .completion .. => type == 1
  | .event .. => type == 2
  | .keys .. => type == 2
  | .sample .. => type == 3
  | .message .. => type == 5
  | .log .. => type == 6

/-- The entries that wait to be written to a ring of its present TYPE. -/
def State.queued (s : State) (r : Nat) : List OutEntry := (s.ring r).outbox.filter (OutEntry.fits (s.ringType r))

/-- A slot is free under R125 for one more entry than those that already wait to be written. -/
def State.ringRoom (s : State) (r : Nat) : Bool :=
  decide (s.ringUsed r + (s.queued r).length < s.ringSize r - 1)

/-- An entry queued for a part-to-host ring. -/
def State.post (s : State) (r : Nat) (e : OutEntry) : State :=
  s.setRing r { s.ring r with outbox := (s.ring r).outbox ++ [e] }

/-! ### Leases, banks and the Hall -/

/-- EN of lease l. -/
def State.leaseEn (s : State) (l : Nat) : Bool := s.flag (Reg.DEV_LEASE_W1 + 8 * l) 16

/-- First Hall byte of lease l (R16). -/
def State.leaseLo (s : State) (l : Nat) : Nat := 4096 * s.fld (Reg.DEV_LEASE_W0 + 8 * l) 10 0

/-- The Hall byte after lease l (R16). -/
def State.leaseHi (s : State) (l : Nat) : Nat := s.leaseLo l + 4096 * s.fld (Reg.DEV_LEASE_W0 + 8 * l) 26 16

/-- OWNER of lease l. -/
def State.leaseOwner (s : State) (l : Nat) : Nat := s.fld (Reg.DEV_LEASE_W1 + 8 * l) 5 0

/-- TYPE of lease l. -/
def State.leaseType (s : State) (l : Nat) : Nat := s.fld (Reg.DEV_LEASE_W1 + 8 * l) 9 8

/-- The enabled lease that holds a range of Hall bytes whole, if one does. -/
def State.leaseOf (s : State) (lo len : Nat) : Option Nat :=
  (List.range 32).find? (fun l => s.leaseEn l && decide (s.leaseLo l ≤ lo) && decide (lo + len ≤ s.leaseHi l))

/-- A Hall byte lies in an enabled lease. -/
def State.leased (s : State) (a : Nat) : Bool := (s.leaseOf a 1).isSome

/-- Bank b is touched by an enabled lease (R19). -/
def State.bankTouched (s : State) (b : Nat) : Bool :=
  (List.range 32).any (fun l => s.leaseEn l && decide (s.leaseLo l < 0x20000 * (b + 1)) &&
    decide (0x20000 * b < s.leaseHi l))

/-- The banks that enabled leases touch. -/
def State.touchedBanks (s : State) : BitVec 48 :=
  BitVec.ofNat 48 ((List.range 48).foldl (fun m b => if s.bankTouched b then m + 2 ^ b else m) 0)

/-- The banks of a mask are powered and every other bank is off; a bank that loses power loses its bytes (R19). -/
def State.setBanks (s : State) (on : BitVec 48) : State :=
  { s with
    hall := s.hall.filter (fun e => on.getLsbD (e.1 / 0x20000))
    banks := on
    hallGen := if s.banks &&& ~~~on = 0#48 then s.hallGen else s.hallGen + 1 }

/-- Banks follow the enabled leases while the Hall is powered (R17, R19). -/
def State.powerBanks (s : State) : State :=
  if s.cur ≤ 2 then s.setBanks s.touchedBanks else s

/-- A Hall byte as the array holds it: a byte that nothing has written since its bank was powered is a free value
(R19, log entry 3). -/
def State.hallRaw (s : State) (a : Nat) : Byte := Cells.get (Config.hallByte s.hallGen) s.hall a

/-- A Hall byte as a block reads it: unleased bytes read 0 (R28). -/
def State.hallByte (s : State) (a : Nat) : Byte := if s.leased a then s.hallRaw a else 0#8

/-- A run of Hall bytes as a block reads it. -/
def State.hallBytes (s : State) (a n : Nat) : List Byte := (List.range n).map (fun i => s.hallByte (a + i))

/-- A Hall word as a block reads it. -/
def State.hallWord (s : State) (a : Nat) : Word :=
  bytesWord (s.hallByte a) (s.hallByte (a + 1)) (s.hallByte (a + 2)) (s.hallByte (a + 3))

/-- A run of Hall words as a block reads it. -/
def State.hallWords (s : State) (a n : Nat) : List Word := (List.range n).map (fun i => s.hallWord (a + 4 * i))

/-- A Hall byte written by a block: writes to unleased bytes are dropped (R28). -/
def State.putHall (s : State) (a : Nat) (b : Byte) : State :=
  if s.leased a then { s with hall := Cells.insert s.hall a b } else s

/-- Hall bytes written by a block from an address on. -/
def State.putHallBytes (s : State) (a : Nat) : List Byte → State
  | [] => s
  | b :: bs => (s.putHall a b).putHallBytes (a + 1) bs

/-- Hall words written by a block from an address on. -/
def State.putHallWords (s : State) (a : Nat) (ws : List Word) : State := s.putHallBytes a (wordsBytes ws)

/-- A range of the Hall filled with zeros (R52, R120). -/
def State.zeroHall (s : State) (lo len : Nat) : State := { s with hall := Cells.fillRange s.hall lo len 0#8 }

/-! ### AO memory, flash and fuses -/

/-- Word index of the first Score step in AO memory (Table 5-7). -/
def aoSteps : Nat := 0x2000

/-- Word index of the first Score buffer word in AO memory (Table 5-7). -/
def aoBufs : Nat := 0x2800

/-- A word of AO memory. -/
def State.aoWord (s : State) (i : Nat) : Word := Cells.get (fun _ => 0#32) s.ao i

/-- A word of AO memory written. -/
def State.setAo (s : State) (i : Nat) (v : Word) : State := { s with ao := Cells.put (fun _ => 0#32) s.ao i v }

/-- Score buffer word i. -/
def State.buf (s : State) (i : Nat) : Word := s.aoWord (aoBufs + i)

/-- Score buffer word i written. -/
def State.setBuf (s : State) (i : Nat) (v : Word) : State := s.setAo (aoBufs + i) v

/-- Words written to AO memory from a word index on. -/
def State.setAoWords (s : State) (i : Nat) : List Word → State
  | [] => s
  | w :: ws => (s.setAo i w).setAoWords (i + 1) ws

/-- A fuse word as made: the factory section of the part, and a virgin customer section (R233, R235). -/
def madeFuse (i : Nat) : BitVec 64 := if i < 48 then Config.factoryFuse i else 0#64

/-- The data bits of a fuse word as blown. -/
def State.fuseWord (s : State) (i : Nat) : BitVec 56 := (Cells.get madeFuse s.fuses i).setWidth 56

/-- The SECDED check bits of a fuse word as blown (R233). -/
def State.fuseCheck (s : State) (i : Nat) : BitVec 8 := ((Cells.get madeFuse s.fuses i) >>> 56).setWidth 8

/-- Bits of a fuse word blown: a bit that is blown stays so (R233). -/
def State.blow (s : State) (i : Nat) (data : BitVec 56) (check : BitVec 8) : State :=
  { s with fuses := Cells.put madeFuse s.fuses i (Cells.get madeFuse s.fuses i ||| (check ++ data)) }

/-- A fuse word as loaded at the last start, from the fuse image (R238). -/
def State.fuseImage (s : State) (i : Nat) : BitVec 56 :=
  (s.reg (Reg.TUNE_FUSE_HI + 8 * i)).setWidth 24 ++ s.reg (Reg.TUNE_FUSE_LO + 8 * i)

/-! ### What a reset keeps of the registers (R5, Table 0-5) -/

/-- A word store after a reset: every listed word keeps the bits of keep and takes its POR value in the others. -/
def resetCells (keep : RegSpec → Word) (m : Cells Word) : Cells Word :=
  (m.map (fun e => match regSpec e.1 with
    | some r => (e.1, (e.2 &&& keep r) ||| (r.por &&& ~~~(keep r)))
    | none => (e.1, porWord e.1))).filter (fun e => decide (e.2 ≠ porWord e.1))

/-- Registers after a CORE reset: fields without a mark return to their reset values. -/
def State.resetCoreRegs (s : State) : State :=
  { s with regs := resetCells (·.keepCore) s.regs, force := resetCells (·.keepCore) s.force }

/-- Registers after a SYSTEM reset: fields without a mark and fields marked S return to their reset values. -/
def State.resetSysRegs (s : State) : State :=
  { s with regs := resetCells (·.keepSys) s.regs, force := resetCells (·.keepSys) s.force }

/-- All register rows of the part. -/
def allRegs : List RegSpec := (List.range 15).flatMap pageRegs

/-- The fields marked X of one register word become undefined: free values (R5, log entry 2). -/
def State.undefWord (s : State) (r : RegSpec) (i : Nat) : State :=
  let (w, s1) := s.takeFree
  let a := r.base + r.stride * i
  s1.setReg a ((s1.reg a &&& ~~~r.undef) ||| (w &&& r.undef))

/-- Every field marked X becomes undefined (R5). -/
def State.undefRegs (s : State) : State :=
  (allRegs.filter (fun r => r.undef != 0#32)).foldl
    (fun s r => (List.range r.count).foldl (fun s i => s.undefWord r i) s) s

end Sys2Proof.Machine
end

