-- ==== Sys2Proof/Machine/Flags.lean ====
section
/-!
DEFINITION. The event fabric: Score inputs, FACE evaluation, pending flags, routes, interrupt lines (R26, R27, R136,
R137, R143 to R145, R376, R384), ring drops, unleased accesses (R28), and the ring halt of R139.
-/

namespace Sys2Proof.Machine

/-! ### FACE field values (16) -/

/-- The wall tick count W (R375). -/
def State.wallTicks (s : State) : BitVec 48 := s.metro + s.face.wall

/-- The wall second count (R375). -/
def State.wallSec (s : State) : Nat := s.wallTicks.toNat / 32768

/-- Year, month and day of the month of a day count from 2000-01-01 on the proleptic Gregorian calendar (R375). -/
def civilDate (days : Nat) : Nat × Nat × Nat :=
  let z := days + 730425
  let era := z / 146097
  let doe := z % 146097
  let yoe := (doe - doe / 1460 + doe / 36524 - doe / 146096) / 365
  let doy := doe - (365 * yoe + yoe / 4 - yoe / 100)
  let mp := (5 * doy + 2) / 153
  let d := doy - (153 * mp + 2) / 5 + 1
  let m := if mp < 10 then mp + 3 else mp - 9
  (yoe + era * 400 + (if m ≤ 2 then 1 else 0), m, d)

/-- Offset of word w of field f in the FACE table window. -/
def faceField (f w : Nat) : Nat := Reg.FACE_FIELD_W0 + 16 * f + 4 * w

/-- Field f is enabled in force. -/
def State.faceEn (s : State) (f : Nat) : Bool := s.fflag (faceField f 0) 31

/-- The value of a field by its KIND (Table 16-3). A KIND the commit refuses is never in force. -/
def State.faceValue (s : State) (f : Nat) : Nat :=
  let sec := s.wallSec
  let day := sec / 86400
  match s.ffld (faceField f 1) 3 0 with
  | 1 => sec % 60
  | 2 => sec / 60 % 60
  | 3 => sec / 3600 % 24
  | 4 => (sec / 3600 + 11) % 12 + 1
  | 5 => (day + 6) % 7
  | 6 => (civilDate day).2.2
  | 7 => (civilDate day).2.1
  | 8 => ((civilDate day).1 - 2000) % 100
  | 9 => if sec / 3600 % 24 < 12 then 0 else 1
  | _ =>
    let w3 := s.inForce (faceField f 3)
    ((s.buf (field w3 10 0)).toNat >>> field w3 15 11) % 2 ^ (field w3 20 16 + 1)

/-- FIELD_VAL register of field f. -/
def faceVal (f : Nat) : Nat := Reg.FACE_FIELD_VAL + 4 * f

/-- Field f waits to be shown. -/
def State.faceDue (s : State) (f : Nat) : Bool := s.flag (faceVal f) 30

/-- Field f becomes DUE with a value to show. -/
def State.setDue (s : State) (f v : Nat) : State :=
  { s with face := { s.face with value := Cells.put (fun _ => 0) s.face.value f v } }.setFlag (faceVal f) 30 true

/-! ### Raises -/

/-- A raise held in the pending flag of its event (R27): repeats add to COUNT, which saturates at 15; first occurrences
stay in order of tick, then of event number. -/
def holdFlag (fs : List EvFlag) (f : EvFlag) : List EvFlag :=
  match fs with
  | [] => [f]
  | g :: rest =>
    if g.event = f.event then
      { g with count := satAdd 15 g.count f.count, ringOnly := g.ringOnly && f.ringOnly } :: rest
    else if rest.any (fun h => h.event == f.event) then g :: holdFlag rest f
    else if g.tick = f.tick ∧ f.event < g.event then f :: g :: rest
    else g :: holdFlag rest f

/-- The route word of an event (R136). -/
def State.route (s : State) (e : Nat) : Word := s.reg (Reg.CUE_ROUTE_0 + 4 * e)

/-- Bit e of EV_PEND set. -/
def State.setEvPend (s : State) (e : Nat) : State := s.setFlag (Reg.CUE_EV_PEND + 4 * (e / 32)) (e % 32) true

/-- The ring can take an event entry now: an enabled EVENT ring with a free slot, not halted, in a powered Hall
(R125, R136). -/
def State.takesEvents (s : State) (r : Nat) : Bool :=
  s.hallOn && s.ringEn r && (s.ringType r == 2) && !(s.ring r).enabling && !s.ringHalted r && s.ringRoom r

/-- One pending flag delivered by the route word in force (R27, R136). What the ring cannot take stays held; a flag
that names neither a ring nor a line is discarded. -/
def State.deliverFlag (s : State) (f : EvFlag) : State :=
  let w := s.route f.event
  let s1 := if bit w 9 && !f.ringOnly then s.setEvPend f.event else s
  if bit w 8 then
    if s1.takesEvents (field w 7 0) then s1.post (field w 7 0) (.event f.event f.count f.arg f.tick)
    else { s1 with flags := holdFlag s1.flags { f with ringOnly := true } }
  else s1

/-- Every pending flag is delivered in order, as far as CORE and the rings allow (R27, R66, R136). -/
def State.deliverFlags (s : State) : State :=
  if s.coreOn then s.flags.foldl State.deliverFlag { s with flags := [] } else s

/-- A raise routed to its ring and its line, or held while CORE is stopped (R27, R136). -/
def State.routeRaise (s : State) (e : Nat) (arg : Word) : State :=
  let f : EvFlag := { event := e, count := 1, arg := arg, tick := s.metro, ringOnly := false }
  if s.coreOn then
    if s.flags.any (fun g => g.event == e) then
      let s1 := if bit (s.route e) 9 then s.setEvPend e else s
      if bit (s.route e) 8 then { s1 with flags := holdFlag s1.flags { f with ringOnly := true } } else s1
    else s.deliverFlag f
  else { s with flags := holdFlag s.flags f }

/-- Offset of INPUTi of task t. -/
def taskInput (t i : Nat) : Nat := Reg.SCORE_TASK_INPUT0 + 32 * t + 4 * i

/-- Offset of TASK_STAT of task t. -/
def taskStat (t : Nat) : Nat := Reg.SCORE_TASK_STAT + 32 * t

/-- Offset of TASK_CNT of task t. -/
def taskCnt (t : Nat) : Nat := Reg.SCORE_TASK_CNT + 32 * t

/-- A raise of event e counts on this input of this task (R144). -/
def State.inputTakes (s : State) (t i e : Nat) : Bool :=
  s.flag (taskInput t i) 7 && s.fld (taskInput t i) 6 0 == e

/-! ### Durable counters (R260) -/

/-- n increments for counter c: UNSAVED saturates, and the first one starts the time of R261. A counter without a base
record, or with EN 0, ignores them (R259, R260). -/
def State.countUp (s : State) (c n : Nat) : State :=
  let tab := s.reg (Reg.JRNL_CTR_TAB + 8 * c)
  if s.jrnl.based.contains c && bit tab 5 && decide (0 < n) then
    let u := s.fld (Reg.JRNL_CTR_UNSAVED + 4 * c) 31 0
    let s1 := s.setFld (Reg.JRNL_CTR_UNSAVED + 4 * c) 31 0 (satAdd 0xFFFFFFFF u n)
    { s1 with jrnl := { s1.jrnl with
      since := Cells.put (fun _ => []) s1.jrnl.since c (Cells.get (fun _ => []) s1.jrnl.since c ++ [(s1.edge, n)]) } }
  else s

/-- A raise of event e counted by the durable counters bound to it (R260). -/
def State.countEvent (s : State) (e : Nat) : State :=
  (List.range 8).foldl (fun s c =>
    if s.fld (Reg.JRNL_CTR_TAB + 8 * c) 14 8 = e then s.countUp c 1 else s) s

/-- An event that a block of the CORE domain raises (Tables 1-1 and 1-6): start, host ports, rings and Hall, journal, pixel
plane, pushes, Ensemble and bus recovery. -/
def coreEvent (e : Nat) : Bool :=
  e == 4 || decide (8 ≤ e ∧ e < 16) || decide (64 ≤ e ∧ e ≤ 98) || decide (104 ≤ e ∧ e < 112) || e == 113

/-- An event raised (R26): routes deliver or hold it, and Score inputs, durable counters and FACE count it at the next tick
(R143, R156), or at the second AO edge where CORE raises it (R12). -/
def State.raise (s : State) (e : Nat) (arg : Word) : State :=
  let s1 := s.routeRaise e arg
  { s1 with counting := s1.counting ++ [{ event := e, arg := arg, edges := if coreEvent e then 2 else 1 }] }

/-- One raise counted on input ti % 4 of task ti / 4: the count saturates, the argument goes to its buffer word, and the
first overflow is marked and raised (R144, R145). -/
def State.countInput (e : Nat) (arg : Word) (s : State) (ti : Nat) : State :=
  let t := ti / 4
  let i := ti % 4
  if s.inputTakes t i e then
    let n := s.fld (taskCnt t) (4 * i + 3) (4 * i)
    let s1 := s.setFld (taskCnt t) (4 * i + 3) (4 * i) (satAdd 15 n 1)
    let s2 := if s.flag (taskInput t i) 19 then s1.setBuf (s.fld (taskInput t i) 18 8) arg else s1
    if n = 15 ∧ !s2.flag (taskStat t) 13 then
      ((s2.setFlag (taskStat t) 13 true).setFlag Reg.SCORE_OVF t true).raise 18 (word t)
    else s2
  else s

/-- Field f is bound to event e (R376). -/
def State.evalOn (s : State) (e f : Nat) : Bool :=
  s.fflag (faceField f 2) 23 && s.ffld (faceField f 2) 22 16 == e

/-- Fields marked for evaluation at the end of the tick (R376). -/
def State.markEvals (s : State) (fs : List Nat) : State :=
  { s with face := { s.face with evals := s.face.evals ++ fs.filter (fun f => !s.face.evals.contains f) } }

/-- A raise counted (R26): Score inputs, durable counters (R260), and the fields of FACE that it has evaluated (R376). -/
def State.countRaise (s : State) (r : Raise) : State :=
  let s1 := ((List.range 64).foldl (State.countInput r.event r.arg) s).countEvent r.event
  s1.markEvals ((List.range 12).filter (s1.evalOn r.event))

/-- The raises that this tick counts, in fabric order; the others come one edge nearer (R26, R143). -/
def State.countRaises (s : State) : State :=
  (s.counting.filter (fun r => decide (r.edges ≤ 1))).foldl State.countRaise
    { s with counting := (s.counting.filter (fun r => decide (1 < r.edges))).map (fun r => { r with edges := r.edges - 1 }) }

/-- One evaluation of field f (R376, R384); forced marks an evaluation by REPAINT or by a commit. -/
def State.evalField (forced : Bool) (s : State) (f : Nat) : State :=
  if s.faceEn f then
    let v := s.faceValue f
    let s1 :=
      if s.faceDue f && !s.scan.running && s.cur != 4 then
        let m := Cells.get (fun _ => 0) s.face.miss f + 1
        let s2 := { s with face := { s.face with miss := Cells.put (fun _ => 0) s.face.miss f m } }
        if max 1 (s.ffld Reg.FACE_CFG 11 8) ≤ m ∧ !s2.flag Reg.FACE_STATUS (16 + f) then
          (s2.setFlag Reg.FACE_STATUS (16 + f) true).raise 99 (word (f + 256 * min 255 m))
        else s2
      else s
    if !forced ∧ s1.fld (faceVal f) 26 0 = v ∧ !s1.faceDue f then s1 else s1.setDue f v
  else s

/-! ### Interrupt lines (R137) -/

/-- Line A (false) or B (true) is asserted. -/
def State.lineAsserted (s : State) (line : Bool) : Bool :=
  (List.range 128).any (fun e =>
    s.flag (Reg.CUE_EV_PEND + 4 * (e / 32)) (e % 32) && bit (s.route e) 10 == line) ||
  (List.range 256).any (fun r =>
    s.flag (Reg.CUE_RING_PEND + 4 * (r / 32)) (r % 32) && s.flag (ringWord r 1) 24 && s.flag (ringWord r 1) 25 == line)

/-! ### Ring halts, drops and unleased accesses -/

/-- An entry for a SAMPLE or LOG ring is dropped (R127): DROPS saturates, and the first drop since the ring was enabled
or last took an entry raises EV_CUE_DROP. -/
def State.dropEntry (s : State) (r : Nat) : State :=
  let s1 := s.bumpSat (ringWord r 3) 31 20
  if (s.ring r).dropped then s1
  else (s1.setRing r { s1.ring r with dropped := true }).raise 12 (word r)

/-- An event entry that waits for its ring: it goes back to the pending flag of its event (Table 6-2). -/
def State.unpostEvent (s : State) : OutEntry → State
  | .event n c a t => { s with flags := holdFlag s.flags { event := n, count := c, arg := a, tick := t, ringOnly := true } }
  | _ => s

/-- The entries that wait for a ring which no longer takes them (Table 6-2): events go back to their pending flags, SAMPLE and LOG
entries are dropped, completions and messages wait on. -/
def State.unqueue (s : State) (r : Nat) : State :=
  let q := s.ring r
  q.outbox.foldl (fun s e => match e with
    | .event .. => s.unpostEvent e
    | .sample .. => s.dropEntry r
    | .log .. => s.dropEntry r
    | _ => s)
    (s.setRing r { q with outbox := q.outbox.filter (fun e => match e with
      | .event .. => false
      | .sample .. => false
      | .log .. => false
      | _ => true) })

/-- A ring halts (R139): HALTED and HALT_CAUSE, the first halt in HALT_LOG, EV_CUE_HALT; what waits
for the ring is handled as for a full one (R127, R136). -/
def State.haltRing (s : State) (r cause : Nat) : State :=
  let i := s.ringIndex r
  let info := r + 256 * i + 0x100000 * cause
  let s1 := (s.setFlag (ringWord r 3) 13 true).setFld (ringWord r 3) 19 16 cause
  let s2 := if s1.flag Reg.CUE_HALT_LOG 31 then s1 else s1.setReg Reg.CUE_HALT_LOG (word (info + 2 ^ 31))
  (s2.raise 10 (word info)).unqueue r

/-- A SAMPLE or LOG entry for a ring: queued where a slot is free, dropped where the ring is full or halted (R127). -/
def State.postDropping (s : State) (r : Nat) (e : OutEntry) : State :=
  if s.ringHalted r || !s.ringRoom r then s.dropEntry r
  else (s.post r e).setRing r { (s.post r e).ring r with dropped := false }

/-- A block's access to len Hall bytes: EV_HALL_UNLEASED once for each 16-byte grant that touches unleased bytes, with
the lowest of them (R28). -/
def State.touchHall (s : State) (a len : Nat) : State :=
  (List.range ((a + len + 15) / 16 - a / 16)).foldl (fun s g =>
    let lo := max a (16 * (a / 16 + g))
    let hi := min (a + len) (16 * (a / 16 + g) + 16)
    match (List.range (hi - lo)).find? (fun i => !s.leased (lo + i)) with
    | some i => s.raise 14 (word (lo + i))
    | none => s) s

end Sys2Proof.Machine
end

