-- ==== Sys2Proof/Machine/Operands.lean ====
section
/-!
DEFINITION. Ring entries as operands: completion status codes, the verb a ring executes, its rights, page-mode and
argument checks, completions, deferred verbs (R24, R129 to R133), and which page an offset and a verb belong to.
-/

namespace Sys2Proof.Machine

/-- Completion status (Table 6-8). -/
inductive Status where
  | ok | okDegraded | okDeferred | badVerb | badArg | noPermission | busy | timeout | rejectedShape | capacity
  | implausible | abortedEpoch | nvReadonly | halted | superseded | dataFault
  deriving DecidableEq, Repr

/-- The code of a status (Table 6-8). -/
def Status.code : Status → Nat
  | .ok => 0x00
  | .okDegraded => 0x01
  | .okDeferred => 0x02
  | .badVerb => 0x10
  | .badArg => 0x11
  | .noPermission => 0x12
  | .busy => 0x13
  | .timeout => 0x14
  | .rejectedShape => 0x15
  | .capacity => 0x16
  | .implausible => 0x17
  | .abortedEpoch => 0x18
  | .nvReadonly => 0x19
  | .halted => 0x1A
  | .superseded => 0x1B
  | .dataFault => 0x1C

/-- The page a verb acts on (Table 6-8a and the chapters' verb lists); none for NOP, ECHO and FENCE. -/
def verbPage (code : Nat) : Option Nat :=
  if code ≤ 2 then none
  else if code ≤ 7 then some 2
  else if code ≤ 0x16 then some 0
  else if code ≤ 0x1A then some 1
  else if code ≤ 0x1D then some 0
  else if code ≤ 0x24 then some 3
  else if code = 0x25 then some 14
  else if code ≤ 0x3F then some 4
  else if code ≤ 0x4F then some 5
  else if code ≤ 0x5F then some 6
  else if code ≤ 0x6F then some 7
  else if code ≤ 0x75 then some 8
  else if code ≤ 0x7F then some 9
  else if code ≤ 0x85 then some 10
  else if code ≤ 0x8A then some 11
  else if code ≤ 0x8F then some 12
  else some 13

/-- The verb codes that Table 6-9 and the chapters' verb lists assign; any other is malformed (R130). -/
def verbAssigned (code : Nat) : Bool :=
  decide (code ≤ 0x07) || (decide (0x10 ≤ code) && decide (code ≤ 0x1A)) || code == 0x1C || code == 0x1D ||
  (decide (0x20 ≤ code) && decide (code ≤ 0x25)) || (decide (0x30 ≤ code) && decide (code ≤ 0x35)) ||
  (decide (0x40 ≤ code) && decide (code ≤ 0x45)) || (decide (0x50 ≤ code) && decide (code ≤ 0x56)) ||
  (decide (0x60 ≤ code) && decide (code ≤ 0x68)) || (decide (0x70 ≤ code) && decide (code ≤ 0x7C)) ||
  (decide (0x80 ≤ code) && decide (code ≤ 0x95))

/-- MODE of a page (Table 1-8). -/
def modeReg (p : Nat) : Nat := 0x1000 * p + 0xBC

/-- The page is in EXPERT or has a switch to BASIC pending: its verbs complete with BUSY (R32, R33). -/
def State.pageBusy (s : State) (p : Nat) : Bool := s.flag (modeReg p) 0 || s.flag (modeReg p) 16

/-- The permission word of a client (Table 5-5). -/
def State.perm (s : State) (c : Nat) : Word := s.reg (Reg.HPORT_PERM_0 + 4 * c)

/-- The client holds the PAGE bit of page p. -/
def State.hasPage (s : State) (c p : Nat) : Bool := bit (s.perm c) p

/-- The entry a ring executes, as its verb sees it. busy: its page took no verbs at the fetch (R32). -/
structure Verb where
  ring : Nat
  owner : Nat
  words : List Word
  index : Nat
  busy : Bool := false
  deriving DecidableEq, Repr

/-- VERB of the entry (Table 6-3). -/
def Verb.code (v : Verb) : Nat := field (nth v.words 0) 7 0

/-- SILENT of the entry. -/
def Verb.silent (v : Verb) : Bool := bit (nth v.words 0) 8

/-- TAG of the entry. -/
def Verb.tag (v : Verb) : Nat := field (nth v.words 0) 31 16

/-- Argument word i (ARG0 to ARG6). -/
def Verb.arg (v : Verb) (i : Nat) : Word := nth v.words (i + 1)

/-- Every argument word lies within its mask; argument words beyond the list must be 0 (R133). -/
def Verb.argsWithin (v : Verb) (masks : List Word) : Bool :=
  (List.range 7).all (fun i => within (v.arg i) (nth masks i))

/-- The COMPLETION ring of the entry that ring r executes: the PAIR in its descriptor, or the one at the disable (R121). -/
def State.pairNow (s : State) (r : Nat) : Nat :=
  match (s.ring r).cur with
  | some f => (f.leftTo.map (·.2)).getD (s.ringPair r)
  | none => s.ringPair r

/-- The verb of the entry that ring r has fetched and not finished. -/
def State.verbOf (s : State) (r : Nat) : Option Verb :=
  (s.ring r).cur.map (fun f => { ring := r, owner := (f.leftTo.map (·.1)).getD (s.ringOwner r), words := f.words, index := f.index, busy := f.busy })

/-- The verb of ring r that has not begun, if its VERB is code. -/
def State.freshVerb (s : State) (r code : Nat) : Option Verb :=
  match (s.ring r).cur with
  | some f => if !f.started && s.ringType r == 0 && field (nth f.words 0) 7 0 == code then s.verbOf r else none
  | none => none

/-- The ring's entry is finished: the count of finished entries rises and the ring is ready for its next fetch
(R124, R129). An entry whose ring was enabled anew since is not counted. -/
def State.finish (s : State) (r : Nat) : State :=
  let q := s.ring r
  match q.cur with
  | some f =>
    s.setRing r { q with cur := none, finished := if f.orphan then q.finished else q.finished + 1 }
  | none => s

/-- A final completion of a verb: nothing is written for OK while SILENT is 1, else the completion waits for a slot of
PAIR and finishes the entry when it is written (R129, Table 6-3). -/
def State.complete (s : State) (v : Verb) (st : Status) (res : List Word := []) : State :=
  if v.silent && st == .ok then s.finish v.ring
  else
    let q := s.ring v.ring
    let s1 := s.setRing v.ring
      { q with cur := q.cur.map (fun f => { f with started := true, waiting := none }) }
    s1.post (s1.pairNow v.ring) (.completion v.tag v.code st.code v.index v.ring res true)

/-- A verb begins to wait without a completion. -/
def State.await (s : State) (v : Verb) (w : Wait) (timeout : Nat) : State :=
  let q := s.ring v.ring
  s.setRing v.ring { q with cur := q.cur.map (fun f =>
    { f with started := true, waiting := some w, since := s.edge, timeout := timeout }) }

/-- A verb that must wait: OK_DEFERRED first, then its final status (R24, R129). -/
def State.defer (s : State) (v : Verb) (w : Wait) (timeout : Nat := 2097152) : State :=
  let s1 := s.await v w timeout
  if v.silent then s1
  else s1.post (s1.pairNow v.ring) (.completion v.tag v.code Status.okDeferred.code v.index v.ring [] false)

/-- The rings whose verb waits for w, in ascending order. -/
def State.waiters (s : State) (w : Wait) : List Nat :=
  (s.rings.filter (fun e => match e.2.cur with
    | some f => f.waiting == some w
    | none => false)).map (·.1)

/-- The verb that ring r waits with, completed. -/
def State.completeRing (s : State) (r : Nat) (st : Status) (res : List Word := []) : State :=
  match s.verbOf r with
  | some v => s.complete v st res
  | none => s

/-- Every verb that waits for w completed with one status. -/
def State.completeAll (s : State) (w : Wait) (st : Status) (res : List Word := []) : State :=
  (s.waiters w).foldl (fun s r => s.completeRing r st res) s

/-- Who may issue a verb: true where the ring's owner may. -/
abbrev Right := State → Verb → Bool

/-- The owner's permission word holds the PAGE bit of page p (R130). -/
def pageRight (p : Nat) : Right := fun s v => s.hasPage v.owner p

/-- Client 0 alone. -/
def clientZero : Right := fun _ v => v.owner == 0

/-- Any ring owner. -/
def anyOwner : Right := fun _ _ => true

/-- A verb's execution (R32, R130, R133): the right, then the page's mode at the fetch, then the arguments, then the verb's own effect.
Nothing happens unless ring r holds a fetched entry of this verb that has not begun. -/
def State.runVerb (s : State) (r code : Nat) (right : Right) (argsOk : State → Verb → Bool)
    (body : State → Verb → State) : State :=
  match s.freshVerb r code with
  | none => s
  | some v =>
    if !right s v then s.complete v .noPermission
    else if v.busy then s.complete v .busy
    else if !argsOk s v then s.complete v .badArg
    else body s v

end Sys2Proof.Machine
end

