-- ==== Sys2Proof/Machine/Cue.lean ====
section
/-!
DEFINITION. Cue rings (06): ring checks, enabling and disabling, doorbells, fetching and writing entries, coalescing,
fences, messages, resumes, and the general and CUE verbs.
-/

namespace Sys2Proof.Machine

/-! ### Enabling and disabling -/

/-- Hall bytes lo to lo + len − 1 all lie in enabled leases. -/
def State.covered (s : State) (lo len : Nat) : Bool :=
  (List.range ((lo + len + 4095) / 4096 - lo / 4096)).all (fun g => s.leased (4096 * (lo / 4096 + g)))

/-- The Hall bytes of ring r lie in enabled leases; otherwise its next access halts it (R139). -/
def State.ringCovered (s : State) (r : Nat) : Bool :=
  s.covered (s.entryAddr r 0) (s.entryBytes r * s.ringSize r)

/-- Ring r is enabled or enabling (R119). -/
def State.ringBusy (s : State) (r : Nat) : Bool := s.ringEn r || (s.ring r).enabling

/-- The ring check of R119 over the descriptor as stored; byZero: the enable comes from client 0. -/
def State.ringCheck (s : State) (r : Nat) (byZero : Bool) : Bool :=
  let lo := s.entryAddr r 0
  let len := s.entryBytes r * s.ringSize r
  let own := s.ringOwner r
  let peer := s.fld (ringWord r 2) 31 24
  decide (3 ≤ s.fld (ringWord r 1) 3 0) && decide (s.fld (ringWord r 1) 3 0 ≤ 12) && s.ringType r != 7 &&
  lo % s.entryBytes r == 0 &&
  (match s.leaseOf lo len with
    | some l => s.leaseType l == 1 && s.leaseOwner l == own
    | none => false) &&
  (List.range 256).all (fun q => q == r || !s.ringBusy q ||
    decide (s.entryAddr q 0 + s.entryBytes q * s.ringSize q ≤ lo) || decide (lo + len ≤ s.entryAddr q 0)) &&
  bit (s.perm own) 16 &&
  (!s.isSubmission r || (s.ringEn (s.ringPair r) && s.ringType (s.ringPair r) == 1 &&
    s.ringOwner (s.ringPair r) == own)) &&
  (!(s.isSubmission r && s.ringType r == 5) || (s.ringEn peer && s.ringType peer == 5 &&
    s.flag (ringWord peer 1) 7 && (byZero || s.ringOwner peer == own)))

/-- A ring made empty (R120): INDEX, doorbell and finished count 0, not halted, PHASE 1 on a part-to-host ring. U returns to 0 with the
entries it counts (log entry 55). Completions that still wait for the ring wait on (Table 6-2). -/
def State.emptyRing (s : State) (r : Nat) : State :=
  let w3 := withFlags (s.reg (ringWord r 3))
  let q := s.ring r
  ((s.setReg (ringWord r 3) w3).setReg (Reg.CUE_DOORBELL + 4 * r) 0#32).setRing r
    { q with finished := 0, unsignalled := 0, dropped := false }
where
  /-- Descriptor word 3 of an empty ring: DROPS kept. -/
  withFlags (w : Word) : Word := withField (withField w 19 0 0) 12 12 (if s.isSubmission r then 0 else 1)

/-- Ring r is enabled: no ring has been disabled since (R135). -/
def State.joinPeers (s : State) (r : Nat) : State :=
  s.rings.foldl (fun s e => if e.2.cutOff.contains r then
    s.setRing e.1 { s.ring e.1 with cutOff := (s.ring e.1).cutOff.filter (· != r) } else s) s

/-- An enable of ring r, its words already stored with EN 0 (R119): a submission ring is enabled empty; a part-to-host
ring starts its zero fill; a failed check sets ERR. -/
def State.enableRing (s : State) (r : Nat) (byZero : Bool) : State :=
  if s.ringCheck r byZero then
    let s1 := (s.setFlag (ringWord r 3) 15 false).emptyRing r
    if s.isSubmission r then (s1.joinPeers r).setFlag (ringWord r 1) 31 true
    else s1.setRing r { s1.ring r with enabling := true }
  else s.setFlag (ringWord r 3) 15 true

/-- The zero fill of ring r ends (R119, R120): its entry bytes are zero, EN reads 1, and a RING_SETUP that waits for it
completes with OK. -/
def State.fillDone (s : State) (r : Nat) : State :=
  let s1 := s.zeroHall (s.entryAddr r 0) (s.entryBytes r * s.ringSize r)
  let s2 := (s1.setRing r { s1.ring r with enabling := false, setupBy := none }).setFlag (ringWord r 1) 31 true
  let s3 := match (s.ring r).setupBy with
    | some q => s2.completeRing q .ok
    | none => s2
  s3.deliverFlags

/-- A submission ring is enabled and names ring r as its PAIR (R121). -/
def State.pairedBy (s : State) (r : Nat) : Bool :=
  (List.range 256).any (fun q => s.ringEn q && s.isSubmission q && s.ringPair q == r)

/-- The rings whose FENCE waits for ring r (R134). -/
def State.fencesOn (s : State) (r : Nat) : List Nat :=
  (s.rings.filter (fun e => match e.2.cur with
    | some f => match f.waiting with
      | some (.fence t _) => t == r
      | _ => false
    | none => false)).map (·.1)

/-- Every FENCE that waits for ring r completes with a status (R134). -/
def State.endFences (s : State) (r : Nat) (st : Status) : State := (s.fencesOn r).foldl (fun s q => s.completeRing q st) s

/-- The message entry that ring r executes is delivered or dropped (R135): its completion, or none for OK while SILENT is 1. -/
def State.messageDone (s : State) (r : Nat) (st : Status) : State :=
  match (s.ring r).cur with
  | some f =>
    if bit (nth f.words 7) 0 && st == .ok then s.finish r
    else (s.setRing r { s.ring r with cur := some { f with started := true } }).post (s.pairNow r)
      (.completion 0 0xFD st.code f.index r [] true)
  | none => s

/-- The messages that wait for a RECV ring which is disabled: they are dropped with BAD_ARG (R135). -/
def State.dropMessages (s : State) (r : Nat) : State :=
  let q := s.ring r
  q.outbox.foldl (fun s e => match e with
    | .message _ src _ => s.messageDone src .badArg
    | _ => s)
    (s.setRing r { q with outbox := q.outbox.filter (fun e => match e with
      | .message .. => false
      | _ => true) })

/-- The enabled SEND rings. -/
def State.sendRings (s : State) : List Nat :=
  (List.range 256).filter (fun q => s.ringEn q && s.ringType q == 5 && !s.flag (ringWord q 1) 7)

/-- Ring r is disabled (R121): what waits for it is handled as for a full ring (Table 6-2), messages to it are dropped, a FENCE that
waits for it completes with BAD_ARG, a fill stops and its RING_SETUP completes with BAD_ARG, and an entry in execution goes on to
the PAIR of now. HALTED and HALT_CAUSE stay until the next enable (log entry 55). -/
def State.disableRing (s : State) (r : Nat) : State :=
  let q := s.ring r
  let left := (s.ringOwner r, s.ringPair r)
  let s1 := (s.setFlag (ringWord r 1) 31 false).setRing r
    { q with
      enabling := false, setupBy := none, cutOff := s.sendRings
      cur := q.cur.map (fun f => { f with orphan := true, leftTo := some (f.leftTo.getD left) }) }
  let s2 : State := { s1 with ens := { s1.ens with jobs := s1.ens.jobs.map (fun j =>
    if j.ring = some r then { j with orphan := true, leftTo := some (j.leftTo.getD left.2) } else j) } }
  let s3 := ((s2.unqueue r).dropMessages r).endFences r .badArg
  match q.setupBy with
  | some p => s3.completeRing p .badArg
  | none => s3

/-- A disable of ring r by a write: ignored with ERR set for a COMPLETION ring that an enabled ring pairs with (R121). -/
def State.tryDisable (s : State) (r : Nat) : State :=
  if s.ringType r == 1 && s.pairedBy r then s.setFlag (ringWord r 3) 15 true else s.disableRing r

/-- The ring's RING_PEND bit written. -/
def State.setRingPend (s : State) (r : Nat) (b : Bool) : State :=
  s.setFlag (Reg.CUE_RING_PEND + 4 * (r / 32)) (r % 32) b

/-- The coalescing count of ring r is reached, or its time has passed, and IRQ_EN is 1: RING_PEND is set and U returns
to 0 (R138). -/
def State.signalRing (s : State) (r : Nat) : State :=
  if s.flag (ringWord r 1) 24 then (s.setRingPend r true).setRing r { s.ring r with unsignalled := 0 } else s

/-- The coalescing count of ring r tested (R138). -/
def State.testCount (s : State) (r : Nat) : State :=
  if max 1 (s.fld (ringWord r 2) 7 0) ≤ (s.ring r).unsignalled then s.signalRing r else s

/-- A write of descriptor word 0 or 2 of ring r (R121). -/
def State.writeRingPlain (s : State) (r w : Nat) (v : Word) : State :=
  if w = 0 ∧ s.ringBusy r then s else s.hostSet (ringWord r w) v

/-- A write of descriptor word 1 of ring r with EN = 1 (R119, R121). -/
def State.writeRingOn (s : State) (r : Nat) (v : Word) (byZero : Bool) : State :=
  if s.ringBusy r then s
  else ((s.hostSet (ringWord r 1) (withBit v 31 false)).testCount r).enableRing r byZero

/-- A write of descriptor word 1 of ring r with EN = 0 (R121). -/
def State.writeRingOff (s : State) (r : Nat) (v : Word) : State :=
  if s.ringBusy r then s.tryDisable r else (s.hostSet (ringWord r 1) v).testCount r

/-! ### Doorbells and coalescing -/

/-- The cause of Table 6-13 for which a doorbell write is ignored; 0 where it is accepted (R122). -/
def State.doorbellFault (s : State) (r : Nat) (v : Word) : Nat :=
  if !s.ringEn r then 1 else if s.ringSize r ≤ field v 11 0 then 2 else if field v 31 12 ≠ 0 then 3 else 0

/-- A doorbell write (R122, R138): accepted, it sets TAIL, restarts the idle timer and, on a part-to-host ring, clears
RING_PEND, makes U the number of unreleased entries and tests the count; otherwise it is captured once in DB_LOG with EV_CUE_DOORBELL. -/
def State.doorbell (s : State) (r : Nat) (v : Word) : State :=
  let fault := s.doorbellFault r v
  if fault = 0 then
    let s1 := (s.setReg (Reg.CUE_DOORBELL + 4 * r) v)
    let s2 := { s1 with ladder := { s1.ladder with idleCount := 0 } }
    if s.isSubmission r then s2
    else (((s2.setRingPend r false).setRing r
      { s2.ring r with unsignalled := s2.ringUsed r, coalFrom := s2.edge }).testCount r).deliverFlags
  else if s.flag Reg.CUE_DB_LOG 31 then s
  else (s.setReg Reg.CUE_DB_LOG (word (2 ^ 31 + 0x100000 * fault + 256 * field v 11 0 + r))).raise 11
    (word (r + 256 * fault))

/-! ### Fetching -/

/-- Ring r has announced entries that are not fetched. -/
def State.announced (s : State) (r : Nat) : Bool := s.ringIndex r != s.ringTail r

/-- The COMPLETION ring of submission ring r holds it: full or halted (R127). -/
def State.pairHolds (s : State) (r : Nat) : Bool :=
  s.ringHalted (s.ringPair r) || !s.ringRoom (s.ringPair r)

/-- WAITING of ring r (R127, Table 6-14): a part-to-host ring has no slot; a submission ring is held by its PAIR or PEER. -/
def State.ringWaits (s : State) (r : Nat) : Bool :=
  let peer := s.fld (ringWord r 2) 31 24
  s.ringEn r &&
    (if s.isSubmission r then
      s.pairHolds r || (s.ringType r == 5 && s.ringEn peer && (s.ringHalted peer || !s.ringRoom peer))
    else decide (s.ringSize r - 1 ≤ s.ringUsed r))

/-- Entries are fetched: CORE runs in TUTTI or MEZZO, the host is released and no descent has passed D5, which precedes D6
(Table 3-3). -/
def State.fetchOpen (s : State) : Bool := s.coreServes && s.ladder.step != .coreStop && s.ladder.step != .panel

/-- Ring r is ready for its next fetch (R124): enabled, not halted, announced, and its last entry finished. The readiness
of a JOB ring beside this is that of its chapter. -/
def State.fetchReady (s : State) (r : Nat) : Bool :=
  s.fetchOpen && s.ringEn r && s.isSubmission r && !s.ringHalted r && s.announced r &&
  (s.ringType r == 4 || (s.ring r).cur.isNone)

/-- A fetched entry of a COMMAND or MESSAGE SEND ring is malformed (R130, R135). -/
def entryMalformed (type : Nat) (ws : List Word) : Bool :=
  if type = 5 then field (nth ws 7) 30 1 != 0
  else field (nth ws 0) 15 9 != 0 || !verbAssigned (field (nth ws 0) 7 0)

/-- The place of the next fetch among the entries in execution (R135). -/
def State.fetchSeq (s : State) : Nat :=
  s.rings.foldl (fun m e => match e.2.cur with
    | some f => max m (f.seq + 1)
    | none => m) 0

/-- The page of a verb code takes no verbs: EXPERT, or a switch to BASIC is pending (R32, R33). -/
def State.verbClosed (s : State) (code : Nat) : Bool :=
  match verbPage code with
  | some p => s.pageBusy p
  | none => false

/-- The fetch of the next entry of ring r (R124, R127, R130, R139). The completion of a malformed MESSAGE SEND entry carries VERB 0xFD
and TAG 0, as Table 6-4 has for every MESSAGE (log entry 55). -/
def State.fetch (s : State) (r : Nat) : State :=
  if !s.fetchReady r || s.ringType r == 4 then s
  else if s.pairHolds r then s
  else if !s.ringCovered r then s.haltRing r 2
  else
    let i := s.ringIndex r
    let ws := s.hallWords (s.entryAddr r i) 8
    if entryMalformed (s.ringType r) ws then
      let verb := if s.ringType r = 5 then 0xFD else field (nth ws 0) 7 0
      let tag := if s.ringType r = 5 then 0 else field (nth ws 0) 31 16
      (s.haltRing r 1).post (s.ringPair r) (.completion tag verb Status.badVerb.code i r [] false)
    else
      let s1 := s.setFld (ringWord r 3) 11 0 ((i + 1) % s.ringSize r)
      let f : Fetched := { words := ws, index := i, seq := s.fetchSeq, peer := s.fld (ringWord r 2) 31 24, busy := s.ringType r == 0 && s.verbClosed (field (nth ws 0) 7 0) }
      s1.setRing r { s1.ring r with cur := some f }

/-! ### Writing part-to-host entries -/

/-- The eight words of an entry without its PHASE bit (Tables 6-4 to 6-7). -/
def State.entryWords (s : State) : OutEntry → List Word
  | .completion tag verb status sqIndex sqRing res _ =>
    [word (tag + 0x10000 * verb + 0x1000000 * status),
     word (sqIndex + 0x10000 * sqRing + 0x1000000 * s.fld Reg.DEV_EPOCH 7 0),
     nth res 0, nth res 1, nth res 2, nth res 3, s.now, 0#32]
  | .event n count arg tick =>
    [word (n + 256 * count + 0x1000000 * s.fld Reg.DEV_EPOCH 7 0), arg, tick.setWidth 32,
     word (tick.toNat / 2 ^ 32), 0#32, 0#32, 0#32, 0#32]
  | .keys ws =>
    let lo := fun i => (ws.getD i 0#64).setWidth 32
    let hi := fun i => ((ws.getD i 0#64) >>> 32).setWidth 32
    [word (256 * ws.length + 0x1000 + 0x1000000 * s.fld Reg.DEV_EPOCH 7 0),
     lo 0, hi 0, lo 1, hi 1, lo 2, hi 2, 0#32]
  | .sample task step tick data =>
    let d := bytesWords data
    [word (task + 16 * step + 0x10000 * data.length + 0x1000000 * s.fld Reg.DEV_EPOCH 7 0), tick,
     nth d 0, nth d 1, nth d 2, nth d 3, nth d 4, 0#32]
  | .log page code tick data =>
    let d := bytesWords data
    [word (page + 256 * code + 0x10000 * data.length + 0x1000000 * s.fld Reg.DEV_EPOCH 7 0), tick,
     nth d 0, nth d 1, nth d 2, nth d 3, nth d 4, 0#32]
  | .message p srcRing srcClient =>
    [nth p 0, nth p 1, nth p 2, nth p 3, nth p 4, nth p 5, nth p 6,
     word (srcRing + 256 * srcClient + 0x10000 * s.fld Reg.DEV_EPOCH 7 0)]

/-- An entry laid down in the next slot with its PHASE; INDEX moves, and PHASE toggles at the wrap (R125, R126). -/
def State.layEntry (s : State) (r : Nat) (e : OutEntry) : State :=
  let i := s.ringIndex r
  let ph := s.flag (ringWord r 3) 12
  let ws := s.entryWords e
  let s1 := s.putHallWords (s.entryAddr r i) (ws.take 7 ++ [withBit (nth ws 7) 31 ph])
  let s2 := s1.setFld (ringWord r 3) 11 0 ((i + 1) % s.ringSize r)
  if i + 1 = s.ringSize r then s2.setFlag (ringWord r 3) 12 (!ph) else s2

/-- An entry counted in U; the coalescing count may signal the ring (R138). -/
def State.countEntry (s : State) (r : Nat) : State :=
  let q := s.ring r
  let s1 := s.setRing r
    { q with unsignalled := q.unsignalled + 1, coalFrom := if q.unsignalled = 0 then s.edge else q.coalFrom }
  s1.testCount r

/-- The job of entry i of ring r leaves its slot; its entry is finished unless the ring was enabled anew since (R411). -/
def State.leaveSlot (s : State) (r i : Nat) : State :=
  match s.ens.jobs.find? (fun j => j.ring == some r && j.index == i && j.phase == .posted) with
  | some j =>
    let s1 : State := { s with ens := { s.ens with jobs := s.ens.jobs.filter (fun k => k.id != j.id) } }
    if j.orphan then s1 else s1.setRing r { s1.ring r with finished := (s1.ring r).finished + 1 }
  | none => s

/-- What follows the writing of an entry: a submission entry is finished once its final completion is written (R129), and a message
that is written has its completion (R135). -/
def State.finishEntry (s : State) (e : OutEntry) : State :=
  match e with
  | .message _ src _ => s.messageDone src .ok
  | .completion _ verb _ i sq _ true => if verb = 0xFE then s.leaveSlot sq i else s.finish sq
  | _ => s

/-- The next waiting entry of ring r is written (R125 to R127); without a slot the entry waits, outside every lease the
ring halts. -/
def State.writeEntry (s : State) (r : Nat) : State :=
  if !s.hallOn || !s.ringEn r || s.ringHalted r then s
  else match s.queued r with
    | [] => s
    | e :: _ =>
      if !s.ringCovered r then s.haltRing r 2
      else if s.ringSize r - 1 ≤ s.ringUsed r then s
      else (((s.setRing r { s.ring r with outbox := (s.ring r).outbox.erase e }).layEntry r e).countEntry r).finishEntry e

/-! ### Resume -/

/-- A halted ring resumed (R140): HALTED and HALT_CAUSE cleared; SKIP on a submission ring passes the halting entry,
which counts as finished. A FENCE that the halt has not ended yet ends (R134), and a ring that no lease covers halts again. -/
def State.resumeRing (s0 : State) (r : Nat) (skip : Bool) : State :=
  let s := s0.endFences r .halted
  let s1 := (s.setFlag (ringWord r 3) 13 false).setFld (ringWord r 3) 19 16 0
  let s2 :=
    if skip && s.isSubmission r then
      (s1.setFld (ringWord r 3) 11 0 ((s.ringIndex r + 1) % s.ringSize r)).setRing r
        { s1.ring r with finished := (s1.ring r).finished + 1 }
    else s1
  if s2.ringEn r && !s2.ringCovered r then s2.haltRing r 2 else s2.deliverFlags

/-! ### Verbs of Table 6-9 -/

/-- NOP (0x00). -/
def execNop (ring : BitVec 8) (s : State) : Host.Outcome State Fault Refusal :=
  .next (s.runVerb ring.toNat 0x00 anyOwner (fun _ v => v.argsWithin []) (fun s v => s.complete v .ok))

/-- ECHO (0x01). -/
def execEcho (ring : BitVec 8) (s : State) : Host.Outcome State Fault Refusal :=
  .next (s.runVerb ring.toNat 0x01 anyOwner
    (fun _ v => v.argsWithin [0xFFFFFFFF#32, 0xFFFFFFFF#32, 0xFFFFFFFF#32, 0xFFFFFFFF#32])
    (fun s v => s.complete v .ok [v.arg 0, v.arg 1, v.arg 2, v.arg 3]))

/-- Entries of ring f fetched since it was enabled and not finished: the entry in execution, or the jobs in slots. -/
def State.unfinished (s : State) (f : Nat) : Nat :=
  if s.ringType f = 4 then (s.ens.jobs.filter (fun j => j.ring == some f && !j.orphan)).length
  else match (s.ring f).cur with
    | some e => if e.orphan then 0 else 1
    | none => 0

/-- Entries of ring f announced and not finished (R134). -/
def State.fenceLeft (s : State) (f : Nat) : Nat :=
  (s.ringTail f + s.ringSize f - s.ringIndex f) % s.ringSize f + s.unfinished f

/-- FENCE's own effect (R134). -/
def State.fence (s : State) (v : Verb) : State :=
  let f := field (v.arg 0) 7 0
  if f = v.ring ∨ !s.ringEn f ∨ !s.isSubmission f then s.complete v .badArg
  else if s.fenceLeft f = 0 then s.complete v .ok [word ((s.ring f).finished % s.ringSize f)]
  else if s.ringHalted f then s.complete v .halted
  else s.await v (.fence f ((s.ring f).finished + s.fenceLeft f)) (field (v.arg 1) 15 0)

/-- FENCE (0x02, R134). -/
def execFence (ring : BitVec 8) (s : State) : Host.Outcome State Fault Refusal :=
  .next (s.runVerb ring.toNat 0x02 anyOwner (fun _ v => v.argsWithin [0xFF#32, 0xFFFF#32]) State.fence)

/-- The fenced entries have finished, or their ring has halted (R134). -/
def execFenceComplete (ring : BitVec 8) (s : State) : Host.Outcome State Fault Refusal :=
  .next (match (s.ring ring.toNat).cur with
    | some f =>
      match f.waiting with
      | some (.fence t mark) =>
        if mark ≤ (s.ring t).finished then
          s.completeRing ring.toNat .ok [word ((s.ring t).finished % s.ringSize t)]
        else if s.ringHalted t then s.completeRing ring.toNat .halted
        else s
      | _ => s
    | none => s)

/-- A FENCE whose timeout has passed first (R134). -/
def execFenceTimeout (ring : BitVec 8) (s : State) : Host.Outcome State Fault Refusal :=
  .next (match (s.ring ring.toNat).cur with
    | some f =>
      match f.waiting with
      | some (.fence t mark) =>
        if 0 < f.timeout ∧ f.timeout ≤ s.elapsed f.since ∧ (s.ring t).finished < mark then
          s.completeRing ring.toNat .timeout
        else s
      | _ => s
    | none => s)

/-- Who may set up the ring of RING_SETUP (06, "Ring descriptors"): client 0 any ring; another client with the CUE page
its own rings, and MESSAGE SEND rings whose PEER it owns. -/
def setupRight : Right := fun s v =>
  let w1 := v.arg 2
  let peer := field (v.arg 3) 31 24
  v.owner == 0 ||
    (s.hasPage v.owner 2 && field w1 13 8 == v.owner &&
      (!(field w1 6 4 == 5 && !bit w1 7) || s.ringOwner peer == v.owner))

/-- RING_SETUP's own effect: word 2, word 0, then word 1 with EN forced to 1 (R119). -/
def State.ringSetup (s : State) (v : Verb) : State :=
  let r := field (v.arg 0) 7 0
  if s.ringBusy r then (s.setFlag (ringWord r 3) 15 true).complete v .badArg
  else
    let s1 := (s.writeRingPlain r 2 (v.arg 3)).writeRingPlain r 0 (v.arg 1)
    let s2 := s1.writeRingOn r (v.arg 2) (v.owner == 0)
    if s2.flag (ringWord r 3) 15 then s2.complete v .badArg
    else if s2.ringEn r then s2.complete v .ok
    else (s2.setRing r { s2.ring r with setupBy := some v.ring }).await v (.ringFill r) 0

/-- RING_SETUP (0x03). -/
def execRingSetup (ring : BitVec 8) (s : State) : Host.Outcome State Fault Refusal :=
  .next (s.runVerb ring.toNat 0x03 setupRight
    (fun _ v => v.argsWithin [0xFF#32, 0x7FFFFF#32, 0x83FF3FFF#32, 0xFFFFFFFF#32]) State.ringSetup)

/-- Client 0 or the owner of the ring that ARG0 names. -/
def ringRight : Right := fun s v => v.owner == 0 || s.ringOwner (field (v.arg 0) 7 0) == v.owner

/-- RING_STOP's own effect (R121): BAD_ARG for a disabled ring or a ring that an enabled ring pairs with. -/
def State.ringStop (s : State) (v : Verb) : State :=
  let r := field (v.arg 0) 7 0
  if !s.ringBusy r then s.complete v .badArg
  else if s.ringType r == 1 && s.pairedBy r then (s.setFlag (ringWord r 3) 15 true).complete v .badArg
  else (s.disableRing r).complete v .ok

/-- RING_STOP (0x04). -/
def execRingStop (ring : BitVec 8) (s : State) : Host.Outcome State Fault Refusal :=
  .next (s.runVerb ring.toNat 0x04 ringRight (fun _ v => v.argsWithin [0xFF#32]) State.ringStop)

/-- RESUME's own effect (R140). -/
def State.resumeVerb (s : State) (v : Verb) : State :=
  let r := field (v.arg 0) 7 0
  if !s.ringHalted r then s.complete v .badArg
  else
    let s1 := s.resumeRing r (bit (v.arg 0) 8)
    s1.complete v .ok [word (s1.ringIndex r)]

/-- RESUME (0x05). -/
def execResume (ring : BitVec 8) (s : State) : Host.Outcome State Fault Refusal :=
  .next (s.runVerb ring.toNat 0x05 ringRight (fun _ v => v.argsWithin [0x1FF#32]) State.resumeVerb)

/-- EVENT_ROUTE's own effect: the route words of a range of events (R136). -/
def State.eventRoute (s : State) (v : Verb) : State :=
  let first := field (v.arg 0) 6 0
  let last := field (v.arg 0) 14 8
  let s1 := (List.range (last + 1 - first)).foldl
    (fun s i => s.setReg (Reg.CUE_ROUTE_0 + 4 * (first + i)) (v.arg 1)) s
  s1.deliverFlags.complete v .ok

/-- EVENT_ROUTE (0x06). A range whose last event lies before its first is out of range. -/
def execEventRoute (ring : BitVec 8) (s : State) : Host.Outcome State Fault Refusal :=
  .next (s.runVerb ring.toNat 0x06 clientZero
    (fun _ v => v.argsWithin [0x7F7F#32, 0x7FF#32] && decide (field (v.arg 0) 6 0 ≤ field (v.arg 0) 14 8))
    State.eventRoute)

/-- IRQ_ACK (0x07): bits of EV_PEND0–3 cleared (R137). -/
def execIrqAck (ring : BitVec 8) (s : State) : Host.Outcome State Fault Refusal :=
  .next (s.runVerb ring.toNat 0x07 (pageRight 2)
    (fun _ v => v.argsWithin [0xFFFFFFFF#32, 0xFFFFFFFF#32, 0xFFFFFFFF#32, 0xFFFFFFFF#32])
    (fun s v => ((List.range 4).foldl (fun s i => s.setReg (Reg.CUE_EV_PEND + 4 * i)
      (s.reg (Reg.CUE_EV_PEND + 4 * i) &&& ~~~(v.arg i))) s).complete v .ok))

/-! ### The fetcher, the writer and messages -/

/-- The part writes the next waiting entry of a part-to-host ring (R125). -/
def execEntryWrite (ring : BitVec 8) (s : State) : Host.Outcome State Fault Refusal := .next (s.writeEntry ring.toNat)

/-- Another ring's message to the same RECV ring was fetched earlier and is not on its way yet (R135). -/
def State.messageAhead (s : State) (f : Fetched) : Bool :=
  s.rings.any (fun e => match e.2.cur with
    | some g => !g.started && s.ringType e.1 == 5 && g.peer == f.peer && decide (g.seq < f.seq)
    | none => false)

/-- A fetched MESSAGE entry delivered (R135): dropped with BAD_ARG where its RECV ring has been disabled since the SEND ring was
enabled, held while that ring is full or halted and behind messages fetched earlier. Its completion follows the payload. -/
def State.sendMessage (s : State) (r : Nat) : State :=
  match (s.ring r).cur with
  | some f =>
    if f.started || s.ringType r != 5 then s
    else if !(s.ringEn f.peer && s.ringType f.peer == 5 && s.flag (ringWord f.peer 1) 7) || (s.ring f.peer).cutOff.contains r then
      s.messageDone r .badArg
    else if s.ringHalted f.peer || !s.ringRoom f.peer || s.messageAhead f then s
    else (s.setRing r { s.ring r with cur := some { f with started := true } }).post f.peer
      (.message (f.words.take 7) r ((f.leftTo.map (·.1)).getD (s.ringOwner r)))
  | none => s

/-- MESSAGE SEND (R135). -/
def execMessageSend (ring : BitVec 8) (s : State) : Host.Outcome State Fault Refusal := .next (s.sendMessage ring.toNat)

/-- COAL_TICKS have passed since the first entry counted in U (R138). -/
def State.coalPassed (s : State) (r : Nat) : Bool :=
  decide (0 < (s.ring r).unsignalled) && decide (0 < s.fld (ringWord r 2) 23 8) &&
    decide (s.fld (ringWord r 2) 23 8 ≤ s.elapsed (s.ring r).coalFrom)

/-- The coalescing time of ring r has passed and CORE runs to signal it (R138). -/
def State.coalDue (s : State) (r : Nat) : Bool := s.coreOn && s.coalPassed r

/-- The interrupt summary waits for a burst to signal a ring (R138, Table 3-6). -/
def State.coalWants (s : State) : Bool :=
  s.rings.any (fun e => s.coalPassed e.1 && s.flag (ringWord e.1 1) 24)

/-- The coalescing time of a ring passes (R138). -/
def execCoalTicksExpiry (ring : BitVec 8) (s : State) : Host.Outcome State Fault Refusal :=
  .next (if s.coalDue ring.toNat then s.signalRing ring.toNat else s)

/-- The zero fill of an enabling ring ends (R120). -/
def execRingFillDone (ring : BitVec 8) (s : State) : Host.Outcome State Fault Refusal :=
  .next (if (s.ring ring.toNat).enabling then s.fillDone ring.toNat else s)

end Sys2Proof.Machine
end

