-- ==== Sys2Proof/Machine/Access.lean ====
section
/-!
DEFINITION. The register space as host accesses meet it (05): regions, the checks of Table 5-6, the error log, what a
read returns, page modes (R31 to R33), and the HPORT and PAD verbs.
-/

namespace Sys2Proof.Machine

/-- The regions of a client alias (Table 5-7). -/
inductive Region where
  | page | doorbell | table | hall | journal | stage | atlas | steps | bufs | none
  deriving DecidableEq, Repr

/-- The region of an offset (Table 5-7). -/
def regionOf (a : Nat) : Region :=
  if a < 0xF000 then .page
  else if 0x10000 ≤ a ∧ a < 0x10400 then .doorbell
  else if 0x100000 ≤ a ∧ a < 0x1F0000 then .table
  else if 0x200000 ≤ a ∧ a < 0x800000 then .hall
  else if 0x800000 ≤ a ∧ a < 0x880000 then .journal
  else if 0x900000 ≤ a ∧ a < 0x980000 then .stage
  else if 0xA00000 ≤ a ∧ a < 0xA08000 then .atlas
  else if 0xA08000 ≤ a ∧ a < 0xA0A000 then .steps
  else if 0xA0A000 ≤ a ∧ a < 0xA0C000 then .bufs
  else .none

/-- The page whose rights and mode govern an offset: a register page, a table window, or for AO memory FACE or SCORE. -/
def guardPage (a : Nat) : Nat :=
  match regionOf a with
  | .atlas => 12
  | .steps => 3
  | .bufs => 3
  | _ => pageOf a

/-- The offset is the MODE register of its page. -/
def isMode (a : Nat) : Bool := decide (a < 0xF000) && a % 0x1000 == 0xBC

/-- The offset is a lease descriptor word. -/
def isLease (a : Nat) : Bool := decide (0x100000 ≤ a) && decide (a < 0x100100)

/-- The offset is the permission word of a client. -/
def isPerm (a : Nat) : Bool := decide (0x110000 ≤ a) && decide (a < 0x110100)

/-- The offset is a word of the fuse image (R238). -/
def isFuseImage (a : Nat) : Bool := decide (0x160000 ≤ a) && decide (a < 0x160200)

/-- Check 5 of Table 5-6 for a read (R107). -/
def State.mayRead (s : State) (c a : Nat) : Bool :=
  match regionOf a with
  | .page => true
  | .doorbell => bit (s.perm c) 16
  | .table => s.hasPage c (pageOf a)
  | .hall => bit (s.perm c) 17
  | .journal => bit (s.perm c) 18
  | .stage => c == 0
  | .atlas => bit (s.perm c) 19
  | .steps => bit (s.perm c) 19
  | .bufs => bit (s.perm c) 19
  | .none => false

/-- Check 5 of Table 5-6 for a write of v, with the client-0-only rules (R16, R32, R86, R107 to R109, R122). -/
def State.mayWrite (s : State) (c a : Nat) (v : Word) : Bool :=
  match regionOf a with
  | .doorbell => bit (s.perm c) 16 && s.ringOwner ((a - 0x10000) / 4) == c
  | .hall => bit (s.perm c) 17
  | .page =>
    if isMode a then
      let m := s.reg a
      if bit m 0 || bit m 16 then c == 0 || field m 13 8 == c else c == 0 || s.hasPage c (pageOf a)
    else if a = Reg.DEV_RESET_REQ then c == 0 && field v 31 16 == 0x7740
    else if a = Reg.HPORT_PERM_LOCK then c == 0
    else s.hasPage c (pageOf a)
  | _ => if isLease a || isPerm a then c == 0 else s.hasPage c (guardPage a)

/-- Check 7 of Table 5-6: the page accepts writes of the client (R31 to R33). Doorbells, the Hall and MODE itself are not
under it. -/
def State.modeAccepts (s : State) (c a : Nat) : Bool :=
  match regionOf a with
  | .doorbell => true
  | .hall => true
  | _ =>
    let p := guardPage a
    isMode a || (s.flag (modeReg p) 0 && !s.flag (modeReg p) 16 && !s.expertWait.contains p &&
      s.fld (modeReg p) 13 8 == c)

/-- The cause for which a word of an access is refused, 0 where it is accepted (Table 5-6). client carries address bits
[31:24]. -/
def State.accessCause (s : State) (port : Port) (client a : Nat) (write : Bool) (v : Word) : Nat :=
  let c := client % 64
  if 64 ≤ client then 4
  else if (port == .a) != decide (c < 48) then 1
  else if a % 4 ≠ 0 then 2
  else
    let known := match regionOf a with
      | .none => false
      | .table => (regSpec a).isSome
      | .hall => s.leased (a - 0x200000)
      | _ => true
    if !known then 4
    else if regionOf a == .page && (regSpec a).isNone then 0
    else if write && (regionOf a == .journal || regionOf a == .stage || isFuseImage a) then 6
    else if !(if write then s.mayWrite c a v else s.mayRead c a) then 1
    else if write && isPerm a && a != Reg.HPORT_PERM_0 && s.flag Reg.HPORT_PERM_LOCK 0 then 7
    else if write && !s.modeAccepts c a then 5
    else match regionOf a with
      | .hall =>
        if c = 0 ∨ (List.range 32).any (fun l => s.leaseEn l && s.leaseOwner l == c &&
            decide (s.leaseLo l ≤ a - 0x200000) && decide (a - 0x200000 < s.leaseHi l)) then 0 else 4
      | _ => 0

/-- A refused access recorded (R112): ERR_COUNT, the cause bit, and the first one in ERR_LOG, ERR_ADDR and ERR_TICK with
EV_HPORT_ERR; later ones add to MORE. -/
def State.refuse (s : State) (port : Port) (write : Bool) (client off cause : Nat) : State :=
  let s1 := (s.bump Reg.HPORT_ERR_COUNT 31 0).setFlag Reg.HPORT_ERR_CAUSES cause true
  if s1.flag Reg.HPORT_ERR_LOG 31 then s1.bumpSat Reg.HPORT_ERR_LOG 23 16
  else
    let info := cause + (if port == .b then 16 else 0) + (if write then 32 else 0) + 256 * (client % 64)
    (((s1.setReg Reg.HPORT_ERR_LOG (word (2 ^ 31 + info))).setReg Reg.HPORT_ERR_ADDR
      (word (off + 2 ^ 24 * client))).setReg Reg.HPORT_ERR_TICK s.now).raise 8 (word info)

/-- A port's state. -/
def State.port (s : State) : Port → PortSt
  | .a => s.portA
  | .b => s.portB

/-- A port's state written. -/
def State.setPort (s : State) (p : Port) (v : PortSt) : State :=
  match p with
  | .a => { s with portA := v }
  | .b => { s with portB := v }

/-- The target of a host word lies in the AO domain (Table 1-1): registers and table words of the AO pages and AO memory. MODE,
which takes effect at once (R32), and the lease descriptors, which are CORE registers (Table 3-2), do not cross. -/
def isAoTarget (a : Nat) : Bool :=
  match regionOf a with
  | .atlas => true
  | .steps => true
  | .bufs => true
  | .page => [0, 3, 4, 5, 6, 12].contains (pageOf a) && !isMode a
  | .table => [0, 3, 4, 5, 6, 12].contains (pageOf a) && !isLease a
  | _ => false

/-! ### The crossing unit (R12, R13, R102) -/

/-- The front word of a port's buffer enters the crossing unit where it has an AO target and one of the eight places is free; it is
in force at the second AO edge that follows. -/
def State.cross (s : State) (p : Port) : State :=
  match (s.port p).wbuf with
  | w :: rest =>
    if isAoTarget w.off && decide (s.crossing.length < 8) then
      { s.setPort p { s.port p with wbuf := rest } with crossing := s.crossing ++ [{ port := p, word := w, edges := 2 }] }
    else s
  | [] => s

/-- Every word that a free place lets in enters the crossing unit, port A's first. -/
def State.crossAll (s : State) : State := (List.range 8).foldl (fun s _ => (s.cross .a).cross .b) s

/-- An AO edge passes for the words in the crossing unit (R12). -/
def State.crossTick (s : State) : State :=
  { s with crossing := s.crossing.map (fun c => { c with edges := c.edges - 1 }) }

/-- The front word of a port's buffer where it passes a test and has a CORE target, and the state once it is taken; a place that it
frees is filled. -/
def State.frontWord (s : State) (p : Port) (f : BufWord → Bool) : Option (BufWord × State) :=
  match (s.port p).wbuf with
  | w :: rest =>
    if f w && !isAoTarget w.off then some (w, State.crossAll (s.setPort p { s.port p with wbuf := rest })) else none
  | [] => none

/-- The oldest word of a port that has crossed (R12). -/
def State.dueWord (s : State) (p : Port) : Option Crossing := s.crossing.find? (fun c => c.port == p && c.edges == 0)

/-- The word of a port that the part applies next where it passes a test, and the state once it is taken: the oldest one that has
crossed, or else the front of the buffer (R102). -/
def State.nextWord (s : State) (p : Port) (f : BufWord → Bool) : Option (BufWord × State) :=
  match s.dueWord p with
  | some c => if f c.word then some (c.word, State.crossAll { s with crossing := s.crossing.erase c }) else s.frontWord p f
  | none => s.frontWord p f

/-- A_STATUS or B_STATUS (Table 5-12). -/
def State.portStatus (s : State) (p : Port) : Word :=
  let q := (s.port p).wbuf
  word (q.length + 256 * (q.filter (fun w => isAoTarget w.off)).length)

/-- IRQ_STAT (Table 6-11). -/
def State.irqStat (s : State) : Word :=
  word ((if s.lineAsserted false then 1 else 0) + (if s.lineAsserted true then 2 else 0) +
    16 * ((List.range 256).filter (fun r => s.ringHalted r)).length +
    0x10000 * ((List.range 256).filter (fun r => s.ringEn r)).length)

/-! ### Page modes (R32, R33) -/

/-- A verb for page p is executing: fetched while the page took verbs, and its final status not known (R32). -/
def State.verbExecuting (s : State) (p : Nat) : Bool :=
  s.rings.any (fun e => match e.2.cur with
    | some f => !f.busy && (!f.started || f.waiting.isSome) && s.ringType e.1 == 0 && verbPage (field (nth f.words 0) 7 0) == some p
    | none => false)

/-- A write of MODE.CTRL = 1 (R32): EXPERT with the writer as OWNER, a pending switch cancelled; it takes effect once the
verb executing for the page has completed. -/
def State.modeExpert (s : State) (p c : Nat) : State :=
  let s1 := s.setReg (modeReg p) (word (1 + 256 * c))
  { s1 with
    commits := s1.commits.filter (fun q => !(q.page == p && q.toBasic))
    expertWait := if s1.verbExecuting p then p :: s1.expertWait.filter (· != p) else s1.expertWait.filter (· != p) }

/-- A write of MODE.CTRL = 0 (R33): PEND is set and the switch waits for the page's boundary; on a page that is BASIC, or
whose switch is already pending, it changes nothing. -/
def State.modeBasic (s : State) (p : Nat) : State :=
  if s.flag (modeReg p) 0 then
    let s1 := (s.setFlag (modeReg p) 0 false).setFlag (modeReg p) 16 true
    { s1 with commits := s1.commits ++ [{ page := p, toBasic := true, ring := none, desks := if p = 13 then s.tileDesks else 0 }]
              expertWait := s1.expertWait.filter (· != p) }
  else s

/-- The switch of a page to BASIC takes effect (R33). -/
def State.applyBasic (s : State) (p : Nat) : State :=
  let s1 := s.setFlag (modeReg p) 16 false
  { s1 with commits := s1.commits.filter (fun q => !(q.page == p && q.toBasic)) }

/-- The switch of a page to EXPERT takes effect once its executing verb has completed (R32). -/
def execModeExpertTakeEffect (page : BitVec 4) (s : State) : Host.Outcome State Fault Refusal :=
  .next (if s.verbExecuting page.toNat then s
    else { s with expertWait := s.expertWait.filter (· != page.toNat) })

/-! ### Pads and HPORT verbs -/

/-- A PAD_PULL value names the refused pull 0b11 in group g (Table 2-9). -/
def pullRefused (v : Word) (g : Nat) : Bool := field v (2 * g + 1) (2 * g) == 3

/-- A direct write of PAD_PULL: a group that carries 0b11 keeps its setting (Table 2-9). -/
def State.writePadPull (s : State) (v : Word) : State :=
  let old := s.reg Reg.DEV_PAD_PULL
  s.hostSet Reg.DEV_PAD_PULL ((List.range 15).foldl (fun w g =>
    if pullRefused v g then withField w (2 * g + 1) (2 * g) (field old (2 * g + 1) (2 * g)) else w) v)

/-- PAD_SET (0x1D): PAD_PULL and PAD_DRIVE written in one tick (R38). -/
def execPadSet (ring : BitVec 8) (s : State) : Host.Outcome State Fault Refusal :=
  .next (s.runVerb ring.toNat 0x1D clientZero
    (fun _ v => v.argsWithin [0x3FFFFFFF#32, 0xFFF#32] && (List.range 15).all (fun g => !pullRefused (v.arg 0) g))
    (fun s v => ((s.setReg Reg.DEV_PAD_PULL (v.arg 0)).setReg Reg.DEV_PAD_DRIVE (v.arg 1)).complete v .ok))

/-- PORT_CONFIG (0x18): A_CFG and B_CFG for each port's next select (R99). -/
def execPortConfig (ring : BitVec 8) (s : State) : Host.Outcome State Fault Refusal :=
  .next (s.runVerb ring.toNat 0x18 clientZero (fun _ v => v.argsWithin [0x13F#32, 0xF#32])
    (fun s v => ((s.setReg Reg.HPORT_A_CFG (v.arg 0)).setReg Reg.HPORT_B_CFG (v.arg 1)).complete v .ok))

/-- PERM_SET (0x17): a client's permission word, unless the words are locked (R109). -/
def execPermSet (ring : BitVec 8) (s : State) : Host.Outcome State Fault Refusal :=
  .next (s.runVerb ring.toNat 0x17 clientZero
    (fun _ v => v.argsWithin [0x3F#32, 0xF7FFF#32] && field (v.arg 0) 5 0 != 0)
    (fun s v => if s.flag Reg.HPORT_PERM_LOCK 0 then s.complete v .halted
      else (s.setReg (Reg.HPORT_PERM_0 + 4 * field (v.arg 0) 5 0) (v.arg 1)).complete v .ok))

/-- LOCK set, with EV_PERM_LOCKED where it was not (R109); auto: set by the part. -/
def State.lockPerms (s : State) (auto : Bool) : State :=
  if s.flag Reg.HPORT_PERM_LOCK 0 then s
  else (s.setFlag Reg.HPORT_PERM_LOCK 0 true).raise 9 (word auto.toNat)

/-- PERM_LOCK (0x1A, R109). -/
def execPermLock (ring : BitVec 8) (s : State) : Host.Outcome State Fault Refusal :=
  .next (s.runVerb ring.toNat 0x1A clientZero (fun _ v => v.argsWithin [])
    (fun s v => (s.lockPerms false).complete v .ok))

/-- The part locks the permission words itself 65 536 ticks after host release, under the fuse or a failed customer
section (R109). -/
def execPermAutoLock (s : State) : Host.Outcome State Fault Refusal :=
  .next (if s.boot.step == .released && s.flag Reg.HPORT_PERM_LOCK 1 && decide (65536 ≤ s.elapsed s.boot.releasedAt)
    then s.lockPerms true else s)

/-- ERR_CLEAR (0x19): ERR_LOG and ERR_ADDR returned; VALID, MORE and ERR_CAUSES cleared (R112). -/
def execErrClear (ring : BitVec 8) (s : State) : Host.Outcome State Fault Refusal :=
  .next (s.runVerb ring.toNat 0x19 clientZero (fun _ v => v.argsWithin [])
    (fun s v =>
      let log := s.reg Reg.HPORT_ERR_LOG
      let addr := s.reg Reg.HPORT_ERR_ADDR
      (((s.setFlag Reg.HPORT_ERR_LOG 31 false).setFld Reg.HPORT_ERR_LOG 23 16 0).setReg Reg.HPORT_ERR_CAUSES
        0#32).complete v .ok [log, addr]))

end Sys2Proof.Machine
end

