-- ==== Sys2Proof/Machine/Cmac.lean ====
section
/-!
DEFINITION. AES-CMAC with AES-128 (NIST SP 800-38B and FIPS 197), which R252 names for the tag of a configuration record and
whose text the spec does not reproduce (log entry 4, PRESUMED).
-/

namespace Sys2Proof.Machine

/-- The rows of the AES substitution box, first entry in the highest byte. -/
def aesBox : List Nat :=
  [0x637C777BF26B6FC53001672BFED7AB76, 0xCA82C97DFA5947F0ADD4A2AF9CA472C0, 0xB7FD9326363FF7CC34A5E5F171D83115,
    0x04C723C31896059A071280E2EB27B275, 0x09832C1A1B6E5AA0523BD6B329E32F84, 0x53D100ED20FCB15B6ACBBE394A4C58CF,
    0xD0EFAAFB434D338545F9027F503C9FA8, 0x51A3408F929D38F5BCB6DA2110FFF3D2] ++
  [0xCD0C13EC5F974417C4A77E3D645D1973, 0x60814FDC222A908846EEB814DE5E0BDB, 0xE0323A0A4906245CC2D3AC629195E479,
    0xE7C8376D8DD54EA96C56F4EA657AAE08, 0xBA78252E1CA6B4C6E8DD741F4BBD8B8A, 0x703EB5664803F60E613557B986C11D9E,
    0xE1F8981169D98E949B1E87E9CE5528DF, 0x8CA1890DBFE6426841992D0FB054BB16]

/-- SubBytes of one byte. -/
def aesSub (b : Nat) : Nat := (aesBox.getD (b / 16) 0 >>> (8 * (15 - b % 16))) % 256

/-- Multiplication by x in the field of AES. -/
def aesTimes2 (b : Nat) : Nat := if b < 128 then 2 * b else (2 * b) ^^^ 0x11B

/-- The exclusive or of two byte lists. -/
def aesXor (a b : List Nat) : List Nat := List.zipWith (fun x y => x ^^^ y) a b

/-- The next round key from the last one and the round constant. -/
def aesNextKey (k : List Nat) (rcon : Nat) : List Nat :=
  let t := [aesSub (k.getD 13 0) ^^^ rcon, aesSub (k.getD 14 0), aesSub (k.getD 15 0), aesSub (k.getD 12 0)]
  let w0 := aesXor (k.take 4) t
  let w1 := aesXor ((k.drop 4).take 4) w0
  let w2 := aesXor ((k.drop 8).take 4) w1
  w0 ++ w1 ++ w2 ++ aesXor (k.drop 12) w2

/-- SubBytes and ShiftRows: byte 4c + r of the result comes from column c + r. -/
def aesShift (s : List Nat) : List Nat :=
  (List.range 16).map (fun i => aesSub (s.getD ((i + 4 * (i % 4)) % 16) 0))

/-- MixColumns. -/
def aesMix (s : List Nat) : List Nat :=
  (List.range 16).map (fun i =>
    let at_ := fun (j : Nat) => s.getD (4 * (i / 4) + (i + j) % 4) 0
    aesTimes2 (at_ 0) ^^^ aesTimes2 (at_ 1) ^^^ at_ 1 ^^^ at_ 2 ^^^ at_ 3)

/-- The rounds after the first key addition; the last one has no MixColumns. -/
def aesRounds : List Nat → List Nat → List Nat → List Nat
  | [], _, s => s
  | [r], k, s => aesXor (aesShift s) (aesNextKey k r)
  | r :: rest, k, s =>
    let k1 := aesNextKey k r
    aesRounds rest k1 (aesXor (aesMix (aesShift s)) k1)

/-- AES-128 of a block of 16 bytes. -/
def aes128 (key block : List Nat) : List Nat :=
  aesRounds [1, 2, 4, 8, 16, 32, 64, 128, 0x1B, 0x36] key (aesXor block key)

/-- A block doubled in the field of CMAC. -/
def cmacDouble (b : List Nat) : List Nat :=
  let shifted := (List.range 16).map (fun i => 2 * b.getD i 0 % 256 + b.getD (i + 1) 0 / 128)
  if b.getD 0 0 < 128 then shifted else shifted.take 15 ++ [shifted.getD 15 0 ^^^ 0x87]

/-- The chaining of CMAC over the message in blocks, with n blocks left before the last one. -/
def cmacChain (key k1 k2 : List Nat) : Nat → List Nat → List Nat → List Nat
  | 0, m, x =>
    if m.length = 16 then aes128 key (aesXor (aesXor m k1) x)
    else aes128 key (aesXor (aesXor ((m ++ [0x80] ++ List.replicate 15 0).take 16) k2) x)
  | n + 1, m, x => cmacChain key k1 k2 n (m.drop 16) (aes128 key (aesXor (m.take 16) x))

/-- AES-CMAC of a byte list; byte j of the key is key bits [8j + 7:8j] (R237). -/
def cmac (key : Nat) (bs : List Byte) : List Byte :=
  let k := (List.range 16).map (fun j => key >>> (8 * j) % 256)
  let k1 := cmacDouble (aes128 k (List.replicate 16 0))
  let m := bs.map BitVec.toNat
  (cmacChain k k1 (cmacDouble k1) ((m.length - 1) / 16) m (List.replicate 16 0)).map (BitVec.ofNat 8)

end Sys2Proof.Machine
end

