-- ==== Sys2Proof/Machine/HallLeases.lean ====
section
/-!
DEFINITION. Hall leases (R16 to R20): the lease check, writes of descriptor words and the HALL_LEASE verb.
-/

namespace Sys2Proof.Machine

/-- Offset of word w of lease l. -/
def leaseWord (l w : Nat) : Nat := Reg.DEV_LEASE_W0 + 8 * l + 4 * w

/-- The lease check of R17 over the descriptor as stored. -/
def State.leaseCheck (s : State) (l : Nat) : Bool :=
  decide (s.leaseLo l < s.leaseHi l) && decide (s.leaseHi l ≤ 4096 * 1536) &&
  (List.range 32).all (fun k => k == l || !s.leaseEn k || decide (s.leaseHi k ≤ s.leaseLo l) ||
    decide (s.leaseHi l ≤ s.leaseLo k))

/-- An enable of lease l, its words already stored with EN 0 (R17): its banks are powered, or ERR is set. -/
def State.enableLease (s : State) (l : Nat) : State :=
  if s.leaseCheck l then
    ((s.setFlag (leaseWord l 1) 24 false).setFlag (leaseWord l 1) 16 true).powerBanks
  else s.setFlag (leaseWord l 1) 24 true

/-- A write of word 0 of lease l: ignored while it is enabled (R17). -/
def State.writeLease0 (s : State) (l : Nat) (v : Word) : State :=
  if s.leaseEn l then s else s.hostSet (leaseWord l 0) v

/-- A write of word 1 of lease l with EN = 1 (R17): an enabled lease stores RETAIN alone, a disabled one is checked. -/
def State.writeLeaseOn (s : State) (l : Nat) (v : Word) : State :=
  if s.leaseEn l then s.setFlag (leaseWord l 1) 12 (bit v 12)
  else (s.hostSet (leaseWord l 1) (withBit v 16 false)).enableLease l

/-- A write of word 1 of lease l with EN = 0: the lease is disabled and OWNER, TYPE and RETAIN are stored; banks that no
enabled lease touches are powered off (R17, R19). -/
def State.writeLeaseOff (s : State) (l : Nat) (v : Word) : State := (s.hostSet (leaseWord l 1) v).powerBanks

/-- HALL_LEASE's own effect (01, "Basic control"). -/
def State.hallLease (s : State) (v : Verb) : State :=
  let l := field (v.arg 0) 4 0
  let w0 := v.arg 1
  let w1 := v.arg 2
  if s.leaseEn l then
    if !bit w1 16 then (s.writeLeaseOff l w1).complete v .ok
    else if w0 = s.reg (leaseWord l 0) ∧ field w1 5 0 = s.leaseOwner l ∧ field w1 9 8 = s.leaseType l then
      (s.writeLeaseOn l w1).complete v .ok
    else s.complete v .badArg
  else
    let s1 := s.writeLease0 l w0
    if bit w1 16 then
      let s2 := s1.writeLeaseOn l w1
      s2.complete v (if s2.leaseEn l then .ok else .badArg)
    else (s1.writeLeaseOff l w1).complete v .ok

/-- HALL_LEASE (0x1C, R17). -/
def execHallLease (ring : BitVec 8) (s : State) : Host.Outcome State Fault Refusal :=
  .next (s.runVerb ring.toNat 0x1C clientZero
    (fun _ v => v.argsWithin [0x1F#32, 0x07FF07FF#32, 0x0101133F#32]) State.hallLease)

end Sys2Proof.Machine
end

