-- ==== Sys2Proof/Machine/JournalFlash.lean ====
section
/-!
DEFINITION. The journal flash (11): its words at the three references, sectors and spares, records and their search, the
intent log, counter strips, and the checks of configuration records.
-/

namespace Sys2Proof.Machine

/-! ### Words -/

/-- An erased word. -/
def erasedWord : Word := 0xFFFFFFFF#32

/-- MAGIC of a sector header (Table 11-2). -/
def sectorMagic : Word := 0x4C4E524A#32

/-- Flash as shipped: every sector holds a valid header with ERASE_COUNT 1 and nothing else (R245). -/
def shippedWord (a : Nat) : Word :=
  match a % 1024 with
  | 0 => sectorMagic
  | 1 => 1#32
  | 2 => 0xFFFFFFFE#32
  | _ => erasedWord

/-- A flash word at the erase-verify reference: any charge reads 0 (R244). A sector whose erase is incomplete holds free
values (log entry 12), but for the bits programmed since. -/
def State.flashRaw (s : State) (a : Nat) : Word :=
  let w := Cells.get shippedWord s.flash a
  match Cells.find s.jrnl.torn (a / 1024) with
  | some g => Config.tornWord g a &&& w
  | none => w

/-- Bits of a flash word that hold charge and are not fully programmed. -/
def State.weakBits (s : State) (a : Nat) : Word := Cells.get (fun _ => 0#32) s.jrnl.weak a

/-- A flash word at the normal reference: a partly charged bit reads a free value (log entry 12). -/
def State.flashWord (s : State) (a : Nat) : Word := s.flashRaw a ||| (s.weakBits a &&& Config.weakRead a)

/-- Word w of physical sector p at the normal reference. -/
def State.jw (s : State) (p w : Nat) : Word := s.flashWord (1024 * p + w)

/-- Word w of physical sector p at the erase-verify reference. -/
def State.jev (s : State) (p w : Nat) : Word := s.flashRaw (1024 * p + w)

/-- The journal's own state written. -/
def State.setJrnl (s : State) (j : Jrnl) : State := { s with jrnl := j }

/-- Bits of a word turned to 0 that now hold charge; the bits of weak are not fully programmed (R244). -/
def State.chargeWord (s : State) (a : Nat) (v weak : Word) : State :=
  let w := (s.weakBits a &&& v) ||| (weak &&& ~~~v)
  { s with
    flash := Cells.put shippedWord s.flash a (Cells.get shippedWord s.flash a &&& v)
    jrnl := { s.jrnl with weak := Cells.put (fun _ => 0#32) s.jrnl.weak a w } }

/-- A word programmed to completion: bits that v clears read 0 at every reference. -/
def State.programWord (s : State) (a : Nat) (v : Word) : State := s.chargeWord a v 0#32

/-- A sector whose programmed bits are all gone. -/
def State.clearSector (s : State) (p : Nat) : State :=
  let kept := Cells.dropRange s.flash (1024 * p) (1024 * p + 1024)
  { s with
    flash := [0, 1, 2].foldl (fun m w => Cells.insert m (1024 * p + w) erasedWord) kept
    jrnl := { s.jrnl with weak := Cells.dropRange s.jrnl.weak (1024 * p) (1024 * p + 1024) } }

/-- A sector fully erased: every cell reads 1 at every reference (R244). -/
def State.blankSector (s : State) (p : Nat) : State :=
  let t := s.clearSector p
  t.setJrnl { t.jrnl with torn := Cells.erase t.jrnl.torn p }

/-- A sector whose erase is under way: its contents are free values until it is blank. -/
def State.tearSector (s : State) (p : Nat) : State :=
  let t := s.clearSector p
  { t with
    free := t.free + 1
    jrnl := { t.jrnl with torn := Cells.insert t.jrnl.torn p t.free } }

/-- Data words 8 to 1023 of a sector are erased at the erase-verify reference. -/
def State.dataBlank (s : State) (p : Nat) : Bool := (List.range 1016).all (fun i => s.jev p (8 + i) == erasedWord)

/-! ### Sectors (R243, R245, R246) -/

/-- The header of sector p is valid (R245). -/
def State.headerValid (s : State) (p : Nat) : Bool := s.jw p 0 == sectorMagic && s.jw p 2 == ~~~(s.jw p 1)

/-- A STATE flag of sector p is set: its bit reads 0 (Table 11-2). -/
def State.stateFlag (s : State) (p n : Nat) : Bool := !bit (s.jw p 3) n

/-- ERASE_COUNT of sector p. -/
def State.eraseCount (s : State) (p : Nat) : Nat := field (s.jw p 1) 23 0

/-- Sector p waits for an erase before any use. -/
def State.awaits (s : State) (p : Nat) : Bool := s.jrnl.awaiting.contains p

/-- Sector p is FRESH (R245). -/
def State.sectorFresh (s : State) (p : Nat) : Bool :=
  s.headerValid p && field (s.jw p 3) 2 0 == 7 && !s.stateFlag p 9 && !s.stateFlag p 10 && !s.awaits p

/-- Sector p is one of the spare pool (Table 11-1). -/
def isSpare (p : Nat) : Bool := decide (18 ≤ p) && decide (p ≤ 25)

/-- Spare p is unassigned (R246). -/
def State.unassigned (s : State) (p : Nat) : Bool := s.jw p 4 == erasedWord && s.jw p 5 == erasedWord

/-- The logical sector that sector p claims, with its GEN (R246). -/
def State.claim (s : State) (p : Nat) : Option (Nat × Nat) :=
  if isSpare p then
    let x := field (s.jw p 4) 7 0
    if s.jw p 5 == ~~~(s.jw p 4) && decide (x < 128) && !isSpare x then some (x, field (~~~(s.jw p 4)) 31 16) else none
  else some (p, 0)

/-- The sector with the highest GEN among those that claim logical sector x, are not retired and meet a condition; the lower
sector where two are equal (R246). -/
def State.highestGen (s : State) (ok : Nat → Bool) (x : Nat) : Option Nat :=
  let better := fun (best : Option (Nat × Nat)) (p : Nat) =>
    match s.claim p with
    | some (y, g) =>
      if y = x ∧ !s.stateFlag p 9 ∧ ok p then
        match best with
        | some (q, h) => if h < g ∨ (h = g ∧ p < q) then some (p, g) else best
        | none => some (p, g)
      else best
    | none => best
  (((x :: (List.range 8).map (· + 18)).foldl better none)).map (·.1)

/-- The physical sector that serves logical sector x, its header valid (R246). -/
def State.server (s : State) (x : Nat) : Option Nat := s.highestGen s.headerValid x

/-- The physical sector that logical sector x stands at, be its header valid or not: the one that an erase or a retirement of x
is about (R246, R256, R266). -/
def State.holder (s : State) (x : Nat) : Option Nat := s.highestGen (fun _ => true) x

/-- The unassigned FRESH spares. -/
def State.freeSpares (s : State) : List Nat :=
  ((List.range 8).map (· + 18)).filter (fun p => s.sectorFresh p && s.unassigned p)

/-- The record sectors: logical number and serving sector. -/
def State.recordSectors (s : State) : List (Nat × Nat) :=
  (List.range 102).filterMap (fun i => (s.server (26 + i)).map (fun p => (26 + i, p)))

/-- FRESH record sectors (SPACE.FRESH). -/
def State.freshRecords (s : State) : List (Nat × Nat) := s.recordSectors.filter (fun e => s.sectorFresh e.2)

/-- Sector p holds records: neither OBSOLETE nor awaiting an erase. -/
def State.holdsRecords (s : State) (p : Nat) : Bool := !s.stateFlag p 2 && !s.awaits p

/-- The OPEN record sector: OPEN, not FULL, usable. -/
def State.openSector (s : State) : Option (Nat × Nat) :=
  s.recordSectors.find? (fun e => s.holdsRecords e.2 && s.headerValid e.2 && s.stateFlag e.2 0 && !s.stateFlag e.2 1 &&
    !s.stateFlag e.2 10)

/-- The logical sector number that p serves or would serve. -/
def State.logicalOf (s : State) (p : Nat) : Nat :=
  match s.claim p with
  | some (x, _) => x
  | none => p

/-! ### Records (R247 to R253) -/

/-- A valid record found in a sector. -/
structure RecAt where
  p : Nat
  off : Nat
  w0 : Word
  w1 : Word
  seq : Nat
  live : Bool
  deriving DecidableEq, Repr

/-- LENGTH of a record. -/
def recLen (w1 : Word) : Nat := field w1 11 0

/-- Payload and tag words of a record. -/
def recBody (w0 w1 : Word) : Nat := (recLen w1 + 3) / 4 + (if bit w0 24 then 4 else 0)

/-- Bytes that a record occupies (R247). -/
def recSize (w0 w1 : Word) : Nat := (16 + 4 * recBody w0 w1 + 4 + 15) / 16 * 16

/-- The CRC of a record over words 0 to 2, its payload bytes and its tag (R248). -/
def recCrc (w0 w1 seq : Word) (body : List Word) : Word :=
  let n := (recLen w1 + 3) / 4
  crc32 (wordsBytes [w0, w1, seq] ++ (wordsBytes (body.take n)).take (recLen w1) ++
    (if bit w0 24 then wordsBytes ((body.drop n).take 4) else []))

/-- Payload and tag words of the record at a sector offset. -/
def State.bodyAt (s : State) (p off : Nat) (w0 w1 : Word) : List Word :=
  (List.range (recBody w0 w1)).map (fun i => s.jw p (off / 4 + 4 + i))

/-- The record at a sector offset, where a valid one stands there (R248). -/
def State.recAt (s : State) (p off : Nat) : Option RecAt :=
  let w0 := s.jw p (off / 4)
  let w1 := s.jw p (off / 4 + 1)
  let w2 := s.jw p (off / 4 + 2)
  if field w0 15 0 = 0x52C5 ∧ field w0 23 16 ≤ 7 ∧ field w0 31 25 = 0 ∧ field w1 31 12 = 0 ∧ recLen w1 ≤ 2048 ∧
      off + recSize w0 w1 ≤ 4096 then
    if s.jw p (off / 4 + 4 + recBody w0 w1) = recCrc w0 w1 w2 (s.bodyAt p off w0 w1) then
      some { p := p, off := off, w0 := w0, w1 := w1, seq := w2.toNat, live := s.jev p (off / 4 + 3) == erasedWord }
    else none
  else none

/-- The records of a sector from an offset on, the first free offset, and the offsets before it where no valid record stands
(R248, R250). -/
def State.scanSector (s : State) (p : Nat) : Nat → Nat → List RecAt × Nat × List Nat
  | 0, off => ([], off, [])
  | n + 1, off =>
    if 4096 < off + 16 ∨ s.jev p (off / 4) = erasedWord then ([], off, [])
    else match s.recAt p off with
      | none =>
        let t := s.scanSector p n (off + 16)
        (t.1, t.2.1, off :: t.2.2)
      | some r =>
        let t := s.scanSector p n (off + recSize r.w0 r.w1)
        (r :: t.1, t.2)

/-- A record sector read from its first record. -/
def State.readSector (s : State) (p : Nat) : List RecAt × Nat × List Nat := s.scanSector p 254 32

/-- Sector p holds records that searches and loads read. -/
def State.readsRecords (s : State) (p : Nat) : Bool := s.holdsRecords p && !s.sectorFresh p

/-- Configuration records that fail their CRC: slots with MAGIC and a TYPE 0 to 4 where no valid record stands (R79). -/
def State.brokenConfigs (s : State) : Nat :=
  (s.recordSectors.flatMap (fun e => if s.readsRecords e.2 then
    (s.readSector e.2).2.2.filter (fun off =>
      field (s.jw e.2 (off / 4)) 15 0 == 0x52C5 && decide (field (s.jw e.2 (off / 4)) 23 16 ≤ 4))
    else [])).length

/-- Every valid record of the journal. -/
def State.allRecs (s : State) : List RecAt :=
  s.recordSectors.flatMap (fun e => if s.readsRecords e.2 then (s.readSector e.2).1 else [])

/-- A record put into a list in order of SEQ; of two with one SEQ the first stays (R249). -/
def insertRec (r : RecAt) : List RecAt → List RecAt
  | [] => [r]
  | q :: rest => if r.seq < q.seq then r :: q :: rest else if r.seq = q.seq then q :: rest else q :: insertRec r rest

/-- The live records in order of SEQ (R248, R249): one whose deletion has begun in any copy is deleted. -/
def State.liveRecs (s : State) : List RecAt :=
  let rs := s.allRecs
  rs.foldl (fun acc r => if rs.any (fun q => q.seq == r.seq && !q.live) then acc else insertRec r acc) []

/-- The live record with a SEQ. -/
def State.findSeq (s : State) (seq : Nat) : Option RecAt := s.liveRecs.find? (fun r => r.seq == seq)

/-- TYPE of a record. -/
def RecAt.type (r : RecAt) : Nat := field r.w0 23 16

/-- Payload words of a record. -/
def State.payloadWords (s : State) (r : RecAt) : List Word :=
  (s.bodyAt r.p r.off r.w0 r.w1).take ((recLen r.w1 + 3) / 4)

/-- Payload bytes of a record. -/
def State.payload (s : State) (r : RecAt) : List Byte := (wordsBytes (s.payloadWords r)).take (recLen r.w1)

/-- RESULT word of a record's place: logical sector and offset (Table 11-9). -/
def State.recPlace (s : State) (p off : Nat) : Word := word (s.logicalOf p + 0x10000 * off)

/-- CFG_AUTH is in force (BOOT_STATUS.AUTH). -/
def State.authOn (s : State) : Bool := s.flag Reg.DEV_BOOT_STATUS 3

/-- The AES-128 key of R237, from fuse words 50 to 52. -/
def State.authKey (s : State) : Nat :=
  (s.fuseWord 50).toNat + 2 ^ 56 * (s.fuseWord 51).toNat + 2 ^ 112 * ((s.fuseWord 52).toNat % 2 ^ 16)

/-- A tag is the AES-CMAC of word 0, word 1 and the payload; no tag passes with a failed customer section (R252, R77). -/
def State.tagCorrect (s : State) (w0 w1 : Word) (payload tag : List Byte) : Bool :=
  !s.flag Reg.DEV_BOOT_STATUS 7 && decide (cmac s.authKey (wordsBytes [w0, w1] ++ payload) = tag)

/-- The tag check of a configuration record under AUTH: 0 passes, 1 no tag, 2 tag mismatch (R252). -/
def State.tagFault (s : State) (w0 w1 : Word) (body : List Word) : Nat :=
  let n := (recLen w1 + 3) / 4
  if !s.authOn then 0
  else if !bit w0 24 then 1
  else if s.tagCorrect w0 w1 ((wordsBytes (body.take n)).take (recLen w1)) (wordsBytes ((body.drop n).take 4)) then 0
  else 2

/-- A configuration record that fails its checks (R252): the first one since cleared fills REJ_LOG and REJ_SEQ, and
EV_JRNL_REJECT is raised; at boot CFG_REJ counts it. -/
def State.reject (s : State) (r : RecAt) (reason : Nat) : State :=
  let info := r.type + 256 * reason
  let s1 := if s.flag Reg.JRNL_REJ_LOG 31 then s
    else (s.setReg Reg.JRNL_REJ_LOG (word (2 ^ 31 + info))).setReg Reg.JRNL_REJ_SEQ (word r.seq)
  let s2 := if s1.boot.step = .released then s1 else s1.bumpSat Reg.DEV_BOOT_STATUS 11 8
  s2.raise 68 (word info)

/-- The records of a configuration type and profile in order of SEQ: SEQ and payload of those that pass every check, and
the part with each failing one rejected (R252). payloadOk is the rule of the record's own chapter. -/
def State.configRecs (s : State) (type profile : Nat) (payloadOk : List Byte → Bool) :
    List (Nat × List Byte) × State :=
  (s.liveRecs.filter (fun r => r.type == type)).foldl (fun (acc : List (Nat × List Byte) × State) r =>
    let body := s.bodyAt r.p r.off r.w0 r.w1
    let payload := s.payload r
    let tag := s.tagFault r.w0 r.w1 body
    if (payload.headD 0#8).toNat ≠ profile then acc
    else if tag ≠ 0 then (acc.1, acc.2.reject r tag)
    else if !payloadOk payload then (acc.1, acc.2.reject r 3)
    else (acc.1 ++ [(r.seq, payload)], acc.2)) ([], s)

/-! ### The intent log (R255 to R257) -/

/-- A valid intent entry: where it stands, the sector it names, NEW_COUNT, ISEQ and whether it is DONE. -/
structure Intent where
  q : Nat
  slot : Nat
  p : Nat
  count : Nat
  iseq : Nat
  done : Bool
  deriving DecidableEq, Repr

/-- Intent slot i of sector q, where it holds a valid entry (R256). -/
def State.intentAt (s : State) (q i : Nat) : Option Intent :=
  let w := fun k => s.jw q (8 + 4 * i + k)
  if field (w 0) 31 16 = 0x1A7E ∧ field (w 1) 31 24 = 255 - field (w 0) 7 0 then
    some { q := q, slot := i, p := field (w 0) 7 0, count := field (w 1) 23 0, iseq := (w 2).toNat
           done := s.jw q (8 + 4 * i + 3) == 0#32 }
  else none

/-- The intent sectors. -/
def State.intentSectors (s : State) : List Nat := [0, 1].filterMap s.holder

/-- Every valid intent entry. -/
def State.intents (s : State) : List Intent :=
  s.intentSectors.flatMap (fun q => if s.headerValid q then (List.range 254).filterMap (s.intentAt q) else [])

/-- The entry with the highest ISEQ of a list. -/
def lastIntent (is : List Intent) : Option Intent :=
  is.foldl (fun best i => match best with
    | some b => if b.iseq < i.iseq then some i else best
    | none => some i) none

/-- The active intent sector (R256); with no entry, the first one with a valid header. -/
def State.activeIntent (s : State) : Option Nat :=
  match lastIntent s.intents with
  | some i => if i.done && i.p != i.q && s.intentSectors.contains i.p then some i.p else some i.q
  | none => s.intentSectors.find? s.headerValid

/-- The first slot of an intent sector that is wholly erased. -/
def State.intentSlot (s : State) (q : Nat) : Option Nat :=
  (List.range 254).find? (fun i => (List.range 4).all (fun k => s.jev q (8 + 4 * i + k) == erasedWord))

/-- NEW_COUNT for an erase of sector p (R255). -/
def State.newCount (s : State) (p : Nat) : Nat :=
  match lastIntent (s.intents.filter (fun i => i.p == p)) with
  | some i => i.count + 1
  | none =>
    if s.headerValid p then s.eraseCount p + 1
    else ((List.range 128).foldl (fun m q => if s.headerValid q then max m (s.eraseCount q) else m) 0) + 1

/-- The valid entries that name sector p and are not DONE. -/
def State.openIntents (s : State) (p : Nat) : List Intent := s.intents.filter (fun i => i.p == p && !i.done)

/-- The boot scan treats sector p as interrupted (R257). -/
def State.interrupted (s : State) (p : Nat) : Bool :=
  !s.headerValid p || (s.openIntents p).any (fun i => s.eraseCount p != i.count || !s.dataBlank p)

/-! ### Counter strips (R259) -/

/-- Logical sector of strip k of counter c (Table 11-1). -/
def stripSector (c k : Nat) : Nat := 2 + 2 * c + k

/-- COUNTER_BASE payload word 0 of counter c without its counted bits (Table 11-10). -/
def State.ctrTab (s : State) (c : Nat) : Word := s.reg (Reg.JRNL_CTR_TAB + 8 * c)

/-- The active strip of counter c. -/
def State.ctrStrip (s : State) (c : Nat) : Nat := field (s.ctrTab c) 3 3

/-- Bits counted in the active strip. -/
def State.ctrBits (s : State) (c : Nat) : Nat := field (s.ctrTab c) 30 16

/-- DURABLE of counter c. -/
def State.durable (s : State) (c : Nat) : Nat :=
  (s.reg (Reg.JRNL_CTR_LO + 8 * c)).toNat + 2 ^ 32 * s.fld (Reg.JRNL_CTR_HI + 8 * c) 15 0

/-- UNSAVED of counter c. -/
def State.unsaved (s : State) (c : Nat) : Nat := (s.reg (Reg.JRNL_CTR_UNSAVED + 4 * c)).toNat

/-- DURABLE written: CTRn_HI.SEQ counts its changes. -/
def State.setDurable (s : State) (c v : Nat) : State :=
  let d := v % 2 ^ 48
  let hi := Reg.JRNL_CTR_HI + 8 * c
  let s1 := (s.setReg (Reg.JRNL_CTR_LO + 8 * c) (word d)).setFld hi 15 0 (d / 2 ^ 32)
  if d = s.durable c then s1 else s1.bump hi 23 16

/-- The lowest data word of the active strip with an erased bit, and its erased bits. -/
def State.stripWord (s : State) (c : Nat) : Option (Nat × Word) :=
  match s.server (stripSector c (s.ctrStrip c)) with
  | none => none
  | some p =>
    let from_ := s.ctrBits c / 32
    ((List.range (1016 - from_)).find? (fun i => s.jev p (8 + from_ + i) != 0#32)).map
      (fun i => (1024 * p + 8 + from_ + i, s.jev p (8 + from_ + i)))

/-- The newest live COUNTER_BASE record of counter c (R259). -/
def State.newestBase (s : State) (c : Nat) : Option RecAt :=
  (s.liveRecs.filter (fun r => r.type == 5 && field (nth (s.payloadWords r) 0) 2 0 == c)).getLast?

/-- A Hall area that a verb names lies wholly in an enabled lease of its owner, or in any for client 0 (R271). -/
def State.hallArea (s : State) (owner lo len : Nat) : Bool :=
  (List.range 32).any (fun l => s.leaseEn l && decide (s.leaseLo l ≤ lo) && decide (lo + len ≤ s.leaseHi l) &&
    (owner == 0 || s.leaseOwner l == owner))

/-- The latest VBAT result reads READY 1, FAULT 0 and at least mv (R258). -/
def State.vbatAtLeast (s : State) (mv : Nat) : Bool :=
  let r := s.reg Reg.SENSE_RESULT
  bit r 31 && !bit r 28 && decide (mv ≤ field r 15 0)

end Sys2Proof.Machine
end

