-- ==== Sys2Proof/Machine/Journal.lean ====
section
/-!
DEFINITION. The journal controller (11): its work in the order of R269, word programs, erases, appends, compaction,
counters, retirement, the boot scan, and the JRNL verbs and JRNL.CMD.
-/

namespace Sys2Proof.Machine

/-! ### Items of work -/

/-- A piece of work queued. -/
def State.addItem (s : State) (prio : Nat) (ops : List JOp) (origin : JOrigin := .part) : State :=
  s.setJrnl { s.jrnl with
    items := s.jrnl.items ++ [{ id := s.jrnl.nextId, prio := prio, ops := ops, origin := origin, since := s.edge }]
    nextId := s.jrnl.nextId + 1 }

/-- A piece of work changed. -/
def State.putItem (s : State) (i : JItem) : State :=
  s.setJrnl { s.jrnl with items := s.jrnl.items.map (fun j => if j.id = i.id then i else j) }

/-- A piece of work gone. -/
def State.dropItem (s : State) (id : Nat) : State :=
  s.setJrnl { s.jrnl with items := s.jrnl.items.filter (fun j => j.id != id) }

/-- The steps that a piece of work still has to take. -/
def State.setOps (s : State) (i : JItem) (ops : List JOp) : State := s.putItem { i with ops := ops }

/-- A result of JRNL.CMD published (R270). -/
def State.publishCmd (s : State) (st : Status) (res : List Word) : State :=
  let s1 := (List.range 4).foldl (fun s k => s.setReg (Reg.JRNL_CMD_RES + 4 * k) (nth res k)) s
  let s2 := (s1.setFld Reg.JRNL_CMD_STATUS 15 8 st.code).setFlag Reg.JRNL_CMD_STATUS 31 true
  (s2.bump Reg.JRNL_CMD_STATUS 23 16).setFld Reg.JRNL_CMD_STATUS 7 0 s.jrnl.cmdOp

/-- Work answers who asked for it. -/
def State.answerOrigin (s : State) (o : JOrigin) (st : Status) (res : List Word) : State :=
  match o with
  | .part => s
  | .ring r => s.completeRing r st res
  | .cmd => s.publishCmd st res

/-- A verb or CMD operation that must wait says so once: OK_DEFERRED (R24, R270). -/
def State.tellDeferred (s : State) (i : JItem) : State :=
  if i.told then s
  else
    let s1 := s.putItem { i with told := true }
    match i.origin with
    | .part => s1
    | .cmd => s1.setFld Reg.JRNL_CMD_STATUS 15 8 Status.okDeferred.code
    | .ring r =>
      match s1.verbOf r with
      | some v =>
        if v.silent then s1
        else s1.post (s1.ringPair r) (.completion v.tag v.code Status.okDeferred.code v.index r [] false)
      | none => s1

/-- A verb code of the status codes that journal work answers with. -/
def statusOf (code : Nat) : Status :=
  if code = 0x00 then .ok else if code = 0x11 then .badArg else if code = 0x16 then .capacity else .ok

/-- Work that is over: its origin is answered. -/
def State.finishItem (s : State) (i : JItem) (st : Status) (res : List Word) : State :=
  (s.dropItem i.id).answerOrigin i.origin st res

/-! ### What may run (R258, R269, Table 3-6) -/

/-- The work needs only counter bits and COUNTER_BASE records. -/
def JItem.isBase (i : JItem) : Bool := i.prio == 1

/-- The state allows a piece of work (Table 3-6, R58): an erase past E1 runs in every state, and so does the opening of a sector
that a COUNTER_BASE record may wait for. -/
def State.allows (s : State) (i : JItem) : Bool := i.begun || decide (s.cur ≤ 3) || (s.cur == 4 && (i.isBase || i.prio == 0))

/-- A new erase may begin (R258). -/
def State.eraseGate (s : State) : Bool := s.vbatAtLeast 3100 && decide (s.cur ≤ 3)

/-- Bytes of sector p that records in progress take, from their first offset on. -/
def State.inFlight (s : State) (p : Nat) : List (Nat × Nat) :=
  s.jrnl.items.filterMap (fun i => match i.ops with
    | .write _ r _ q off :: _ => if q = p then some (off, recSize r.w0 r.w1) else none
    | _ => none)

/-- The first free offset of record sector p, beyond records in progress, and whether an invalid record stands in it. -/
def State.freeAt (s : State) (p : Nat) : Nat × Bool :=
  let t := (s.readSector p).2
  match s.inFlight p with
  | [] => (t.1, !t.2.isEmpty)
  | fs => (fs.foldl (fun m f => max m (f.1 + f.2)) 0, false)

/-- The FRESH record sector with the next higher logical number than the last one opened (R250). -/
def State.nextFresh (s : State) : Option (Nat × Nat) :=
  let fs := s.freshRecords
  match fs.find? (fun e => decide (s.jrnl.lastOpen < e.1)) with
  | some e => some e
  | none => fs.head?

/-- A record sector is being opened or closed: appends wait for it (R250). -/
def State.opening (s : State) : Bool := s.jrnl.items.any (fun i => i.prio == 0)

/-- An append that verbs make is held to R251. -/
def plainAppend : JWhy → Bool
  | .verb .. => true
  | _ => false

/-- The other strip of counter c, where it is FRESH (R262, R264). -/
def State.otherStrip (s : State) (c : Nat) : Option Nat :=
  match s.server (stripSector c (1 - s.ctrStrip c)) with
  | some p => if s.sectorFresh p then some p else none
  | none => none

/-- A counter's base record is being written: its bits wait. -/
def State.baseInWork (s : State) (c : Nat) : Bool :=
  s.jrnl.items.any (fun i => i.ops.any (fun o => match o with
    | .append _ (.base d) => d == c
    | .write _ _ (.base d) _ _ => d == c
    | .roll d => d == c
    | _ => false))

/-- Bits of counter c may be programmed now (R260, R261). -/
def State.bitsWanted (s : State) (c : Nat) : Bool :=
  s.jrnl.based.contains c && decide (0 < s.unsaved c) && !s.baseInWork c && !s.jrnl.readonly &&
    (decide (s.cur ≤ 2) || s.jrnl.due.contains c || s.jrnl.flush.contains c) && (s.stripWord c).isSome

/-- The first counter whose bits may be programmed (R269). -/
def State.nextBits (s : State) : Option Nat := (List.range 8).find? s.bitsWanted

/-- A step of work can be taken now; an erase takes its own command. -/
def State.runnable (s : State) (op : JOp) : Bool :=
  match op with
  | .erase _ => false
  | .append r why =>
    !s.opening && (plainAppend why || s.nextFresh.isSome ||
      (match s.openSector with
        | some e => !(s.freeAt e.2).2 && decide ((s.freeAt e.2).1 + recSize r.w0 r.w1 ≤ 4096)
        | none => false))
  | .verb code _ _ _ => code != 0x61 || s.hallOn
  | .setup args => (s.otherStrip (field (nth args 0) 2 0)).isSome
  | .roll c => (s.otherStrip c).isSome
  | .flushed m => (maskBits 8 m).all (fun c => s.unsaved c == 0)
  | _ => true

/-- The erase that a piece of work stands at can begin (R258). -/
def State.startable (s : State) (i : JItem) : Bool :=
  match i.ops with
  | .erase _ :: _ => s.eraseGate
  | _ => false

/-- The work that comes first in the order of R269 among what can go on. -/
def State.nextItem (s : State) : Option JItem :=
  (List.range 5).findSome? (fun p => s.jrnl.items.find? (fun i =>
    i.prio == p && s.allows i && (s.startable i || (match i.ops with
      | [] => true
      | op :: _ => s.runnable op))))

/-! ### Steps that take no time -/

/-- A run that is under way empties or erases sector p. -/
def State.inCompaction (s : State) (p : Nat) : Bool :=
  s.jrnl.items.any (fun i => i.ops.any (fun o => match o with
    | .copy q _ => q == p
    | .erase q => q == p
    | .program a _ => a == 1024 * p + 3
    | _ => false))

/-- FULL record sectors, which compaction may take. -/
def State.fullSectors (s : State) : List Nat :=
  (s.recordSectors.filter (fun e => s.headerValid e.2 && s.stateFlag e.2 1 && s.holdsRecords e.2 &&
    !s.stateFlag e.2 10 && !s.inCompaction e.2)).map (·.2)

/-- The records of sector p in order of SEQ (R254). -/
def State.bySeq (s : State) (p : Nat) : List RecAt := (s.readSector p).1.foldl (fun acc r => insertRec r acc) []

/-- The steps that empty record sector p: its records in order of SEQ, then OBSOLETE (R254). -/
def State.emptySector (s : State) (p : Nat) : List JOp :=
  (s.bySeq p).map (fun r => .copy p r.off) ++ [.program (1024 * p + 3) 0xFFFFFFFB#32]

/-- The record that a copy keeps (R254): live, and a COUNTER_BASE record only as the newest of its counter, a LOG record
only among the newest LOG_KEEP. -/
def State.copyKept (s : State) (r : RecAt) : Bool :=
  let live := s.liveRecs
  live.any (fun q => q.seq == r.seq) &&
  (if r.type = 5 then (s.newestBase (field (nth (s.payloadWords r) 0) 2 0)).map (·.seq) == some r.seq
   else if r.type = 7 then
     decide ((live.filter (fun q => q.type == 7 && decide (r.seq < q.seq))).length < s.fld Reg.JRNL_CFG 23 16)
   else true)

/-- The words of a record to be programmed, in the order of R247. -/
def recWords (a : Nat) (r : JRec) : List (Nat × Word) :=
  [(a, r.w0), (a + 1, r.w1), (a + 2, r.seq)] ++
  (r.body.zipIdx).map (fun e => (a + 4 + e.2, e.1)) ++
  [(a + 4 + r.body.length, recCrc r.w0 r.w1 r.seq r.body)]

/-- The highest SEQ of a valid record or of one in progress, so that no two records take one SEQ (R249). -/
def State.seqTaken (s : State) : Nat :=
  s.jrnl.items.foldl (fun m i => match i.ops with
    | .write _ r _ _ _ :: _ => max m r.seq.toNat
    | _ => m) s.jrnl.seqMax

/-- An append whose place is found: it takes its SEQ, and its words are programmed (R247, R249). -/
def State.placeRec (s : State) (i : JItem) (rest : List JOp) (r : JRec) (why : JWhy) (p off : Nat) : State :=
  let r1 := match why with
    | .copy => r
    | _ => { r with seq := word (s.seqTaken + 1) }
  s.setOps i (.write (recWords (1024 * p + off / 4) r1) r1 why p off :: rest)

/-- FULL in a record sector. -/
def fullWord (p : Nat) : JOp := .program (1024 * p + 3) 0xFFFFFFFD#32

/-- An append looks for its place (R250, R251). FULL and OPEN are programmed before any append goes on, so that no second sector is
opened. -/
def State.appendStep (s : State) (i : JItem) (rest : List JOp) (r : JRec) (why : JWhy) : State :=
  let needNew := fun (full : List JOp) =>
    if plainAppend why && decide (s.freshRecords.length ≤ 2) then
      s.setOps i (.victim true :: .room r why :: rest)
    else match s.nextFresh with
      | some e =>
        (s.setJrnl { s.jrnl with lastOpen := e.1 }).addItem 0 (full ++ [.program (1024 * e.2 + 3) 0xFFFFFFFE#32])
      | none => s
  match s.openSector with
  | some e =>
    let f := s.freeAt e.2
    if f.2 then s.addItem 0 [fullWord e.2]
    else if f.1 + recSize r.w0 r.w1 ≤ 4096 then s.placeRec i rest r why e.2 f.1
    else needNew [fullWord e.2]
  | none => needNew []

/-- The word-3 programs that delete every copy of a SEQ. -/
def State.deleteOps (s : State) (seq : Nat) : List JOp :=
  (s.allRecs.filter (fun r => r.seq == seq)).map (fun r => .program (1024 * r.p + r.off / 4 + 3) 0#32)

/-- What a verb of an owner answers for a record that it may not delete (R271): a COUNTER_BASE record, or one of types 0 to 4 that
is not client 0's to delete. -/
def State.deleteRefused (s : State) (seq owner : Nat) : Option Status :=
  match s.findSeq seq with
  | some r => if r.type = 5 then some .badArg else if r.type ≤ 4 ∧ owner ≠ 0 then some .noPermission else none
  | none => none

/-- The last spare but two is gone (R267). -/
def State.tellSpares (s : State) : State := if s.freeSpares.length = 2 then s.raise 66 2#32 else s

/-- A base record of counter c is valid (R262, R264): the other strip is active from now on, EV_JRNL_ROLLOVER is raised, and
the old strip is erased. -/
def State.switchStrip (s : State) (c : Nat) (body : List Word) : State :=
  let w := nth body 0
  let old := s.server (stripSector c (1 - field w 3 3))
  let s1 := (s.setReg (Reg.JRNL_CTR_TAB + 8 * c) (word (field w 14 0))).setReg (Reg.JRNL_CTR_TAB + 8 * c + 4) (nth body 1)
  let s2 := (s1.setDurable c ((nth body 2).toNat + 2 ^ 32 * field (nth body 3) 15 0)).setFlag
    (Reg.JRNL_CTR_HI + 8 * c) 31 true
  let s3 := s2.setJrnl { s2.jrnl with based := if s2.jrnl.based.contains c then s2.jrnl.based else c :: s2.jrnl.based }
  let s4 := s3.raise 69 (word (c + 8 * field w 3 3))
  match old with
  | some p =>
    if s4.stateFlag p 10 || s4.stateFlag p 9 then s4
    else (s4.setJrnl { s4.jrnl with awaiting := p :: s4.jrnl.awaiting.filter (· != p) }).addItem 4 [.erase p]
  | none => s4

/-- A record's CRC word is programmed: the record is valid. -/
def State.recordDone (s0 : State) (i : JItem) (rest : List JOp) (r : JRec) (why : JWhy) (p off : Nat) : State :=
  let s := s0.setJrnl { s0.jrnl with seqMax := max s0.jrnl.seqMax r.seq.toNat }
  match why with
  | .copy => s.setOps i rest
  | .verb del owner =>
    s.setOps i ((if del = 0 ∨ (s.deleteRefused del owner).isSome then [] else s.deleteOps del) ++
      .answer 0 [r.seq, s.recPlace p off] :: rest)
  | .base c => (s.setOps i rest).switchStrip c r.body
  | .log arg => ((s.setOps i rest).raise 65 arg).tellSpares

/-- The COUNTER_BASE record of counter c: payload word 0 without its strip, UNIT, and the base value. -/
def baseRec (strip : Nat) (w0 unit : Word) (base : Nat) : JRec :=
  let b := base % 2 ^ 48
  { w0 := 0x000552C5#32, w1 := 16#32, seq := 0#32
    body := [withField (w0 &&& 0x7FFF#32) 3 3 strip, unit, word b, word (b / 2 ^ 32)] }

/-- The journal becomes read-only (R268): nothing more is programmed or erased, and every waiting verb is answered. -/
def State.goReadonly (s : State) (p : Nat) : State :=
  let items := s.jrnl.items
  let s1 := s.setJrnl { s.jrnl with readonly := true, items := [], flush := [] }
  (items.foldl (fun s i => s.answerOrigin i.origin .nvReadonly []) s1).raise 67 (word p)

/-- Retirement, steps 2 and 3 (R266, R268): the logical sector is emptied by its role. -/
def State.retireStep (s : State) (i : JItem) (rest : List JOp) (p cause : Nat) : State :=
  if isSpare p && (s.claim p).isNone then
    (s.setJrnl { s.jrnl with awaiting := s.jrnl.awaiting.filter (· != p) }).setOps i
      (.program (1024 * p + 3) 0xFFFFFDFF#32 :: .spareGone :: rest)
  else if s.freeSpares.isEmpty then s.goReadonly p
  else
    let x := s.logicalOf p
    let empty : List JOp :=
      if s.awaits p then []
      else if 26 ≤ x then s.emptySector p
      else if 2 ≤ x then
        if s.jrnl.based.contains ((x - 2) / 2) && s.ctrStrip ((x - 2) / 2) == (x - 2) % 2 then [.roll ((x - 2) / 2)]
        else []
      else if s.activeIntent = some p then (s.intentSectors.filter (· != p)).map (fun q => .erase q)
      else []
    s.setOps i (empty ++ .assign p cause x :: rest)

/-- Retirement, steps 4 to 6 (R246, R266). -/
def State.assignStep (s : State) (i : JItem) (rest : List JOp) (p cause x : Nat) : State :=
  match s.freeSpares with
  | [] => s.goReadonly p
  | sp :: _ =>
    let g := (match s.claim p with
      | some (_, g) => g
      | none => 0) + 1
    let w4 := word (x + 0xFF00 + 0x10000 * (65535 - g % 65536))
    let arg := word (p + 256 * sp + 0x10000 * x + 0x1000000 * cause)
    let log : JRec := { w0 := 0x000752C5#32, w1 := 8#32, seq := 0#32, body := [arg, word (s.eraseCount p)] }
    (s.setJrnl { s.jrnl with awaiting := s.jrnl.awaiting.filter (· != p) }).setOps i
      (.program (1024 * sp + 4) w4 :: .program (1024 * sp + 5) (~~~w4) :: .program (1024 * p + 3) 0xFFFFFDFF#32 ::
        .append log (.log arg) :: rest)

/-- The record that a JRNL_APPEND writes: payload and tag words with erased filling bytes. -/
def verbRec (args payload : List Word) : JRec :=
  let tagged := bit (nth args 0) 8
  { w0 := word (0x52C5 + 0x10000 * field (nth args 0) 7 0 + (if tagged then 2 ^ 24 else 0))
    w1 := word (field (nth args 2) 11 0), seq := 0#32, body := payload }

/-- The live record after a SEQ that a JRNL_FIND asks for. -/
def State.findRec (s : State) (args : List Word) : Option RecAt :=
  let a := nth args 0
  s.liveRecs.find? (fun r => decide ((nth args 1).toNat < r.seq) &&
    (field a 7 0 == 0xFF || r.type == field a 7 0) &&
    (!bit a 8 || (((s.payload r).headD 0#8).toNat == field a 23 16 && decide (0 < recLen r.w1))))

/-- The words of a whole record, from word 0 through its CRC word. -/
def State.recordBytes (s : State) (r : RecAt) : List Byte :=
  wordsBytes ((List.range (5 + recBody r.w0 r.w1)).map (fun k => s.jw r.p (r.off / 4 + k)))

/-- A verb's or CMD's operation begins, in its place in the order (Table 11-9). -/
def State.verbStep (s : State) (i : JItem) (code : Nat) (args : List Word) (owner : Nat) (payload : List Word) : State :=
  let c := field (nth args 0) 2 0
  match code with
  | 0x60 =>
    match s.deleteRefused (nth args 3).toNat owner with
    | some st => if nth args 3 = 0#32 then s.setOps i [.append (verbRec args payload) (.verb 0 owner)] else s.finishItem i st []
    | none => s.setOps i [.append (verbRec args payload) (.verb (nth args 3).toNat owner)]
  | 0x61 =>
    match s.findSeq (nth args 0).toNat with
    | none => s.finishItem i .badArg []
    | some r =>
      let bs := (s.recordBytes r).take (field (nth args 2) 12 0)
      let a := (nth args 1).toNat
      ((s.touchHall a bs.length).putHallBytes a bs).finishItem i .ok [r.w0, r.w1, word bs.length, s.recPlace r.p r.off]
  | 0x62 =>
    match s.findRec args with
    | none => s.finishItem i .ok [0#32, 0#32, 0#32, 0#32]
    | some r => s.finishItem i .ok [word r.seq, r.w0, r.w1, s.recPlace r.p r.off]
  | 0x63 =>
    match s.findSeq (nth args 0).toNat with
    | none => s.finishItem i .badArg []
    | some r =>
      match s.deleteRefused r.seq owner with
      | some st => s.finishItem i st []
      | none => s.setOps i (s.deleteOps r.seq ++ [.answer 0 []])
  | 0x64 => s.setOps i [.victim true, .freshCount]
  | 0x65 => s.setOps i [.setup args]
  | 0x66 => (s.countUp c (field (nth args 1) 15 0)).finishItem i .ok []
  | 0x67 =>
    s.finishItem i .ok [s.reg (Reg.JRNL_CTR_LO + 8 * c), s.reg (Reg.JRNL_CTR_HI + 8 * c),
      s.reg (Reg.JRNL_CTR_UNSAVED + 4 * c), s.ctrTab c]
  | _ =>
    let m := field (nth args 0) 7 0
    (s.setJrnl { s.jrnl with flush := s.jrnl.flush ++ (maskBits 8 m).filter (fun c => s.unsaved c != 0) }).setOps i
      [.flushed m]

/-- The value that a COUNTER_SETUP asks for. -/
def State.setupValue (s : State) (args : List Word) : Nat :=
  if bit (nth args 0) 15 then s.durable (field (nth args 0) 2 0)
  else (nth args 2).toNat + 2 ^ 32 * field (nth args 3) 15 0

/-- A COUNTER_SETUP asks for what MONO refuses: MONO = 0 or a value below DURABLE (R264). -/
def State.monoRefuses (s : State) (args : List Word) : Bool :=
  let c := field (nth args 0) 2 0
  bit (s.ctrTab c) 4 && (!bit (nth args 0) 4 || decide (s.setupValue args < s.durable c))

/-- The victim of a compaction run: the FULL record sector whose first record has the lowest SEQ (R254). -/
def State.victim (s : State) : Option Nat :=
  let seqOf : Nat → Nat := fun p => match (s.readSector p).1 with
    | r :: _ => r.seq
    | [] => 0
  s.fullSectors.foldl (fun (b : Option Nat) p => match b with
    | some q => if seqOf p < seqOf q then some p else b
    | none => some p) none

/-- One step of a piece of work that takes no array time. -/
def State.instantStep (s : State) (i : JItem) (op : JOp) (rest : List JOp) : State :=
  match op with
  | .verb code args owner payload => s.verbStep i code args owner payload
  | .append r why => s.appendStep i rest r why
  | .room r why =>
    if s.freshRecords.length ≤ 2 then s.finishItem i .capacity [] else s.setOps i (.append r why :: rest)
  | .write _ r why p off => s.recordDone i rest r why p off
  | .erased p =>
    ((s.setJrnl { s.jrnl with awaiting := s.jrnl.awaiting.filter (· != p) }).putItem
      { i with ops := rest, begun := false, deferred := false }).raise 71 (word p)
  | .victim forced =>
    match s.victim with
    | none => s.setOps i rest
    | some p =>
      if !forced && decide (4 ≤ s.freshRecords.length) then s.setOps i rest
      else s.setOps i (s.emptySector p ++ .erase p :: .victim false :: rest)
  | .copy p off =>
    match s.recAt p off with
    | some r =>
      if s.copyKept r then
        s.setOps i (.append { w0 := r.w0, w1 := r.w1, seq := word r.seq, body := s.bodyAt p off r.w0 r.w1 } .copy :: rest)
      else s.setOps i rest
    | none => s.setOps i rest
  | .setup args =>
    let c := field (nth args 0) 2 0
    let d := s.durable c
    if s.monoRefuses args then s.finishItem i .badArg []
    else s.setOps i [.append (baseRec (1 - s.ctrStrip c) (nth args 0) (nth args 1) (s.setupValue args)) (.base c),
      .answer 0 [word d, word (d / 2 ^ 32)]]
  | .roll c =>
    let base := if (s.stripWord c).isNone then s.durable c + 2 ^ 48 - s.ctrBits c + 32512 else s.durable c
    s.setOps i (.append (baseRec (1 - s.ctrStrip c) (s.ctrTab c) (s.reg (Reg.JRNL_CTR_TAB + 8 * c + 4)) base)
      (.base c) :: rest)
  | .spare p cause => s.retireStep i rest p cause
  | .spareGone => (s.setOps i rest).tellSpares
  | .assign p cause x => s.assignStep i rest p cause x
  | .flushed _ => s.finishItem i .ok []
  | .freshCount => s.finishItem i .ok [word s.freshRecords.length]
  | .answer code res => s.finishItem i (statusOf code) res
  | .program .. => s
  | .erase .. => s
  | .pulse .. => s

/-- Erases that cannot begin are counted as deferred, each with EV_JRNL_ERASE_DEFERRED once (R258). -/
def State.markDeferred (s : State) : State :=
  s.jrnl.items.foldl (fun s i => match i.ops with
    | .erase p :: _ =>
      if s.eraseGate || i.deferred then s
      else
        let s1 := s.putItem { i with deferred := true }
        (s1.tellDeferred { i with deferred := true }).raise 70 (word (p + 0x10000 * s.fld Reg.SENSE_RESULT 15 0))
    | .setup args :: _ => if (s.otherStrip (field (nth args 0) 2 0)).isSome then s else s.tellDeferred i
    | _ => s) s

/-- The array takes its next work (R269): steps that take no time run, then a word program or an erase pulse starts.
Counter bits and new erases wait for their own commands. -/
def State.kickN : Nat → State → State
  | 0, s => s
  | n + 1, s =>
    if s.jrnl.busy.isSome || s.jrnl.readonly || !s.coreOn || s.nextBits.isSome then s
    else match s.nextItem with
      | none => s
      | some i =>
        match i.ops with
        | [] => kickN n (s.dropItem i.id)
        | .erase _ :: _ => s
        | .program a v :: _ => s.setJrnl { s.jrnl with busy := some (.word i.id a v) }
        | .write ((a, v) :: _) _ _ _ _ :: _ => s.setJrnl { s.jrnl with busy := some (.word i.id a v) }
        | .pulse p _ k :: _ =>
          let s1 := if k = 0 then s.tearSector p else s
          s1.setJrnl { s1.jrnl with busy := some (.pulse i.id p) }
        | op :: rest => kickN n (s.instantStep i op rest)

/-- The array takes its next work; work that must wait says so. -/
def State.kick (s : State) : State := (State.kickN 2048 s).markDeferred

/-! ### The array's own events -/

/-- Sector p is retired: FAILED first (R266). -/
def State.retire (s : State) (p cause : Nat) : State :=
  if s.stateFlag p 10 || s.jrnl.items.any (fun i => i.ops.contains (.spare p cause)) then s
  else s.addItem 2 [.program (1024 * p + 3) 0xFFFFFBFF#32, .spare p cause]

/-- A program-verify failure in sector p (R244): the third since the last start retires it (R266). -/
def State.verifyFailure (s : State) (p : Nat) : State :=
  let n := Cells.get (fun _ => 0) s.jrnl.fails p + 1
  let s1 := s.setJrnl { s.jrnl with fails := Cells.put (fun _ => 0) s.jrnl.fails p n }
  if n = 3 then s1.retire p 1 else s1

/-- The ticks of the increments that stay unsaved after the n oldest have begun (R261). -/
def dropOldest : Nat → List (BitVec 48 × Nat) → List (BitVec 48 × Nat)
  | _, [] => []
  | n, (t, k) :: rest => if n < k then (t, k - n) :: rest else dropOldest (n - k) rest

/-- n counter bits have begun (R260): DURABLE rises and UNSAVED falls; a flush that they complete is over. -/
def State.bitsBegun (s : State) (c n : Nat) : State :=
  let u := s.unsaved c - n
  let s1 := ((s.setDurable c (s.durable c + n)).setFld (Reg.JRNL_CTR_TAB + 8 * c) 30 16 (s.ctrBits c + n)).setReg
    (Reg.JRNL_CTR_UNSAVED + 4 * c) (word u)
  let s2 := s1.setJrnl { s1.jrnl with
    since := Cells.put (fun _ => []) s1.jrnl.since c
      (if u = 0 then [] else dropOldest n (Cells.get (fun _ => []) s1.jrnl.since c)) }
  if u = 0 then
    s2.setJrnl { s2.jrnl with due := s2.jrnl.due.filter (· != c), flush := s2.jrnl.flush.filter (· != c) }
  else s2

/-- The array is free and CORE runs. -/
def State.arrayFree (s : State) : Bool := s.jrnl.busy.isNone && s.coreOn && !s.jrnl.readonly

/-- Counter bits start (R260): begun are the bits that read 0 at the erase-verify reference after the first pulse. -/
def execCounterProgram (begun : Word) (s : State) : Host.Outcome State Fault Refusal :=
  .next (if s.arrayFree then
      match s.nextBits with
      | none => s
      | some c =>
        match s.stripWord c with
        | none => s
        | some (a, erased) =>
          let target := lowBits (s.unsaved c) erased
          let got := target &&& begun
          let s1 := (s.chargeWord a (~~~got) got).bitsBegun c (popCount got)
          s1.setJrnl { s1.jrnl with busy := some (.bits c a (~~~target)) }
    else s)

/-- The bits that a word program has charged when it ends: all it programs where it verified, else those of begun, which
are not fully programmed (R244). -/
def State.endWord (s : State) (a : Nat) (v : Word) (verified : Bool) (begun : Word) : State :=
  if verified then s.programWord a v else s.chargeWord a (v ||| ~~~begun) begun

/-- A word program ends (R244): verified, or a program-verify failure after 16 pulses. -/
def State.wordDone (s : State) (verified : Bool) (begun : Word) : State :=
  match s.jrnl.busy with
  | some (.bits c a v) =>
    let before := s.flashRaw a
    let s1 := (s.setJrnl { s.jrnl with busy := none }).endWord a v verified begun
    let s2 := s1.bitsBegun c (popCount (before &&& ~~~(s1.flashRaw a)))
    (if verified then s2 else s2.verifyFailure (a / 1024)).kick
  | some (.word id a v) =>
    let s1 := (s.setJrnl { s.jrnl with busy := none }).endWord a v verified begun
    let s2 := if verified then s1 else s1.verifyFailure (a / 1024)
    (match s2.jrnl.items.find? (fun (i : JItem) => i.id == id) with
      | none => s2
      | some i =>
        match i.ops with
        | .program _ _ :: rest => s2.setOps i rest
        | .write (_ :: ws) r why p off :: rest =>
          if verified then s2.setOps i (.write ws r why p off :: rest)
          else (s2.setOps i (.append r why :: rest)).addItem 0 [fullWord p]
        | _ => s2).kick
  | _ => s

/-- The word program in progress ends (R244). -/
def execWordProgramDone (verified : Bool) (begun : Word) (s : State) : Host.Outcome State Fault Refusal :=
  .next (s.wordDone verified begun)

/-- The sectors that steps of work erase from here on. -/
def pulsed (ops : List JOp) : List Nat :=
  ops.filterMap (fun o => match o with
    | .pulse p _ _ => some p
    | _ => none)

/-- Sectors that are not used until their erase has ended (R255). -/
def State.awaitErase (s : State) (ps : List Nat) : State :=
  s.setJrnl { s.jrnl with awaiting := s.jrnl.awaiting ++ ps.filter (fun p => !s.jrnl.awaiting.contains p) }

/-- An erase begins at E1 (R255, R256, R258): its intent entry is programmed in the active intent sector, whose last free
slot serves the erase of the other one. A verb that waits for the erase is told so (R271). -/
def State.beginErase (s0 : State) (i0 : JItem) (p : Nat) (rest : List JOp) : State :=
  let s := s0.tellDeferred i0
  let i := { i0 with told := i0.told || i0.origin != JOrigin.part }
  let sectors := s.intentSectors
  let bare := fun (q : Nat) => JOp.pulse q (s.newCount q) 0
  let go := fun (ops : List JOp) =>
    (s.awaitErase (pulsed ops)).putItem { i with ops := ops ++ rest, begun := true, deferred := false }
  if sectors.all (fun q => !s.headerValid q) then
    go (sectors.map bare ++ (if sectors.contains p then [] else [.erase p]))
  else match s.activeIntent with
    | none => go [bare p]
    | some q =>
      let other := sectors.filter (· != q)
      match s.intentSlot q with
      | none => go (other.map bare ++ (if other.contains p then [] else [.erase p]))
      | some slot =>
        if p = q then go [bare p]
        else if slot = 253 ∧ !other.contains p then go (other.map (fun o => .erase o) ++ [.erase p])
        else
          let a := 1024 * q + 8 + 4 * slot
          let n := s.newCount p
          let iseq := (match lastIntent s.intents with
            | some t => t.iseq
            | none => 0) + 1
          go [.program (a + 2) (word iseq), .program (a + 1) (word (n % 2 ^ 24 + 2 ^ 24 * (255 - p))),
            .program a (word (p + 0x1A7E0000)), .pulse p n 0]

/-- An erase starts once VBAT and the state allow it and the array is free (R258). -/
def State.eraseStart (s : State) : State :=
  if s.arrayFree && s.nextBits.isNone then
    match s.nextItem with
    | some i =>
      match i.ops with
      | .erase p :: rest => (s.beginErase i p rest).kick
      | _ => s
    | none => s
  else s

/-- The next erase starts (R258). -/
def execEraseStart (s : State) : Host.Outcome State Fault Refusal := .next s.eraseStart

/-- The DONE words of the open entries that name sector p (R255, log entry 58). -/
def State.doneWords (s : State) (p : Nat) : List JOp :=
  (s.openIntents p).map (fun i => .program (1024 * i.q + 8 + 4 * i.slot + 3) 0#32)

/-- The argument of EV_JRNL_WEAR; of 16 pulses the four bits of the field show 0 (Table 11-13, log entry 58). -/
def wearArg (p pulses count : Nat) : Word := word (p + 256 * (pulses % 16) + 0x1000 * min count (2 ^ 20 - 1))

/-- An erase pulse ends (R255): a blank sector gets WORN where it took more than 4 pulses, its header and its DONE word;
one that is not blank after 16 pulses is retired. -/
def State.pulseDone (s : State) (blank : Bool) : State :=
  match s.jrnl.busy with
  | some (.pulse id p) =>
    let s1 := s.setJrnl { s.jrnl with busy := none }
    let s2 := if blank then s1.blankSector p else s1
    (match s2.jrnl.items.find? (fun (i : JItem) => i.id == id) with
      | none => s2
      | some i =>
        match i.ops with
        | .pulse _ count k :: rest =>
          if blank then
            let w1 := word (count % 2 ^ 24)
            let s3 := if 4 < k + 1 then s2.raise 64 (wearArg p (k + 1) count) else s2
            let worn : List JOp := if 4 < k + 1 then [.program (1024 * p + 3) 0xFFFFFEFF#32] else []
            let header : List JOp := [.program (1024 * p) sectorMagic, .program (1024 * p + 1) w1]
            let check : List JOp := [.program (1024 * p + 2) (~~~w1)]
            s3.setOps i (header ++ worn ++ check ++ s3.doneWords p ++ JOp.erased p :: rest)
          else if 16 ≤ k + 1 then (s2.putItem { i with ops := rest, begun := false, deferred := false }).retire p 0
          else s2.setOps i (.pulse p count (k + 1) :: rest)
        | _ => s2).kick
  | _ => s

/-- The erase pulse in progress ends, with the sector blank or not at the erase-verify reference (R255). -/
def execErasePulseDone (blank : Bool) (s : State) : Host.Outcome State Fault Refusal := .next (s.pulseDone blank)

/-- Unsaved increments of counter c ask for a burst (R261). -/
def State.batchDue (s : State) (c : Nat) : Bool :=
  let wait := s.fld Reg.JRNL_CFG 15 8
  s.jrnl.based.contains c && decide (0 < s.unsaved c) &&
    (decide (max 1 (s.fld Reg.JRNL_CFG 7 0) ≤ s.unsaved c) ||
      (match Cells.get (fun _ => []) s.jrnl.since c with
        | (t, _) :: _ => decide (0 < wait) && decide (wait * 32768 ≤ s.elapsed t)
        | [] => false))

/-- In PIANISSIMO and FERMATA, BATCH or WAIT is reached (R261). -/
def execCounterFlushTimer (s : State) : Host.Outcome State Fault Refusal :=
  .next (if s.cur = 3 ∨ s.cur = 4 then
      s.setJrnl { s.jrnl with
        due := s.jrnl.due ++ (List.range 8).filter (fun c => s.batchDue c && !s.jrnl.due.contains c) }
    else s)

/-- Counter c must roll over and can (R262). -/
def State.rollDue (s : State) (c : Nat) : Bool :=
  s.jrnl.based.contains c && decide (0 < s.unsaved c) && (s.stripWord c).isNone && (s.otherStrip c).isSome &&
    !s.baseInWork c && !s.jrnl.readonly

/-- The lowest counter whose strip is full rolls over (R262). -/
def execCounterRollover (s : State) : Host.Outcome State Fault Refusal :=
  .next (match (List.range 8).find? s.rollDue with
    | some c => (s.addItem 1 [.roll c]).kick
    | none => s)

/-- A compaction run is in progress (STATUS.COMPACTING). -/
def State.compacting (s : State) : Bool :=
  s.jrnl.items.any (fun i => i.ops.any (fun o => match o with
    | .victim .. => true
    | _ => false))

/-- Compaction runs by itself (R254). -/
def State.compactDue (s : State) : Bool :=
  s.flag Reg.JRNL_CFG 24 && !s.compacting && !s.jrnl.readonly && decide (s.freshRecords.length < 4) &&
    !s.fullSectors.isEmpty

/-- A JRNL_COMPACT given by JRNL.CMD is past its 65 536 ticks (Table 11-9). -/
def State.cmdCompactLate (s : State) : Option JItem :=
  s.jrnl.items.find? (fun i => i.origin == .cmd && i.ops.contains .freshCount && decide (65536 ≤ s.elapsed i.since))

/-- Compaction begins (R254); a JRNL_COMPACT of JRNL.CMD that takes too long reports TIMEOUT and goes on. -/
def execCompaction (s : State) : Host.Outcome State Fault Refusal :=
  .next (
    let s1 := match s.cmdCompactLate with
      | some i => (s.putItem { i with origin := .part }).publishCmd .timeout []
      | none => s
    if s1.compactDue then (s1.addItem 4 [.victim false]).kick else s1)

/-! ### Verbs and CMD (R270, R271) -/

/-- The owner may issue a journal verb (R271). -/
def journalRight : Right := fun s v =>
  s.hasPage v.owner 7 && (v.owner == 0 ||
    (match v.code with
      | 0x60 => decide (4 < field (v.arg 0) 7 0) && (match s.findSeq (v.arg 3).toNat with
          | some r => decide (4 < r.type)
          | none => true)
      | 0x63 => (match s.findSeq (v.arg 0).toNat with
          | some r => decide (4 < r.type)
          | none => true)
      | 0x65 => false
      | _ => true))

/-- The payload and tag bytes of an append, rounded to words. -/
def appendBytes (v : Verb) : Nat := (field (v.arg 2) 11 0 + 3) / 4 * 4 + (if bit (v.arg 0) 8 then 16 else 0)

/-- Payload and tag of an append as read from the Hall, filling bytes erased (R269, Table 11-9). -/
def State.appendBody (s : State) (v : Verb) : List Word :=
  let a := (v.arg 1).toNat
  let n := field (v.arg 2) 11 0
  let pad := (n + 3) / 4 * 4
  bytesWords (s.hallBytes a n ++ List.replicate (pad - n) 0xFF#8 ++
    (if bit (v.arg 0) 8 then s.hallBytes (a + pad) 16 else []))

/-- The SEQ names a COUNTER_BASE record, which no verb deletes (R271). -/
def State.isBaseSeq (s : State) (seq : Nat) : Bool :=
  match s.findSeq seq with
  | some r => r.type == 5
  | none => false

/-- The arguments of a journal verb are in order (R253, R264, R271, Table 11-9). -/
def journalArgs (s : State) (v : Verb) : Bool :=
  let ones := 0xFFFFFFFF#32
  match v.code with
  | 0x60 =>
    let type := field (v.arg 0) 7 0
    v.argsWithin [0x1FF#32, ones, 0xFFF#32, ones] && decide (type ≤ 7) && type != 5 &&
      decide (field (v.arg 2) 11 0 ≤ 2048) && s.hallArea v.owner (v.arg 1).toNat (appendBytes v) &&
      !((v.arg 3) != 0#32 && s.isBaseSeq (v.arg 3).toNat) &&
      (decide (4 < type) || s.tagFault (verbRec (v.words.tail) []).w0 (verbRec (v.words.tail) []).w1 (s.appendBody v) == 0)
  | 0x61 =>
    v.argsWithin [ones, ones, 0x1FFF#32] && s.hallArea v.owner (v.arg 1).toNat (field (v.arg 2) 12 0)
  | 0x62 => v.argsWithin [0xFF01FF#32, ones] && (field (v.arg 0) 7 0 == 0xFF || decide (field (v.arg 0) 7 0 ≤ 7))
  | 0x63 => v.argsWithin [ones] && !s.isBaseSeq (v.arg 0).toNat
  | 0x64 => v.argsWithin []
  | 0x65 =>
    v.argsWithin [0xFF37#32, ones, ones, 0xFFFF#32] && !s.monoRefuses (v.words.tail)
  | 0x66 => v.argsWithin [0x7#32, 0xFFFF#32] && field (v.arg 1) 15 0 != 0
  | 0x67 => v.argsWithin [0x7#32]
  | _ => v.argsWithin [0xFF#32]

/-- A journal operation queued in its place in the order: a setup's record has the rank of COUNTER_BASE records (R269). -/
def State.queueVerb (s : State) (v : Verb) (o : JOrigin) : State :=
  let body := if v.code = 0x60 then s.appendBody v else []
  ((if v.code = 0x60 then s.touchHall (v.arg 1).toNat (appendBytes v) else s).addItem (if v.code = 0x65 then 1 else 3)
    [.verb v.code ((List.range 7).map v.arg) v.owner body] o).kick

/-- A journal verb (R268, R271): NV_READONLY while the journal is read-only, else its work is queued. -/
def State.journalVerb (s : State) (v : Verb) : State :=
  if s.jrnl.readonly then s.complete v .nvReadonly
  else (s.await v .journal (if v.code = 0x64 then 65536 else 0)).queueVerb v (.ring v.ring)

/-- A journal verb of ring r. -/
def State.runJournal (s : State) (r code : Nat) : State := s.runVerb r code journalRight journalArgs State.journalVerb

/-- JRNL_APPEND (0x60). -/
def execJrnlAppend (ring : BitVec 8) (s : State) : Host.Outcome State Fault Refusal := .next (s.runJournal ring.toNat 0x60)

/-- JRNL_READ (0x61). -/
def execJrnlRead (ring : BitVec 8) (s : State) : Host.Outcome State Fault Refusal := .next (s.runJournal ring.toNat 0x61)

/-- JRNL_FIND (0x62). -/
def execJrnlFind (ring : BitVec 8) (s : State) : Host.Outcome State Fault Refusal := .next (s.runJournal ring.toNat 0x62)

/-- JRNL_DELETE (0x63). -/
def execJrnlDelete (ring : BitVec 8) (s : State) : Host.Outcome State Fault Refusal := .next (s.runJournal ring.toNat 0x63)

/-- JRNL_COMPACT (0x64). -/
def execJrnlCompact (ring : BitVec 8) (s : State) : Host.Outcome State Fault Refusal :=
  .next (s.runJournal ring.toNat 0x64)

/-- COUNTER_SETUP (0x65, R264). -/
def execCounterSetup (ring : BitVec 8) (s : State) : Host.Outcome State Fault Refusal :=
  .next (s.runJournal ring.toNat 0x65)

/-- COUNTER_ADD (0x66, R260). -/
def execCounterAdd (ring : BitVec 8) (s : State) : Host.Outcome State Fault Refusal := .next (s.runJournal ring.toNat 0x66)

/-- COUNTER_READ (0x67). -/
def execCounterRead (ring : BitVec 8) (s : State) : Host.Outcome State Fault Refusal := .next (s.runJournal ring.toNat 0x67)

/-- COUNTER_FLUSH (0x68, R261). -/
def execCounterFlush (ring : BitVec 8) (s : State) : Host.Outcome State Fault Refusal :=
  .next (s.runJournal ring.toNat 0x68)

/-- An operation of JRNL.CMD is in progress. -/
def State.cmdBusy (s : State) : Bool := s.jrnl.items.any (fun i => i.origin == .cmd)

/-- A write of JRNL.CMD (R270): OP is stored, and GO runs the operation with CMD_ARG0–3. A write with GO while one runs is ignored (R10),
and as a whole: OP keeps its value (DESIGN CHOICE, log entry 59). -/
def State.writeJrnlCmd (s : State) (val : Word) : State :=
  if bit val 31 && s.cmdBusy then s
  else
    let s1 := s.hostSet Reg.JRNL_CMD val
    if !bit val 31 then s1
    else
      let op := field val 7 0
      let s2 := State.setFlag { s1 with jrnl := { s1.jrnl with cmdOp := op } } Reg.JRNL_CMD_STATUS 31 false
      let v : Verb := { ring := 256, owner := s.fld Reg.JRNL_MODE 13 8, index := 0
                        words := word op :: (List.range 4).map (fun k => s.reg (Reg.JRNL_CMD_ARG + 4 * k)) }
      if op < 0x60 ∨ 0x68 < op then s2.publishCmd .badVerb []
      else if !journalRight s2 v then s2.publishCmd .noPermission []
      else if !journalArgs s2 v then s2.publishCmd .badArg []
      else if s2.jrnl.readonly then s2.publishCmd .nvReadonly []
      else s2.queueVerb v .cmd

/-! ### Resets and the boot scan (R79, R89, R256 to R263) -/

/-- The sectors whose erase has begun and not ended. -/
def State.cutErases (s : State) : List Nat :=
  s.jrnl.items.flatMap (fun i => i.ops.filterMap (fun o => match o with
    | .pulse p _ _ => some p
    | .erased p => some p
    | _ => none))

/-- A SYSTEM or CORE reset reaches the controller (R89): the word or pulse in progress ends, all other work is dropped. -/
def State.resetJournal (s : State) : State :=
  let t := s.awaitErase s.cutErases.eraseDups
  t.setJrnl { t.jrnl with items := [], flush := [], due := [] }

/-- Record sectors marked OBSOLETE that no erase waits for yet: a reset has cut their compaction (R254). -/
def State.obsolete (s : State) : List Nat :=
  (s.recordSectors.filter (fun e => s.stateFlag e.2 2 && !s.stateFlag e.2 10 && !s.awaits e.2)).map (·.2)

/-- After a CORE reset, the controller erases every interrupted sector before any journal verb runs, and takes compactions and
retirements up again (R89, R254, R266). -/
def State.repairJournal (s : State) : State :=
  if s.jrnl.readonly then s
  else
    let s0 := s.obsolete.foldl (fun s p => s.addItem 4 [.erase p]) s
    let s1 := s.jrnl.awaiting.foldl (fun s p => s.addItem 2 [.erase p]) s0
    ((List.range 128).foldl (fun s p =>
      if s.stateFlag p 10 && !s.stateFlag p 9 && s.holder (s.logicalOf p) == some p then s.addItem 2 [.spare p 1]
      else s) s1).kick

/-- POR cuts what the array does (Table 4-4): the bits of a word in progress that hold charge are free, and a sector in an
erase pulse is torn. -/
def State.cutJournal (s : State) : State :=
  let cut := fun (a : Nat) (v : Word) =>
    let (w, s1) := s.takeFree
    s1.chargeWord a (v ||| ~~~w) w
  let s1 := match s.jrnl.busy with
    | some (.word _ a v) => cut a v
    | some (.bits _ a v) => cut a v
    | _ => s
  s1.setJrnl { weak := s1.jrnl.weak, torn := s1.jrnl.torn }

/-- Work runs to its end inside the boot burst: words verify, and each erase takes this many pulses (R79). -/
def State.runJournalN (pulses : Nat) : Nat → State → State
  | 0, s => s
  | n + 1, s =>
    match s.jrnl.busy with
    | some (.pulse id _) =>
      let k : Nat := match s.jrnl.items.find? (fun (i : JItem) => i.id == id) with
        | some i => (match i.ops with
          | .pulse _ _ k :: _ => k
          | _ => 0)
        | none => 0
      runJournalN pulses n (s.pulseDone (decide (max 1 pulses ≤ k + 1)))
    | some _ => runJournalN pulses n (s.wordDone true 0#32)
    | none =>
      let s1 := s.eraseStart
      if s1.jrnl.busy.isSome then runJournalN pulses n s1 else s

/-- The bits counted in a strip: every bit that reads 0 at the erase-verify reference (R263). -/
def State.countStrip (s : State) (p : Nat) : Nat :=
  (List.range 1016).foldl (fun n i => n + popCount (~~~(s.jev p (8 + i)))) 0

/-- Weak bits of a strip programmed to completion, unless the journal is read-only (R263). -/
def State.healStrip (s : State) (p : Nat) : State :=
  if s.jrnl.readonly then s
  else s.setJrnl { s.jrnl with weak := Cells.dropRange s.jrnl.weak (1024 * p) (1024 * p + 1024) }

/-- Counter c rebuilt from its newest record and its strip (R263); its other strip is erased unless it is FRESH and
blank. -/
def State.rebuildCounter (s : State) (c : Nat) : State :=
  let ready := fun (s : State) => s.setFlag (Reg.JRNL_CTR_HI + 8 * c) 31 true
  match s.newestBase c with
  | none =>
    ready ((s.setDurable c 0).setReg (Reg.JRNL_CTR_TAB + 8 * c) 0#32)
  | some r =>
    let body := s.payloadWords r
    let w := nth body 0
    let s1 := match s.server (stripSector c (field w 3 3)) with
      | some p =>
        let n := s.countStrip p
        let s2 := (s.healStrip p).setReg (Reg.JRNL_CTR_TAB + 8 * c) (word (field w 14 0 + 0x10000 * n))
        (s2.setReg (Reg.JRNL_CTR_TAB + 8 * c + 4) (nth body 1)).setDurable c
          ((nth body 2).toNat + 2 ^ 32 * field (nth body 3) 15 0 + n)
      | none => s
    let s3 := ready (s1.setJrnl { s1.jrnl with based := c :: s1.jrnl.based })
    match s3.server (stripSector c (1 - field w 3 3)) with
    | some p =>
      if s3.jrnl.readonly || (s3.sectorFresh p && s3.dataBlank p) || s3.awaits p then s3
      else (s3.setJrnl { s3.jrnl with awaiting := p :: s3.jrnl.awaiting }).addItem 4 [.erase p]
    | none => s3

/-- A spare that holds neither erased words nor a valid assignment (R246). -/
def State.badSpare (s : State) (p : Nat) : Bool := isSpare p && !s.unassigned p && (s.claim p).isNone

/-- The boot scan (R79 steps 1 to 3, R249, R250, R256, R257, R263, R268): what is interrupted, the highest SEQ, the OPEN
sector, repairs and counters. -/
def State.bootJournal (s : State) (pulses : Nat) : State :=
  let wait := (List.range 128).filter (fun p => !s.stateFlag p 9 && !s.stateFlag p 10 &&
    (s.interrupted p || s.badSpare p || (decide (26 ≤ s.logicalOf p) && s.stateFlag p 2)))
  let s1 := s.setJrnl { weak := s.jrnl.weak, torn := s.jrnl.torn, nextId := s.jrnl.nextId, awaiting := wait
                        since := s.jrnl.since }
  let recs := s1.allRecs
  let top := recs.foldl (fun (b : Option RecAt) r => match b with
    | some q => if q.seq < r.seq then some r else b
    | none => some r) none
  let last := match s1.openSector with
    | some e => e.1
    | none => match top with
      | some r => s1.logicalOf r.p
      | none => 127
  let failed := (List.range 128).filter (fun p => s1.stateFlag p 10 && !s1.stateFlag p 9 &&
    s1.holder (s1.logicalOf p) == some p)
  let ro := !failed.isEmpty && s1.freeSpares.isEmpty
  let s2 := s1.setJrnl { s1.jrnl with seqMax := (top.map (·.seq)).getD 0, lastOpen := last, readonly := ro }
  let open_ := s2.intents.filter (fun i => !i.done && !wait.contains i.p)
  let s3 := if ro then s2
    else
      let a := open_.foldl (fun s i => s.addItem 1 [.program (1024 * i.q + 8 + 4 * i.slot + 3) 0#32]) s2
      let b := (s2.recordSectors.filter (fun e => s2.holdsRecords e.2 && s2.stateFlag e.2 0 && !s2.stateFlag e.2 1 &&
        !(s2.readSector e.2).2.2.isEmpty)).foldl (fun s e => s.addItem 1 [.program (1024 * e.2 + 3) 0xFFFFFFFD#32]) a
      let c := wait.foldl (fun s p => s.addItem 2 [.erase p]) b
      failed.foldl (fun s p => s.addItem 2 [.spare p 1]) c
  let s4 := State.runJournalN pulses 65536 s3.kick
  let s5 := if wait.any (fun p => !s4.awaits p) then s4.setFlag Reg.DEV_BOOT_STATUS 4 true else s4
  (((List.range 8).foldl State.rebuildCounter s5)).kick

/-! ### What the registers show (Tables 11-10 to 11-12) -/

/-- JRNL.STATUS. -/
def State.jrnlStatus (s : State) : Word :=
  let b := fun (c : Bool) (n : Nat) => if c then 2 ^ n else 0
  let deferred := if s.eraseGate then 0 else (s.jrnl.items.filter (·.deferred)).length
  word (b s.jrnl.readonly 31 + b s.jrnl.busy.isSome 30 + b s.compacting 29 + 256 * s.freeSpares.length + min 255 deferred)

/-- JRNL.SPACE. -/
def State.jrnlSpace (s : State) : Word :=
  match s.openSector with
  | some e => word (s.freshRecords.length + 256 * e.1 + 0x10000 * ((s.freeAt e.2).1 % 4096))
  | none => (Config.noOpenSector &&& 0x0FFF7F00#32) ||| word s.freshRecords.length

/-- JRNL.WEAR. -/
def State.jrnlWear (s : State) : Word :=
  let worn := ((List.range 128).filter (fun p => s.headerValid p && s.stateFlag p 8 &&
    (s.server (s.logicalOf p) == some p))).length
  let top := (List.range 128).foldl (fun m p => if s.headerValid p then max m (s.eraseCount p) else m) 0
  word (top + 2 ^ 24 * worn)

/-- Sector p is the active strip of a counter. -/
def State.isActiveStrip (s : State) (p : Nat) : Bool :=
  s.jrnl.based.any (fun c => s.server (stripSector c (s.ctrStrip c)) == some p)

/-- The erase of sector p has programmed its header and not ended: the sector table shows it FRESH (Table 11-5). -/
def State.headerDone (s : State) (p : Nat) : Bool :=
  s.headerValid p && s.jrnl.items.any (fun i => i.ops.contains (.erased p))

/-- The sector table entry of sector p (Table 11-12). -/
def State.sectorEntry (s : State) (p : Nat) : Word :=
  let st := if s.stateFlag p 9 then 7 else if s.stateFlag p 10 then 6
    else if s.stateFlag p 2 then 3 else if s.awaits p && !s.headerDone p then 4
    else if isSpare p && s.unassigned p then 5 else if s.stateFlag p 1 then 2
    else if s.stateFlag p 0 || s.isActiveStrip p || s.activeIntent == some p then 1 else 0
  word (min (s.eraseCount p) (2 ^ 20 - 1) + 2 ^ 20 * s.logicalOf p + (if s.stateFlag p 8 then 2 ^ 27 else 0) + 2 ^ 28 * st)

end Sys2Proof.Machine
end

