-- ==== Sys2Proof/Machine/Commit.lean ====
section
/-!
DEFINITION. Shadow sets and their commits (R23 to R25, R33): staging, COMMIT.GO, what a page's boundary serves, and the
time a verb waits for it.
-/

namespace Sys2Proof.Machine

/-- STATUS register and PENDING bit of a page with a shadow set. -/
def pendBit (page : Nat) : Nat × Nat :=
  match page with
  | 4 => (Reg.KEYS_STATUS, 16)
  | 5 => (Reg.SENSE_STATUS, 0)
  | 8 => (Reg.INTAKE_STATUS, 16)
  | 9 => (Reg.SCAN_STATUS, 16)
  | 10 => (Reg.PIPE_STATUS, 8)
  | 11 => (Reg.STAVE_STATUS, 16)
  | 12 => (Reg.FACE_STATUS, 0)
  | _ => (Reg.ENS_STATUS, 0)

/-- The bit of the same register that records a dropped shadow write. -/
def dropBit (page : Nat) : Nat :=
  match page with
  | 4 => 17
  | 5 => 1
  | 8 => 17
  | 9 => 17
  | 10 => 9
  | 11 => 17
  | 12 => 1
  | _ => 1

/-- A commit of the page is pending. -/
def State.pendingOn (s : State) (page : Nat) : Bool := s.flag (pendBit page).1 (pendBit page).2

/-- STATUS.PENDING of a page written. -/
def State.setPending (s : State) (page : Nat) (b : Bool) : State := s.setFlag (pendBit page).1 (pendBit page).2 b

/-- A commit request queued for its boundary, and PENDING set. -/
def State.addCommit (s : State) (page : Nat) (ring : Option Nat) : State :=
  let q : BoundaryReq := { page := page, toBasic := false, ring := ring, desks := if page = 13 then s.tileDesks else 0 }
  State.setPending { s with commits := s.commits ++ [q] } page true

/-- A write of a page's COMMIT.GO: the commit waits for its boundary; while one is pending it is ignored (R10). -/
def State.goCommit (s : State) (page : Nat) : State :=
  if s.pendingOn page then s
  else s.addCommit page none

/-- A staging or commit verb waits for the boundary with its page's commit; one that finds a commit pending joins it
(R24, R25, log entry 14). -/
def State.verbCommit (s : State) (v : Verb) (page : Nat) (result : Option Nat := none) : State :=
  (s.addCommit page (some v.ring)).defer v (.commit page result)

/-- A host write of an RW/S word: dropped with WRITE_DROPPED while the page's commit is pending. -/
def State.writeShadow (s : State) (a : Nat) (v : Word) : State :=
  let p := pageOf a
  if s.pendingOn p then s.setFlag (pendBit p).1 (dropBit p) true else s.hostSet a v

/-- A value staged by a verb in an RW/S word. -/
def State.stage (s : State) (a : Nat) (v : Word) : State := s.hostSet a v

/-- The RW/S words of a page all take their shadow values. -/
def State.applyShadow (s : State) (page : Nat) : State :=
  let mine := fun (e : Nat × Word) => pageOf e.1 == page && isShadow e.1
  let s1 := { s with force := s.force.filter (fun e => !mine e) }
  (s.regs.filter mine).foldl (fun s e => s.setForce e.1 e.2) s1

/-- The results of a served commit request whose verb carries a load's result x: before the page's own results for SCAN and
PIPE, in their place for the others (R318, R344, R370, R387). -/
def commitResults (page : Nat) (st : Status) (x : Option Nat) (res : List Word) : List Word :=
  match x with
  | none => res
  | some n => if st != .ok then [] else if page = 9 ∨ page = 10 then word n :: res else [word n]

/-- The verb of a served commit request completes. -/
def State.answerCommit (s : State) (q : BoundaryReq) (st : Status) (res : List Word) : State :=
  match q.ring with
  | some r =>
    match (s.ring r).cur with
    | some f =>
      match f.waiting with
      | some (.commit p x) => s.completeRing r st (commitResults p st x res)
      | _ => s
    | none => s
  | none => s

/-- What a staging verb of SCAN, PIPE, STAVE, FACE or ENS stages: CFG for ENS_SET (0x90), else one word (ARG0 names it),
COUNT words from ARG0 on for PIPE_TABLE (0x82), or a repaint where FACE_SET names REQ (R319, R345, R371, R388, R427). -/
def State.stageEntry (s : State) (v : Verb) : State :=
  let a := (v.arg 0).toNat
  if v.code = 0x90 then s.stage Reg.ENS_CFG (v.arg 0)
  else if v.code = 0x82 then
    (List.range (field (v.arg 1) 2 0)).foldl (fun s i => s.stage (a + 4 * i) (v.arg (2 + i))) s
  else if a = Reg.FACE_REQ then
    if bit (v.arg 1) 0 then (List.range 12).foldl (State.evalField true) s else s
  else s.stage a (v.arg 1)

/-- A staging verb stages at once, or while its page's commit is pending waits for the end of that (R319, R345, R371,
R388). -/
def State.stageVerb (s : State) (v : Verb) (page : Nat) : State :=
  if s.pendingOn page then s.defer v (.staging page) else (s.stageEntry v).complete v .ok

/-- The staging verbs that waited for the end of a page's commit stage their values; PIPE_LOAD and BRIGHT_SET follow in
State.serveLoads. -/
def State.serveStaging (s : State) (page : Nat) : State :=
  (s.waiters (.staging page)).foldl (fun s r => match s.verbOf r with
    | some v => if v.code = 0x80 ∨ v.code = 0x84 then s else (s.stageEntry v).complete v .ok
    | none => s) s

/-- Every commit request of a page is served: PENDING falls, the verbs among them complete, and staging verbs that waited
for it stage. -/
def State.endCommit (s : State) (page : Nat) (st : Status) (res : List Word := []) : State :=
  let mine := fun (q : BoundaryReq) => !q.toBasic && q.page == page
  ((s.commits.filter mine).foldl (fun s q => s.answerCommit q st res)
    (State.setPending { s with commits := s.commits.filter (fun q => !mine q) } page false)).serveStaging page

/-- The requests of these pages served in the order in which they arrived (R23): commits by apply, and switches to BASIC
(R33). -/
def State.serveCommits (s : State) (pages : List Nat) (apply : State → Nat → State) : State :=
  s.commits.foldl (fun s q =>
    if !pages.contains q.page || !s.commits.contains q then s
    else if q.toBasic then s.applyBasic q.page
    else apply s q.page) s

/-- The named RO bits of an RW/S register, which a set verb's value may hold and which it does not change (R133,
    Table 9-10: VBAT_EN of SENSE.CFG is the only one). -/
def namedRo (a : Nat) : Word := if a = Reg.SENSE_CFG then 1#32 else 0#32

/-- An offset of a page names an RW/S register, and a value sets no reserved bit of it. -/
def stageable (page off : Nat) (v : Word) : Bool :=
  match regSpec (0x1000 * page + off) with
  | some r => r.rws != 0#32 && within v (r.rws ||| namedRo (0x1000 * page + off))
  | none => false

end Sys2Proof.Machine
end

