-- ==== Sys2Proof/Machine/Ladder.lean ====
section
/-!
DEFINITION. The power ladder (03): requests, moves and their ends, wake sources, ceilings, the idle timer, the alarm,
burst accounting and tokens, and the ladder verbs that change no CORE frequency.
-/

namespace Sys2Proof.Machine

/-- The code of a move's cause (Table 3-8). -/
def MoveCause.code : MoveCause → Nat
  | .register => 0
  | .verb => 1
  | .score => 2
  | .idle => 3
  | .forced => 4
  | .wake => 5
  | .boot => Config.bootMoveCause.toNat

/-- The ceiling in force, 0 where none is (R72). -/
def State.ceil (s : State) : Nat := s.fld Reg.DEV_FORCE 2 0

/-- A ladder state shown as current. -/
def State.setCur (s : State) (c : Nat) : State := s.setFld Reg.DEV_LADDER_STATE 2 0 c

/-- The ladder's target written. -/
def State.setTgt (s : State) (t : Nat) : State := s.setFld Reg.DEV_LADDER_STATE 6 4 t

/-- Scan-out runs, a guided transition included: FRAME boundaries come from it (R25, R306). -/
def State.scanRuns (s : State) : Bool := s.coreOn && (s.scan.running || s.scan.trans != .none)

/-- The first step of a move from rung c to target t (Tables 3-3 and 3-5). -/
def firstStep (c t : Nat) : MoveStep :=
  if c < t then
    if c = 0 then .jobsIdle else if c = 1 then .panel else if c = 2 then .coreStop else .fermata
  else if t < c then
    if c = 1 then .pllSwitch else .coreStart
  else .none

/-- A rung below MEZZO is kept: CORE stops, and below PIANO the Hall is not powered (Tables 3-1, 3-3). -/
def State.settleRung (s : State) : State :=
  if s.cur ≤ 1 ∨ s.ladder.burstOn then s
  else
    let s1 := if s.ladder.core = .stopped then s else s.setCore .stopped
    if s.cur = 2 then s1 else s1.setBanks 0#48

/-- A move ends at the rung in CUR: MOVING falls, MOVES rises, EV_LADDER_STATE is raised (R54 to R56). -/
def State.endMove (s : State) : State :=
  let s1 := (s.settleRung.setFlag Reg.DEV_LADDER_STATE 7 false).bump Reg.DEV_LADDER_STATE 31 16
  let arg := word (s.cur + 16 * s.ladder.start + 256 * s.ladder.cause.code)
  { s1 with ladder := { s1.ladder with step := .none } }.raise 0 arg

/-- The LADDER_SET that began the move completes, if one did. -/
def State.answerMove (s : State) (st : Status) (res : List Word) : State :=
  match s.ladder.byRing with
  | some r => { s with ladder := { s.ladder with byRing := none } }.completeRing r st res
  | none => s

/-- The target of a move is reached: its verb completes with the state, and the move ends. A verb answered at D7 already
has its completion (03, LADDER_SET). -/
def State.reachTarget (s : State) : State :=
  (s.answerMove (if s.ladder.capped then .okDegraded else .ok) [word s.cur]).endMove

/-- The verb of ring r waits for the move: with OK_DEFERRED first where the move must wait for a boundary (R24). -/
def State.waitForMove (s : State) (r : Nat) : State :=
  match s.verbOf r with
  | some v => if s.cur < s.tgt ∧ s.scanRuns then s.defer v .ladder 0 else s.await v .ladder 0
  | none => s

/-- The step of an ascent that runs, with its target replaced: U4 and U6 are taken for TUTTI and MEZZO alone (R64). -/
def ascentStep (m : MoveStep) (t : Nat) : MoveStep :=
  if m = .banks ∧ t ≤ 1 then .pllSwitch else if m = .pllSwitch ∧ 2 ≤ t then .banks else m

/-- A ladder request (R54, R55, R74): the latest wins; a target above the ceiling is reduced to it. Step D10 is in progress from its start and goes on until
task 1 has halted. -/
def State.request (s : State) (target : Nat) (cause : MoveCause) (ring : Option Nat) : State :=
  let t := max target s.ceil
  let capped := t != target
  let done := if capped then Status.okDegraded else Status.ok
  let begin_ := fun (s : State) (start : Nat) (step : MoveStep) =>
    let s1 := (s.setTgt t).setFlag Reg.DEV_LADDER_STATE 7 true
    let s2 := { s1 with ladder := { s1.ladder with
      start := start, cause := cause, byRing := ring, capped := capped, step := step } }
    match ring with
    | some r => s2.waitForMove r
    | none => s2
  if !s.moving then
    if t = s.cur then
      match ring with
      | some r => (s.setTgt t).completeRing r done [word t]
      | none => s.setTgt t
    else begin_ s s.cur (firstStep s.cur t)
  else
    let s1 := s.answerMove .superseded []
    if s.ladder.step = .task1 ∧ t ≠ 5 then begin_ s1 s.cur .task1
    else if t = s.cur then
      let s2 := { s1.setTgt t with ladder := { s1.ladder with cause := cause } }.endMove
      match ring with
      | some r => s2.completeRing r done [word t]
      | none => s2
    else
      let down := decide (s.cur < s.tgt)
      if down = decide (s.cur < t) then
        let step := if down then s.ladder.step
          else ascentStep s.ladder.step t
        begin_ s1 s.ladder.start step
      else begin_ s1 s.cur (firstStep s.cur t)

/-! ### Bursts (R66 to R68) -/

/-- A burst ends: counted, with its ticks rounded up, and CORE stops (R66, R68). -/
def State.endBurst (s : State) : State :=
  if s.ladder.burstOn then
    let s1 := s.setReg Reg.DEV_BURST_COUNT (s.reg Reg.DEV_BURST_COUNT + 1#32)
    let s2 := s1.setReg Reg.DEV_BURST_TICKS (s1.reg Reg.DEV_BURST_TICKS + word (s.elapsed s.ladder.burstFrom + 1))
    { s2 with ladder := { s2.ladder with burstOn := false } }.setCore .stopped
  else s

/-- TOKENS, where 0 acts as 1 (Table 3-18). -/
def State.tokenMax (s : State) : Nat := max 1 (s.fld Reg.DEV_BURST_CFG 3 0)

/-! ### The watchdog count (R90) -/

/-- The watchdog starts to count anew: a kick, an ascent to MEZZO or TUTTI, a CORE reset. -/
def State.wdogRestart (s : State) : State :=
  State.setFld { s with boot := { s.boot with wdogEarlyDone := false } } Reg.DEV_WDOG_STATUS 23 0 0

/-! ### Wake sources (R60) -/

/-- Table 3-4: source b is watched in ladder state c. -/
def wakeWatched (b c : Nat) : Bool :=
  match c with
  | 1 => b == 0 || b == 1 || b == 2 || b == 3 || b == 4 || b == 7 || b == 8 || b == 9
  | 2 => decide (b ≤ 9)
  | 3 => decide (b ≤ 10)
  | 4 => decide (b ≤ 10)
  | _ => false

/-- A wake source recognised (R60): where it is watched and its WAKE_TGT lies above the current state, and above the
target of an ascent that runs, the ascent starts or its target rises, WAKE_SRC and WAKE_TICK record it and EV_WAKE is
due at the end of the tick; further sources of the same tick are added to WAKE_SRC. -/
def State.wake (s : State) (b : Nat) : State :=
  let t := max (s.fld Reg.DEV_WAKE_TGT (2 * b + 1) (2 * b)) s.ceil
  let sameTick := s.ladder.wokeAt == some s.edge
  let ascending := s.moving && decide (s.tgt < s.cur)
  if s.boot.step != .released || !wakeWatched b s.cur || s.fld Reg.DEV_WAKE_TGT (2 * b + 1) (2 * b) == 3 ||
      decide (s.cur ≤ t) then s
  else if sameTick then
    let s1 := s.setFlag Reg.DEV_WAKE_SRC b true
    if t < s.tgt then s1.request t .wake none else s1
  else if ascending && decide (s.tgt ≤ t) then s
  else
    let s1 := s.endBurst
    let s2 := (s1.setReg Reg.DEV_WAKE_SRC (word (2 ^ b))).setReg Reg.DEV_WAKE_TICK s1.now
    let s3 := { s2 with ladder := { s2.ladder with wokeAt := some s2.edge, wakeDue := true } }
    s3.request t .wake none

/-- EV_WAKE with every source of the tick (R60). -/
def State.tellWake (s : State) : State :=
  if s.ladder.wakeDue then
    State.raise { s with ladder := { s.ladder with wakeDue := false } } 1 (s.reg Reg.DEV_WAKE_SRC)
  else s

/-! ### Ceilings (R72) -/

/-- The ceiling follows the actions in force; each change raises EV_LADDER_FORCED, and a part above it descends (R72). -/
def State.applyCeil (s : State) : State :=
  let c := max s.ladder.ceilThermal (max s.ladder.ceilBattery s.ladder.ceilSupply)
  let bits := (if s.ladder.ceilBattery ≠ 0 ∨ s.ladder.ceilSupply ≠ 0 then 1 else 0) + (if s.ladder.ceilThermal ≠ 0 then 2 else 0)
  let s1 := (s.setFld Reg.DEV_FORCE 2 0 c).setFld Reg.DEV_FORCE 9 8 bits
  if s1.reg Reg.DEV_FORCE = s.reg Reg.DEV_FORCE then s
  else
    let s2 := s1.raise 3 (word (c + 256 * bits))
    if s2.ladder.step = .task1 then (if s2.tgt < c then s2.setTgt c else s2)
    else if s2.moving && decide (s2.tgt < s2.cur) then
      if c < s2.ladder.start then
        if s2.tgt < c then
          State.setTgt { s2 with ladder := { s2.ladder with step := ascentStep s2.ladder.step c, capped := true } } c
        else s2
      else
        let s3 := (s2.answerMove .superseded []).setFlag Reg.DEV_LADDER_STATE 7 false
        let s4 := ({ s3 with ladder := { s3.ladder with step := .none } }.settleRung).setTgt s3.cur
        if s4.cur < c then s4.request c .forced none else s4
    else if s2.tgt < c ∨ (!s2.moving ∧ s2.cur < c) then s2.request c .forced none
    else s2

/-! ### Verbs and rows -/

/-- A write of LADDER_REQ (R54): TARGET is stored, and GO requests it where it names a state. A write with GO while a move runs is
ignored (R10), and as a whole: TARGET keeps its value (DESIGN CHOICE, log entry 59). -/
def State.writeLadderReq (s : State) (v : Word) : State :=
  if bit v 31 && s.moving then s
  else
    let s1 := s.hostSet Reg.DEV_LADDER_REQ v
    if bit v 31 && decide (field v 2 0 ≤ 5) then s1.request (field v 2 0) .register none else s1

/-- LADDER_TUNE (0x12): BURST_CFG and VCORE_CFG; tokens held above the new TOKENS fall to it (R67). -/
def execLadderTune (ring : BitVec 8) (s : State) : Host.Outcome State Fault Refusal :=
  .next (s.runVerb ring.toNat 0x12 clientZero (fun _ v => v.argsWithin [0xF#32, 0x03FF03FF#32])
    (fun s v =>
      let s1 := (s.setReg Reg.DEV_BURST_CFG (v.arg 0)).setReg Reg.DEV_VCORE_CFG (v.arg 1)
      { s1 with ladder := { s1.ladder with tokens := min s1.ladder.tokens s1.tokenMax } }.complete v .ok))

/-- A write of BURST_CFG (R67). -/
def State.writeBurstCfg (s : State) (v : Word) : State :=
  let s1 := s.hostSet Reg.DEV_BURST_CFG v
  { s1 with ladder := { s1.ladder with tokens := min s1.ladder.tokens s1.tokenMax } }

/-- ALARM_SET (0x13, R63). -/
def execAlarmSet (ring : BitVec 8) (s : State) : Host.Outcome State Fault Refusal :=
  .next (s.runVerb ring.toNat 0x13 clientZero (fun _ v => v.argsWithin [0xFFFFFFFF#32, 0x1#32])
    (fun s v => ((s.setReg Reg.DEV_ALARM (v.arg 0)).setFlag Reg.DEV_ALARM_CTL 0 (bit (v.arg 1) 0)).complete v .ok))

/-- The idle timer has reached IDLE.TICKS (R59). -/
def State.idleDue (s : State) : Bool :=
  s.boot.step == .released && s.flag Reg.DEV_IDLE 31 && decide (s.cur ≤ 1) && !s.moving &&
    decide (max 1 (s.fld Reg.DEV_IDLE 23 0) ≤ s.ladder.idleCount)

/-- The idle timer requests its target and restarts (R59). -/
def execIdleTimer (s : State) : Host.Outcome State Fault Refusal :=
  .next (if s.idleDue then
      let s1 := { s with ladder := { s.ladder with idleCount := 0 } }
      let t := s.fld Reg.DEV_IDLE 26 24
      if t = 0 ∨ 6 ≤ t then s1 else s1.request t .idle none
    else s)

/-- A host select while CORE is stopped goes unanswered and is the HOST wake source (R61). -/
def execHostSelectWake (_port : Port) (s : State) : Host.Outcome State Fault Refusal :=
  .next (if 2 ≤ s.cur ∧ s.cur ≤ 4 then s.wake 5 else s)

/-- The Metronome matches the alarm (R63). -/
def State.alarmDue (s : State) : Bool := s.flag Reg.DEV_ALARM_CTL 0 && s.now == s.reg Reg.DEV_ALARM

/-- An alarm match: FIRED, EV_ALARM and the ALARM wake source (R63). -/
def State.alarmMatch (s : State) : State :=
  ((s.setFlag Reg.DEV_ALARM_CTL 1 true).raise 7 (word (s.metro.toNat / 2 ^ 32))).wake 8

/-- The alarm matches at this tick (R63). -/
def execAlarmMatch (s : State) : Host.Outcome State Fault Refusal :=
  .next (if s.alarmDue then s.alarmMatch else s)

/-- A refill of the token bucket falls due in FERMATA (R67). -/
def State.refillDue (s : State) : Bool := s.cur == 4 && decide (32768 ≤ s.elapsed s.ladder.refillFrom)

/-- One burst token is added, up to TOKENS (R67). -/
def execTokenRefill (s : State) : Host.Outcome State Fault Refusal :=
  .next (if s.refillDue then
      { s with ladder := { s.ladder with
        tokens := min s.tokenMax (s.ladder.tokens + 1), refillFrom := s.ladder.refillFrom + 32768#48 } }
    else s)

end Sys2Proof.Machine
end

