-- ==== Sys2Proof/Machine/Score.lean ====
section
/-!
DEFINITION. The Score (07): tasks, steps, faults, bus transfers, samples, and the SCORE and BUS verbs.
-/

namespace Sys2Proof.Machine

/-! ### Tasks -/

/-- A task's state beside its block. -/
def State.task (s : State) (t : Nat) : TaskSt := Cells.get (fun _ => {}) s.score.tasks t

/-- A task's state written. -/
def State.setTask (s : State) (t : Nat) (v : TaskSt) : State :=
  { s with score := { s.score with tasks := Cells.put (fun _ => {}) s.score.tasks t v } }

/-- Task t is RUNNING (R142). -/
def State.running (s : State) (t : Nat) : Bool := s.flag Reg.SCORE_RUN t

/-- The step a task stands at. -/
def State.pc (s : State) (t : Nat) : Nat := s.fld (taskStat t) 10 0

/-- The step pointer moved. -/
def State.setPc (s : State) (t i : Nat) : State := s.setFld (taskStat t) 10 0 (i % 2048)

/-- STATE of TASK_STAT: 0 halted, 1 stepping, 2 waiting, 3 bus step. -/
def State.setTaskState (s : State) (t c : Nat) : State := s.setFld (taskStat t) 12 11 c

/-- The step word a task stands at. -/
def State.stepWord (s : State) (t : Nat) : Word := s.aoWord (aoSteps + s.pc t)

/-- TASK_HALT verbs whose tasks are all HALTED complete with OK (R142). -/
def State.answerHalts (s : State) : State :=
  s.rings.foldl (fun s e => match e.2.cur with
    | some f => match f.waiting with
      | some (.taskHalt m) => if (maskBits 16 m).all (fun t => !s.running t) then s.completeRing e.1 .ok else s
      | _ => s
    | none => s) s

/-- The queue of bus b. -/
def State.bus (s : State) (b : Nat) : List BusXfer := Cells.get (fun _ => []) s.score.buses b

/-- The queue of bus b written; BUS.STATUS.BUSY shows whether it holds a transfer. -/
def State.setBus (s : State) (b : Nat) (q : List BusXfer) : State :=
  { s with score := { s.score with buses := Cells.put (fun _ => []) s.score.buses b q } }.setFlag Reg.BUS_STATUS b
    (!q.isEmpty)

/-- A queued transfer leaves its bus; the one behind it starts with the configuration now in force (R151). -/
def State.leaveBus (s : State) (b : Nat) (x : BusXfer) : State :=
  let cfg := s.reg (Reg.BUS_I2C_CFG + 4 * b)
  s.setBus b (match (s.bus b).filter (fun y => y.task != x.task) with
    | y :: q => { y with cfg := if (s.bus b).head? = some y then y.cfg else cfg } :: q
    | [] => [])

/-- The transfer of a task, if it has one, leaves its bus. -/
def State.dropXfers (s : State) (t : Nat) : State :=
  (List.range 4).foldl (fun s b => match (s.bus b).find? (fun x => x.task == t) with
    | some x => s.leaveBus b x
    | none => s) s

/-- A task becomes HALTED, with EV_SCORE_HALT and its cause (R142, Table 7-9); a transfer of it ends. -/
def State.haltTask (s : State) (t cause : Nat) : State :=
  let step := s.pc t
  let s1 := ((s.dropXfers t).setFlag Reg.SCORE_RUN t false).setTaskState t 0
  ((s1.setTask t { s1.task t with waitFrom := none, stopping := false, busEnd := none }).raise 16
    (word (t + 16 * step + 0x10000 * cause))).answerHalts

/-- A start of a task (R142, R158): one that is RUNNING is left as it is. -/
def State.startTask (s : State) (t : Nat) : State :=
  if s.running t then s
  else
    let s1 := ((s.setFlag Reg.SCORE_RUN t true).setPc t (s.fld (Reg.SCORE_TASK_CFG + 32 * t) 10 0)).setTaskState t 1
    ((s1.setFlag (taskStat t) 14 false).setFlag (taskStat t) 15 false).setTask t {}

/-- The tasks of a mask started in ascending order. -/
def State.startTasks (s : State) (m : Nat) : State := (maskBits 16 m).foldl State.startTask s

/-- A malformed step halts its task with cause MALFORMED, label or not (R147). -/
def State.malformed (s : State) (t : Nat) : State :=
  ((s.setFld (taskStat t) 30 20 (s.pc t)).setFld (taskStat t) 19 16 4).haltTask t 2

/-- A fault of a task (R152): its cause and step recorded, FAULTED, EV_SCORE_FAULT, then the fault label or a halt. A task that is being
stopped halts with cause 3 and does not take its label (R142, log entry 56). -/
def State.taskFault (s : State) (t cause : Nat) : State :=
  let step := s.pc t
  let s1 := ((s.setFld (taskStat t) 30 20 step).setFld (taskStat t) 19 16 cause).setFlag Reg.SCORE_FAULTED t true
  let s2 := s1.raise 17 (word (t + 16 * step + 0x10000 * cause))
  let cfg := s2.reg (Reg.SCORE_TASK_CFG + 32 * t)
  if bit cfg 31 && !(s2.task t).stopping then
    let s3 := ((s2.setFlag (taskStat t) 14 false).setFlag (taskStat t) 15 false).setPc t (field cfg 26 16)
    (s3.setTaskState t 1).setTask t { s3.task t with waitFrom := none }
  else s2.haltTask t (if (s2.task t).stopping then 3 else 1)

/-- A step completes: the pointer moves to a step that executes at the next tick (R143). -/
def State.stepTo (s : State) (t i : Nat) : State :=
  ((s.setPc t i).setTaskState t 1).setTask t { s.task t with waitFrom := none }

/-- A step completes and the task goes on to the next one. -/
def State.stepOn (s : State) (t : Nat) : State := s.stepTo t (s.pc t + 1)

/-- An opcode of Table 7-2. -/
def stepKnown (op : Nat) : Bool :=
  [0x00, 0x01, 0x02, 0x03, 0x04, 0x05, 0x08, 0x09, 0x0A, 0x0C, 0x0D, 0x10, 0x11, 0x18, 0x19, 0x1A, 0x1B, 0x20].contains op

/-- A higher-numbered task has executed its step of this tick: the turn of task t is over (R143). -/
def State.turnOver (s : State) (t : Nat) : Bool :=
  match s.score.lastStep with
  | some (e, u) => e == s.edge && decide (t < u)
  | none => false

/-- The step of this tick of task t is counted (R143). -/
def State.countStep (s : State) (t : Nat) : State :=
  let s1 := s.setTask t { s.task t with ranAt := some s.edge }
  { s1 with score := { s1.score with lastStep := some (s.edge, t) } }

/-- One step of a task (R143): nothing unless the task is RUNNING, not blocked in a bus step, has not stepped in this
tick, whose turn is not over, and stands at a step of this opcode; a reserved opcode, a set reserved bit or a fault of the step's own check is
malformed (R147). -/
def State.runStep (s : State) (t op : Nat) (named : Word) (bad : State → Word → Bool)
    (body : State → Word → State) : State :=
  let w := s.stepWord t
  if !s.running t || s.fld (taskStat t) 12 11 == 3 || (s.task t).ranAt == some s.edge || s.turnOver t then s
  else if !stepKnown (field w 31 26) then s.malformed t
  else if field w 31 26 ≠ op then s
  else
    let s1 := s.countStep t
    if !within w (named ||| 0xFC000000#32) || bad s1 w then s1.malformed t else body s1 w

/-! ### Pins (R147) -/

/-- A PIN number names a pin. -/
def pinKnown (n : Nat) : Bool :=
  decide (n ≤ 11) || (decide (16 ≤ n) && decide (n ≤ 27)) || (decide (32 ≤ n) && decide (n ≤ 38))

/-- The level a pin reads: PSEQ_EN at its pad, any other as sampled now; SINT0–3 and PNL_PG read 0 while VDDIO is out of range (R36,
R147). -/
def State.pinReads (s : State) (n : Nat) (level : Bool) : Bool :=
  if n ≤ 11 then s.pins.pseqEn.getLsbD n
  else if (decide (32 ≤ n) && decide (n ≤ 35)) || n == 37 then level && s.vddioUp
  else level

/-- A sampled input pin recorded for PAD_PG and PAD_LEVEL; SINT0–3 and CHG_STAT are recorded by their own samples (R156, R207). -/
def State.samplePin (s : State) (n : Nat) (level : Bool) : State :=
  let setB := fun (m : Nat) (i : Nat) => numWithBit m i level
  if n ≤ 11 then s
  else if n ≤ 27 then { s with pins := { s.pins with pg := BitVec.ofNat 13 (setB s.pins.pg.toNat (n - 16)) } }
  else if n ≤ 36 then s
  else if n = 37 then { s with pins := { s.pins with pg := BitVec.ofNat 13 (setB s.pins.pg.toNat 12) } }
  else { s with pins := { s.pins with kbtn0 := level } }

/-- PSEQ_ENn driven by its owner: its latch is released and its PAD_LATCH bit cleared (R43, R157). -/
def State.drivePseq (s : State) (n : Nat) (level : Bool) : State :=
  { s with pins := { s.pins with
      pseqEn := BitVec.ofNat 12 (numWithBit s.pins.pseqEn.toNat n level)
      pseqLatched := BitVec.ofNat 12 (numWithBit s.pins.pseqLatched.toNat n false) } }.setFlag Reg.DEV_PAD_LATCH n false

/-! ### Plain steps -/

/-- HALT: the task halts with cause 0. -/
def execHaltStep (task : BitVec 4) (s : State) : Host.Outcome State Fault Refusal :=
  .next (s.runStep task.toNat 0x00 0#32 (fun _ _ => false) (fun s _ => s.haltTask task.toNat 0))

/-- SET_PIN (R157). -/
def execSetPin (task : BitVec 4) (s : State) : Host.Outcome State Fault Refusal :=
  .next (s.runStep task.toNat 0x01 0x7F#32 (fun _ w => decide (11 < field w 5 0))
    (fun s w => (s.drivePseq (field w 5 0) (bit w 6)).stepOn task.toNat))

/-- A wait whose condition does not hold: the task waits, from the first tick in which the step executed (R148). -/
def State.waitStep (s : State) (t : Nat) : State :=
  (s.setTaskState t 2).setTask t { s.task t with waitFrom := some ((s.task t).waitFrom.getD s.edge) }

/-- The ticks since the first one of a wait step. -/
def State.waited (s : State) (t : Nat) : Nat :=
  match (s.task t).waitFrom with
  | some f => s.elapsed f
  | none => 0

/-- A wait step in this tick (R148): done where its condition holds; TIMEOUT ticks after the first one it faults, and a tick that
was missed does not save it. -/
def State.waitUntil (s : State) (t : Nat) (w : Word) (holds : Bool) (done : State) : State :=
  let limit := field w 25 10
  if holds && (limit == 0 || decide (s.waited t ≤ limit)) then done
  else if 0 < limit ∧ limit ≤ s.waited t then s.taskFault t 1
  else s.waitStep t

/-- WAIT_PIN's own effect. -/
def State.waitPin (t : Nat) (level : Bool) (s : State) (w : Word) : State :=
  let s1 := s.samplePin (field w 5 0) level
  s1.waitUntil t w (s1.pinReads (field w 5 0) level == bit w 6) (s1.stepOn t)

/-- WAIT_PIN (R148): level is the level the named input pin reads now. -/
def execWaitPin (task : BitVec 4) (level : Bool) (s : State) : Host.Outcome State Fault Refusal :=
  .next (s.runStep task.toNat 0x02 0x03FFFC7F#32 (fun _ w => !pinKnown (field w 5 0)) (State.waitPin task.toNat level))

/-- WAIT_TICKS: the next step executes N ticks after the first one. -/
def execWaitTicks (task : BitVec 4) (s : State) : Host.Outcome State Fault Refusal :=
  .next (s.runStep task.toNat 0x03 0x00FFFFFF#32 (fun _ _ => false)
    (fun s w =>
      if max 1 (field w 23 0) ≤ s.elapsed ((s.task task.toNat).waitFrom.getD s.edge) + 1 then s.stepOn task.toNat
      else s.waitStep task.toNat))

/-- The count of input i of task t. -/
def State.inputCount (s : State) (t i : Nat) : Nat := s.fld (taskCnt t) (4 * i + 3) (4 * i)

/-- The count of input i of task t written. -/
def State.setInput (s : State) (t i n : Nat) : State := s.setFld (taskCnt t) (4 * i + 3) (4 * i) n

/-- WAIT_INPUT's own effect. -/
def State.waitInput (t : Nat) (s : State) (w : Word) : State :=
  let i := field w 1 0
  let k := max 1 (field w 5 2)
  let n := s.inputCount t i
  s.waitUntil t w (decide (k ≤ n)) ((if bit w 6 then s.setInput t i (n - k) else s).stepOn t)

/-- WAIT_INPUT (R144, R148). -/
def execWaitInput (task : BitVec 4) (s : State) : Host.Outcome State Fault Refusal :=
  .next (s.runStep task.toNat 0x04 0x03FFFC7F#32 (fun _ _ => false) (State.waitInput task.toNat))

/-- OVF of a task cleared, in TASK_STAT and SCORE.OVF (R144). -/
def State.clearOvf (s : State) (t : Nat) : State := (s.setFlag (taskStat t) 13 false).setFlag Reg.SCORE_OVF t false

/-- CLEAR_INPUT. -/
def execClearInput (task : BitVec 4) (s : State) : Host.Outcome State Fault Refusal :=
  .next (s.runStep task.toNat 0x05 0x1F#32 (fun _ _ => false)
    (fun s w =>
      let s1 := (maskBits 4 (field w 3 0)).foldl (fun s i => s.setInput task.toNat i 0) s
      (if bit w 4 then s1.clearOvf task.toNat else s1).stepOn task.toNat))

/-- RAISE_EVENT: event 24 + USER with an immediate argument or a buffer word. -/
def execRaiseEvent (task : BitVec 4) (s : State) : Host.Outcome State Fault Refusal :=
  .next (s.runStep task.toNat 0x10 0x03FFFFFF#32 (fun _ w => bit w 3 && field w 25 15 != 0)
    (fun s w => (s.stepOn task.toNat).raise (24 + field w 2 0)
      (if bit w 3 then s.buf (field w 14 4) else word (field w 25 4))))

/-- A SAMPLE entry of a task (R159): lost and counted where TASK_RING is off, names no enabled SAMPLE ring, or the Hall is
unpowered. -/
def State.postSample (s : State) (t step : Nat) (data : List Byte) : State :=
  let rr := s.reg (Reg.SCORE_TASK_RING + 32 * t)
  let r := field rr 7 0
  if bit rr 8 && s.ringEn r && s.ringType r == 3 && decide (s.cur ≤ 2) then
    s.postDropping r (.sample t step s.now data)
  else s.bumpSat (taskCnt t) 31 24

/-- len bytes of the Score buffers from word i on. -/
def State.bufBytes (s : State) (i len : Nat) : List Byte :=
  (wordsBytes ((List.range ((len + 3) / 4)).map (fun k => s.buf (i + k)))).take len

/-- POST_CUE (R159). -/
def execPostCue (task : BitVec 4) (s : State) : Host.Outcome State Fault Refusal :=
  .next (s.runStep task.toNat 0x11 0xFFFF#32
    (fun _ w => decide (20 < field w 15 11) || decide (2048 < field w 10 0 + (field w 15 11 + 3) / 4))
    (fun s w => (s.postSample task.toNat (s.pc task.toNat) (s.bufBytes (field w 10 0) (field w 15 11))).stepOn
      task.toNat))

/-- The condition of BRANCH_IF (Table 7-3). -/
def State.branchHolds (s : State) (t : Nat) (w : Word) (level : Bool) : Bool :=
  match field w 12 11 with
  | 0 => decide (field w 18 15 ≤ s.inputCount t (field w 14 13))
  | 1 => s.pinReads (field w 18 13) level == bit w 19
  | 2 =>
    let i := field w 23 13
    let a := (s.buf i &&& s.buf (i + 2)).toNat
    let b := (s.buf (i + 1)).toNat
    match field w 25 24 with
    | 0 => a == b
    | 1 => a != b
    | 2 => decide (b ≤ a)
    | _ => decide (a < b)
  | _ => s.flag (taskStat t) 13

/-- A BRANCH_IF word is malformed beyond its reserved bits: an unused COND bit, an unassigned pin, a buffer range beyond
word 2047 (R147, Table 7-3). -/
def branchBad (w : Word) : Bool :=
  match field w 12 11 with
  | 0 => field w 25 20 != 0
  | 1 => field w 25 20 != 0 || !pinKnown (field w 18 13)
  | 2 => decide (2047 < field w 23 13 + 2)
  | _ => field w 25 13 != 0

/-- BRANCH_IF; level is the level the named input pin reads now. -/
def execBranchIf (task : BitVec 4) (level : Bool) (s : State) : Host.Outcome State Fault Refusal :=
  .next (s.runStep task.toNat 0x18 0x03FFFFFF#32 (fun _ w => branchBad w)
    (fun s w =>
      let t := task.toNat
      let s0 := if field w 12 11 = 1 then s.samplePin (field w 18 13) level else s
      if s0.branchHolds t w level then
        let i := field w 14 13
        let s1 := if field w 12 11 = 0 ∧ bit w 19 then s0.setInput t i (s0.inputCount t i - field w 18 15) else s0
        s1.stepTo t (field w 10 0)
      else s0.stepOn t))

/-- CALL (R149). -/
def execCallStep (task : BitVec 4) (s : State) : Host.Outcome State Fault Refusal :=
  .next (s.runStep task.toNat 0x19 0x7FF#32 (fun s _ => s.flag (taskStat task.toNat) 14)
    (fun s w =>
      let t := task.toNat
      ((s.setTask t { s.task t with callRet := (s.pc t + 1) % 2048 }).setFlag (taskStat t) 14 true).stepTo t
        (field w 10 0)))

/-- RETURN (R149). -/
def execReturnStep (task : BitVec 4) (s : State) : Host.Outcome State Fault Refusal :=
  .next (s.runStep task.toNat 0x1A 0#32 (fun s _ => !s.flag (taskStat task.toNat) 14)
    (fun s _ =>
      let t := task.toNat
      (s.setFlag (taskStat t) 14 false).stepTo t (s.task t).callRet))

/-- LOOP (R149). -/
def execLoopStep (task : BitVec 4) (s : State) : Host.Outcome State Fault Refusal :=
  .next (s.runStep task.toNat 0x1B 0x7FFFF#32
    (fun s _ => s.flag (taskStat task.toNat) 15 && (s.task task.toNat).loopAt != s.pc task.toNat)
    (fun s w =>
      let t := task.toNat
      let l := (if s.flag (taskStat t) 15 then s.fld (taskCnt t) 23 16 else max 1 (field w 18 11)) - 1
      let s1 := (s.setTask t { s.task t with loopAt := s.pc t }).setFld (taskCnt t) 23 16 l
      if 0 < l then (s1.setFlag (taskStat t) 15 true).stepTo t (field w 10 0)
      else (s1.setFlag (taskStat t) 15 false).stepOn t))

/-- A wait step of a task is out of time (R148): its TIMEOUT has passed since its first tick. -/
def State.waitExpired (s : State) (t : Nat) : Bool :=
  let w := s.stepWord t
  match (s.task t).waitFrom with
  | some f => s.running t && (field w 31 26 == 2 || field w 31 26 == 4) && decide (0 < field w 25 10) &&
      decide (field w 25 10 ≤ s.elapsed f)
  | none => false

/-- A wait step in the tick of its TIMEOUT (R148): it tests its condition once more and faults where that does not hold. -/
def execScoreWaitTimeout (sample : WaitSample) (s : State) : Host.Outcome State Fault Refusal :=
  let t := sample.task.toNat
  .next (if !s.waitExpired t then s
    else if field (s.stepWord t) 31 26 = 2 then
      s.runStep t 0x02 0x03FFFC7F#32 (fun _ w => !pinKnown (field w 5 0)) (State.waitPin t sample.level)
    else s.runStep t 0x04 0x03FFFC7F#32 (fun _ _ => false) (State.waitInput t))

/-! ### Bus steps (R150 to R155) -/

/-- EN of bus b. -/
def State.busEn (s : State) (b : Nat) : Bool := s.flag (Reg.BUS_I2C_CFG + 4 * b) (if b < 2 then 8 else 16)

/-- A bus step is malformed (R147, R150): its bus, its descriptor or its buffer ranges. Reserved bits of the descriptor, and bits 6 to 1
of an SPI TARGET, have no effect (log entry 56). -/
def State.busBad (s : State) (spi needRead : Bool) (w : Word) : Bool :=
  let b := field w 12 11
  let d := field w 10 0
  let w0 := s.buf d
  let w1 := s.buf (d + 1)
  (spi != decide (2 ≤ b)) || decide (2046 < d) || decide (20 < field w0 12 8) || decide (20 < field w0 17 13) ||
    (needRead && field w0 17 13 == 0) || decide (2048 < field w1 10 0 + (field w0 12 8 + 3) / 4) ||
    decide (2048 < field w1 21 11 + (field w0 17 13 + 3) / 4)

/-- A bus fault captured in BUS.ERR_LOG with EV_BUS_ERROR, the first one since cleared (Table 7-12). -/
def State.logBus (s : State) (b t target cause : Nat) : State :=
  let info := target + 256 * b + 0x1000 * t + 0x10000 * cause
  if s.flag Reg.BUS_ERR_LOG 31 then s
  else (s.setReg Reg.BUS_ERR_LOG (word (2 ^ 31 + info))).raise 112 (word info)

/-- A bus step queues its transfer and blocks its task; on a disabled bus it faults with DISABLED (R151, R152). The descriptor and the
write bytes are read as the step queues the transfer (log entry 56); the bus configuration is that of the transfer's start. -/
def State.queueBus (s : State) (t : Nat) (w : Word) (read toRing : Bool) : State :=
  let b := field w 12 11
  let w0 := s.buf (field w 10 0)
  let w1 := s.buf (field w 10 0 + 1)
  if !s.busEn b then (s.logBus b t (field w0 6 0) 5).taskFault t 5
  else
    let x : BusXfer := {
      task := t, step := s.pc t, target := field w0 6 0, wlen := field w0 12 8, rlen := field w0 17 13
      timeout := if field w0 31 18 = 0 then 16384 else field w0 31 18
      wbuf := field w1 10 0, rbuf := field w1 21 11, read := read, toRing := toRing, queued := s.edge
      sending := s.bufBytes (field w1 10 0) (field w0 12 8), cfg := s.reg (Reg.BUS_I2C_CFG + 4 * b) }
    (s.setBus b (s.bus b ++ [x])).setTaskState t 3

/-- I2C_WRITE. -/
def execI2cWrite (task : BitVec 4) (s : State) : Host.Outcome State Fault Refusal :=
  .next (s.runStep task.toNat 0x08 0x1FFF#32 (fun s w => s.busBad false false w)
    (fun s w => s.queueBus task.toNat w false false))

/-- I2C_READ. -/
def execI2cRead (task : BitVec 4) (s : State) : Host.Outcome State Fault Refusal :=
  .next (s.runStep task.toNat 0x09 0x1FFF#32 (fun s w => s.busBad false true w)
    (fun s w => s.queueBus task.toNat w true false))

/-- I2C_READ_TO_RING. -/
def execI2cReadToRing (task : BitVec 4) (s : State) : Host.Outcome State Fault Refusal :=
  .next (s.runStep task.toNat 0x0A 0x1FFF#32 (fun s w => s.busBad false true w)
    (fun s w => s.queueBus task.toNat w true true))

/-- SPI_XFER. Its RLEN may be 0: the read steps of R150 are those whose transfer is write-then-read (Table 7-2, log entry 56). -/
def execSpiXfer (task : BitVec 4) (s : State) : Host.Outcome State Fault Refusal :=
  .next (s.runStep task.toNat 0x0C 0x1FFF#32 (fun s w => s.busBad true false w)
    (fun s w => s.queueBus task.toNat w true false))

/-- SPI_XFER_TO_RING. -/
def execSpiXferToRing (task : BitVec 4) (s : State) : Host.Outcome State Fault Refusal :=
  .next (s.runStep task.toNat 0x0D 0x1FFF#32 (fun s w => s.busBad true false w)
    (fun s w => s.queueBus task.toNat w true true))

/-- A queued transfer is given up and its step faults (R151, R152); the task goes on at the next tick (R143). -/
def State.busFault (s : State) (b : Nat) (x : BusXfer) (cause : Nat) : State :=
  let s1 := s.leaveBus b x
  let s2 := (s1.setFlag Reg.BUS_STATUS (4 + b) (cause == 3)).logBus b x.task x.target cause
  (s2.setTask x.task { s2.task x.task with ranAt := some s2.edge }).taskFault x.task cause

/-- Bytes that the part sends, the first of them acknowledged as far as acked reaches. -/
def sentBytes (bs : List Byte) (acked : Nat) : List BusSymbol := bs.zipIdx.map (fun e => .sent e.1 (decide (e.2 < acked)))

/-- Bytes that the part reads: it acknowledges every one but the last (R153). -/
def readBytes (bs : List Byte) : List BusSymbol := bs.zipIdx.map (fun e => .read e.1 (decide (e.2 + 1 < bs.length)))

/-- The symbols of an I²C transfer of which acked bytes are acknowledged (R153): a missing acknowledge ends it with STOP. -/
def i2cSymbols (x : BusXfer) (data : List Byte) (acked : Nat) : List BusSymbol :=
  let address := fun (read : Nat) => BitVec.ofNat 8 (2 * x.target + read)
  let first := if x.read && x.wlen == 0 then [] else address 0 :: x.sending
  let head := BusSymbol.start :: sentBytes (first.take (acked + 1)) acked
  if first.length ≤ acked ∧ x.read then
    let again := if first.isEmpty then [] else head
    if acked = first.length then again ++ [.start, .sent (address 1) false, .stop]
    else again ++ [.start, .sent (address 1) true] ++ readBytes data ++ [.stop]
  else head ++ [.stop]

/-- The symbols of an SPI transfer (R155): the chip select of TARGET bit 0, the write bytes, then bytes of 0x00 while MISO is captured. -/
def spiSymbols (x : BusXfer) (data : List Byte) : List BusSymbol :=
  .select (x.target % 2) :: (x.sending.map (fun b => .frame b none) ++ data.map (fun b => .frame 0#8 (some b)) ++
    [.deselect (x.target % 2)])

/-- The divisor D of SCK (R155): the smallest whole number for which SCK does not exceed MAX_MHZ, where 0 acts as 1. -/
def spiDivisor (coreMHz maxMHz : Nat) : Nat := max 1 ((coreMHz + 2 * max 1 maxMHz - 1) / (2 * max 1 maxMHz))

/-- The nominal I²C rate of RATE in kHz (Table 7-11, R154). -/
def i2cKHz (rate : Nat) : Nat := if rate = 0 then 100 else if rate = 1 then 400 else 1000

/-- The transfer as the bus carried it, recorded; pulses tells that SDA was low before it (R153). -/
def State.recordBus (s : State) (b : Nat) (x : BusXfer) (data : List Byte) (outcome : BusOutcome) (pulses : Bool) : State :=
  let rec_ : BusRecord :=
    if b < 2 then
      { mode := 0, rate := i2cKHz (field x.cfg 1 0)
        symbols := (if pulses then [.pulses, .stop] else []) ++ (match outcome with
          | .ok => i2cSymbols x data (x.wlen + 3)
          | .nack n => i2cSymbols x data n
          | .stuck => []) }
    else { mode := field x.cfg 1 0, rate := spiDivisor s.coreMHz (field x.cfg 12 8), symbols := spiSymbols x data }
  { s with score := { s.score with records := Cells.put (fun _ => none) s.score.records b (some rec_) } }

/-- A transfer has ended; the tick that follows completes its step (R151). -/
def State.busEnded (s : State) (b : Nat) (x : BusXfer) (e : BusEnd) : State :=
  let s1 := (s.leaveBus b x).setFlag Reg.BUS_STATUS (4 + b) (e.cause == 3)
  s1.setTask x.task { s1.task x.task with busEnd := some e }

/-- A transfer ends well (R150, R151, R159): its SAMPLE entry is posted, and its read words, with the bytes beyond RLEN 0, wait for the
tick that completes the step. -/
def State.busDone (s : State) (b : Nat) (x : BusXfer) (bytes : List Byte) : State :=
  let s1 := s.busEnded b x { cause := 0, rbuf := x.rbuf, words := if x.read then bytesWords bytes else [] }
  if x.toRing then s1.postSample x.task x.step bytes else s1

/-- The transfer at the head of a bus queue ends (R151, R153, R155). outcome and recovered are what the bus showed: a missing
acknowledge, SDA stuck low, or SDA freed by the part's clock pulses; data are the bytes read. A transfer whose TIMEOUT has expired
is ended by that. -/
def execBusTransferEnd (bus : BitVec 2) (outcome : BusOutcome) (recovered : Bool) (data : List Byte) (s : State) :
    Host.Outcome State Fault Refusal :=
  .next (match s.bus bus.toNat with
    | [] => s
    | x :: _ =>
      let b := bus.toNat
      if !s.coreOn then s
      else if x.timeout ≤ s.elapsed x.queued then s.busFault b x 1
      else
        let out := if b < 2 then outcome else .ok
        let bytes := (data ++ List.replicate x.rlen 0#8).take x.rlen
        let pulses := decide (b < 2) && (recovered || outcome == .stuck)
        let s0 := s.recordBus b x bytes out pulses
        let s1 := if recovered && decide (b < 2) && outcome != .stuck then s0.raise 113 (word b) else s0
        match out with
        | .ok => s1.busDone b x bytes
        | .nack _ => (s1.busEnded b x { cause := 2 }).logBus b x.task x.target 2
        | .stuck => (s1.busEnded b x { cause := 3 }).logBus b x.task x.target 3)

/-- The step of a task whose transfer has ended completes in the first tick that follows (R150 to R152): the read words are written
and the task goes on, faults or, where it is being stopped, halts. -/
def State.endBusStep (s : State) (t : Nat) : State :=
  match (s.task t).busEnd with
  | some e =>
    let s1 := s.setTask t { s.task t with ranAt := some s.edge, busEnd := none }
    if e.cause ≠ 0 then s1.taskFault t e.cause
    else
      let s2 := s1.setAoWords (aoBufs + e.rbuf) e.words
      if (s2.task t).stopping then s2.haltTask t 3 else s2.stepOn t
  | none => s

/-- The bus steps that complete in this tick, in ascending task number (R143, R151). -/
def State.endBusSteps (s : State) : State := (List.range 16).foldl State.endBusStep s

/-- The transfer that a task's bus step has queued, with its bus. -/
def State.xferOf (s : State) (t : Nat) : Option (Nat × BusXfer) :=
  (List.range 4).findSome? (fun b => ((s.bus b).find? (fun x => x.task == t)).map (fun x => (b, x)))

/-- The TIMEOUT of a bus step expires: its transfer ends and the step faults (R151). -/
def execBusStepTimeout (task : BitVec 4) (s : State) : Host.Outcome State Fault Refusal :=
  .next (match s.xferOf task.toNat with
    | some (b, x) => if x.timeout ≤ s.elapsed x.queued then s.busFault b x 1 else s
    | none => s)

/-- A CORE reset ends every bus step as a timeout (Table 4-4, R151). -/
def State.cutBuses (s : State) : State :=
  (List.range 16).foldl (fun s t => match s.xferOf t with
    | some (b, x) => s.busFault b x 1
    | none => s) s

/-- The SINT detector's last sample of a line. -/
def State.sintSeen (s : State) (n : Nat) : Option SintSt := Cells.get (fun _ => none) s.score.sint n

/-- The detector sees an edge to this level (R36, R156): VDDIO is in range, the line has not been sampled at this tick, and its last
sample, where there is one, had the other level. SINT0–3 are ignored in POR, in SYSTEM reset and in TACET (Table 2-5). -/
def State.sintSees (s : State) (n : Nat) (level : Bool) : Bool :=
  s.vddioUp && s.boot.step != .por && !s.boot.sysHeld && (match s.sintSeen n with
    | some q => q.level != level && q.at_ != s.edge
    | none => true)

/-- An edge on SINT0–3: one of the configured kind raises EV_SINTn and is the SINT wake source (R156). -/
def execSintEdge (input : BitVec 2) (rising : Bool) (s : State) : Host.Outcome State Fault Refusal :=
  .next (
    let n := input.toNat
    if s.sintSees n rising then
      let s1 : State := { s with score := { s.score with
        sint := Cells.put (fun _ => none) s.score.sint n (some { level := rising, at_ := s.edge }) } }
      let kind := s.fld Reg.BUS_SINT_CFG (2 * n + 1) (2 * n)
      if kind = 3 ∨ kind = (if rising then 1 else 2) then (s1.raise (114 + n) (word rising.toNat)).wake 4 else s1
    else s)

/-! ### Verbs -/

/-- The RUNNING tasks of a mask. -/
def State.runningOf (s : State) (m : Nat) : Nat := m &&& s.fld Reg.SCORE_RUN 15 0

/-- TASK_START (0x21, R142). -/
def execTaskStart (ring : BitVec 8) (s : State) : Host.Outcome State Fault Refusal :=
  .next (s.runVerb ring.toNat 0x21 (pageRight 3) (fun _ v => v.argsWithin [0xFFFF#32])
    (fun s v =>
      let m := field (v.arg 0) 15 0
      let was := s.runningOf m
      (s.startTasks m).complete v (if was = 0 then .ok else .okDegraded) [word was]))

/-- A task stopped (R142): one in a bus transfer that has started stops after it; a transfer that has not started is
withdrawn. -/
def State.stopTask (s : State) (t : Nat) : State :=
  if !s.running t then s
  else if (s.task t).busEnd.isSome then s.setTask t { s.task t with stopping := true }
  else match s.xferOf t with
    | some (b, _) =>
      if s.coreOn && ((s.bus b).head?.map (·.task)) == some t then s.setTask t { s.task t with stopping := true }
      else s.haltTask t 3
    | none => s.haltTask t 3

/-- TASK_HALT (0x22, R142): completes once all named tasks are HALTED. -/
def execTaskHalt (ring : BitVec 8) (s : State) : Host.Outcome State Fault Refusal :=
  .next (s.runVerb ring.toNat 0x22 (pageRight 3) (fun _ v => v.argsWithin [0xFFFF#32])
    (fun s v => ((maskBits 16 (field (v.arg 0) 15 0)).foldl State.stopTask
      (s.await v (.taskHalt (field (v.arg 0) 15 0)) 0)).answerHalts))

/-- BUF_WRITE (0x23, R160). -/
def execBufWrite (ring : BitVec 8) (s : State) : Host.Outcome State Fault Refusal :=
  .next (s.runVerb ring.toNat 0x23 (pageRight 3)
    (fun _ v =>
      let n := field (v.arg 0) 18 16
      v.argsWithin (0x707FF#32 :: List.replicate n 0xFFFFFFFF#32) && decide (1 ≤ n) && decide (n ≤ 5) &&
        decide (field (v.arg 0) 10 0 + n ≤ 2048))
    (fun s v => (s.setAoWords (aoBufs + field (v.arg 0) 10 0)
      ((List.range (field (v.arg 0) 18 16)).map (fun i => v.arg (i + 1)))).complete v .ok))

/-- BUF_READ (0x24): four buffer words of one tick (R160). -/
def execBufRead (ring : BitVec 8) (s : State) : Host.Outcome State Fault Refusal :=
  .next (s.runVerb ring.toNat 0x24 (pageRight 3)
    (fun _ v => v.argsWithin [0x7FF#32] && decide (field (v.arg 0) 10 0 + 3 ≤ 2047))
    (fun s v =>
      let i := field (v.arg 0) 10 0
      s.complete v .ok [s.buf i, s.buf (i + 1), s.buf (i + 2), s.buf (i + 3)]))

/-- The bits of a BUS register image that are not reserved (Table 7-11). -/
def busMask (n : Nat) : Word := if n < 2 then 0x103#32 else if n < 4 then 0x11F03#32 else 0xFF#32

/-- BUS_CONFIG (0x25, R153 to R156). -/
def execBusConfig (ring : BitVec 8) (s : State) : Host.Outcome State Fault Refusal :=
  .next (s.runVerb ring.toNat 0x25 (pageRight 14)
    (fun _ v =>
      let n := field (v.arg 0) 2 0
      v.argsWithin [0x7#32, 0xFFFFFFFF#32] && decide (n ≤ 4) && within (v.arg 1) (busMask n) &&
        !(decide (n < 2) && field (v.arg 1) 1 0 == 3))
    (fun s v => (s.setReg (Reg.BUS_I2C_CFG + 4 * field (v.arg 0) 2 0) (v.arg 1)).complete v .ok))

/-- A direct write of a BUS register: the refused RATE 3 keeps the rate in force (Table 7-11). -/
def State.writeBusCfg (s : State) (a : Nat) (v : Word) : State :=
  if a < Reg.BUS_SPI_CFG ∧ field v 1 0 = 3 then s.hostSet a (withField v 1 0 (s.fld a 1 0)) else s.hostSet a v

/-- A write of SCORE.OVF clears the bits written 1, and the tasks' OVF flags with them (R144). -/
def State.writeScoreOvf (s : State) (v : Word) : State :=
  (maskBits 16 (field v 15 0)).foldl State.clearOvf s

end Sys2Proof.Machine
end

