-- ==== Sys2Proof/Machine/Tune.lean ====
section
/-!
DEFINITION. Tuning (10): items, triggers, runs and their ends, tap steps, the Metronome correction, fuses, and the TUNE
verbs.
-/

namespace Sys2Proof.Machine

/-! ### Items and their fields -/

/-- An item's state beside its registers. -/
def State.item (s : State) (n : Nat) : TuneItem := Cells.get (fun _ => {}) s.tune.items n

/-- An item's state written. -/
def State.setItem (s : State) (n : Nat) (v : TuneItem) : State :=
  { s with tune := { s.tune with items := Cells.put (fun _ => {}) s.tune.items n v } }

/-- ITEMn_CFG. -/
def itemCfg (n : Nat) : Nat := Reg.TUNE_ITEM0_CFG + 4 * n

/-- ITEMn_STAT. -/
def itemStat (n : Nat) : Nat := Reg.TUNE_ITEM_STAT + 4 * n

/-- Signed field [hi:lo] of a factory fuse word; 0 where the factory section failed (R77, R236). -/
def State.trim (s : State) (w hi lo : Nat) : Int :=
  if s.flag Reg.DEV_BOOT_STATUS 6 then 0
  else signed (hi + 1 - lo) ((s.fuseImage w).toNat >>> lo)

/-- XT_OFS of the customer section, signed; 0 where the section failed (Table 10-5). -/
def State.xtOfs (s : State) : Int :=
  if s.flag Reg.DEV_BOOT_STATUS 7 then 0 else signed 16 ((s.fuseImage 48).toNat >>> 16)

/-- The base fields of an item (Tables 10-1 and 10-4). The fuses of item 0 enter its formula; its base RATE is 0 (log
entry 15). -/
def State.tuneBase (s : State) (n : Nat) : List Int :=
  match n with
  | 0 => [0]
  | 1 => [64 + s.trim 1 24 18]
  | 2 => [s.trim 1 34 25, s.trim 1 44 35]
  | 3 => [s.trim 2 7 0, s.trim 2 15 8, s.trim 2 23 16, s.trim 2 31 24]
  | 4 => [16 + s.trim 3 5 0, 16 + s.trim 3 11 6, 16 + s.trim 3 17 12, 16 + s.trim 3 23 18]
  | 5 => [s.ffld Reg.KEYS_LEAK_CFG 15 12]
  | 6 => [8 + s.trim 3 28 24, 16 + s.trim 3 34 29, 16 + s.trim 3 40 35]
  | _ => [32 + s.trim 3 47 41]

/-- Fields laid out as RESULT and APPLIED show them (Table 10-10). -/
def packItem (n : Nat) (f : List Int) : Word :=
  let g := fun (i w lo : Nat) => unsigned w (f.getD i 0) * 2 ^ lo
  word (match n with
    | 0 => g 0 16 0
    | 1 => g 0 7 0
    | 2 => g 0 10 0 + g 1 10 16
    | 3 => g 0 8 0 + g 1 8 8 + g 2 8 16 + g 3 8 24
    | 4 => g 0 5 0 + g 1 5 8 + g 2 5 16 + g 3 5 24
    | 5 => g 0 4 0
    | 6 => g 0 4 0 + g 1 5 8 + g 2 5 16
    | _ => g 0 6 0)

/-- SETTLED follows the applied fields; EV_TUNE_SETTLED is raised once when they reach their target (R219). -/
def State.settle (s : State) (n : Nat) : State :=
  let i := s.item n
  if i.applied = i.target then
    if s.flag (itemStat n) 4 then s else (s.setFlag (itemStat n) 4 true).raise 58 (word n)
  else s.setFlag (itemStat n) 4 false

/-- Applied fields of an item written; item 5 is the key threshold tap. -/
def State.setApplied (s : State) (n : Nat) (f : List Int) : State :=
  let s1 := (s.setItem n { s.item n with applied := f }).setReg (Reg.TUNE_ITEM_APPLIED + 4 * n) (packItem n f)
  if n = 5 then s1.setFld Reg.KEYS_THRESH 3 0 (unsigned 4 (f.getD 0 0)) else s1

/-- The target of an item written: its delta is what it stands above the item's base (R219). -/
def State.setTarget (s : State) (n : Nat) (f : List Int) : State :=
  let s1 := s.setItem n { s.item n with target := f, delta := List.zipWith (fun x b => x - b) f (s.tuneBase n) }
  (if n = 5 then s1.setFld Reg.KEYS_THRESH 7 4 (unsigned 4 (f.getD 0 0)) else s1).settle n

/-- One tap: a field moves toward its target by at most d (R219). -/
def tapMove (d from_ to_ : Int) : Int := from_ + clampInt (-d) d (to_ - from_)

/-- Item n runs (STAT.RUNNING). -/
def State.tuning (s : State) (n : Nat) : Bool := s.flag (itemStat n) 7

/-- The boundary at hand is one of item n's: PNL_PG is high for item 7, the receiver is enabled for item 6, and items 4 and 6
measure and step in TUTTI and MEZZO alone; no item does in TACET (Table 10-1, R213, R221). -/
def State.itemBoundary (s : State) (n : Nat) : Bool :=
  s.aoOn && (match n with
    | 4 => decide (s.cur ≤ 1)
    | 6 => s.flag Reg.INTAKE_DSI_CFG 0 && s.fflag Reg.INTAKE_DSI_CFG 0 && decide (s.cur ≤ 1)
    | 7 => s.pins.pg.getLsbD 12
    | _ => true)

/-- The tap step of an item at its application boundary (R213, R217, R219, R221). -/
def State.tapStep (s : State) (n : Nat) : State :=
  let i := s.item n
  if i.measuring || i.applied == i.target || !s.itemBoundary n then s
  else (s.setApplied n (List.zipWith (tapMove (if n = 0 then 32 else 1)) i.applied i.target)).settle n

/-! ### Runs -/

/-- SENSE result register of a channel (Table 9-9). -/
def resultReg (ch : Nat) : Nat :=
  if ch ≤ 6 then Reg.SENSE_RESULT + 4 * ch
  else if ch = 7 then Reg.SENSE_IBAT
  else if ch = 8 then Reg.SENSE_RESULT + 28
  else Reg.SENSE_PM + 4 * (ch - 9)

/-- The latest VALUE of a channel, signed. -/
def State.channelValue (s : State) (ch : Nat) : Int := signed 16 (s.fld (resultReg ch) 15 0)

/-- The latest result of a channel reads READY 1, STALE 0 and FAULT 0. -/
def State.channelGood (s : State) (ch : Nat) : Bool :=
  s.flag (resultReg ch) 31 && !s.flag (resultReg ch) 30 && !s.flag (resultReg ch) 28

/-- The STALE flags of an item's outputs (R190, R217). SENSE clears its own at the next publication. -/
def State.setStale (s : State) (n : Nat) (b : Bool) : State :=
  let s1 := s.setFlag (itemStat n) 5 b
  match n with
  | 2 => if b then [0, 1, 2].foldl (fun s c => s.setFlag (resultReg c) 30 true) s1 else s1
  | 3 => if b then [3, 4, 5, 6, 8].foldl (fun s c => s.setFlag (resultReg c) 30 true) s1 else s1
  | 4 => s1.setFlag Reg.STAVE_STATUS 7 b
  | 7 => s1.setFlag Reg.STAVE_STATUS 8 b
  | _ => s1

/-- Waits of verbs renamed: those that joined a queued run follow it. -/
def State.renameWait (s : State) (a b : Wait) : State :=
  (s.waiters a).foldl (fun s r =>
    let q := s.ring r
    s.setRing r { q with cur := q.cur.map (fun f => { f with waiting := some b }) }) s

/-- A run of an item starts (R214): its TIMEOUT is that of its configuration, except the POWER_UP runs of items 0, 4, 6
and 7, which have none (R216). -/
def State.tuneStart (s : State) (n trig : Nat) : State :=
  let t := if trig = 0 ∧ (n = 0 ∨ n = 4 ∨ n = 6 ∨ n = 7) then 0 else max 1 (s.fld (itemCfg n) 31 16)
  (s.setItem n { s.item n with trig := trig, measuring := false, from_ := s.edge, timeout := t, held := none
                               periodUsed := true }).setFlag (itemStat n) 7 true

/-- The end of a run beside what follows it (R214). A run of item 5 that did not end IMPLAUSIBLE leaves no LEAK to compare the next
one with (R230). -/
def State.endRun (s : State) (n : Nat) (st : Status) : State :=
  let i := s.item n
  let s0 : State := if n = 5 ∧ st ≠ .implausible then { s with tune := { s.tune with badLeak := none } } else s
  let s1 := (((s0.bumpSat (itemStat n) 31 16).setFld (itemStat n) 15 8 st.code).setFld (itemStat n) 2 0 i.trig).setFlag
    (itemStat n) 7 false
  let s2 := (s1.setStale n false).setReg (Reg.TUNE_ITEM_TICK + 4 * n) s1.now
  let s3 := s2.setItem n { s2.item n with
    measuring := false, refTemp := some (s2.channelValue 3), endAt := some s2.edge, periodUsed := false }
  let arg := word (n + 16 * i.trig + 256 * st.code + 0x10000 * s3.fld (itemStat n) 31 16)
  let s4 := s3.raise 56 arg
  let s5 := if st = .timeout ∨ st = .implausible ∨ st = .abortedEpoch then s4.raise 57 arg else s4
  s5.completeAll (.tuneRun n) st
    [s5.reg (itemStat n), s5.reg (Reg.TUNE_ITEM_RESULT + 4 * n), s5.reg (Reg.TUNE_ITEM_APPLIED + 4 * n)]

/-- A run ends, and a queued one starts (R214, R242); a queued run of a disabled item ends with HALTED. -/
def State.tuneEnd (s : State) (n : Nat) (st : Status) : State :=
  let s1 := s.endRun n st
  match (s1.item n).queued with
  | none => s1
  | some t =>
    let s2 := (s1.setItem n { s1.item n with queued := none }).setFlag (itemStat n) 6 false
    let s3 := (s2.tuneStart n t).renameWait (.tuneQueued n) (.tuneRun n)
    if s3.flag (itemCfg n) 0 then s3 else s3.endRun n .halted

/-- A trigger of an item (R215, R221, R242): none while it is disabled; held below MEZZO for items 4 and 6; queued behind a
measurement; joined to a waiting run. -/
def State.tuneTrigger (s : State) (n trig : Nat) : State :=
  if !s.flag (itemCfg n) 0 then s
  else if s.tuning n then
    if (s.item n).measuring then
      (s.setItem n { s.item n with queued := some ((s.item n).queued.getD trig) }).setFlag (itemStat n) 6 true
    else s
  else if (n = 4 ∨ n = 6) ∧ 2 ≤ s.cur ∧ (trig = 1 ∨ trig = 3 ∨ trig = 4) then
    s.setItem n { s.item n with held := some ((s.item n).held.getD trig), periodUsed := true }
  else s.tuneStart n trig

/-- Held triggers start their runs at an ascent to MEZZO or TUTTI (R221). -/
def State.tuneHeld (s : State) : State :=
  [4, 6].foldl (fun s n => match (s.item n).held with
    | some t => (s.setItem n { s.item n with held := none }).tuneTrigger n t
    | none => s) s

/-- A POWER_UP run of items 0 to 3 and 5 that ends before host release applies its result at once (R219). -/
def State.applyAtOnce (s : State) (n : Nat) : Bool :=
  (s.item n).trig == 0 && (decide (n ≤ 3) || n == 5) && s.boot.step != .released

/-- A run's measurement is complete: its result is shown, and an accepted one becomes the target (R218, R219). -/
def State.tuneResult (s : State) (n : Nat) (fields : List Int) (result : Word) (ok : Bool) : State :=
  let s1 := s.setReg (Reg.TUNE_ITEM_RESULT + 4 * n) result
  if ok then
    let s2 := if s1.applyAtOnce n then s1.setApplied n fields else s1
    (s2.setTarget n fields).tuneEnd n .ok
  else s1.tuneEnd n .implausible

/-- Item 0 computes RATE from the T_AO result then published, or waits for the next good publication (R223). -/
def State.tuneCrystal (s : State) : State :=
  if !s.channelGood 3 then s
  else
    let t := s.channelValue 3
    let d := t - (400 + s.trim 1 7 0)
    let k := 2228 + s.trim 1 17 8
    let a := s.xtOfs + signed 16 (s.fld Reg.TUNE_XT_ADJ 15 0)
    let rate := roundDiv (2 * k * d * d - 524288 * a) 1000000
    let ok := decide (-640 ≤ t) && decide (t ≤ 2000) && decide (-4095 ≤ rate) && decide (rate ≤ 4095)
    s.tuneResult 0 [rate] (packItem 0 [rate] ||| word (0x10000 * unsigned 16 t)) ok

/-- The quotient of two integers rounded half away from zero; a zero divisor gives a free value (log entry 37). -/
def roundRatio (a b : Int) : Int :=
  if b = 0 then Config.zeroDivisor a else if b < 0 then roundDiv (-a) b.natAbs else roundDiv a b.natAbs

/-- Every distance of a list of integers lies within d. -/
def allWithin (d : Int) (xs : List Int) : Bool := xs.all (fun x => xs.all (fun y => decide (x - y ≤ d)))

/-- Fields, RESULT word and plausibility of a completed measurement (R226 to R232). vals are what was measured: item 1 the
count N; item 2 the sums of the four pedestal and of the four reference codes; item 3 the absolute temperatures and then the
uncorrected readings of the four sensors; item 4 the lane delays in 1/32 UI; item 6 TERM and the skews; item 7 REF. -/
def State.judge (s : State) (n : Nat) (vals : List Int) : List Int × Word × Bool :=
  let v := fun (i : Nat) => vals.getD i 0
  let base := s.tuneBase n
  match n with
  | 1 =>
    let t := (s.item 1).applied.getD 0 64 + roundRatio (400 * (46875 - v 0)) (v 0)
    ([t], packItem 1 [t] ||| word (0x10000 * unsigned 16 (v 0)),
      decide (41250 ≤ v 0) && decide (v 0 ≤ 52500) && decide (0 ≤ t) && decide (t ≤ 127))
  | 2 =>
    let o := roundDiv (v 0 - 1024) 4
    let g := roundRatio (16384 * 7744 * 4) (v 1 - v 0) - 16384
    ([o, g], packItem 2 [o, g],
      decide (-256 ≤ o) && decide (o ≤ 256) && decide (-328 ≤ g) && decide (g ≤ 328))
  | 3 =>
    let f := [v 0 - v 4, v 1 - v 5, v 2 - v 6, v 3 - v 7]
    (f, packItem 3 f, (List.zipWith (fun x b => decide (-96 ≤ x - b) && decide (x - b ≤ 96)) f base).all (fun b => b) &&
      allWithin 240 [v 0, v 1, v 2, v 3])
  | 4 =>
    let mean := fun (xs : List Int) => roundDiv (xs.foldl (· + ·) 0) 4
    let ds := [v 0, v 1, v 2, v 3]
    let f := ds.map (fun d => roundDiv (4 * mean base + ds.foldl (· + ·) 0 - 4 * d) 4)
    (f, packItem 4 f, f.all (fun t => decide (1 ≤ t) && decide (t ≤ 30)) && allWithin 16 f)
  | 6 =>
    let f := [v 0, v 1, v 2]
    (f, packItem 6 f, decide (1 ≤ v 0) && decide (v 0 ≤ 14) && decide (1 ≤ v 1) && decide (v 1 ≤ 30) &&
      decide (1 ≤ v 2) && decide (v 2 ≤ 30) && decide (-12 ≤ v 1 - v 2) && decide (v 1 - v 2 ≤ 12))
  | _ =>
    let d := v 0 - base.getD 0 32
    ([v 0], packItem 7 [v 0], decide (-16 ≤ d) && decide (d ≤ 16))

/-- The least number of ticks from the first tick of an item's measurement to its last (R226 to R228). -/
def measureTicks (n : Nat) : Nat :=
  match n with
  | 1 => 32
  | 2 => 7
  | 3 => 184
  | _ => 0

/-- The measurement of item 1, 2, 3, 4, 6 or 7 in progress ends with these values (R214, R218). -/
def execTuneRunEnd (item : BitVec 3) (vals : List Int) (s : State) : Host.Outcome State Fault Refusal :=
  .next (
    let n := item.toNat
    if s.aoOn && s.tuning n && (s.item n).measuring && n != 0 && n != 5 &&
        decide (measureTicks n ≤ s.elapsed (s.item n).measureAt) then
      let j := s.judge n vals
      s.tuneResult n j.1 j.2.1 j.2.2
    else s)

/-- A run that has not completed its measurement in TIMEOUT ticks is abandoned (R216). -/
def execTuneTimeout (item : BitVec 3) (s : State) : Host.Outcome State Fault Refusal :=
  .next (
    let n := item.toNat
    let i := s.item n
    if s.aoOn && s.tuning n && decide (0 < i.timeout) && decide (i.timeout ≤ s.elapsed i.from_) then s.tuneEnd n .timeout
    else s)

/-- A PERIOD trigger of item n is due (R215). -/
def State.periodDue (s : State) (n : Nat) : Bool :=
  let p := s.fld (itemCfg n) 15 8
  match (s.item n).endAt with
  | some t => s.aoOn && decide (0 < p) && !(s.item n).periodUsed && !s.tuning n && decide (p * 32768 ≤ s.elapsed t) &&
      s.flag (itemCfg n) 0
  | none => false

/-- The PERIOD trigger (R215). -/
def execTunePeriodTrigger (item : BitVec 3) (s : State) : Host.Outcome State Fault Refusal :=
  .next (if s.periodDue item.toNat then s.tuneTrigger item.toNat 3 else s)

/-- DELTA triggers at a good T_AO publication (R215). -/
def State.tuneDelta (s : State) : State :=
  (List.range 8).foldl (fun s n => match (s.item n).refTemp with
    | some r =>
      if s.flag (itemCfg n) 1 && s.channelGood 3 &&
          decide (max 1 (s.fld Reg.TUNE_DELTA 11 0) ≤ (s.channelValue 3 - r).natAbs) then s.tuneTrigger n 1 else s
    | none => s) s

/-! ### Boundaries (R220, R221) -/

/-- The Stave link is trained: RUN or IDLE (Table 15-6). -/
def State.linkTrained (s : State) : Bool :=
  s.fld Reg.STAVE_STATUS 2 0 == 2 || s.fld Reg.STAVE_STATUS 2 0 == 3

/-- An item's measurement can begin at its boundary; item 7's and a crack check exclude each other (R220, R229, R232). -/
def State.canMeasure (s : State) (n : Nat) : Bool :=
  s.itemBoundary n && (match n with
    | 0 => s.flag Reg.DEV_AO_CLK 0
    | 2 => !(s.item 3).measuring
    | 3 => !(s.item 2).measuring
    | 4 => s.linkTrained
    | 7 => s.stave.checking.isNone
    | _ => true)

/-- CORE serves a measurement: below MEZZO in a burst (R221, Table 3-6). A scan's own measurement in PIANO and PIANISSIMO asks for
the burst that starts 1 µs later, within its gap (R66, R183). -/
def State.measureServed (s : State) (n : Nat) : Bool :=
  s.ladder.core != .stopped || (n == 5 && (s.cur == 2 || s.cur == 3))

/-- A waiting run begins to measure (R217); item 0 computes at once or waits for T_AO (R223). -/
def State.measureStart (s : State) (n : Nat) : State :=
  if s.tuning n && !(s.item n).measuring && s.canMeasure n && s.measureServed n then
    let s1 := (s.setItem n { s.item n with measuring := true, measureAt := s.edge }).setStale n true
    if n = 0 then s1.tuneCrystal else s1
  else s

/-- The tuning-step place of a boundary (R220): tap steps, then measurements, each in ascending item number. -/
def State.tunePlace (s : State) (steps measures : List Nat) : State :=
  measures.foldl State.measureStart (steps.foldl State.tapStep s)

/-- The CORE frequency steps: a measurement of item 4 is abandoned and its run waits again; the step triggers item 4
(Table 10-3, R242). -/
def State.tuneFreqStep (s : State) : State :=
  let s1 := if s.tuning 4 && (s.item 4).measuring then
      (s.setItem 4 { s.item 4 with measuring := false }).setStale 4 false else s
  s1.tuneTrigger 4 4

/-! ### The Metronome correction (R224, R225) -/

/-- An alarm match at a value that the Metronome skips (R225). -/
def State.skippedAlarm (s : State) (k : Nat) : State :=
  if s.flag Reg.DEV_ALARM_CTL 0 && (List.range k).any (fun i => s.now + word (i + 1) == s.reg Reg.DEV_ALARM) then
    s.alarmMatch
  else s

/-- The AO clock edge at a 1 s boundary (R224): the tap step of item 0, the accumulator on the crystal, and the Metronome's
advance by 1, by 1 + k, or not at all. In TACET item 0 does not run (R221). -/
def State.oneSecond (s : State) : State :=
  let s1 := s.tapStep 0
  if !s1.flag Reg.DEV_AO_CLK 0 || !s1.aoOn then { s1 with metro := s1.metro + 1#48, tune := { s1.tune with hold := none } }
  else
    let acc := s1.tune.acc + (s1.item 0).applied.getD 0 0
    let k := clampInt (-4) 4 (acc.tdiv 1024)
    let s2 := { s1 with tune := { s1.tune with acc := acc - 1024 * k } }
    if k < 0 then { s2 with tune := { s2.tune with hold := some (k.natAbs - 1) } }
    else
      let s3 := s2.skippedAlarm k.toNat
      { s3 with metro := s3.metro + 1#48 + BitVec.ofNat 48 k.toNat, tune := { s3.tune with hold := none } }

/-- The Metronome stands at a 1 s boundary that has not been passed. -/
def State.atSecond (s : State) : Bool := s.metro.toNat % 32768 == 0x2000 && s.tune.hold.isNone

/-- The AO clock edge of a 1 s boundary (R224, R225). -/
def execOneSecondBoundary (s : State) : Host.Outcome State Fault Refusal :=
  .next (if s.atSecond then State.oneSecond { s with edge := s.edge + 1#48 } else s)

/-! ### Fuses (R233 to R239) -/

/-- The seven bytes of a fuse word, lowest first. -/
def fuseBytes (w : BitVec 56) : List Byte := (List.range 7).map (fun i => BitVec.ofNat 8 (w.toNat >>> (8 * i)))

/-- The CRC of the customer section over words 48 to 61 (R234). -/
def custCrc (w : Nat → BitVec 56) : Word := crc32 ((List.range 14).flatMap (fun i => fuseBytes (w (48 + i))))

/-- The CRC of the factory section over words 0 to 46 is the one in word 47 (R234). -/
def State.factoryOk (s : State) : Bool :=
  (s.fuseWord 47).setWidth 32 == crc32 ((List.range 47).flatMap (fun i => fuseBytes (s.fuseWord i)))

/-- The customer section is virgin (R235). -/
def State.custVirgin (s : State) : Bool := (List.range 16).all (fun i => s.fuseWord (48 + i) == 0#56)

/-- The customer section is closed with a good CRC (R235). -/
def State.custClosed (s : State) : Bool :=
  (s.fuseWord 63).getLsbD 0 && (s.fuseWord 62).setWidth 32 == custCrc s.fuseWord

/-- CUST of FUSE_STATUS (Table 10-9): bad tells that SECDED could not correct the section. -/
def State.custState (s : State) (bad : Bool) : Nat :=
  if bad then 2 else if s.custVirgin then 0 else if s.custClosed then 1 else 2

/-- Base plus kept delta of an item; the tap of item 5 within its field (R219, R222, R230). -/
def State.tuneKept (s : State) (n : Nat) : List Int :=
  let f := ((s.tuneBase n).zipIdx).map (fun e => e.1 + (s.item n).delta.getD e.2 0)
  if n = 5 then f.map (clampInt 0 15) else f

/-- The fuse load of B3 (R77, R235, R237, R238): the fuse image, the section checks, the locks, and every applied value at
base plus kept delta (Table 10-7). factBad and custBad tell that a word of the section is uncorrectable. -/
def State.fuseLoad (s : State) (corrected factBad custBad : Bool) : State :=
  let s1 := (List.range 64).foldl (fun s w =>
    let v := if 50 ≤ w ∧ w ≤ 52 then 0#56 else s.fuseWord w
    (s.setReg (Reg.TUNE_FUSE_LO + 8 * w) (v.setWidth 32)).setReg (Reg.TUNE_FUSE_HI + 8 * w) (word (v.toNat / 2 ^ 32))) s
  let cust := s1.custState custBad
  let bad := cust == 2
  let w48 := s1.fuseWord 48
  let s2 := ((((s1.setFlag Reg.DEV_BOOT_STATUS 5 corrected).setFlag Reg.DEV_BOOT_STATUS 6 (factBad || !s1.factoryOk)).setFlag
    Reg.DEV_BOOT_STATUS 7 bad).setFlag Reg.DEV_BOOT_STATUS 3 (bad || w48.getLsbD 14)).setReg Reg.TUNE_FUSE_STATUS (word cust)
  let s3 := (s2.setFlag Reg.HPORT_PERM_LOCK 1 (bad || w48.getLsbD 12)).setFlag Reg.DEV_PAD_LEVEL 31
    (bad || w48.getLsbD 13)
  (List.range 8).foldl (fun s n =>
    let f := s.tuneKept n
    let t := ((s.setApplied n f).setItem n { s.item n with target := f, applied := f }).setFlag (itemStat n) 4 true
    if n = 5 then t.setFld Reg.KEYS_THRESH 7 4 (unsigned 4 (f.getD 0 0)) else t) s3

/-- BOOT_RAIL_MASK as loaded; 0 where the customer section failed (R77). -/
def State.bootMask (s : State) : Nat :=
  if s.flag Reg.DEV_BOOT_STATUS 7 then 0 else (s.fuseImage 48).toNat % 4096

/-- Staged customer word c. -/
def State.staged (s : State) (c : Nat) : BitVec 56 :=
  (s.reg (Reg.TUNE_STAGE_HI + 8 * c)).setWidth 24 ++ s.reg (Reg.TUNE_STAGE_LO + 8 * c)

/-- The staged words set no reserved bit (Table 10-5, R239). -/
def State.stageClean (s : State) : Bool :=
  (s.staged 0).toNat &&& 0xFFFFFF00008000 == 0 && decide ((s.staged 4).toNat < 2 ^ 16) &&
  (List.range 9).all (fun i => s.staged (5 + i) == 0#56)

/-- FUSE_PROGRAM may run (R239). -/
def State.fuseReady (s : State) : Bool :=
  s.custVirgin && s.cur == 0 && !s.moving && s.vbatAtLeast 3600 && s.stageClean && !s.flag Reg.TUNE_FUSE_STATUS 4

/-- The set bits of a fuse word. -/
def fuseBits (w : BitVec 56) : Nat := ((List.range 56).filter (fun i => w.getLsbD i)).length

/-- The words that FUSE_PROGRAM blows, as they are staged when it starts: the staged words, their CRC and CLOSED (R239). -/
def State.fusePlan (s : State) : List (BitVec 56) :=
  (List.range 14).map s.staged ++ [(custCrc (fun i => s.staged (i - 48))).setWidth 56, 1#56]

/-- Customer word e.2 of a plan of FUSE_PROGRAM is blown, with the check bits that the part computes (R233). -/
def State.blowWord (s : State) (e : BitVec 56 × Nat) : State :=
  s.blow (48 + e.2) e.1 (if e.1 = 0#56 then 0#8 else Config.secded e.1)

/-- FUSE_PROGRAM is cut by a reset or a loss of power (R239): an open part of the bits is blown, and the section is not closed. -/
def State.cutFuses (s : State) : State :=
  if s.flag Reg.TUNE_FUSE_STATUS 4 then
    let s1 := (s.tune.plan.take 15).zipIdx.foldl (fun (s : State) (e : BitVec 56 × Nat) =>
      let (lo, s1) := s.takeFree
      let (hi, s2) := s1.takeFree
      let m : BitVec 56 := hi.setWidth 24 ++ lo
      s2.blow (48 + e.2) (e.1 &&& m) (Config.secded e.1 &&& hi.extractLsb' 24 8)) s
    s1.setFlag Reg.TUNE_FUSE_STATUS 4 false
  else s

/-- FUSE_STAGE (0x55, R238). -/
def execFuseStage (ring : BitVec 8) (s : State) : Host.Outcome State Fault Refusal :=
  .next (s.runVerb ring.toNat 0x55 clientZero
    (fun _ v => v.argsWithin [0xF#32, 0xFFFFFFFF#32, 0xFFFFFF#32] && decide (field (v.arg 0) 3 0 ≤ 13))
    (fun s v =>
      let c := field (v.arg 0) 3 0
      ((s.setReg (Reg.TUNE_STAGE_LO + 8 * c) (v.arg 1)).setReg (Reg.TUNE_STAGE_HI + 8 * c) (v.arg 2)).complete v .ok))

/-- FUSE_PROGRAM (0x56, R239). -/
def execFuseProgram (ring : BitVec 8) (s : State) : Host.Outcome State Fault Refusal :=
  .next (s.runVerb ring.toNat 0x56 clientZero
    (fun _ v => v.argsWithin [0xFFFF#32] && field (v.arg 0) 15 0 == 0xF05E)
    (fun s v =>
      if s.fuseReady then
        let n := s.fusePlan.foldl (fun n e => n + fuseBits e) 0
        let s1 := s.setFlag Reg.TUNE_FUSE_STATUS 4 true
        { s1 with tune := { s1.tune with fuseBits := n, plan := s.fusePlan } }.await v .fuse 0
      else s.complete v .halted))

/-- Fuse programming ends with the margin re-read, failed bits failing it (R239). -/
def execFuseProgramDone (failed : Nat) (s : State) : Host.Outcome State Fault Refusal :=
  .next (if s.flag Reg.TUNE_FUSE_STATUS 4 then
      let s1 := s.tune.plan.zipIdx.foldl State.blowWord s
      let cust := if failed = 0 then s1.custState false else 2
      let f := min 255 failed
      let s2 := s1.setReg Reg.TUNE_FUSE_STATUS (word (cust + 256 * f))
      (s2.raise 59 (word (cust + 256 * f))).completeAll .fuse (if failed = 0 then .ok else .halted)
        [if failed = 0 then word s2.tune.fuseBits else word f]
    else s)

/-! ### Verbs and writes -/

/-- The writable bits of a register selected by TUNE_SET: 0 to 7 ITEMn_CFG, 8 DELTA, 9 XT_ADJ (Table 10-6). -/
def tuneMask (n : Nat) : Word := if n ≤ 7 then 0xFFFFFF03#32 else if n = 8 then 0xFFF#32 else 0xFFFF#32

/-- ITEMn_CFG written: a run that waits while EN is cleared ends with HALTED (Table 10-2). -/
def State.writeItemCfg (s : State) (n : Nat) (v : Word) : State :=
  let s1 := s.hostSet (itemCfg n) v
  if !bit v 0 && s1.tuning n && !(s1.item n).measuring then s1.tuneEnd n .halted else s1

/-- A register selected by TUNE_SET written. -/
def State.writeTune (s : State) (n : Nat) (v : Word) : State :=
  if n ≤ 7 then s.writeItemCfg n v
  else s.hostSet (if n = 8 then Reg.TUNE_DELTA else Reg.TUNE_XT_ADJ) v

/-- TUNE_RUN (0x50, R242). -/
def execTuneRun (ring : BitVec 8) (s : State) : Host.Outcome State Fault Refusal :=
  .next (s.runVerb ring.toNat 0x50 (pageRight 6) (fun _ v => v.argsWithin [0x7#32])
    (fun s v =>
      let n := field (v.arg 0) 2 0
      if !s.flag (itemCfg n) 0 then s.complete v .halted
      else if s.tuning n && (s.item n).measuring then (s.tuneTrigger n 2).defer v (.tuneQueued n) 0
      else (s.tuneTrigger n 2).defer v (.tuneRun n) 0))

/-- TUNE_SET (0x51). -/
def execTuneSet (ring : BitVec 8) (s : State) : Host.Outcome State Fault Refusal :=
  .next (s.runVerb ring.toNat 0x51 (pageRight 6)
    (fun _ v =>
      let n := field (v.arg 0) 3 0
      v.argsWithin [0xF#32, 0xFFFFFFFF#32] && decide (n ≤ 9) && within (v.arg 1) (tuneMask n))
    (fun s v => (s.writeTune (field (v.arg 0) 3 0) (v.arg 1)).complete v .ok))

/-- TUNE_READ (0x52). -/
def execTuneRead (ring : BitVec 8) (s : State) : Host.Outcome State Fault Refusal :=
  .next (s.runVerb ring.toNat 0x52 (pageRight 6) (fun _ v => v.argsWithin [0x7#32])
    (fun s v =>
      let n := field (v.arg 0) 2 0
      s.complete v .ok [s.reg (itemStat n), s.reg (Reg.TUNE_ITEM_TICK + 4 * n), s.reg (Reg.TUNE_ITEM_RESULT + 4 * n),
        s.reg (Reg.TUNE_ITEM_APPLIED + 4 * n)]))

/-- The rule of a CONFIG_TUNE payload (R240). -/
def tunePayloadOk (bs : List Byte) : Bool :=
  let ws := bytesWords bs
  bs.length == 44 && field (nth ws 0) 31 8 == 0 && within (nth ws 1) (tuneMask 8) && within (nth ws 2) (tuneMask 9) &&
    (List.range 8).all (fun n => within (nth ws (3 + n)) (tuneMask n))

/-- A CONFIG_TUNE payload applied (R240). -/
def State.applyTune (s : State) (bs : List Byte) : State :=
  let ws := bytesWords bs
  (List.range 8).foldl (fun s n => s.writeTune n (nth ws (3 + n)))
    ((s.writeTune 8 (nth ws 1)).writeTune 9 (nth ws 2))

/-- A TUNE profile loaded: the record with the highest SEQ applies; its SEQ is answered (R240). -/
def State.loadTune (s : State) (profile : Nat) : Option Nat × State :=
  let (recs, s1) := s.configRecs 3 profile tunePayloadOk
  match recs.getLast? with
  | some r => (some r.1, s1.applyTune r.2)
  | none => (none, s1)

/-- A profile-loading verb that applies at once: OK with the SEQ applied, or BAD_ARG where no record passes. -/
def State.finishLoad (v : Verb) (r : Option Nat × State) : State :=
  match r.1 with
  | some q => r.2.complete v .ok [word q]
  | none => r.2.complete v .badArg

/-- TUNE_LOAD (0x53, R240). -/
def execTuneLoad (ring : BitVec 8) (s : State) : Host.Outcome State Fault Refusal :=
  .next (s.runVerb ring.toNat 0x53 (pageRight 6) (fun _ v => v.argsWithin [0xFF#32])
    (fun s v => State.finishLoad v (s.loadTune (field (v.arg 0) 7 0))))

/-- TUNE_REBASE (0x54, R219). -/
def execTuneRebase (ring : BitVec 8) (s : State) : Host.Outcome State Fault Refusal :=
  .next (s.runVerb ring.toNat 0x54 (pageRight 6) (fun _ v => v.argsWithin [0x7#32])
    (fun s v =>
      let n := field (v.arg 0) 2 0
      (s.setTarget n (s.tuneBase n)).complete v .ok))

/-- A write of TUNE.REQ (R10, R215): each item whose bit is set and which does not run is triggered. -/
def State.writeTuneReq (s : State) (v : Word) : State :=
  (maskBits 8 (field v 7 0)).foldl (fun s n => if s.tuning n then s else s.tuneTrigger n 2) s

/-- BUSY (Table 10-7). -/
def State.tuneBusy (s : State) : Word :=
  let m := fun (b : Nat) => (List.range 8).foldl (fun a n => if s.flag (itemStat n) b then a + 2 ^ n else a) 0
  word (m 7 + 0x100 * m 6 + 0x10000 * m 5 + 0x1000000 * m 4)

/-- Runs at a reset (R222): a SYSTEM reset ends every run with ABORTED_EPOCH, a CORE reset the measurements of items 4, 6 and
7. -/
def State.tuneReset (s : State) (system : Bool) : State :=
  (List.range 8).foldl (fun s n =>
    if s.tuning n && (system || ((s.item n).measuring && (n == 4 || n == 6 || n == 7))) then
      let s1 := if system then (s.setItem n { s.item n with queued := none }).setFlag (itemStat n) 6 false else s
      s1.tuneEnd n .abortedEpoch
    else s) s

end Sys2Proof.Machine
end

