-- ==== Sys2Proof/Machine/Intake.lean ====
section
/-!
DEFINITION. Pixel intake (12): surfaces, updates and presents, copy-forward, DSI packets in video and command mode, part
commands, tearing effect, and the INTAKE commit and verbs.
-/

namespace Sys2Proof.Machine

/-! ### Surfaces -/

/-- A surface's state beside its descriptor. -/
def State.surf (s : State) (n : Nat) : SurfSt := Cells.get (fun _ => {}) s.intake.surfs n

/-- INTAKE's state beside its registers replaced. -/
def State.setIntake (s : State) (x : Intake) : State := { s with intake := x }

/-- Offset of descriptor word w of surface n (Table 12-12). -/
def surfWord (n w : Nat) : Nat := Reg.INTAKE_SURF_W0 + 32 * n + 4 * w

/-- A surface is enabled. -/
def State.surfEn (s : State) (n : Nat) : Bool := s.flag (surfWord n 4) 31

/-- WIDTH of a surface. -/
def State.surfW (s : State) (n : Nat) : Nat := s.fld (surfWord n 4) 11 0

/-- HEIGHT of a surface. -/
def State.surfH (s : State) (n : Nat) : Nat := s.fld (surfWord n 4) 23 12

/-- FORMAT of a surface (Table 12-5). -/
def State.surfFmt (s : State) (n : Nat) : Nat := s.fld (surfWord n 4) 26 24

/-- OWNER of a surface. -/
def State.surfOwner (s : State) (n : Nat) : Nat := s.fld (surfWord n 5) 31 26

/-- The number of buffers of a surface. -/
def State.surfBufs (s : State) (n : Nat) : Nat := if s.flag (surfWord n 4) 30 then 3 else 2

/-- First Hall byte of a buffer. -/
def State.bufBase (s : State) (n b : Nat) : Nat := s.fld (surfWord n b) 22 0

/-- Bytes from one row of plane 0 to the next. -/
def State.stride0 (s : State) (n : Nat) : Nat := 16 * s.fld (surfWord n 5) 9 0

/-- Bytes from one chroma row to the next. -/
def State.stride1 (s : State) (n : Nat) : Nat := 16 * s.fld (surfWord n 5) 25 16

/-- Chroma width CW of a format (Table 12-5). -/
def chromaW (fmt w : Nat) : Nat := if fmt = 3 then w else (w + 1) / 2

/-- Chroma rows CH of a format (Table 12-5). -/
def chromaH (fmt h : Nat) : Nat := if fmt = 5 ∨ fmt = 6 then (h + 1) / 2 else h

/-- Bytes of a plane 0 row of w pixels (Table 12-5). -/
def rowBytes (fmt w : Nat) : Nat :=
  if fmt = 0 then 4 * w else if fmt = 1 then 3 * w else if fmt = 2 then 2 * w else if fmt = 6 then w
  else 4 * ((w + 2) / 3)

/-- Bytes of a chroma row (Table 12-5). -/
def chromaBytes (fmt w : Nat) : Nat :=
  let cw := chromaW fmt w
  if fmt = 6 then cw else 4 * ((cw + 2) / 3)

/-- Bytes of a buffer (R287). -/
def State.bufSpan (s : State) (n : Nat) : Nat :=
  if s.surfFmt n ≤ 2 then s.stride0 n * s.surfH n
  else s.fld (surfWord n 3) 22 0 + 2 * s.stride1 n * chromaH (s.surfFmt n) (s.surfH n)

/-- The checks of an enable over the stored words (R287). -/
def State.surfCheck (s : State) (n : Nat) : Bool :=
  let fmt := s.surfFmt n
  let w := s.surfW n
  let h := s.surfH n
  let p1 := s.fld (surfWord n 3) 22 0
  let span := s.bufSpan n
  let bufs := List.range (s.surfBufs n)
  decide (fmt ≠ 7) && decide (1 ≤ w ∧ w ≤ 2048 ∧ 1 ≤ h ∧ h ≤ 2048) && (!s.flag (surfWord n 4) 28 || fmt == 0) &&
  [0, 1, 2].all (fun b => s.bufBase n b % 16 == 0) && p1 % 16 == 0 &&
  (if fmt ≤ 2 then p1 == 0 && s.stride1 n == 0
   else decide (chromaBytes fmt w ≤ s.stride1 n) && decide (s.stride0 n * h ≤ p1)) &&
  decide (rowBytes fmt w ≤ s.stride0 n) && (s.flag (surfWord n 4) 30 || s.bufBase n 2 == 0) &&
  bufs.all (fun a => bufs.all (fun b => a == b || decide (s.bufBase n a + span ≤ s.bufBase n b) ||
    decide (s.bufBase n b + span ≤ s.bufBase n a))) &&
  bufs.all (fun b => (List.range 32).any (fun l => s.leaseEn l && s.leaseType l == 0 &&
    s.leaseOwner l == s.surfOwner n && decide (s.leaseLo l ≤ s.bufBase n b) &&
    decide (s.bufBase n b + span ≤ s.leaseHi l)))

/-- COPY_FWD of a surface; it is ignored for the VC0 surface of video mode (R280, R292). -/
def State.copies (s : State) (n : Nat) : Bool :=
  s.flag (surfWord n 4) 29 &&
    !(s.fflag Reg.INTAKE_DSI_CFG 2 && s.ffld Reg.INTAKE_DSI_CFG 6 4 == n)

/-- A copy-forward runs into buffer b of surface n. -/
def State.copying (s : State) (n b : Nat) : Bool := s.intake.copies.any (fun c => c.surf == n && c.dst == b)

/-- The buffer that an open would take: a free one, the lowest, failing that the queued one (R288). -/
def State.openable (s : State) (n : Nat) : Option Nat :=
  let x := s.surf n
  match (List.range (s.surfBufs n)).find? (fun b => x.front != some b && x.queued.map (·.buf) != some b && !s.copying n b) with
  | some b => some b
  | none => x.queued.map (·.buf)

/-- Word 6 of a surface follows its state (Table 12-12). -/
def State.showSurf (s : State) (n : Nat) : State :=
  let x := s.surf n
  let ob := (x.openBuf.orElse (fun _ => s.openable n)).getD 3
  let s1 := ((s.setFld (surfWord n 6) 1 0 (x.front.getD 3)).setFld (surfWord n 6) 3 2 ((x.queued.map (·.buf)).getD 3)).setFld
    (surfWord n 6) 5 4 ob
  (s1.setFlag (surfWord n 6) 6 x.openBuf.isSome).setFlag (surfWord n 6) 7 (s.intake.copies.any (fun c => c.surf == n))

/-- A surface's state written, and shown in word 6. -/
def State.setSurf (s : State) (n : Nat) (x : SurfSt) : State :=
  (s.setIntake { s.intake with surfs := Cells.put (fun _ => {}) s.intake.surfs n x }).showSurf n

/-- The page number under which a surface's queued present waits among the commits (R291). -/
def presentPage (n : Nat) : Nat := 32 + n

/-- A result register shows a final result (Table 12-8). -/
def State.intakeResult (s : State) (a : Nat) (st : Status) (n b : Nat) : State :=
  s.setReg a (word (2 ^ 31 + 0x10000 * ((s.fld a 23 16 + 1) % 256) + 0x100 * st.code + 16 * n + b))

/-- A present ends: its verb completes, or PRESENT_RESULT shows its status (R293). -/
def State.answerPresent (s : State) (n : Nat) (q : Present) (st : Status) : State :=
  match q.source with
  | .verb =>
    match q.ring with
    | some r => s.completeRing r st
        (if st = .ok then [s.reg (Reg.INTAKE_SURF_FRAME + 4 * n), word (q.buf + 256 * (q.merged % 256))] else [])
    | none => s
  | .register => s.intakeResult Reg.INTAKE_PRESENT_RESULT st n q.buf
  | _ => s

/-- The smallest rectangle that contains both. -/
def Rect.hull (a b : Rect) : Rect := { x0 := min a.x0 b.x0, y0 := min a.y0 b.y0, x1 := max a.x1 b.x1, y1 := max a.y1 b.y1 }

/-- The smallest rectangle that contains both, where either may be empty. -/
def hullOf (a b : Option Rect) : Option Rect :=
  match a, b with
  | some x, some y => some (x.hull y)
  | some x, none => some x
  | none, y => y

/-- A rectangle clipped to w × h pixels. -/
def Rect.clip (r : Rect) (w h : Nat) : Option Rect :=
  let c : Rect := { r with x1 := min r.x1 (w - 1), y1 := min r.y1 (h - 1) }
  if w = 0 ∨ h = 0 ∨ c.x1 < c.x0 ∨ c.y1 < c.y0 then none else some c

/-- The whole of w × h pixels. -/
def wholeRect (w h : Nat) : Rect := { x0 := 0, y0 := 0, x1 := w - 1, y1 := h - 1 }

/-- An update of a surface opens on a buffer (R288). -/
def State.openUpdate (s : State) (n b : Nat) (chan : Option Nat) : State :=
  s.setSurf n { s.surf n with openBuf := some b, openBy := chan, written := none }

/-- The openers that wait for a buffer of the surface are served once there is one (R288). -/
def State.serveOpens (s : State) (n : Nat) : State :=
  let byReg := s.intake.openReg == some n
  if (s.waiters (.surface n)).isEmpty && !byReg then s
  else match (s.surf n).openBuf.orElse (fun _ => s.openable n) with
    | none => s
    | some b =>
      let s1 := if (s.surf n).openBuf.isSome then s else s.openUpdate n b none
      let s2 := s1.completeAll (.surface n) .ok [word b, word (s1.bufBase n b)]
      if byReg then (s2.setIntake { s2.intake with openReg := none }).intakeResult Reg.INTAKE_OPEN_RESULT .ok n b else s2

/-- A buffer becomes free: under COPY_FWD its behind region is copied first (R292). -/
def State.freeBuf (s : State) (n b : Nat) : State :=
  match Cells.find (s.surf n).behind b with
  | some r =>
    if s.copies n then
      let c : CopyJob := { surf := n, dst := b, src := (s.surf n).latest, region := r }
      (s.setIntake { s.intake with copies := s.intake.copies ++ [c] }).showSurf n
    else (s.showSurf n).serveOpens n
  | none => (s.showSurf n).serveOpens n

/-- MAIN or OVERLAY is enabled on the surface (R291, R307). -/
def State.layerShows (s : State) (n : Nat) : Bool :=
  let l := s.inForce Reg.SCAN_LAYERS
  (bit l 3 && field l 2 0 == n) || (bit l 11 && field l 10 8 == n)

/-- Scan-out is in self-refresh (STATE.SR). -/
def State.inSr (s : State) : Bool := s.flag Reg.SCAN_STATE 9

/-- Scan-out is in self-refresh, or stopped by the ladder: a present makes it resume (R73, R310). -/
def State.resumable (s : State) : Bool := s.inSr || s.scan.laddered

/-- Scan-out is asked to resume (R310). -/
def State.askResume (s : State) : State := { s with scan := { s.scan with wake := s.scan.wake || s.resumable } }

/-- The code of a present's source (Table 12-13). -/
def PresentSource.code : PresentSource → Nat
  | .verb => 0
  | .register => 1
  | .dsi => 2
  | .video => 3

/-- A queued present is superseded (R290). -/
def State.supersede (s : State) (n : Nat) (q : Present) : State :=
  let s1 := (s.answerPresent n q .superseded).bump (surfWord n 7) 15 0
  s1.raise 73 (word (n + 16 * q.source.code + 0x10000 * (if q.source = .dsi then q.tag else 0)))

/-- A present of the surface's open update (R290, R292): clipped, merged with a queued one, and queued. -/
def State.presentOn (s : State) (n : Nat) (full : Bool) (r : Rect) (p : Present) : State :=
  let x := s.surf n
  match x.openBuf with
  | none => s
  | some b =>
    let own := if full || x.first then some (wholeRect (s.surfW n) (s.surfH n)) else r.clip (s.surfW n) (s.surfH n)
    let old := x.queued
    let rect := match old with
      | some q => hullOf own q.rect
      | none => own
    let merged := match old with
      | some q => q.merged + 1
      | none => 0
    let behind := (List.range (s.surfBufs n)).foldl (fun m c =>
      match (if c = b then none else hullOf (Cells.find x.behind c) rect) with
      | some a => Cells.insert m c a
      | none => m) []
    let s1 := match old with
      | some q => s.supersede n q
      | none => s
    let sr := s1.resumable && s1.layerShows n
    let s2 := s1.setSurf n { s1.surf n with
      queued := some { p with buf := b, rect := rect, merged := merged, inSr := sr }
      openBuf := none, openBy := none, written := none, first := false, behind := behind, latest := b }
    let rest := s2.commits.filter (fun (c : BoundaryReq) => c.page != presentPage n)
    let s3 : State := { s2 with commits := rest ++ [{ page := presentPage n, toBasic := false, ring := none }] }
    let s4 := if sr then s3.askResume else s3
    match old with
    | some q => if q.buf = b then s4.serveOpens n else s4.freeBuf n q.buf
    | none => s4.serveOpens n

/-- The panel rectangle that a present of the surface changes in each layer that shows it (R300, R302). -/
def State.panelRect (s : State) (n : Nat) (r : Option Rect) : Option Rect :=
  let l := s.inForce Reg.SCAN_LAYERS
  let p := s.inForce Reg.SCAN_OVL_POS
  let main := if bit l 3 && field l 2 0 == n then r else none
  let ovl := if bit l 11 && field l 10 8 == n then
      r.map (fun (a : Rect) => { x0 := a.x0 + field p 11 0, y0 := a.y0 + field p 27 16,
                                 x1 := a.x1 + field p 11 0, y1 := a.y1 + field p 27 16 }) else none
  hullOf main ovl

/-- A queued present applied at a FRAME boundary (R291, R293); while an update is open on its buffer it waits on. -/
def State.applyPresent (s : State) (n : Nat) : State :=
  let x := s.surf n
  match x.queued with
  | none => s
  | some q =>
    if x.openBuf = some q.buf then s
    else
      let frame := s.reg Reg.SCAN_FRAME + 1#32
      let s1 := ((s.setSurf n { x with front := some q.buf, queued := none }).bump (surfWord n 6) 31 16).setReg
        (Reg.INTAKE_SURF_FRAME + 4 * n) frame
      let s2 : State := { s1 with commits := s1.commits.filter (fun (c : BoundaryReq) => c.page != presentPage n) }
      let s3 := if s2.layerShows n then
          { s2 with scan := { s2.scan with
              dirty := hullOf s2.scan.dirty (s2.panelRect n q.rect), firstShown := n :: s2.scan.firstShown, presented := true } }
        else s2
      let s4 := s3.raise 72 (word (n + 16 * q.source.code + 256 * (frame.toNat % 2 ^ 24)))
      match x.front with
      | some b =>
        let s5 := if b = q.buf then s4 else s4.freeBuf n b
        if b ≠ q.buf ∧ s5.copying n b then s5.setSurf n { s5.surf n with answer := some q } else s5.answerPresent n q .ok
      | none => (s4.answerPresent n q .ok).serveOpens n

/-- Byte ranges of a buffer that a region touches, in whole 16-byte units of every plane row (R292). -/
def State.regionUnits (s : State) (n : Nat) (r : Rect) : List (Nat × Nat) :=
  let fmt := s.surfFmt n
  let span := fun (lo hi : Nat) => (16 * (lo / 16), 16 * (hi / 16 - lo / 16 + 1))
  let cols := fun (a b : Nat) =>
    if fmt = 0 then (4 * a, 4 * b + 3) else if fmt = 1 then (3 * a, 3 * b + 2) else if fmt = 2 then (2 * a, 2 * b + 1)
    else if fmt = 6 then (a, b) else (4 * (a / 3), 4 * (b / 3) + 3)
  let rows := fun (base stride a b y0 y1 : Nat) => (List.range (y1 + 1 - y0)).map (fun i =>
    let (lo, hi) := cols a b
    let u := span lo hi
    (base + (y0 + i) * stride + u.1, u.2))
  let main := rows 0 (s.stride0 n) r.x0 r.x1 r.y0 r.y1
  if fmt ≤ 2 then main
  else
    let p1 := s.fld (surfWord n 3) 22 0
    let p2 := p1 + s.stride1 n * chromaH fmt (s.surfH n)
    let cx := fun (x : Nat) => if fmt = 3 then x else x / 2
    let cy := fun (y : Nat) => if fmt = 5 ∨ fmt = 6 then y / 2 else y
    main ++ rows p1 (s.stride1 n) (cx r.x0) (cx r.x1) (cy r.y0) (cy r.y1) ++
      rows p2 (s.stride1 n) (cx r.x0) (cx r.x1) (cy r.y0) (cy r.y1)

/-- The bytes of a copy-forward moved; an access outside the leases raises EV_HALL_UNLEASED (R28, R292). -/
def State.copyRegion (s : State) (c : CopyJob) : State :=
  (s.regionUnits c.surf c.region).foldl (fun s u =>
    let src := s.bufBase c.surf c.src + u.1
    let dst := s.bufBase c.surf c.dst + u.1
    ((s.touchHall src u.2).touchHall dst u.2).putHallBytes dst (s.hallBytes src u.2)) s

/-- The copy-forward in front ends: its buffer is free and EV_INTAKE_WRITABLE is raised (R292, R293). -/
def execCopyForwardDone (s : State) : Host.Outcome State Fault Refusal :=
  .next (match s.intake.copies with
    | [] => s
    | c :: rest =>
      let s1 := s.copyRegion c
      let s2 := s1.setIntake { s1.intake with copies := rest }
      let x := s2.surf c.surf
      let s3 := (s2.setSurf c.surf { x with behind := Cells.erase x.behind c.dst }).raise 74
        (word (c.surf + 16 * c.dst))
      let s4 := match (s3.surf c.surf).answer with
        | some q => (s3.setSurf c.surf { s3.surf c.surf with answer := none }).answerPresent c.surf q .ok
        | none => s3
      s4.serveOpens c.surf)

/-! ### Enabling and disabling (R287) -/

/-- Enable of a surface whose words are stored with EN 0: EN, or ERR where a check fails (R287); an opener that still waits is
served (R288). -/
def State.enableSurf (s : State) (n : Nat) : State :=
  if s.surfCheck n then
    (((s.setFlag (surfWord n 6) 8 false).setFlag (surfWord n 4) 31 true).setSurf n {}).serveOpens n
  else s.setFlag (surfWord n 6) 8 true

/-- Input dropped: EV_INTAKE_INPUT_DROP (R281, R283). -/
def State.inputDrop (s : State) (n reason : Nat) : State := s.raise 79 (word (n + 256 * reason))

/-- A surface is disabled: its queued present completes with HALTED and an open update closes (R287); a video frame in
progress on it is dropped (R281). -/
def State.disableSurf (s : State) (n : Nat) : State :=
  let x := s.surf n
  let s1 := s.setFlag (surfWord n 4) 31 false
  let s2 := match x.queued with
    | some q => s1.answerPresent n q .halted
    | none => s1
  let s3 := match x.answer with
    | some q => s2.answerPresent n q .halted
    | none => s2
  let s4 : State := { s3 with
    commits := s3.commits.filter (fun (c : BoundaryReq) => c.page != presentPage n)
    intake := { s3.intake with copies := s3.intake.copies.filter (fun c => c.surf != n) } }
  let s5 := s4.setSurf n { s4.surf n with queued := none, openBuf := none, openBy := none, written := none, answer := none }
  if s.intake.video.any (fun v => v.surf == n) then
    ((s5.setIntake { s5.intake with video := none }).bump (surfWord n 7) 31 16).inputDrop n 4
  else s5

/-- A write of a descriptor word 0 to 3 or 5: ignored while the surface is enabled (R287). -/
def State.writeSurf (s : State) (n w : Nat) (v : Word) : State :=
  if s.surfEn n then s else s.hostSet (surfWord n w) v

/-- A write of word 4 with EN = 1 (R287). -/
def State.writeSurfOn (s : State) (n : Nat) (v : Word) : State :=
  if s.surfEn n then s else (s.hostSet (surfWord n 4) (withBit v 31 false)).enableSurf n

/-- A write of word 4 with EN = 0: it disables an enabled surface, whose other fields stay, and is stored in a disabled one
(R287). -/
def State.writeSurfOff (s : State) (n : Nat) (v : Word) : State :=
  if s.surfEn n then s.disableSurf n else s.hostSet (surfWord n 4) v

/-- Client 0, or the OWNER of the surface that ARG0 names, holding PAGE bit 8 (Table 12-9). -/
def surfaceRight : Right := fun s v =>
  s.hasPage v.owner 8 && (v.owner == 0 || s.surfOwner (field (v.arg 0) 2 0) == v.owner)

/-- SURFACE_SET (0x70, R287). -/
def execSurfaceSet (ring : BitVec 8) (s : State) : Host.Outcome State Fault Refusal :=
  .next (s.runVerb ring.toNat 0x70 surfaceRight
    (fun _ v => v.argsWithin [0x7#32, 0x7FFFFF#32, 0x7FFFFF#32, 0x7FFFFF#32, 0x7FFFFF#32, 0xFFFFFFFF#32, 0xFFFF03FF#32])
    (fun s v =>
      let n := field (v.arg 0) 2 0
      if s.surfEn n then (s.setFlag (surfWord n 6) 8 true).complete v .badArg
      else
        let s1 := [0, 1, 2, 3, 5].foldl (fun s w => s.hostSet (surfWord n w) (v.arg (1 + w))) s
        let s2 := s1.writeSurfOn n (withBit (v.arg 5) 31 true)
        s2.complete v (if s2.surfEn n then .ok else .badArg)))

/-- SURFACE_STOP (0x71, R287). -/
def execSurfaceStop (ring : BitVec 8) (s : State) : Host.Outcome State Fault Refusal :=
  .next (s.runVerb ring.toNat 0x71 surfaceRight (fun _ v => v.argsWithin [0x7#32])
    (fun s v => (s.disableSurf (field (v.arg 0) 2 0)).complete v .ok))

/-- The rectangle of two words [11:0] X, [27:16] Y. -/
def rectOf (a b : Word) : Rect := { x0 := field a 11 0, y0 := field a 27 16, x1 := field b 11 0, y1 := field b 27 16 }

/-- PRESENT (0x72, R290, R293); it waits for its boundary as the verbs of R25 do. -/
def execPresent (ring : BitVec 8) (s : State) : Host.Outcome State Fault Refusal :=
  .next (s.runVerb ring.toNat 0x72 surfaceRight
    (fun _ v =>
      let r := rectOf (v.arg 1) (v.arg 2)
      v.argsWithin [0x107#32, 0x0FFF0FFF#32, 0x0FFF0FFF#32] && decide (r.x0 ≤ r.x1) && decide (r.y0 ≤ r.y1))
    (fun s v =>
      let n := field (v.arg 0) 2 0
      if !s.surfEn n || (s.surf n).openBuf.isNone then s.complete v .badArg
      else (s.defer v (.present n)).presentOn n (bit (v.arg 0) 8) (rectOf (v.arg 1) (v.arg 2))
        { buf := 0, rect := none, source := .verb, ring := some v.ring }))

/-- SURFACE_OPEN (0x73, R288). -/
def execSurfaceOpen (ring : BitVec 8) (s : State) : Host.Outcome State Fault Refusal :=
  .next (s.runVerb ring.toNat 0x73 surfaceRight (fun _ v => v.argsWithin [0x7#32])
    (fun s v =>
      let n := field (v.arg 0) 2 0
      if !s.surfEn n then s.complete v .badArg
      else match (s.surf n).openBuf with
        | some b => s.complete v .ok [word b, word (s.bufBase n b)]
        | none =>
          match s.openable n with
          | some b => (s.openUpdate n b none).complete v .ok [word b, word (s.bufBase n b)]
          | none => s.defer v (.surface n) 0))

/-- A write of OPEN with GO (R10, R288): OPEN_RESULT shows the buffer once an update is open. -/
def State.writeOpen (s : State) (v : Word) : State :=
  if !bit v 31 || s.intake.openReg.isSome then s
  else
    let n := field v 2 0
    let s1 := s.setFlag Reg.INTAKE_OPEN_RESULT 31 false
    if !s1.surfEn n then s1.intakeResult Reg.INTAKE_OPEN_RESULT .badArg n 0
    else (s1.setIntake { s1.intake with openReg := some n }).serveOpens n

/-- A present by register waits for its final result. -/
def State.presentBusy (s : State) : Bool :=
  (List.range 8).any (fun n =>
    (s.surf n).queued.any (fun q => q.source == .register) || (s.surf n).answer.any (fun q => q.source == .register))

/-- A write of PRESENT with GO (R10, R290): PRESENT_RESULT shows its end. -/
def State.writePresent (s : State) (v : Word) : State :=
  if !bit v 31 || s.presentBusy then s
  else
    let n := field v 2 0
    let r := rectOf (s.reg Reg.INTAKE_PRES_RECT0) (s.reg Reg.INTAKE_PRES_RECT1)
    let s1 := s.setFlag Reg.INTAKE_PRESENT_RESULT 31 false
    if !s1.surfEn n || (s1.surf n).openBuf.isNone || decide (r.x1 < r.x0) || decide (r.y1 < r.y0) then
      s1.intakeResult Reg.INTAKE_PRESENT_RESULT .badArg n 0
    else s1.presentOn n (bit v 8) r { buf := 0, rect := none, source := .register }

/-- SURFACE_READ (0x75). -/
def execSurfaceRead (ring : BitVec 8) (s : State) : Host.Outcome State Fault Refusal :=
  .next (s.runVerb ring.toNat 0x75 (pageRight 8) (fun _ v => v.argsWithin [0x7#32])
    (fun s v =>
      let n := field (v.arg 0) 2 0
      s.complete v .ok [s.reg (surfWord n 6), s.reg (surfWord n 7), s.reg (Reg.INTAKE_SURF_FRAME + 4 * n),
        s.reg (surfWord n 4)]))

/-! ### The DSI receiver (R274 to R278) -/

/-- The receiver takes HS data: enabled, in TUTTI or MEZZO, with CORE clocked (R274). -/
def State.dsiOn (s : State) : Bool :=
  s.fflag Reg.INTAKE_DSI_CFG 0 && s.coreOn && decide (s.cur ≤ 1) && s.boot.step == .released

/-- A DSI fault: its DSI_ERR bit, the count, the next report, and EV_INTAKE_DSI_ERR when DSI_ERR changes from 0 (R275). -/
def State.dsiFault (s : State) (b : Nat) : State :=
  let was := s.reg Reg.INTAKE_DSI_ERR
  let s1 := (s.setFlag Reg.INTAKE_DSI_ERR b true).bump Reg.INTAKE_DSI_ERR_COUNT 31 0
  let s2 := s1.setIntake { s1.intake with reportBits := numWithBit s1.intake.reportBits b true }
  if was = 0#32 then s2.raise 75 (s2.reg Reg.INTAKE_DSI_ERR &&& 0xFFFF#32) else s2

/-- A packet on a virtual channel: an unaccepted channel is a fault (bit 12); HS data are being received (R275). -/
def State.packet (s : State) (vc : BitVec 1) (f : State → State) : State :=
  if !s.dsiOn then s
  else
    let s1 := (s.setFlag Reg.INTAKE_STATUS 0 true).setIntake { s.intake with readReq := none }
    if vc = 1#1 ∧ !s1.fflag Reg.INTAKE_DSI_CFG 3 then s1.dsiFault 12 else f s1

/-- The surface bound to a virtual channel. -/
def State.chanSurf (s : State) (vc : Nat) : Nat :=
  if vc = 0 then s.ffld Reg.INTAKE_DSI_CFG 6 4 else s.ffld Reg.INTAKE_DSI_CFG 10 8

/-- VC0 is in video mode. -/
def State.video (s : State) : Bool := s.fflag Reg.INTAKE_DSI_CFG 2

/-- A channel's state. -/
def State.chan (s : State) (vc : Nat) : Channel := Cells.get (fun _ => {}) s.intake.chans vc

/-- A channel's state written. -/
def State.setChan (s : State) (vc : Nat) (c : Channel) : State :=
  s.setIntake { s.intake with chans := Cells.put (fun _ => {}) s.intake.chans vc c }

/-- An open update closes without a present. -/
def State.closeUpdate (s : State) (n : Nat) : State :=
  (s.setSurf n { s.surf n with openBuf := none, openBy := none, written := none }).serveOpens n

/-- The video frame in progress, or the one that would start, is dropped (R281). -/
def State.videoDrop (s : State) (n reason : Nat) : State :=
  let mine := match s.intake.video with
    | some v => v.surf == n && (s.surf n).openBuf == some v.buf
    | none => false
  let s1 := s.setIntake { s.intake with video := none }
  let s2 := if mine then s1.closeUpdate n else s1
  (s2.bump (surfWord n 7) 31 16).inputDrop n reason

/-- The data types of Table 12-2. -/
def dataTypes : List Nat :=
  [0x01, 0x21, 0x11, 0x31, 0x08, 0x09, 0x19, 0x02, 0x12, 0x22, 0x32, 0x03, 0x13, 0x23, 0x04, 0x14, 0x24, 0x05, 0x15, 0x39,
   0x06, 0x37, 0x29, 0x0E, 0x3E, 0x0D]

/-- The codes of Table 12-3. -/
def dcsCodes : List Nat :=
  [0x00, 0x01, 0x0A, 0x0C, 0x10, 0x11, 0x28, 0x29, 0x2A, 0x2B, 0x2C, 0x3C, 0x34, 0x35, 0x3A, 0x44, 0x45]

/-- A packet of a channel is dropped with a bit of DSI_ERR; a video frame that contains it is dropped (R275, R281). -/
def State.packetDropped (s : State) (vc : Nat) (b : Nat) : State :=
  let s1 := s.dsiFault b
  match s1.intake.video with
  | some v => if vc = 0 then s1.videoDrop v.surf 2 else s1
  | none => s1

/-- The faults of a packet of channel 0 or 1 that is accepted (R273, R275): a header that ECC corrected sets its bit and is used,
a packet with any other fault is dropped. A data type of Table 12-2 and an accepted channel are no fault. -/
def State.packetFault (s : State) (vc : Nat) (fault : DsiFault) : State :=
  match fault with
  | .corrected => s.dsiFault 8
  | .header => s.packetDropped 0 9
  | .checksum => s.packetDropped vc 10
  | .dataType code => if dataTypes.contains code.toNat then s else s.packetDropped vc 11
  | .channel => s
  | .overrun => s.packetDropped vc Config.overrunBit.toNat

/-- A packet with a fault (R273, R275): one with a broken header has no channel, and one on a channel above 1 is not accepted. The
bits are those of the DSI acknowledge-and-error-report (log entry 41). -/
def execDsiPacketError (vc : BitVec 2) (fault : DsiFault) (s : State) : Host.Outcome State Fault Refusal :=
  .next (if fault = .header then s.packet 0#1 (fun s => s.packetFault 0 fault)
    else if 2 ≤ vc.toNat then s.packet 0#1 (fun s => (if fault = .corrected then s.dsiFault 8 else s).dsiFault 12)
    else s.packet (vc.setWidth 1) (fun s => s.packetFault vc.toNat fault))

/-- A DCS command whose code stands outside Table 12-3 (R276). -/
def execDcsUnknownCommand (cmd : DcsCommand) (s : State) : Host.Outcome State Fault Refusal :=
  .next (s.packet cmd.vc (fun s => if dcsCodes.contains cmd.code.toNat then s else s.dsiFault 11))

/-- V Sync Start in video mode: an unfinished frame is dropped, and a frame starts on the VC0 surface (R279, R281). -/
def State.videoStart (s : State) : State :=
  let s1 := match s.intake.video with
    | some v => s.videoDrop v.surf 3
    | none => s
  let n := s1.chanSurf 0
  if !s1.surfEn n || !s1.flag (surfWord n 4) 30 || decide (3 ≤ s1.surfFmt n) then s1.videoDrop n 4
  else match (s1.surf n).openBuf with
    | some b => s1.setIntake { s1.intake with video := some { surf := n, buf := b } }
    | none =>
      match s1.openable n with
      | some b =>
        let s2 := s1.openUpdate n b (some 0)
        s2.setIntake { s2.intake with video := some { surf := n, buf := b } }
      | none => s1.videoDrop n 5

/-- V Sync Start (R279). -/
def execVSyncStart (s : State) : Host.Outcome State Fault Refusal :=
  .next (s.packet 0#1 (fun s => if s.video then s.videoStart else s))

/-- H Sync Start: the next line of a video frame; a line that began and is not complete drops the frame (R279, R281). -/
def execHSyncStart (s : State) : Host.Outcome State Fault Refusal :=
  .next (s.packet 0#1 (fun s => match s.intake.video with
    | some v =>
      if v.full then s.setIntake { s.intake with video := some { v with full := false, px := 0 } }
      else if 0 < v.px then s.videoDrop v.surf 1 else s
    | none => s))

/-- V Sync End or H Sync End: counted and ignored (Table 12-2). -/
def execSyncEnd (s : State) : Host.Outcome State Fault Refusal :=
  .next (s.packet 0#1 (fun s => s.setIntake { s.intake with syncEnds := s.intake.syncEnds + 1 }))

/-- End of Transmission: accepted (Table 12-2). -/
def execEndOfTransmission (s : State) : Host.Outcome State Fault Refusal := .next (s.packet 0#1 (fun s => s))

/-- Null and Blanking packets: payload discarded (Table 12-2). -/
def execNullBlanking (vc : BitVec 1) (s : State) : Host.Outcome State Fault Refusal := .next (s.packet vc (fun s => s))

/-- Color Mode Off: no effect (Table 12-2). -/
def execColorModeOff (vc : BitVec 1) (s : State) : Host.Outcome State Fault Refusal := .next (s.packet vc (fun s => s))

/-- Color Mode On: no effect (Table 12-2). -/
def execColorModeOn (vc : BitVec 1) (s : State) : Host.Outcome State Fault Refusal := .next (s.packet vc (fun s => s))

/-- Shut Down: no effect (Table 12-2). -/
def execShutDown (vc : BitVec 1) (s : State) : Host.Outcome State Fault Refusal := .next (s.packet vc (fun s => s))

/-- Turn On Peripheral: no effect (Table 12-2). -/
def execTurnOnPeripheral (vc : BitVec 1) (s : State) : Host.Outcome State Fault Refusal :=
  .next (s.packet vc (fun s => s))

/-- A generic short write: no effect (Table 12-2). -/
def execGenericShortWrite (vc : BitVec 1) (s : State) : Host.Outcome State Fault Refusal :=
  .next (s.packet vc (fun s => s))

/-- A read request that the bus turnaround answers. -/
def State.askRead (s : State) (r : ReadReq) : State := s.setIntake { s.intake with readReq := some r }

/-- A generic read: two parameters name a register offset (R284). -/
def execGenericRead (vc : BitVec 1) (params : List Byte) (s : State) : Host.Outcome State Fault Refusal :=
  .next (s.packet vc (fun s => match params with
    | [lo, hi] => s.askRead (.register (lo.toNat + 256 * hi.toNat))
    | _ => s.askRead .bad))

/-- Set Maximum Return Packet Size (Table 12-2). -/
def execSetMaximumReturnPacketSize (vc : BitVec 1) (size : BitVec 16) (s : State) : Host.Outcome State Fault Refusal :=
  .next (s.packet vc (fun s => s.setIntake { s.intake with maxReturn := size.toNat }))

/-! ### Pixels into buffers (R279, R282, R283) -/

/-- Bytes of a pixel of an RGB format. -/
def pixelBytes (fmt : Nat) : Nat := if fmt = 0 then 4 else if fmt = 1 then 3 else 2

/-- The stored bytes of a pixel of three components of the format's own widths (Table 12-5); on a surface with alpha, whose
bits no stream carries, those are a free value. -/
def storedPixel (fmt : Nat) (alpha : Bool) (p : Rgb) : List Byte :=
  if fmt = 0 then
    let c : BitVec 30 := p.b ++ p.g ++ p.r
    wordBytes ((if alpha then Config.streamAlpha c else 0#2) ++ c)
  else if fmt = 1 then [p.r.setWidth 8, p.g.setWidth 8, p.b.setWidth 8]
  else
    let v := 2 ^ 11 * (p.r.toNat % 32) + 2 ^ 5 * (p.g.toNat % 64) + p.b.toNat % 32
    [BitVec.ofNat 8 v, BitVec.ofNat 8 (v / 256)]

/-- One pixel's bytes stored in a buffer, outside the leases with EV_HALL_UNLEASED (R28); a pixel outside the surface is
dropped. -/
def State.putPixel (s : State) (n b x y : Nat) (bs : List Byte) : State :=
  if x < s.surfW n ∧ y < s.surfH n then
    let a := s.bufBase n b + y * s.stride0 n + x * pixelBytes (s.surfFmt n)
    (s.touchHall a bs.length).putHallBytes a bs
  else s

/-- The format code that a pixel stream carries (Table 12-2). -/
def streamFormat : PixelStream → Nat
  | .rgb30 => 0
  | .rgb24 => 1
  | .rgb16 => 2

/-- Pixels of a video line (R279, R281). -/
def State.videoPixels (s : State) (v : VideoFrame) (fmt : PixelStream) (pixels : List Rgb) : State :=
  let n := v.surf
  if (s.surf n).openBuf ≠ some v.buf then s.setIntake { s.intake with video := none }
  else if (streamFormat fmt) ≠ s.surfFmt n ∨ v.full ∨ s.surfW n < v.px + pixels.length then s.videoDrop n 1
  else
    let s1 := (pixels.zipIdx).foldl (fun (s : State) (e : Rgb × Nat) =>
      s.putPixel n v.buf (v.px + e.2) v.line (storedPixel (streamFormat fmt) (s.flag (surfWord n 4) 28) e.1)) s
    if v.px + pixels.length < s.surfW n then
      s1.setIntake { s1.intake with video := some { v with px := v.px + pixels.length } }
    else if v.line + 1 < s.surfH n then
      s1.setIntake { s1.intake with video := some { v with line := v.line + 1, px := 0, full := true } }
    else
      (s1.setIntake { s1.intake with video := none }).presentOn n true (wholeRect 1 1)
        { buf := 0, rect := none, source := .video }

/-- A packed pixel stream of VC0 in video mode (R279). -/
def execPackedPixelStream (fmt : PixelStream) (pixels : List Rgb) (s : State) : Host.Outcome State Fault Refusal :=
  .next (s.packet 0#1 (fun s => match s.intake.video with
    | some v => s.videoPixels v fmt pixels
    | none => s))

/-- The window of a channel: SC, EC, SP, EP (R282). -/
def State.window (s : State) (vc : Nat) : Rect :=
  let n := s.chanSurf vc
  let c := s.chan vc
  let (sc, ec) := c.cols.getD (0, s.surfW n - 1)
  let (sp, ep) := c.rows.getD (0, s.surfH n - 1)
  { x0 := sc, y0 := sp, x1 := ec, y1 := ep }

/-- A list in pieces of k elements; an incomplete last piece is left out. fuel bounds the pieces. -/
def pieces (k : Nat) : Nat → List Byte → List (List Byte)
  | 0, _ => []
  | fuel + 1, bs => if bs.length < k ∨ k = 0 then [] else bs.take k :: pieces k fuel (bs.drop k)

/-- The stored bytes of a pixel as DCS carries it (R283); an RGB30 surface without alpha stores bits [31:30] as 0 (R286). -/
def dcsPixel (fmt : Nat) (alpha : Bool) (bs : List Byte) : List Byte :=
  if fmt = 2 then bs.reverse
  else if fmt = 0 ∧ !alpha then bs.take 3 ++ (bs.drop 3).map (· &&& 0x3F#8)
  else bs

/-- The position after (x, y) in a window: to the next row after EC, and from row EP to SP (R282). -/
def nextPos (w : Rect) (x y : Nat) : Nat × Nat :=
  if x = w.x1 then (w.x0, if y = w.y1 then w.y0 else y + 1) else (x + 1, y)

/-- Pixels written from the channel's position on (R282). -/
def State.writePixels (s : State) (vc n b : Nat) (w : Rect) : List (List Byte) → State
  | [] => s
  | p :: ps =>
    let c := s.chan vc
    let s1 := s.putPixel n b c.x c.y (dcsPixel (s.surfFmt n) (s.flag (surfWord n 4) 28) p)
    let nx := nextPos w c.x c.y
    (s1.setChan vc { c with x := nx.1, y := nx.2 }).writePixels vc n b w ps

/-- write_memory_start or write_memory_continue (R282, R283). -/
def State.writeMemory (s : State) (vc : Nat) (start : Bool) (data : List Byte) : State :=
  let n := s.chanSurf vc
  if (vc = 0 ∧ s.video) ∨ (s.chan vc).dropping then s
  else if !s.surfEn n || decide (3 ≤ s.surfFmt n) then
    (s.setChan vc { s.chan vc with dropping := true }).inputDrop n 4
  else
    match (s.surf n).openBuf.orElse (fun _ => s.openable n) with
    | none => (s.setChan vc { s.chan vc with dropping := true }).inputDrop n 5
    | some b =>
      let s1 := if (s.surf n).openBuf.isSome then s else s.openUpdate n b (some vc)
      let w := s1.window vc
      let s2 := if start then s1.setChan vc { s1.chan vc with x := w.x0, y := w.y0 } else s1
      let k := pixelBytes (s2.surfFmt n)
      let s3 := s2.setSurf n { s2.surf n with written := hullOf (s2.surf n).written (some w) }
      let s4 := s3.writePixels vc n b w (pieces k data.length data)
      if data.length % k = 0 then s4 else s4.dsiFault 13

/-- write_memory_start (R282). -/
def execWriteMemoryStart (vc : BitVec 1) (data : List Byte) (s : State) : Host.Outcome State Fault Refusal :=
  .next (s.packet vc (fun s => s.writeMemory vc.toNat true data))

/-- write_memory_continue (R282). -/
def execWriteMemoryContinue (vc : BitVec 1) (data : List Byte) (s : State) : Host.Outcome State Fault Refusal :=
  .next (s.packet vc (fun s => s.writeMemory vc.toNat false data))

/-- A 16-bit parameter of a DCS command: most significant byte first (R276). -/
def dcsParam (p : DcsParam) : Nat := 256 * p.high.toNat + p.low.toNat

/-- set_column_address with its four parameters SC, EC (R276, R282). -/
def execSetColumnAddress (vc : BitVec 1) (first last : DcsParam) (s : State) : Host.Outcome State Fault Refusal :=
  .next (s.packet vc (fun s =>
    let sc := dcsParam first
    let ec := dcsParam last
    if ec < sc ∨ s.surfW (s.chanSurf vc.toNat) ≤ ec then s.dsiFault 13
    else s.setChan vc.toNat { s.chan vc.toNat with cols := some (sc, ec) }))

/-- set_page_address with its four parameters SP, EP (R276, R282). -/
def execSetPageAddress (vc : BitVec 1) (first last : DcsParam) (s : State) : Host.Outcome State Fault Refusal :=
  .next (s.packet vc (fun s =>
    let sp := dcsParam first
    let ep := dcsParam last
    if ep < sp ∨ s.surfH (s.chanSurf vc.toNat) ≤ ep then s.dsiFault 13
    else s.setChan vc.toNat { s.chan vc.toNat with rows := some (sp, ep) }))

/-! ### Part commands (R277, Table 12-4) -/

/-- A part command. -/
inductive PartCmd where
  | present (full auto : Bool) (rect : Rect) (tag : Nat)
  | fence (tag : Nat)
  | hint (rect : Rect)
  deriving DecidableEq, Repr

/-- The 16-bit field at a byte of a part command: least significant byte first (R277). -/
def partField (p : List Byte) (i : Nat) : Nat := (p.getD i 0).toNat + 256 * (p.getD (i + 1) 0).toNat

/-- The rectangle X0, Y0, X1, Y1 from a byte of a part command on. -/
def partRect (p : List Byte) (i : Nat) : Rect :=
  { x0 := partField p i, y0 := partField p (i + 2), x1 := partField p (i + 4), y1 := partField p (i + 6) }

/-- The part command that a generic long write's payload spells: none where byte 0 is not in Table 12-4, the length is not the
table's or a reserved bit is set (R277). -/
def partCmd (p : List Byte) : Option PartCmd :=
  match (p.getD 0 0).toNat, p.length with
  | 0xA1, 12 =>
    let flags := p.getD 1 0
    if flags &&& 0xFC#8 = 0#8 then some (.present (flags.getLsbD 0) (flags.getLsbD 1) (partRect p 2) (partField p 10)) else none
  | 0xA2, 3 => some (.fence (partField p 1))
  | 0xA3, 9 => some (.hint (partRect p 1))
  | _, _ => none

/-- SET_REGION_HINT: both address commands in one packet (Table 12-4). -/
def State.regionHint (s : State) (vc : Nat) (r : Rect) : State :=
  let n := s.chanSurf vc
  if r.x1 < r.x0 ∨ s.surfW n ≤ r.x1 ∨ r.y1 < r.y0 ∨ s.surfH n ≤ r.y1 then s.dsiFault 13
  else s.setChan vc { s.chan vc with cols := some (r.x0, r.x1), rows := some (r.y0, r.y1) }

/-- PRESENT as a part command (R277, R290). -/
def State.partPresent (s : State) (vc : Nat) (full auto : Bool) (given : Rect) (tag : Nat) : State :=
  let n := s.chanSurf vc
  let s1 := s.setChan vc { s.chan vc with dropping := false }
  let rect := if auto then (s1.surf n).written.getD given else given
  if !s1.surfEn n || (s1.surf n).openBuf.isNone ||
      (!full && !auto && (decide (given.x1 < given.x0) || decide (given.y1 < given.y0))) then s1.dsiFault 13
  else s1.presentOn n full rect { buf := 0, rect := none, source := .dsi, tag := tag }

/-- FENCE as a part command waits for the packets before it (R278). -/
def State.partFence (s : State) (vc tag : Nat) : State :=
  s.setIntake { s.intake with fences := s.intake.fences ++ [(tag, vc)] }

/-- A part command acts. -/
def State.partAct (s : State) (vc : Nat) : PartCmd → State
  | .present full auto rect tag => s.partPresent vc full auto rect tag
  | .fence tag => s.partFence vc tag
  | .hint rect => s.regionHint vc rect

/-- A generic long write: the part command it spells acts; one that spells none is ignored with bit 13 set (R277). -/
def execGenericLongWrite (vc : BitVec 1) (payload : List Byte) (s : State) : Host.Outcome State Fault Refusal :=
  .next (s.packet vc (fun s => match partCmd payload with
    | some c => s.partAct vc.toNat c
    | none => s.dsiFault 13))

/-- The SET_REGION_HINT part command. -/
def execSetRegionHint (vc : BitVec 1) (x0 y0 x1 y1 : BitVec 16) (s : State) : Host.Outcome State Fault Refusal :=
  .next (s.packet vc (fun s =>
    s.regionHint vc.toNat { x0 := x0.toNat, y0 := y0.toNat, x1 := x1.toNat, y1 := y1.toNat }))

/-- The PRESENT part command. -/
def execDsiPresent (vc : BitVec 1) (full auto : Bool) (x0 y0 x1 y1 : BitVec 16) (tag : BitVec 16) (s : State) :
    Host.Outcome State Fault Refusal :=
  .next (s.packet vc (fun s => s.partPresent vc.toNat full auto
    { x0 := x0.toNat, y0 := y0.toNat, x1 := x1.toNat, y1 := y1.toNat } tag.toNat))

/-- The FENCE part command. -/
def execDsiFence (vc : BitVec 1) (tag : BitVec 16) (s : State) : Host.Outcome State Fault Refusal :=
  .next (s.packet vc (fun s => s.partFence vc.toNat tag.toNat))

/-- The oldest fence completes (R278). -/
def execDsiFenceComplete (s : State) : Host.Outcome State Fault Refusal :=
  .next (match s.intake.fences with
    | [] => s
    | f :: rest =>
      let n := (s.fld Reg.INTAKE_FENCE_TAG 31 24 + 1) % 256
      ((s.setIntake { s.intake with fences := rest }).setReg Reg.INTAKE_FENCE_TAG
        (word (f.1 + 0x10000 * f.2 + 2 ^ 24 * n))).raise 76 (word (f.1 + 0x10000 * f.2)))

/-! ### DCS commands (R276) -/

/-- EV_INTAKE_DCS. -/
def State.dcsEvent (s : State) (code vc : Nat) : State := s.raise 77 (word (code + 256 * vc))

/-- A DCS flag of STATUS takes a value; a change raises EV_INTAKE_DCS. -/
def State.dcsFlag (s : State) (b code vc : Nat) (v : Bool) : State :=
  if s.flag Reg.INTAKE_STATUS b = v then s else (s.setFlag Reg.INTAKE_STATUS b v).dcsEvent code vc

/-- nop. -/
def execDcsNop (vc : BitVec 1) (s : State) : Host.Outcome State Fault Refusal := .next (s.packet vc (fun s => s))

/-- soft_reset. -/
def execSoftReset (vc : BitVec 1) (s : State) : Host.Outcome State Fault Refusal :=
  .next (s.packet vc (fun s =>
    let n := s.chanSurf vc.toNat
    let s1 := s.setChan vc.toNat {}
    let s2 := if (s1.surf n).openBy = some vc.toNat then
        (s1.setIntake { s1.intake with video := if vc = 0#1 then none else s1.intake.video }).closeUpdate n else s1
    let s3 := (s2.setFld Reg.INTAKE_STATUS 4 3 0).setFlag Reg.INTAKE_STATUS 2 true
    (s3.setIntake { s3.intake with maxReturn := 1 }).dcsEvent 0x01 vc.toNat))

/-- get_power_mode. -/
def execGetPowerMode (vc : BitVec 1) (s : State) : Host.Outcome State Fault Refusal :=
  .next (s.packet vc (fun s => s.askRead .powerMode))

/-- get_pixel_format. -/
def execGetPixelFormat (vc : BitVec 1) (s : State) : Host.Outcome State Fault Refusal :=
  .next (s.packet vc (fun s => s.askRead (.pixelFormat vc.toNat)))

/-- enter_sleep_mode. -/
def execEnterSleepMode (vc : BitVec 1) (s : State) : Host.Outcome State Fault Refusal :=
  .next (s.packet vc (fun s => s.dcsFlag 4 0x10 vc.toNat false))

/-- exit_sleep_mode. -/
def execExitSleepMode (vc : BitVec 1) (s : State) : Host.Outcome State Fault Refusal :=
  .next (s.packet vc (fun s => s.dcsFlag 4 0x11 vc.toNat true))

/-- set_display_off. -/
def execSetDisplayOff (vc : BitVec 1) (s : State) : Host.Outcome State Fault Refusal :=
  .next (s.packet vc (fun s => s.dcsFlag 3 0x28 vc.toNat false))

/-- set_display_on. -/
def execSetDisplayOn (vc : BitVec 1) (s : State) : Host.Outcome State Fault Refusal :=
  .next (s.packet vc (fun s => s.dcsFlag 3 0x29 vc.toNat true))

/-- set_tear_off: DSI_TE is low (R285). -/
def execSetTearOff (vc : BitVec 1) (s : State) : Host.Outcome State Fault Refusal :=
  .next (s.packet vc (fun s =>
    let s1 := s.setFlag Reg.INTAKE_STATUS 2 false
    { s1 with pins := { s1.pins with dsiTe := false } }))

/-- set_tear_on; its parameter is ignored. -/
def execSetTearOn (vc : BitVec 1) (s : State) : Host.Outcome State Fault Refusal :=
  .next (s.packet vc (fun s => s.setFlag Reg.INTAKE_STATUS 2 true))

/-- set_pixel_format: stored. -/
def execSetPixelFormat (vc : BitVec 1) (code : BitVec 8) (s : State) : Host.Outcome State Fault Refusal :=
  .next (s.packet vc (fun s => s.setIntake { s.intake with pixelFormat := code.toNat }))

/-- set_tear_scanline: accepted with no effect. -/
def execSetTearScanline (vc : BitVec 1) (s : State) : Host.Outcome State Fault Refusal :=
  .next (s.packet vc (fun s => s))

/-- get_scanline. -/
def execGetScanline (vc : BitVec 1) (s : State) : Host.Outcome State Fault Refusal :=
  .next (s.packet vc (fun s => s.askRead .scanline))

/-! ### Link states, tearing effect and commit -/

/-- The lanes are watched: the receiver is enabled and its pads have their supply, from host release on (R36, R274). -/
def State.lanesSeen (s : State) : Bool :=
  s.fflag Reg.INTAKE_DSI_CFG 0 && s.supplyUp 4 && s.boot.step == .released && !s.boot.sysHeld && !s.boot.coreHeld

/-- Every enabled lane has entered ULPS (R274). -/
def execUlpsEntry (s : State) : Host.Outcome State Fault Refusal :=
  .next (if s.lanesSeen && !s.flag Reg.INTAKE_STATUS 1 then
      ((s.setFlag Reg.INTAKE_STATUS 0 false).setFlag Reg.INTAKE_STATUS 1 true).raise 78 1#32
    else s)

/-- The lanes leave ULPS (R274). -/
def execUlpsExit (s : State) : Host.Outcome State Fault Refusal :=
  .next (if s.lanesSeen && s.flag Reg.INTAKE_STATUS 1 then (s.setFlag Reg.INTAKE_STATUS 1 false).raise 78 0#32 else s)

/-- A lane leaves LP-11 or ULPS below MEZZO: the DSI wake source (R60, R274). -/
def execDsiLaneWake (s : State) : Host.Outcome State Fault Refusal :=
  .next (if s.lanesSeen && decide (2 ≤ s.cur) then s.wake 6 else s)

/-- A time of us microseconds since a tick has come, within the tick it falls in. -/
def State.usPassed (s : State) (from_ : BitVec 48) (us : Nat) : Bool :=
  decide (us * 32768 < (s.elapsed from_ + 1) * 1000000)

/-- DSI_TE may rise now (R285). -/
def State.teReady (s : State) : Bool :=
  let mode := s.fld Reg.INTAKE_TE_CFG 1 0
  let n := s.chanSurf 0
  s.coreOn && s.flag Reg.INTAKE_STATUS 2 &&
    (match s.intake.teArmed with
     | some t => s.usPassed t (s.fld Reg.INTAKE_TE_CFG 31 16)
     | none => false) &&
    (mode == 1 || (mode == 2 && s.surfEn n && (s.openable n).isSome && !s.intake.copies.any (fun c => c.surf == n)))

/-- DSI_TE rises, at most once for each real FRAME boundary; a rise inside the pulse before it is skipped (R285). -/
def execTeRise (s : State) : Host.Outcome State Fault Refusal :=
  .next (if s.teReady then
      let s1 := s.setIntake { s.intake with teArmed := none }
      if s1.pins.dsiTe then s1
      else { s1.setIntake { s1.intake with teFrom := s1.edge, teWidth := max 1 (s1.fld Reg.INTAKE_TE_CFG 15 8) } with pins := { s1.pins with dsiTe := true } }
    else s)

/-- DSI_TE falls WIDTH µs after its rise, as WIDTH stood at the rise (R285). -/
def execTeFall (s : State) : Host.Outcome State Fault Refusal :=
  .next (if s.pins.dsiTe && s.usPassed s.intake.teFrom s.intake.teWidth then
      { s with pins := { s.pins with dsiTe := false } }
    else s)

/-- The open update that a channel opened closes without a present (R294). -/
def State.closeChannel (s : State) (vc n : Nat) : State :=
  let s1 := if vc = 0 then s.setIntake { s.intake with video := none } else s
  if (s1.surf n).openBy = some vc then s1.closeUpdate n else s1

/-- DSI_CFG takes effect, and TE_CFG as staged by INTAKE_DSI (R285, R294). -/
def State.applyIntake (s : State) : State :=
  let old := s.inForce Reg.INTAKE_DSI_CFG
  let new := s.reg Reg.INTAKE_DSI_CFG
  let v0 := bit old 2 != bit new 2 || field old 6 4 != field new 6 4
  let s1 := if v0 then s.closeChannel 0 (field old 6 4) else s
  let s2 := if field old 10 8 != field new 10 8 then s1.closeChannel 1 (field old 10 8) else s1
  let s3 := s2.applyShadow 8
  let s4 := match s3.intake.teStaged with
    | some t => (s3.setReg Reg.INTAKE_TE_CFG t).setIntake { s3.intake with teStaged := none }
    | none => s3
  s4.endCommit 8 .ok

/-- The DSI link is idle, or the receiver is disabled (R274, Table 1-5): commits and mode switches, then item 6. -/
def execLinkIdleBoundary (s : State) : Host.Outcome State Fault Refusal :=
  .next (if s.coreOn then
      ((s.setFlag Reg.INTAKE_STATUS 0 false).serveCommits [8] (fun s _ => s.applyIntake)).tunePlace [6] [6]
    else s)

/-- INTAKE_DSI (0x74): DSI_CFG and TE_CFG staged and committed. -/
def execIntakeDsi (ring : BitVec 8) (s : State) : Host.Outcome State Fault Refusal :=
  .next (s.runVerb ring.toNat 0x74 (pageRight 8) (fun _ v => v.argsWithin [0x77F#32, 0xFFFFFF03#32])
    (fun s v =>
      let s1 := s.stage Reg.INTAKE_DSI_CFG (v.arg 0)
      (s1.setIntake { s1.intake with teStaged := some (v.arg 1) }).verbCommit v 8))

/-- A write of INTAKE.COMMIT (R10, R294). -/
def State.intakeGo (s : State) (v : Word) : State := if bit v 0 then s.goCommit 8 else s

/-! ### Ladder and resets (R295) -/

/-- Step D6: every queued present completes with HALTED and every open update closes (R295). -/
def State.haltIntake (s : State) : State :=
  (List.range 8).foldl (fun s n =>
    let x := s.surf n
    let s1 := match x.queued with
      | some q => s.answerPresent n q .halted
      | none => s
    let s2 : State := { s1 with commits := s1.commits.filter (fun (c : BoundaryReq) => c.page != presentPage n) }
    s2.setSurf n { s2.surf n with queued := none, openBuf := none, openBy := none, written := none })
    (s.setIntake { s.intake with video := none })

/-- An ascent from PIANISSIMO or FERMATA: no shown present, every buffer free, the next present FULL (R290, R295). -/
def State.freshSurfaces (s : State) : State :=
  (List.range 8).foldl (fun s n => if s.surfEn n then (s.setSurf n {}).serveOpens n else s)
    (s.setIntake { s.intake with copies := [] })

/-- INTAKE at a CORE reset: queued presents and open updates are dropped without completion; shown buffers and behind
regions stay, and a copy in progress begins again (R295). -/
def State.resetIntake (s : State) : State :=
  let s1 := s.setIntake { s.intake with
    chans := [], video := none, fences := [], readReq := none, reportBits := 0, maxReturn := 1, teArmed := none
    teStaged := none, openReg := none }
  (List.range 8).foldl (fun s n =>
    let x := s.surf n
    let s2 : State := { s with commits := s.commits.filter (fun (c : BoundaryReq) => c.page != presentPage n) }
    if x.queued.isSome || x.openBuf.isSome || x.answer.isSome then
      s2.setSurf n { x with queued := none, openBuf := none, openBy := none, written := none, answer := none }
    else s2) s1

end Sys2Proof.Machine
end

