-- ==== Sys2Proof/Machine/Pixels.lean ====
section
/-!
DEFINITION. From surface to drive code (14, 16): formats and chroma upsampling, colour matrix, layer blend with the face,
gamma, demura, overdrive, brightness and dither, and the statistics of a frame.
-/

namespace Sys2Proof.Machine

/-- Three components of a pixel: R, G, B or Y, Cb, Cr. -/
structure Col where
  r : Nat
  g : Nat
  b : Nat
  deriving DecidableEq, Repr

/-- The components of a tri-packed word (R286). -/
def colOf (w : Word) : Col := { r := field w 9 0, g := field w 19 10, b := field w 29 20 }

/-- The tri-packed word of three components (R286). -/
def packCol (c : Col) : Word := word (c.r % 1024 + 2 ^ 10 * (c.g % 1024) + 2 ^ 20 * (c.b % 1024))

/-- A function applied to each component, with the channel's number. -/
def Col.map (c : Col) (f : Nat → Nat → Nat) : Col := { r := f 0 c.r, g := f 1 c.g, b := f 2 c.b }

/-- An integer quotient rounded half away from zero and limited to [lo, hi] (R321). -/
def roundClamp (lo hi : Nat) (z : Int) (d : Nat) : Nat := (clampInt lo hi (roundDiv z d)).toNat

/-! ### Reading a surface (R286, R322, R323) -/

/-- 8 bits widened to 10 (R286). -/
def widen8 (v : Nat) : Nat := 4 * v + v / 64

/-- A sample of a plane whose rows start at base: 10 bits tri-packed, or a byte (Table 12-5). -/
def State.sample (s : State) (fmt base stride col row : Nat) : Nat :=
  if fmt = 6 then widen8 (s.hallByte (base + row * stride + col)).toNat
  else field (s.hallWord (base + row * stride + 4 * (col / 3))) (10 * (col % 3) + 9) (10 * (col % 3))

/-- A value between chroma samples in a direction with half as many of them as luma samples (R322); last is the index of
the last sample. -/
def upsample (centred : Bool) (last : Nat) (c : Nat → Nat) (n : Nat) : Nat :=
  let at_ := fun (k : Nat) => c (min k last)
  let j := n / 2
  if centred then
    if n % 2 = 0 then (3 * at_ j + at_ (j - 1) + 2) / 4 else (3 * at_ j + at_ (j + 1) + 2) / 4
  else if n % 2 = 0 then at_ j else (at_ j + at_ (j + 1) + 1) / 2

/-- A chroma value at luma position (x, y), horizontally first and then vertically (R322). -/
def State.chroma (s : State) (n base x y : Nat) : Nat :=
  let fmt := s.surfFmt n
  let cw := chromaW fmt (s.surfW n)
  let ch := chromaH fmt (s.surfH n)
  let centred := s.flag (surfWord n 4) 27 && decide (5 ≤ fmt)
  let across := fun (row : Nat) =>
    if fmt = 3 then s.sample fmt base (s.stride1 n) x row
    else upsample centred (cw - 1) (fun k => s.sample fmt base (s.stride1 n) k row) x
  if fmt = 3 ∨ fmt = 4 then across y else upsample centred (ch - 1) across y

/-- The rows of a matrix preset: coefficients by row and column (Table 14-2). -/
def presetMatrix (p : Nat) : List Int :=
  if p = 1 then [4783, 0, 6557, 4783, -1609, -3340, 4783, 8287, 0]
  else if p = 3 then [4783, 0, 6896, 4783, -770, -2672, 4783, 8799, 0]
  else [4783, 0, 7365, 4783, -876, -2189, 4783, 8678, 0]

/-- The matrix, input and output offsets in force (R323). -/
def State.csc (s : State) : List Int × List Int × List Int :=
  let p := s.ffld Reg.PIPE_CFG 2 0
  if p = 0 then
    let half := fun (i : Nat) => signed 16 (s.ffld (Reg.PIPE_CSC_C + 4 * (i / 2)) (16 * (i % 2) + 15) (16 * (i % 2)))
    let inp := s.inForce Reg.PIPE_CSC_IN
    let out := s.inForce Reg.PIPE_CSC_OUT
    ((List.range 9).map half, [field inp 9 0, field inp 19 10, field inp 29 20],
      [signed 10 (field out 9 0), signed 10 (field out 19 10), signed 10 (field out 29 20)])
  else (presetMatrix p, [64, 512, 512], [0, 0, 0])

/-- The colour matrix (R323). -/
def State.toRgb (s : State) (c : Col) : Col :=
  let (m, i, o) := s.csc
  let g := fun (l : List Int) (k : Nat) => l.getD k 0
  let out := fun (row : Nat) =>
    (clampInt 0 1023 (roundDiv (g m (3 * row) * (c.r - g i 0) + g m (3 * row + 1) * (c.g - g i 1) +
      g m (3 * row + 2) * (c.b - g i 2)) 4096 + g o row)).toNat
  { r := out 0, g := out 1, b := out 2 }

/-- Pixel (x, y) of a buffer as 10-bit RGB (R286, R320). -/
def State.surfPixel (s : State) (n b x y : Nat) : Col :=
  let fmt := s.surfFmt n
  let base := s.bufBase n b
  let row := base + y * s.stride0 n
  if fmt = 0 then colOf (s.hallWord (row + 4 * x))
  else if fmt = 1 then
    { r := widen8 (s.hallByte (row + 3 * x)).toNat, g := widen8 (s.hallByte (row + 3 * x + 1)).toNat,
      b := widen8 (s.hallByte (row + 3 * x + 2)).toNat }
  else if fmt = 2 then
    let v := (s.hallByte (row + 2 * x)).toNat + 256 * (s.hallByte (row + 2 * x + 1)).toNat
    { r := 32 * (v / 2048 % 32) + v / 2048 % 32, g := 16 * (v / 32 % 64) + v / 32 % 64 / 4,
      b := 32 * (v % 32) + v % 32 }
  else
    let p1 := base + s.fld (surfWord n 3) 22 0
    let p2 := p1 + s.stride1 n * chromaH fmt (s.surfH n)
    s.toRgb { r := s.sample fmt base (s.stride0 n) x y, g := s.chroma n p1 x y, b := s.chroma n p2 x y }

/-! ### The face (R372, R373, R377, R378) -/

/-- Number of cells of field f. -/
def State.faceCells (s : State) (f : Nat) : Nat := min 8 (max 1 (s.ffld (faceField f 1) 7 4))

/-- The box of field f in panel pixels. -/
def State.faceBox (s : State) (f : Nat) : Rect :=
  let w0 := s.inForce (faceField f 0)
  let w2 := s.inForce (faceField f 2)
  let x := field w0 11 0
  let y := field w0 27 16
  { x0 := x, y0 := y, x1 := x + s.faceCells f * field w2 7 0 - 1, y1 := y + field w2 15 8 - 1 }

/-- A pixel lies in a rectangle. -/
def Rect.has (r : Rect) (x y : Nat) : Bool := decide (r.x0 ≤ x) && decide (x ≤ r.x1) && decide (r.y0 ≤ y) && decide (y ≤ r.y1)

/-- The value that field f shows: the one it was last evaluated to. -/
def State.faceShown (s : State) (f : Nat) : Nat := Cells.get (fun _ => 0) s.face.value f

/-- The glyph of cell i of field f; none where the cell is blank (R377). -/
def State.faceGlyph (s : State) (f i : Nat) : Option Nat :=
  let w1 := s.inForce (faceField f 1)
  let base := field w1 19 12
  let v := s.faceShown f
  let n := s.faceCells f
  if bit w1 9 then if i = 0 ∧ base + v ≤ 255 then some (base + v) else none
  else
    let v' := v % 10 ^ n
    let rest := v' / 10 ^ (n - 1 - i)
    if !bit w1 8 && rest == 0 && decide (i + 1 < n) then none else some (base + rest % 10)

/-- The index of pixel (cx, cy) of a glyph; 0 beyond its size and beyond the atlas (R372, R378). -/
def State.glyphIndex (s : State) (g cx cy : Nat) : Nat :=
  let d := s.inForce (Reg.FACE_GLYPH + 4 * g)
  let w := field d 19 13 + 1
  let h := field d 26 20 + 1
  let a := field d 12 0 + cy * ((w + 9) / 10) + cx / 10
  if w ≤ cx ∨ h ≤ cy ∨ 8191 < a then 0 else field (s.aoWord a) (3 * (cx % 10) + 2) (3 * (cx % 10))

/-- Field f is rendered: enabled, and it fits the panel (R389). -/
def State.faceFits (s : State) (f : Nat) : Bool := s.faceEn f && !s.face.unfit.contains f

/-- The palette index at panel pixel (x, y): none outside every box (R378). -/
def State.faceIndex (s : State) (x y : Nat) : Option Nat :=
  match (List.range 12).find? (fun f => s.faceFits f && (s.faceBox f).has x y) with
  | some f =>
    let w2 := s.inForce (faceField f 2)
    let cw := max 1 (field w2 7 0)
    let b := s.faceBox f
    match s.faceGlyph f ((x - b.x0) / cw) with
    | some g => some (s.glyphIndex g ((x - b.x0) % cw) (y - b.y0))
    | none => some 0
  | none => none

/-- The face's colour at a panel pixel; none where it is transparent (R373). -/
def State.facePixel (s : State) (x y : Nat) : Option Col :=
  match s.faceIndex x y with
  | some i => if i = 0 ∧ s.fflag Reg.FACE_CFG 2 then none else some (colOf (s.inForce (Reg.FACE_PAL + 4 * i)))
  | none => none

/-! ### Layer blend (R302, R324) -/

/-- The surface of MAIN (0) or OVERLAY (1) if that layer is scanned: enabled, with a shown buffer; an OVERLAY only as RGB30
with ALPHA (R302). -/
def State.layerSurf (s : State) (ovl : Bool) : Option (Nat × Nat) :=
  let l := s.inForce Reg.SCAN_LAYERS
  let n := if ovl then field l 10 8 else field l 2 0
  let on := if ovl then bit l 11 else bit l 3
  if on && s.surfEn n && (!ovl || (s.surfFmt n == 0 && s.flag (surfWord n 4) 28)) then
    (s.surf n).front.map (fun b => (n, b))
  else none

/-- A layer is skipped in a frame (R302). -/
def State.layerSkipped (s : State) : Bool := (s.layerSurf false).isNone || (s.layerSurf true).isNone

/-- The blend of the layers at panel pixel (x, y): stage 3 (R324). -/
def State.blend (s : State) (x y : Nat) : Col :=
  let bg := colOf (s.inForce Reg.PIPE_BG)
  let main := match (if s.scan.hidden then none else s.layerSurf false) with
    | some (n, b) => if x < s.surfW n ∧ y < s.surfH n then s.surfPixel n b x y else bg
    | none => bg
  let ovl := match (if s.scan.hidden then none else s.layerSurf true) with
    | some (n, b) =>
      let p := s.inForce Reg.SCAN_OVL_POS
      let ox := field p 11 0
      let oy := field p 27 16
      if ox ≤ x ∧ oy ≤ y ∧ x - ox < s.surfW n ∧ y - oy < s.surfH n then
        let w := s.hallWord (s.bufBase n b + (y - oy) * s.stride0 n + 4 * (x - ox))
        let a := field w 31 30
        let o := colOf w
        { r := (a * o.r + (3 - a) * main.r + 1) / 3, g := (a * o.g + (3 - a) * main.g + 1) / 3,
          b := (a * o.b + (3 - a) * main.b + 1) / 3 }
      else main
    | none => main
  match (if s.fflag Reg.FACE_CFG 0 && s.fflag Reg.FACE_CFG 1 then s.facePixel x y else none) with
  | some c => c
  | none => ovl

/-- What a face push or full-frame frame sends at a pixel before stage 4: the face, and BG where it is transparent
(R373, R380, R381). -/
def State.faceOnly (s : State) (x y : Nat) : Col := (s.facePixel x y).getD (colOf (s.inForce Reg.FACE_BG))

/-! ### Gamma, demura, overdrive, brightness, dither (R325 to R338) -/

/-- Stage 4 (R320, R325). -/
def State.gamma (s : State) (c : Col) : Col :=
  if s.fflag Reg.PIPE_CFG 4 then c.map (fun ch v => s.ffld (Reg.PIPE_GAMMA_TAB + 0x1000 * ch + 4 * (v % 1024)) 11 0)
  else c.map (fun _ v => 4 * v + v / 256)

/-- HACTIVE in force. -/
def State.hActive (s : State) : Nat := s.ffld Reg.SCAN_ACTIVE 11 0

/-- VACTIVE in force. -/
def State.vActive (s : State) : Nat := s.ffld Reg.SCAN_ACTIVE 27 16

/-- RANK in force (Table 14-6). -/
def State.dmRank (s : State) : Nat := min 16 (max 1 (s.ffld Reg.PIPE_DM_CFG 4 0))

/-- Bytes of a map row (R326). -/
def State.dmRow (s : State) : Nat := 4 * ((s.dmRank + 2) / 3)

/-- Value k of row i of a map whose rows start at base (R326). -/
def State.dmValue (s : State) (base i k : Nat) : Int :=
  signed 10 (field (s.hallWord (base + i * s.dmRow + 4 * (k / 3))) (10 * (k % 3) + 9) (10 * (k % 3)))

/-- The sum of map m at (x, y) (R326). -/
def State.dmSum (s : State) (m x y : Nat) : Int :=
  let u := s.ffld Reg.PIPE_DM_BASE 22 0 + m * s.vActive * s.dmRow
  let v := s.ffld (Reg.PIPE_DM_BASE + 4) 22 0 + m * s.hActive * s.dmRow
  (List.range s.dmRank).foldl (fun (a : Int) k => a + s.dmValue u y k * s.dmValue v x k) 0

/-- The code that a sum gives (R326). -/
def State.dmRound (s : State) (sum : Int) : Int := clampInt (-512) 511 (roundDiv sum (2 ^ s.ffld Reg.PIPE_DM_CFG 12 8))

/-- The code of map m at (x, y) (R326). -/
def State.dmCode (s : State) (m x y : Nat) : Int := s.dmRound (s.dmSum m x y)

/-- Gain and offset code of a channel from the coarse table (R329). -/
def State.coarse (s : State) (ch x y : Nat) : Int × Int :=
  let a := Reg.PIPE_COARSE + 8 * (32 * (y / 64) + x / 64)
  (signed 10 (s.ffld a (10 * ch + 9) (10 * ch)), signed 10 (s.ffld (a + 4) (10 * ch + 9) (10 * ch)))

/-- Demura with given codes (R328). -/
def demuraWith (g o : Int) (v : Nat) : Nat := (clampInt 0 4095 (v + roundDiv (v * g) 4096 + o)).toNat

/-- DM_MODE in force; 3 acts as 0. -/
def State.dmMode (s : State) : Nat := let m := s.ffld Reg.PIPE_CFG 9 8; if m = 3 then 0 else m

/-- Stage 5: live codes, coarse codes, or nothing (R328 to R330). -/
def State.demura (s : State) (live : Bool) (x y : Nat) (c : Col) : Col :=
  if s.dmMode = 0 then c
  else c.map (fun ch v =>
    if live then demuraWith (s.dmCode ch x y) (s.dmCode (3 + ch) x y) v
    else let e := s.coarse ch x y; demuraWith e.1 e.2 v)

/-- Bytes of an overdrive store entry (R332). -/
def State.odEntry (s : State) : Nat := if s.fflag Reg.PIPE_CFG 13 then 2 else 4

/-- Hall byte of the store entry of (x, y) (R332). -/
def State.odAddr (s : State) (x y : Nat) : Nat := s.ffld Reg.PIPE_OD_BASE 22 0 + s.odEntry * (s.hActive * y + x)

/-- The previous value that the store holds for (x, y) (R332). -/
def State.odPrev (s : State) (x y : Nat) : Col :=
  if s.odEntry = 4 then (colOf (s.hallWord (s.odAddr x y))).map (fun _ v => 4 * v + v / 256)
  else
    let v := (s.hallByte (s.odAddr x y)).toNat + 256 * (s.hallByte (s.odAddr x y + 1)).toNat
    let five := fun (a : Nat) => a * 128 + a * 4 + a / 8
    { r := five (v / 2048 % 32), g := v / 32 % 64 * 64 + v / 32 % 64, b := five (v % 32) }

/-- The bytes that the store takes for a value (R332). -/
def State.odBytes (s : State) (c : Col) : List Byte :=
  if s.odEntry = 4 then wordBytes (packCol (c.map (fun _ v => v / 4)))
  else
    let v := c.r / 128 * 2048 + c.g / 64 * 32 + c.b / 128
    [BitVec.ofNat 8 v, BitVec.ofNat 8 (v / 256)]

/-- Delta D(i, j) of a bank and channel (R333). -/
def State.odDelta (s : State) (bank ch i j : Nat) : Int :=
  signed 13 (s.ffld (0x1A4000 + 0x2000 * bank + 0x800 * ch + 4 * (17 * i + j)) 12 0)

/-- Overdrive of one component (R333). -/
def State.odComp (s : State) (bank ch p c : Nat) : Nat :=
  let pi := p / 256
  let pf := p % 256
  let ci := c / 256
  let cf := c % 256
  let d := s.odDelta bank ch
  let z : Int := ((256 - pf) * (256 - cf) : Nat) * d pi ci + (pf * (256 - cf) : Nat) * d (pi + 1) ci +
    ((256 - pf) * cf : Nat) * d pi (ci + 1) + (pf * cf : Nat) * d (pi + 1) (ci + 1)
  (clampInt 0 4095 (c + roundDiv z 65536)).toNat

/-- Stage 6 with a valid store (R332, R333). -/
def State.overdrive (s : State) (x y : Nat) (c : Col) : Col :=
  let p := s.odPrev x y
  let bank := s.fld Reg.PIPE_STATUS 17 16
  { r := s.odComp bank 0 p.r c.r, g := s.odComp bank 1 p.g c.g, b := s.odComp bank 2 p.b c.b }

/-- Stage 7 (R336). -/
def State.brightness (s : State) (c : Col) : Col := c.map (fun _ v => (v * s.fld Reg.PIPE_GAIN_EFF 12 0 + 2048) / 4096)

/-- The output depth in bits (Table 14-6). -/
def State.depth (s : State) : Nat := let d := s.ffld Reg.PIPE_CFG 17 16; if d = 0 then 6 else if d = 1 then 8 else 10

/-- The dither matrix (Table 14-3). -/
def ditherMatrix : List Nat := [0, 8, 2, 10, 12, 4, 14, 6, 3, 11, 1, 9, 15, 7, 13, 5]

/-- Dither of one value at (x, y) (R337). -/
def ditherValue (on : Bool) (bits phase x y v : Nat) : Nat :=
  let k := 12 - bits
  let ox := if phase = 1 ∨ phase = 2 then 2 else 0
  let oy := if phase = 1 ∨ phase = 3 then 2 else 0
  let m := ditherMatrix.getD (4 * ((y + oy) % 4) + (x + ox) % 4) 0
  let d := if on then m * 2 ^ k / 16 else 2 ^ (k - 1)
  min (2 ^ bits - 1) ((v + d) / 2 ^ k)

/-- The dither phase: 0 without TEMPORAL_EN (R338). -/
def State.ditherPhase (s : State) : Nat := if s.fflag Reg.PIPE_CFG 21 then s.pipe.phase else 0

/-- Stage 8 (R337). -/
def State.dither (s : State) (x y : Nat) (c : Col) : Col :=
  c.map (fun _ v => ditherValue (s.fflag Reg.PIPE_CFG 20) s.depth s.ditherPhase x y v)

/-- What one pixel of a frame yields: its place, the blend, the input of stage 6 and the drive code. -/
structure PixOut where
  x : Nat
  y : Nat
  tap : Col
  mid : Col
  code : Col
  deriving DecidableEq, Repr

/-- Overdrive acts on a frame: enabled, and its store has not been lost (R334, R341). -/
def State.odOn (s : State) : Bool := s.fflag Reg.PIPE_CFG 12 && !s.pipe.storeLost

/-- One pixel through stages 3 to 8. live tells whether its line has live demura codes; od whether stage 6 acts with a valid
store; late whether the Hall did not deliver it in time (R302). -/
def State.pixOut (s : State) (tap : Col) (live od late : Bool) (x y : Nat) : PixOut :=
  let t : Col := if late then { r := 0, g := 0, b := 0 } else tap
  let mid := s.demura live x y (s.gamma t)
  let out := s.dither x y (s.brightness (if od then s.overdrive x y mid else mid))
  { x := x, y := y, tap := t, mid := mid, code := if late then { r := 0, g := 0, b := 0 } else out }

/-- The panel pixels of a rectangle in raster order. -/
def Rect.points (r : Rect) : List (Nat × Nat) :=
  (List.range (r.y1 + 1 - r.y0)).flatMap (fun j => (List.range (r.x1 + 1 - r.x0)).map (fun i => (r.x0 + i, r.y0 + j)))

/-- The whole active area in force. -/
def State.activeRect (s : State) : Rect := wholeRect s.hActive s.vActive

/-! ### Statistics and signatures (R312, R315) -/

/-- Luma of a pixel (R315). -/
def luma (c : Col) : Nat := (54 * c.r + 183 * c.g + 19 * c.b + 128) / 256

/-- The signature of pixels in raster order (R312). -/
def signature (ps : List Col) : Word := crc32 (ps.flatMap (fun c => wordBytes (packCol c)))

/-- The area of a watcher: the whole active area for 0, else its rectangle clipped; none where that is empty (R312). -/
def State.watchArea (s : State) (w : Nat) : Option Rect :=
  if w = 0 then some s.activeRect
  else
    let a := Reg.SCAN_WATCH_RECT0 + 8 * (w - 1)
    (rectOf (s.inForce a) (s.inForce (a + 4))).clip s.hActive s.vActive

/-- The signature of watcher w over the pixels sent; none where no pixel of its area was sent (R312). -/
def State.watchSig (s : State) (w : Nat) (px : List PixOut) : Option Word :=
  match s.watchArea w with
  | some r =>
    let ps := (px.filter (fun p => r.has p.x p.y)).map (·.tap)
    if ps.isEmpty then none else some (signature ps)
  | none => none

/-- Statistics of a frame's pixels (R315). -/
def frameStats (frame gen : Nat) (sigs : List Word) (px : List PixOut) : StatSet :=
  let ys := px.map (fun p => luma p.tap)
  let n := ys.length
  { frame := frame, gen := gen, count := n
    apl := if n = 0 then 0 else (2 * ys.foldl (· + ·) 0 + n) / (2 * n)
    max := ys.foldl max 0
    hist := (List.range 32).map (fun b => (ys.filter (fun y => y / 32 == b)).length)
    sigs := sigs }

end Sys2Proof.Machine
end

