-- ==== Sys2Proof/Machine/Stave.lean ====
section
/-!
DEFINITION. The Stave link and panel power (15): lanes and packets, gate outputs, the bandwidth check, training and link
states, the power-on and power-off steps, the crack loop, and the STAVE verbs.
-/

namespace Sys2Proof.Machine

/-! ### State -/

/-- STAVE's state beside its registers replaced. -/
def State.setStave (s : State) (x : Stave) : State := { s with stave := x }

/-- STATUS.LINK (Table 15-6). -/
def State.link (s : State) : Nat := s.fld Reg.STAVE_STATUS 2 0

/-- The link takes a state. -/
def State.setLink (s : State) (c : Nat) : State := s.setFld Reg.STAVE_STATUS 2 0 c

/-- PWR_STATE.STATE. -/
def State.panel (s : State) : Nat := s.fld Reg.STAVE_PWR_STATE 2 0

/-- The panel power state changes, with EV_PANEL_POWER (Table 15-13). -/
def State.setPanel (s : State) (c : Nat) : State :=
  if s.panel = c then s
  else
    let s1 := s.setFld Reg.STAVE_PWR_STATE 2 0 c
    s1.raise 94 (s1.reg Reg.STAVE_PWR_STATE &&& 0xFFF#32)

/-- The PNL_EN pads of a mask driven, as PWR_STATE.EN shows them; their latches are released (R43, R363). -/
def State.drivePanel (s : State) (m v : BitVec 4) : State :=
  let en := (s.pins.pnlEn &&& ~~~m) ||| (v &&& m)
  let latched := s.pins.pnlLatched &&& ~~~m
  let s1 : State := { s with pins := { s.pins with pnlEn := en, pnlLatched := latched } }
  (s1.setFld Reg.DEV_PAD_LATCH 15 12 (s.fld Reg.DEV_PAD_LATCH 15 12 &&& latched.toNat)).setFld Reg.STAVE_PWR_STATE 11 8 en.toNat

/-- PNL_PG reads high. -/
def State.pnlPg (s : State) : Bool := s.pins.pg.getLsbD 12

/-- EV_STAVE_LINK (Table 15-13). -/
def State.linkEvent (s : State) (cause : Nat) : State :=
  s.raise 92 (word (s.link + 16 * cause + 0x10000 * s.fld Reg.STAVE_LINK_STAT 15 0))

/-! ### Timing in force (R298) -/

/-- HTOTAL of a SCAN set (R298). -/
def hTotal (sc : Nat → Word) : Nat :=
  let h := sc Reg.SCAN_HTIM
  field (sc Reg.SCAN_ACTIVE) 11 0 + field h 9 0 + field h 19 10 + field h 29 20

/-- VTOTAL of a SCAN set (R298). -/
def vTotal (sc : Nat → Word) : Nat :=
  let v := sc Reg.SCAN_VTIM
  field (sc Reg.SCAN_ACTIVE) 27 16 + field v 9 0 + field v 19 10 + field v 29 20

/-- PIXDIV of a SCAN set. -/
def pixDiv (sc : Nat → Word) : Nat := field (sc Reg.SCAN_CLASS) 23 16

/-- CLASS in force (Table 13-2). -/
def State.panelClass (s : State) : Nat := s.ffld Reg.SCAN_CLASS 1 0

/-- HOLD in force. -/
def State.holds (s : State) : Bool := s.fflag Reg.SCAN_CLASS 4

/-- LADDER_CFG.TUTTI_FREQ in MHz (R69); codes above 4 act as 4. -/
def State.tuttiMHz (s : State) : Nat := 400 / 2 ^ min 4 (s.fld Reg.DEV_LADDER_CFG 2 0)

/-- T_base of the set in force in cycles. -/
def State.baseCycles (s : State) : Nat := pixDiv s.inForce * hTotal s.inForce * vTotal s.inForce

/-- T_base at TUTTI_FREQ in µs, rounded up. -/
def State.baseUs (s : State) : Nat := (s.baseCycles + s.tuttiMHz - 1) / s.tuttiMHz

/-! ### Lanes and the bandwidth check (R347, R355) -/

/-- Lanes per driver of a STAVE set (Table 15-12). -/
def lanesPer (st : Nat → Word) : Nat := 2 ^ field (st Reg.STAVE_CFG) 5 4

/-- W_d of a STAVE set. -/
def drvWidth (st : Nat → Word) (d : Nat) : Nat :=
  let w := if d < 2 then st Reg.STAVE_DRV_W01 else st Reg.STAVE_DRV_W23
  if d % 2 = 0 then field w 8 0 else field w 24 16

/-- The drivers in use. -/
def drivers (st : Nat → Word) : Nat := field (st Reg.STAVE_CFG) 1 0 + 1

/-- A lane in use: its number, its driver, its place within the driver, the first channel it carries and how many. -/
structure Lane where
  lane : Nat
  drv : Nat
  sub : Nat
  ch0 : Nat
  nch : Nat
  deriving DecidableEq, Repr

/-- The lanes of a STAVE set with the channels they carry (R347). -/
def lanesOf (st : Nat → Word) : List Lane :=
  let l := lanesPer st
  (List.range (drivers st)).flatMap (fun d =>
    let n := 3 * drvWidth st d
    let chunk := 4 * ((n + 4 * l - 1) / (4 * l))
    (List.range l).map (fun j =>
      { lane := d * l + j, drv := d, sub := j, ch0 := j * chunk, nch := min n ((j + 1) * chunk) - min n (j * chunk) }))

/-- The bytes of n channels of b bits (R351). -/
def payloadBytes (n b : Nat) : Nat := (n * b + 7) / 8

/-- Condition 2 of the bandwidth check for a pixel divider (R355). -/
def slotsFit (sc st : Nat → Word) (b div : Nat) : Bool :=
  let h := sc Reg.SCAN_HTIM
  let slots := 2 * div * hTotal sc / 5
  let most := (lanesOf st).foldl (fun m l => max m (payloadBytes l.nch b)) 0
  decide (most + 15 ≤ slots) && decide (64 ≤ slots) &&
    (field (sc Reg.SCAN_CLASS) 1 0 != 2 ||
      (decide (15 * b ≤ 16 * div) && decide (85 ≤ 2 * div * (field h 9 0 + field h 19 10 + field h 29 20))))

/-- The code of the first condition that a STAVE set and a SCAN set fail together at depth b; 0 where they pass (R355). -/
def bandwidthCode (sc st : Nat → Word) (b : Nat) : Nat :=
  let used := List.range (drivers st)
  let gate := st Reg.STAVE_GATE_CFG
  let tim := st Reg.STAVE_GATE_TIM
  if field (sc Reg.SCAN_CLASS) 1 0 = 0 then 0
  else if !(field (st Reg.STAVE_CFG) 5 4 != 3 && decide (drivers st * lanesPer st ≤ 4) &&
      used.all (fun d => decide (1 ≤ drvWidth st d ∧ drvWidth st d ≤ 320)) &&
      used.foldl (fun n d => n + drvWidth st d) 0 == field (sc Reg.SCAN_ACTIVE) 11 0) then 1
  else if !slotsFit sc st b (pixDiv sc) then 2
  else if !(decide (field gate 6 4 + 1 ≤ field (sc Reg.SCAN_VTIM) 29 20) && decide (field gate 9 8 + 1 < field gate 2 0 + 1) &&
      decide (field tim 10 0 < hTotal sc) && decide (field tim 26 16 < hTotal sc) && decide (field gate 23 16 < hTotal sc)) then 3
  else 0

/-! ### Lane delays (R348) -/

/-- The delay of lane n before its clamp, in taps (R348). -/
def State.laneDelay (s : State) (n : Nat) : Int :=
  let skew := signed 8 (s.ffld Reg.STAVE_BSKEW (8 * n + 7) (8 * n))
  (s.item 4).applied.getD n 16 + roundDiv (skew * s.coreMHz * 128) 100000

/-- The delays are recomputed: DLY_APPLIED, and SKEW_CLAMP where one is clamped (R348). -/
def State.setDelays (s : State) : State :=
  (List.range 4).foldl (fun s n =>
    let d := s.laneDelay n
    let c := clampInt 0 63 d
    let s1 := s.setFld Reg.STAVE_DLY_APPLIED (8 * n + 5) (8 * n) c.toNat
    if c = d then s1 else s1.setFlag Reg.STAVE_STATUS 6 true) s

/-! ### Packets (R349 to R353) -/

/-- One byte into CRC-16 CCITT (R350). -/
def crc16Byte (c : Nat) (b : Byte) : Nat :=
  (List.range 8).foldl (fun c _ => if 0x8000 ≤ c then (2 * c ^^^ 0x1021) % 65536 else 2 * c) (c ^^^ (b.toNat * 256))

/-- The CRC of a packet (R350). -/
def crc16 (bs : List Byte) : Nat := bs.foldl crc16Byte 0xFFFF

/-- A byte of a number. -/
def byteAt (v i : Nat) : Byte := BitVec.ofNat 8 (v / 256 ^ i)

/-- The bytes of a packet between SOP and EOP: header, payload, CRC (R349, R350, Table 15-3). -/
def packetBytes (type : Nat) (l : Lane) (seq row depth ch0 nch : Nat) (payload : List Byte) : List Byte :=
  let r := row % 4096 + 4096 * depth
  let body := [byteAt (type + 16 * l.drv + 64 * l.sub) 0, byteAt seq 0, byteAt r 0, byteAt r 1, byteAt (ch0 % 1024) 0,
    byteAt (ch0 % 1024) 1, byteAt (nch % 1024) 0, byteAt (nch % 1024) 1] ++ payload
  let c := crc16 body
  body ++ [byteAt c 0, byteAt c 1]

/-- Channels of b bits packed, channel 0 in the lowest bits (R351). -/
def packChannels (b : Nat) (cs : List Nat) : List Byte :=
  let v := cs.reverse.foldl (fun a c => a * 2 ^ b + c) 0
  (List.range (payloadBytes cs.length b)).map (byteAt v)

/-- DEPTH of the header in force (Table 15-3). -/
def State.depthCode (s : State) : Nat := (s.depth - 6) / 2

/-- A packet sent on a lane in a line: its SEQ counts it (R350). -/
def State.sendPacket (s : State) (line : Option Nat) (type : Nat) (l : Lane) (row ch0 nch : Nat) (payload : List Byte) : State :=
  let seq := Cells.get (fun _ => 0) s.stave.seq l.lane
  s.setStave { s.stave with
    seq := Cells.put (fun _ => 0) s.stave.seq l.lane ((seq + 1) % 256)
    sent := s.stave.sent ++
      [{ line := line, lane := l.lane, bytes := packetBytes type l seq row s.depthCode ch0 nch payload }] }

/-- The lanes enabled in force. -/
def State.lanes (s : State) : List Lane := lanesOf s.inForce

/-- A CONTROL packet on every lane (R351, Table 15-4). -/
def State.sendControl (s : State) (line : Option Nat) (code arg : Nat) (more : List Byte) : State :=
  s.lanes.foldl (fun s l => s.sendPacket line 4 l 0 0 0 ([byteAt code 0, byteAt arg 0, byteAt arg 1, byteAt arg 2] ++ more)) s

/-- GAMMA_REF with the eight codes in force (Table 15-4). -/
def State.sendGammaRef (s : State) (line : Option Nat := none) : State :=
  let s1 := s.sendControl line 4 0 ((List.range 4).flatMap (fun k => wordBytes (s.inForce (Reg.STAVE_GAMMA_REF + 4 * k))))
  s1.setStave { s1.stave with gammaDue := false }

/-- A GAMMA_REF that is due is sent. -/
def State.sendDueGamma (s : State) (line : Option Nat := none) : State :=
  if s.stave.gammaDue then s.sendGammaRef line else s

/-- Lines that carry nothing else: an IDLE packet on every lane in each of n lines from a line on (R352). -/
def State.sendIdleLines (s : State) (line n : Nat) : State :=
  (List.range n).foldl (fun s i => s.lanes.foldl (fun s l => s.sendPacket (some (line + i)) 5 l 0 0 0 []) s) s

/-- The channels of a driver from the pixels of a row: component c of its pixel p is channel 3p + c (R347). -/
def State.driverChannels (s : State) (d : Nat) (row : List PixOut) : List (Nat × Nat) :=
  let x0 := (List.range d).foldl (fun n k => n + drvWidth s.inForce k) 0
  row.flatMap (fun p =>
    if x0 ≤ p.x ∧ p.x < x0 + drvWidth s.inForce d then
      let c := 3 * (p.x - x0)
      [(c, p.code.r), (c + 1, p.code.g), (c + 2, p.code.b)]
    else [])

/-- The packets of a panel row sent in a line: LINE (2) with all channels of a lane, or REGION (3) with those that the row
carries, on the lanes that have any (R352, R353). -/
def State.sendRow (s : State) (type line y : Nat) (row : List PixOut) : State :=
  s.lanes.foldl (fun s l =>
    let cs := (s.driverChannels l.drv row).filter (fun e => decide (l.ch0 ≤ e.1) && decide (e.1 < l.ch0 + l.nch))
    match cs with
    | [] => s
    | e :: _ => s.sendPacket (some line) type l y e.1 cs.length (packChannels s.depth (cs.map (·.2)))) s

/-- The rows of a rectangle's pixels, top row first. -/
def rowsOf (r : Rect) (px : List PixOut) : List (Nat × List PixOut) :=
  let w := r.x1 + 1 - r.x0
  (List.range (r.y1 + 1 - r.y0)).map (fun i => (r.y0 + i, (px.drop (i * w)).take w))

/-- What the part sends is received: the link is up and the panel powered. -/
def State.linkSends (s : State) : Bool := (s.link == 2 || s.link == 3) && (s.panel == 2 || s.panel == 3)

/-- The frame line of active line 0: L_0 = VSYNC + VBP (15, "Line and gate timing"). -/
def State.firstActive (s : State) : Nat := s.ffld Reg.SCAN_VTIM 19 10 + s.ffld Reg.SCAN_VTIM 29 20

/-- The packets of a RASTER frame up to its boundary: POLARITY and a due GAMMA_REF in line 0, LINE packets in the order of
GDIR, IDLE packets in the other lines (R352). pol is the polarity bit. -/
def State.sendRaster (s : State) (pol : Nat) (px : List PixOut) : State :=
  if s.linkSends then
    let l0 := s.firstActive
    let rows := rowsOf s.activeRect px
    let s1 := ((s.setStave { s.stave with sent := [] }).sendControl (some 0) 3
      (if s.fflag Reg.STAVE_CFG 8 then pol % 2 else 0) []).sendDueGamma (some 0)
    let s2 := ((if s1.fflag Reg.STAVE_CFG 9 then rows.reverse else rows).zipIdx).foldl
      (fun (s : State) (e : (Nat × List PixOut) × Nat) => s.sendRow 2 (l0 - 1 + e.2) e.1.1 e.1.2)
      (s1.sendIdleLines 1 (l0 - 2))
    s2.sendIdleLines (l0 - 1 + rows.length) 1
  else s.setStave { s.stave with sent := [] }

/-- The packets of a REGION push of a rectangle (R353). -/
def State.sendRegion (s : State) (r : Rect) (px : List PixOut) : State :=
  if s.linkSends then
    (rowsOf r px).foldl (fun (s : State) (e : Nat × List PixOut) => s.sendRow 3 (e.1 - r.y0) e.1 e.2) s
  else s

/-- A trained lane that has sent nothing for 4096 slots sends an IDLE packet (R353). -/
def execStaveIdlePacket (lane : BitVec 2) (s : State) : Host.Outcome State Fault Refusal :=
  .next (match s.lanes.find? (fun l => l.lane == lane.toNat) with
    | some l => if s.link = 2 ∨ s.link = 3 then s.sendPacket none 5 l 0 0 0 [] else s
    | none => s)

/-- What a lane sends in a symbol slot: a control symbol of Table 15-2, or a data byte (R349). -/
inductive LaneSymbol where
  | comma
  | sop
  | eop
  | strobe
  | data (b : Byte)
  deriving DecidableEq, Repr

/-- The symbols of a packet (R349). -/
def packetSymbols (bs : List Byte) : List LaneSymbol := .sop :: bs.map .data ++ [.eop]

/-- A line carries a STROBE: the lines L_a of a RASTER frame that scan-out sends with the link in RUN (R354). -/
def State.strobes (s : State) (line : Nat) : Bool :=
  s.panelClass == 1 && s.link == 2 && decide (s.firstActive ≤ line) && decide (line < s.firstActive + s.vActive)

/-- The symbols of a lane in a frame line, or in the row time of a push, from slot 0 to the end of its packets: STROBE or COMMA
at slot 0, packets from slot 3 on with two COMMA symbols after each; COMMA fills the rest of the line (R349, R352 to R354).
Other lanes are in electrical idle (R346). -/
def State.lineSymbols (s : State) (lane line : Nat) : List LaneSymbol :=
  if s.lanes.any (fun l => l.lane == lane) && (s.link == 2 || s.link == 3) then
    (if s.strobes line then .strobe else .comma) :: .comma :: .comma ::
      (s.stave.sent.filter (fun p => p.line == some line && p.lane == lane)).flatMap
        (fun p => packetSymbols p.bytes ++ [.comma, .comma])
  else []

/-- The payload of a TRAIN packet (R351). -/
def trainPayload : List Byte := (List.range 16).map (fun i => if i % 2 = 0 then 0x4A#8 else 0xB5#8)

/-- The bytes of TRAIN packet k of a training on a lane (R350, R356). -/
def State.trainPacket (s : State) (l : Lane) (k : Nat) : List Byte :=
  packetBytes 1 l (k % 256) 0 s.depthCode 0 0 trainPayload

/-! ### Gate outputs (R354, Table 15-5) -/

/-- The active line that carries a panel row, by GDIR (R352). -/
def State.lineOfRow (s : State) (y : Nat) : Nat := if s.fflag Reg.STAVE_CFG 9 then s.vActive - 1 - y else y

/-- The gate outputs. -/
inductive Gate where
  | gsp
  | gen
  | gck (n : Nat)
  deriving DecidableEq, Repr

/-- The gate scan runs in a frame line: in a RASTER frame of scan-out with the link in RUN, in a full-frame frame of the face, and
in a face push up to the line after the one that carries its last row (R354, R380, R381). -/
def State.gateScans (s : State) (f : Nat) : Bool :=
  s.fflag Reg.STAVE_CFG 12 && s.panelClass == 1 &&
    ((s.scan.running && s.link == 2) ||
      (match s.face.pushing with
       | some p => p.full || p.rows.any (fun y => decide (f ≤ s.firstActive + s.lineOfRow y))
       | none => false))

/-- GEN may be high in the active line of a row: in a face push only in those of the rows pushed (R380). -/
def State.genRow (s : State) (a : Nat) : Bool :=
  match s.face.pushing with
  | some p => p.full || p.rows.any (fun y => s.lineOfRow y == a)
  | none => true

/-- The level of a gate output in frame line f, p pixel periods after the line's start (Table 15-5). -/
def State.gateLevel (s : State) (g : Gate) (f p : Nat) : Bool :=
  let c := s.inForce Reg.STAVE_GATE_CFG
  let t := s.inForce Reg.STAVE_GATE_TIM
  let l0 := s.firstActive
  let rows := s.vActive
  let h := hTotal s.inForce
  let at_ := f * h + p
  s.gateScans f && (match g with
    | .gsp => decide ((l0 - (field c 6 4 + 1)) * h + field t 10 0 ≤ at_) && decide (at_ < l0 * h + field t 26 16)
    | .gen => decide (l0 ≤ f) && decide (f < l0 + rows) && decide (field c 23 16 ≤ p) && s.genRow (f - l0)
    | .gck n => decide (n < field c 2 0 + 1) && (List.range rows).any (fun a => a % (field c 2 0 + 1) == n &&
        decide ((l0 + a) * h + field t 10 0 ≤ at_) && decide (at_ < (l0 + a + field c 9 8 + 1) * h + field t 26 16)))

/-- GDIR as STAVE drives it: CFG.GDIR while the panel is powered, low otherwise (R354); State.padState has the pad. -/
def State.gdir (s : State) : Bool := s.fflag Reg.STAVE_CFG 9 && (s.panel == 1 || s.panel == 2 || s.panel == 3 || s.panel == 4)

/-! ### Training (R356 to R358) -/

/-- Training starts: the link is TRAINING, and lanes count their packets anew. -/
def State.startTraining (s : State) (cause : Nat) : State :=
  ((s.setLink 1).bump Reg.STAVE_LINK_STAT 15 0).setStave { s.stave with tries := 0, trainCause := cause, seq := [] }

/-- A CORE frequency step while the link is up: the lanes change rate and training restarts; delays follow (R348, R358). -/
def State.staveFreqStep (s : State) : State :=
  let s1 := s.setDelays
  if s1.link = 1 ∨ s1.link = 2 ∨ s1.link = 3 then (s1.startTraining 2).linkEvent 2 else s1

/-- Cause 3 of EV_STAVE_LINK and what follows in the transition: G3 ends. -/
def State.endG3 (s : State) : State :=
  if s.scan.trans = .g3 then { s with scan := { s.scan with trans := .g4, transAt := s.edge } } else s

/-! ### Power-on and power-off (R361 to R364) -/

/-- The rails in use, ascending. -/
def State.usedRails (s : State) : List Nat := maskBits 4 (s.ffld Reg.STAVE_PWR_CFG 3 0)

/-- P4: the crack check where it is enabled, else training (R361); while item 7 measures the check waits (R365). -/
def State.enterP4 (s : State) : State :=
  if s.fflag Reg.STAVE_CRACK_CFG 31 then
    s.setStave { s.stave with
      step := .crack, checking := if (s.item 7).measuring then none else some s.edge, checkAtP4 := true, failedAt := none }
  else (s.setStave { s.stave with step := .training }).startTraining 0

/-- P3: wait for PNL_PG. -/
def State.enterP3 (s : State) : State :=
  let s1 := s.setStave { s.stave with step := .waitPg, stepFrom := s.edge }
  if s1.pnlPg then s1.enterP4 else s1

/-- A rail with its ON_DLY (Table 15-7). -/
def State.railOnDelay (s : State) (n : Nat) : Nat × Nat := (n, s.ffld Reg.STAVE_PWR_ON (8 * n + 7) (8 * n))

/-- A rail with its OFF_DLY, or one tick (Table 15-8, R364). -/
def State.railOffDelay (s : State) (oneTick : Bool) (n : Nat) : Nat × Nat :=
  (n, if oneTick then 1 else s.ffld Reg.STAVE_PWR_OFF (8 * n + 7) (8 * n))

/-- Power-on begins at P1 (Table 15-7). -/
def State.powerOn (s : State) : State :=
  let s1 := (s.setLink 0).setStave { s.stave with step := .raising (s.usedRails.map s.railOnDelay), stepFrom := s.edge, gao := false }
  let s2 := s1.setPanel 1
  if s.usedRails.isEmpty then s2.enterP3 else s2

/-- CAUSE of the last power-off or fault. -/
def State.setCause (s : State) (c : Nat) : State := s.setFld Reg.STAVE_PWR_STATE 7 4 c

/-- A transition that puts CLASS OFF in force ends: EV_TIMING_APPLIED with SCAN.FRAME (R362). -/
def State.endOffTransition (s : State) : State :=
  if s.scan.trans = .off then
    let n := s.reg Reg.SCAN_FRAME
    let s1 := ({ s with scan := { s.scan with trans := .none, running := false, transPages := [] } } : State)
    let s2 := (s1.setFlag Reg.SCAN_STATE 10 false).setFlag Reg.SCAN_STATE 11 true
    (s.scan.transPages.foldl (fun s p => s.endCommit p .ok [n]) s2).raise 80 n
  else s

/-- F5: the last rail is low (Table 15-8); a PANEL_RECOVER that waits has failed. -/
def State.endPowerOff (s : State) : State :=
  let fault := s.stave.offFault
  let s1 := (s.setStave { s.stave with step := .none }).setPanel (if fault then 5 else 0)
  (s1.completeAll .panelOn .halted [s1.reg Reg.STAVE_PWR_STATE]).endOffTransition

/-- F3 and the start of F4: GAO low, the link OFF unless it FAILED, rails to be lowered in descending order. -/
def State.enterF3 (s : State) (oneTick : Bool) : State :=
  let rails := s.usedRails.reverse.map (s.railOffDelay oneTick)
  let s1 := s.setStave { s.stave with step := .lowering rails, stepFrom := s.edge, gao := false, checking := none }
  let s2 := if s1.link = 4 then s1 else s1.setLink 0
  if rails.isEmpty then s2.endPowerOff else s2

/-- F2: GAO high for DIS_FRAMES base frame periods (Table 15-8). -/
def State.enterF2 (s : State) : State :=
  s.setStave { s.stave with step := .discharge, stepFrom := s.edge, gao := true, checking := none }

/-- Power-off begins at F1 (Table 15-8): DISCHARGE on a link that is up, the state DISCHARGING. -/
def State.powerOff (s : State) (cause : Nat) (fault : Bool) : State :=
  let s1 := if s.link = 2 ∨ s.link = 3 then s.sendControl none 1 0 [] else s
  (((s1.setStave { s1.stave with offFault := fault }).setCause cause).setPanel 4).enterF2

/-- The fault power-off of R364: rails lowered one tick apart, without F1 and F2. A transition goes on without the panel. -/
def State.faultOff (s : State) (cause : Nat) : State :=
  (((s.setStave { s.stave with offFault := true }).setCause cause).enterF3 true).endG3

/-- ON_DLY_n ticks after the step before, the next rail rises (P2); while CORE is stopped the pads keep their levels (R42). -/
def execPanelRailOn (s : State) : Host.Outcome State Fault Refusal :=
  .next (match s.stave.step with
    | .raising ((n, wait) :: rest) =>
      if s.coreOn ∧ wait ≤ s.elapsed s.stave.stepFrom then
        let s1 := (s.drivePanel (BitVec.ofNat 4 (2 ^ n)) 0xF#4).setStave
          { s.stave with step := .raising rest, stepFrom := s.edge }
        if rest.isEmpty then s1.enterP3 else s1
      else s
    | _ => s)

/-- PNL_PG goes high (P3). -/
def execPnlPgRise (s : State) : Host.Outcome State Fault Refusal :=
  .next (
    let s1 : State := { s with pins := { s.pins with pg := s.pins.pg ||| 0x1000#13 } }
    if s1.coreOn ∧ s1.stave.step = .waitPg then s1.enterP4 else s1)

/-- PNL_PG has not gone high within PG_TIMEOUT ticks (R361). -/
def execPgTimeout (s : State) : Host.Outcome State Fault Refusal :=
  .next (if s.coreOn ∧ s.stave.step = .waitPg ∧ s.ffld Reg.STAVE_PWR_CFG 31 16 ≤ s.elapsed s.stave.stepFrom then s.faultOff 3 else s)

/-- DIS_FRAMES base frame periods of GAO are over (F3). -/
def execDischargeEnd (s : State) : Host.Outcome State Fault Refusal :=
  .next (if s.coreOn ∧ s.stave.step = .discharge ∧ s.usPassed s.stave.stepFrom (s.ffld Reg.SCAN_SR_CFG 23 16 * s.baseUs) then
      s.enterF3 false
    else s)

/-- OFF_DLY_n ticks after the step before, the next rail falls; the last one ends the power-off (F4, F5). While CORE is stopped
the pads keep their levels (R42). -/
def execPanelRailOff (s : State) : Host.Outcome State Fault Refusal :=
  .next (match s.stave.step with
    | .lowering ((n, wait) :: rest) =>
      if s.coreOn ∧ wait ≤ s.elapsed s.stave.stepFrom then
        let s1 := (s.drivePanel (BitVec.ofNat 4 (2 ^ n)) 0#4).setStave
          { s.stave with step := .lowering rest, stepFrom := s.edge }
        if rest.isEmpty then s1.endPowerOff else s1
      else s
    | _ => s)

/-- PNL_PG reads low for 1 µs: from P4 onwards and outside F1 to F5 a supply loss (R364); while CORE is stopped the pad is not
watched (Table 2-5). -/
def execPanelSupplyLoss (s : State) : Host.Outcome State Fault Refusal :=
  .next (
    let s1 : State := { s with pins := { s.pins with pg := s.pins.pg &&& 0xFFF#13 } }
    if s1.coreOn ∧ (s1.stave.step = .crack ∨ s1.stave.step = .training ∨
        (s1.stave.step = .none ∧ (s1.panel = 2 ∨ s1.panel = 3))) then
      s1.faultOff 4
    else s1)

/-- Training succeeds after this many TRAIN packets (R356): the link runs or idles; at P5 the panel gets POWER_UP and
GAMMA_REF and is ON (Table 15-7). -/
def execTrainingSuccess (packets : Nat) (s : State) : Host.Outcome State Fault Refusal :=
  .next (if s.coreOn ∧ s.link = 1 ∧ max 16 (s.ffld Reg.STAVE_TRAIN_CFG 7 0) ≤ packets then
      let seq := s.lanes.foldl (fun m l => Cells.put (fun _ => 0) m l.lane (packets % 256)) []
      let s1 := ((s.setStave { s.stave with seq := seq }).setLink (if s.scan.running then 2 else 3)).setFlag
        Reg.STAVE_STATUS 4 true
      let s2 := s1.linkEvent s1.stave.trainCause
      let s3 := if s2.stave.step = .training then
          let t := ((s2.sendControl none 2 0 []).sendGammaRef)
          let u := (t.setStave { t.stave with step := .none }).setPanel 2
          u.completeAll .panelOn .ok [u.reg Reg.STAVE_PWR_STATE]
        else s2
      s3.endG3
    else s)

/-- A training attempt reaches TIMEOUT packets (R356): it is retried, or the link FAILED and the panel goes off with
cause 7. -/
def execTrainingAttemptTimeout (s : State) : Host.Outcome State Fault Refusal :=
  .next (if s.coreOn ∧ s.link = 1 then
      if s.stave.tries < s.ffld Reg.STAVE_TRAIN_CFG 27 24 then
        s.setStave { s.stave with tries := s.stave.tries + 1, seq := [] }
      else
        let s1 := ((s.setLink 4).linkEvent 3).endG3
        s1.powerOff 7 true
    else s)

/-- LOCK_N has read low for 1 µs while the link is up in TUTTI or MEZZO (R357). -/
def execLockLoss (s : State) : Host.Outcome State Fault Refusal :=
  .next (if (s.link = 2 ∨ s.link = 3) ∧ s.cur ≤ 1 ∧ s.coreOn then
      (((s.bump Reg.STAVE_LINK_STAT 31 16).setFlag Reg.STAVE_STATUS 4 false).startTraining 1).linkEvent 1
    else s)

/-- Rails are being lowered (F4). -/
def State.lowering (s : State) : Bool :=
  match s.stave.step with
  | .lowering _ => true
  | _ => false

/-- FAULT_N has read low for FILT µs (R359); while CORE is stopped the pad is not watched (Table 2-5). -/
def execDriverFault (s : State) : Host.Outcome State Fault Refusal :=
  .next (if !s.coreOn ∨ s.panel = 0 ∨ s.panel = 4 ∨ s.lowering then s
    else
      let act := s.fflag Reg.STAVE_FAULT_CFG 8 && (s.panel == 1 || s.panel == 2 || s.panel == 3)
      let s1 := (s.setFlag Reg.STAVE_STATUS 5 true).raise 93 (word (1 + if act then 2 else 0))
      if act then s1.endG3.powerOff 6 true else s1)

/-! ### Crack loop (R365 to R367) -/

/-- A periodic check falls due (R366). -/
def execCrackCheckDue (s : State) : Host.Outcome State Fault Refusal :=
  .next (
    let p := s.ffld Reg.STAVE_CRACK_CFG 23 16
    match s.stave.lastCheck with
    | some t =>
      if s.fflag Reg.STAVE_CRACK_CFG 31 && decide (0 < p) && decide (p * 60 * 32768 ≤ s.elapsed t) then
        s.setStave { s.stave with checkDue := true }
      else s
    | none => s)

/-- A check may start at a FRAME boundary (R366, R367). -/
def State.checkAllowed (s : State) : Bool :=
  s.fflag Reg.STAVE_CRACK_CFG 31 && decide (s.cur ≤ 1) && (s.panel == 2 || s.panel == 3) && s.pnlPg &&
    s.scan.trans == .none && !(s.item 7).measuring && s.stave.checking.isNone &&
    (match s.stave.failedAt with
     | some t => s.usPassed t 1000
     | none => true)

/-- The self-test place of a FRAME boundary: a due check starts (R23, R366). -/
def State.crackBoundary (s : State) : State :=
  if s.stave.checkDue && s.checkAllowed then
    s.setStave { s.stave with checkDue := false, checking := some s.edge, checkAtP4 := false }
  else s

/-- A crack fault: STATUS.CRACK and EV_CRACK; the panel goes off at P4 and under CRACK_ACT (R367). -/
def State.crackFault (s : State) (r : Nat) : State :=
  let s1 := (s.setFlag Reg.STAVE_STATUS 9 true).raise 95 (word (r + 4))
  let s2 := s1.setStave { s1.stave with failedAt := none }
  if s2.stave.checkAtP4 then s2.faultOff 5
  else if s2.fflag Reg.STAVE_FAULT_CFG 9 then s2.powerOff 5 true else s2

/-- A crack check ends 128 µs after its start with V(CRK_S) of mv against the trimmed reference (R365, R367). -/
def execCrackCheckEnd (mv : Nat) (s : State) : Host.Outcome State Fault Refusal :=
  .next (match s.stave.checking with
    | some t =>
      if s.coreOn ∧ s.usPassed t 128 then
        let r := if 1200 < mv then 2 else if s.ffld Reg.STAVE_CRACK_CFG 11 0 < mv then 1 else 0
        let seq := (s.fld Reg.STAVE_CRACK_RESULT 23 16 + 1) % 256
        let s1 := (s.setReg Reg.STAVE_CRACK_RESULT (word (2 ^ 31 + 0x10000 * seq + r))).setStave
          { s.stave with checking := none, lastCheck := some s.edge }
        let s2 := s1.completeAll .crackCheck .ok [s1.reg Reg.STAVE_CRACK_RESULT]
        if r = 0 then
          let s3 := s2.setStave { s2.stave with failedAt := none }
          if s3.stave.checkAtP4 then (s3.setStave { s3.stave with step := .training }).startTraining 0 else s3
        else if s2.stave.failedAt.isSome then s2.crackFault r
        else (s2.setStave { s2.stave with failedAt := some s2.edge, checkDue := !s2.stave.checkAtP4 }).raise 95 (word r)
      else s
    | none => s)

/-- 1 ms after a failed check at P4 the confirming check starts, and not while item 7 measures (R365, R367). -/
def execConfirmingCheck (s : State) : Host.Outcome State Fault Refusal :=
  .next (match s.stave.failedAt with
    | some t =>
      if s.coreOn ∧ s.stave.step = .crack ∧ s.stave.checking = none ∧ !(s.item 7).measuring ∧ s.usPassed t 1000 then
        s.setStave { s.stave with checking := some s.edge }
      else s
    | none => s)

/-- A check at P4 that had to wait for item 7 starts (R365). -/
def State.crackTick (s : State) : State :=
  if s.coreOn && s.stave.step == .crack && s.stave.checking.isNone && s.stave.failedAt.isNone && !(s.item 7).measuring then
    s.setStave { s.stave with checking := some s.edge }
  else s

/-! ### Hold (R360) -/

/-- The panel is put into hold: the link goes from RUN to IDLE, an ON panel is in HOLD. -/
def State.holdPanel (s : State) : State :=
  let s1 := if s.link = 2 then s.setLink 3 else s
  if s1.panel = 2 then s1.setPanel 3 else s1

/-- Step D7, and the end of a burst that sent pixels: the link goes OFF (R360). -/
def State.linkOff (s : State) : State := if s.link = 4 then s else s.setLink 0

/-! ### Writes and verbs (R371) -/

/-- A write of REQ with RETRAIN: training starts on a powered panel (R356); while one runs it is ignored (R10). -/
def State.staveRetrain (s : State) : State :=
  if s.coreOn && s.link != 1 && (s.panel == 2 || s.panel == 3) && s.stave.step == .none then s.startTraining 0 else s

/-- A write of REQ with CRACK_CHECK: a check is due at once (R366). -/
def State.staveCheck (s : State) : State := s.setStave { s.stave with checkDue := true }

/-- The panel is off after a fault, or its link FAILED (R364). -/
def State.needsRecover (s : State) : Bool := (s.panel == 5 || s.link == 4) && s.stave.step == .none

/-- A write of REQ with RECOVER: the panel is powered on again (R364). -/
def State.staveRecover (s : State) : State := if s.needsRecover then s.powerOn else s

/-- A write of COMMIT of STAVE (R10, R369). -/
def State.staveGo (s : State) (v : Word) : State := if bit v 0 then s.goCommit 11 else s

/-- The table and register offsets that STAVE_SET may name (Table 15-10). -/
def staveOffset (a : Nat) : Bool := (decide (0xB000 ≤ a) && decide (a ≤ 0xB02C)) || (decide (0x1B0000 ≤ a) && decide (a ≤ 0x1B000C))

/-- An offset in the client alias names an RW/S word, and a value sets no reserved bit of it. -/
def aliasOk (a : Nat) (v : Word) : Bool :=
  match regSpec a with
  | some r => r.rws != 0#32 && within v r.rws
  | none => false

/-- STAVE_SET (0x87). -/
def execStaveSet (ring : BitVec 8) (s : State) : Host.Outcome State Fault Refusal :=
  .next (s.runVerb ring.toNat 0x87 (pageRight 11)
    (fun _ v => v.argsWithin [0xFFFFFF#32, 0xFFFFFFFF#32] && staveOffset (v.arg 0).toNat && aliasOk (v.arg 0).toNat (v.arg 1))
    (fun s v => s.stageVerb v 11))

/-- STAVE_COMMIT (0x88). -/
def execStaveCommit (ring : BitVec 8) (s : State) : Host.Outcome State Fault Refusal :=
  .next (s.runVerb ring.toNat 0x88 (pageRight 11) (fun _ v => v.argsWithin []) (fun s v => s.verbCommit v 11))

/-- PANEL_CHECK (0x89). -/
def execPanelCheck (ring : BitVec 8) (s : State) : Host.Outcome State Fault Refusal :=
  .next (s.runVerb ring.toNat 0x89 (pageRight 11) (fun _ v => v.argsWithin [])
    (fun s v => if s.panel = 2 ∨ s.panel = 3 then s.staveCheck.defer v .crackCheck 65536 else s.complete v .halted))

/-- PANEL_RECOVER (0x8A). -/
def execPanelRecover (ring : BitVec 8) (s : State) : Host.Outcome State Fault Refusal :=
  .next (s.runVerb ring.toNat 0x8A (pageRight 11) (fun _ v => v.argsWithin [])
    (fun s v => if s.needsRecover then (s.await v .panelOn 0).powerOn else s.complete v .badArg))

end Sys2Proof.Machine
end

