-- ==== Sys2Proof/Machine/Tensor.lean ====
section
/-!
DEFINITION. The arithmetic of Ensemble jobs (17): descriptors, the checks at issue, the L2 walk, panels and what a desk
tile computes and stores.
-/

namespace Sys2Proof.Machine

/-! ### Descriptors (Tables 17-2 and 17-3) -/

/-- A tensor descriptor. -/
structure Tensor where
  w : List Word
  deriving DecidableEq, Repr

/-- BASE of a tensor. -/
def Tensor.base (t : Tensor) : Nat := field (nth t.w 0) 22 0

/-- SIGNED of a tensor. -/
def Tensor.isSigned (t : Tensor) : Bool := bit (nth t.w 0) 24

/-- WORD32 of a tensor. -/
def Tensor.word32 (t : Tensor) : Bool := bit (nth t.w 0) 25

/-- ROWS of a tensor. -/
def Tensor.rows (t : Tensor) : Nat := field (nth t.w 1) 15 0

/-- STRIDE of a tensor. -/
def Tensor.stride (t : Tensor) : Nat := field (nth t.w 2) 22 0

/-- LEN of a tensor. -/
def Tensor.len (t : Tensor) : Nat := field (nth t.w 3) 15 0

/-- The bytes of an L-element PACK10 row (R409). -/
def rb (l : Nat) : Nat := 4 * ((l + 2) / 3)

/-- The bytes of a row (R392). -/
def Tensor.rowBytes (t : Tensor) : Nat := if t.word32 then 4 * t.len else rb t.len

/-- The bytes from the start of row 0 to the end of the last row (R392). -/
def Tensor.extent (t : Tensor) : Nat := (t.rows - 1) * t.stride + t.rowBytes

/-- Element e of a row lies in the word that starts at this byte (R392). -/
def Tensor.elemAddr (t : Tensor) (row e : Nat) : Nat := t.base + row * t.stride + 4 * (if t.word32 then e else e / 3)

/-- The range of a tensor descriptor's fields (Table 17-2). -/
def Tensor.fieldsOk (t : Tensor) : Bool :=
  within (nth t.w 0) 0x037FFFFF#32 && within (nth t.w 1) 0xFFFF#32 && within (nth t.w 2) 0x7FFFFF#32 &&
    within (nth t.w 3) 0xFFFF#32 && t.base % 4 == 0 && decide (1 ≤ t.rows) && t.stride % 4 == 0 &&
    (decide (t.rows ≤ 1) || decide (t.rowBytes ≤ t.stride)) && decide (1 ≤ t.len) && (t.word32 || t.len % 3 == 0)

/-- The operations (Table 17-3). -/
inductive OpKind where
  | matmul | conv1d | eltwise | act | pool1d
  deriving DecidableEq, Repr

/-- An operation descriptor. -/
structure OpDesc where
  w : List Word
  deriving DecidableEq, Repr

/-- A field of an operation descriptor. -/
def OpDesc.fld (o : OpDesc) (k hi lo : Nat) : Nat := field (nth o.w k) hi lo

/-- OP; codes above 4 are refused before they are used. -/
def OpDesc.kind (o : OpDesc) : OpKind :=
  match o.fld 0 2 0 with
  | 0 => .matmul
  | 1 => .conv1d
  | 2 => .eltwise
  | 3 => .act
  | _ => .pool1d

/-- M of the desk tile (Table 17-6). -/
def OpDesc.tileM (o : OpDesc) : Nat := [32, 16, 64, 8, 32].getD (o.fld 0 5 3) 1

/-- N of the desk tile (Table 17-6). -/
def OpDesc.tileN (o : OpDesc) : Nat := [32, 64, 16, 128, 64].getD (o.fld 0 5 3) 1

/-- SUB. -/
def OpDesc.sub (o : OpDesc) : Nat := o.fld 0 17 16

/-- PER_CH. -/
def OpDesc.perCh (o : OpDesc) : Bool := bit (nth o.w 0) 18

/-- BIAS_EN. -/
def OpDesc.biasEn (o : OpDesc) : Bool := bit (nth o.w 0) 19

/-- OUT_WORD32. -/
def OpDesc.out32 (o : OpDesc) : Bool := bit (nth o.w 0) 20

/-- M_p. -/
def OpDesc.mp (o : OpDesc) : Nat := o.fld 1 15 0

/-- N_p. -/
def OpDesc.np (o : OpDesc) : Nat := o.fld 1 31 16

/-- K_p. -/
def OpDesc.kp (o : OpDesc) : Nat := o.fld 2 15 0

/-- KW, or WIN of POOL1D. -/
def OpDesc.kw (o : OpDesc) : Nat := o.fld 3 6 0

/-- Stride of CONV1D and POOL1D, 1 for every other operation. -/
def OpDesc.stride (o : OpDesc) : Nat := o.fld 3 9 8 + 1

/-- Dilation of CONV1D, 1 for every other operation. -/
def OpDesc.dil (o : OpDesc) : Nat := o.fld 3 14 12 + 1

/-- Tensor slots A, B, C and Q by number 0 to 3. -/
def OpDesc.slot (o : OpDesc) (k : Nat) : Nat := o.fld 6 (8 * k + 7) (8 * k)

/-- MT, the rows of an L2 tile (R401). -/
def OpDesc.mt (o : OpDesc) : Nat := (o.fld 0 11 8 + 1) * o.tileM

/-- NT, the columns of an L2 tile (R401). -/
def OpDesc.nt (o : OpDesc) : Nat := (o.fld 0 15 12 + 1) * o.tileN

/-- GM (R401). -/
def OpDesc.gm (o : OpDesc) : Nat := (o.mp + o.mt - 1) / o.mt

/-- GN (R401). -/
def OpDesc.gn (o : OpDesc) : Nat := (o.np + o.nt - 1) / o.nt

/-- The A rows that m output rows need (R397). -/
def OpDesc.rowsA (o : OpDesc) (m : Nat) : Nat :=
  match o.kind with
  | .conv1d => (m - 1) * o.stride + (o.kw - 1) * o.dil + 1
  | .pool1d => (m - 1) * o.stride + o.kw
  | _ => m

/-- Rows of Q in use (R396). -/
def OpDesc.qRows (o : OpDesc) : Nat := o.biasEn.toNat + o.perCh.toNat

/-- K_eff (R391). -/
def OpDesc.kEff (o : OpDesc) : Nat :=
  match o.kind with
  | .matmul => o.kp
  | .conv1d => o.kp
  | .pool1d => o.kw
  | _ => 1

/-- The cycles for which a desk tile occupies its desk (R391). -/
def OpDesc.cycles (o : OpDesc) : Nat := ((o.tileM + 15) / 16) * ((o.tileN + 15) / 16) * (o.kEff + 8)

/-- Pit bytes of a desk tile (R398). -/
def OpDesc.pit (o : OpDesc) : Nat := o.tileM * o.tileN * 4 * 2

/-- The values a 10-bit field holds, signed or not. -/
def tenBit (isSigned : Bool) (v : Nat) : Int := if isSigned then signed 10 v else (v % 1024 : Nat)

/-! ### Jobs (Table 18-2) -/

/-- c of a JOB entry. -/
def jobOps (ws : List Word) : Nat := field (nth ws 1) 25 24 + 1

/-- T of a JOB entry. -/
def jobTensors (ws : List Word) : Nat := field (nth ws 2) 4 0 + 1

/-- BLOCK of a JOB entry. -/
def jobBlock (ws : List Word) : Nat := field (nth ws 1) 22 0

/-- STAGE_BANKS of a JOB entry. -/
def jobBanks (ws : List Word) : Nat := field (nth ws 2) 12 8

/-- Bytes of the descriptor block (R393). -/
def blockBytes (ws : List Word) : Nat := 32 * jobOps ws + 16 * jobTensors ws

/-- A JOB entry is malformed: KIND, or a set reserved bit (R410). -/
def jobMalformed (ws : List Word) : Bool :=
  field (nth ws 0) 7 0 != 0xFE || !within (nth ws 0) 0xFFFF01FF#32 || !within (nth ws 1) 0x037FFFFF#32 ||
    !within (nth ws 2) 0x11F1F#32 || (ws.drop 4).any (fun w => w != 0#32)

/-- Operation descriptor i of a block (R393). -/
def opOf (block : List Word) (i : Nat) : OpDesc := { w := (block.drop (8 * i)).take 8 }

/-- Tensor descriptor t of a block with c operations (R393). -/
def tensorOf (block : List Word) (c t : Nat) : Tensor := { w := (block.drop (8 * c + 4 * t)).take 4 }

/-- The tensor of slot k of operation i; none where the slot is 0xFF or not below T. -/
def opTensor (block : List Word) (c t i k : Nat) : Option Tensor :=
  let n := (opOf block i).slot k
  if n < t then some (tensorOf block c n) else none

/-- The output of operation i is signed: SIGNED of C. For a chained output no descriptor says so, and Config does. -/
def outSigned (block : List Word) (c t i : Nat) : Bool :=
  match opTensor block c t i 2 with
  | some x => x.isSigned
  | none => Config.chainSigned block i

/-- Input A of operation i is signed. -/
def inSigned (block : List Word) (c t i : Nat) : Bool :=
  match opTensor block c t i 0 with
  | some x => x.isSigned
  | none => outSigned block c t (i - 1)

/-! ### Checks at issue (Table 17-7) -/

/-- A range of Hall bytes lies in one enabled TENSOR lease that a job of an owner may use (check 1). -/
def State.tensorLease (s : State) (owner lo len : Nat) : Bool :=
  match s.leaseOf lo len with
  | some l => s.leaseType l == 2 && (s.leaseOwner l == owner || owner == 0)
  | none => false

/-- Some row of t has a byte in the range of n bytes from lo (check 2). -/
def Tensor.meets (t : Tensor) (lo n : Nat) : Bool :=
  let q := if t.stride = 0 ∨ lo < t.base + t.rowBytes then 0 else (lo - t.base - t.rowBytes) / t.stride + 1
  decide (q < t.rows) && decide (t.base + q * t.stride < lo + n) && decide (lo < t.base + q * t.stride + t.rowBytes)

/-- Two tensors share a byte (check 2). -/
def Tensor.shares (c t : Tensor) : Bool :=
  (List.range c.rows).any (fun r => t.meets (c.base + r * c.stride) c.rowBytes)

/-- The fields of an operation descriptor are in range (Table 17-3, check 3). -/
def opFieldsOk (block : List Word) (c t i : Nat) : Bool :=
  let o := opOf block i
  let op := o.fld 0 2 0
  let slotOk := fun (k : Nat) => decide (o.slot k < t) || o.slot k == 0xFF
  let lo := tenBit (outSigned block c t i) (o.fld 5 9 0)
  let hi := tenBit (outSigned block c t i) (o.fld 5 25 16)
  decide (op ≤ 4) && decide (o.fld 0 5 3 ≤ 4) && decide (o.fld 0 7 6 ≤ 2) && within (nth o.w 0) 0x1FFFFF#32 &&
    within (nth o.w 2) 0xFFFF#32 && within (nth o.w 3) 0x00FF737F#32 && within (nth o.w 5) 0x03FF03FF#32 &&
    nth o.w 7 == 0#32 &&
    (match o.kind with
      | .eltwise => decide (o.sub ≤ 2)
      | .pool1d => decide (o.sub ≤ 1)
      | _ => o.sub == 0) &&
    (match o.kind with
      | .matmul => o.kw == 0 && o.stride == 1
      | .conv1d => decide (1 ≤ o.kw) && decide (o.kw ≤ 64)
      | .pool1d => decide (1 ≤ o.kw) && decide (o.kw ≤ 16) && o.kp == 0
      | _ => o.kw == 0 && o.stride == 1 && o.kp == 0) &&
    (o.kind == .conv1d || o.dil == 1) && (o.kind == .eltwise && o.sub == 0 || o.fld 3 23 16 == 0) &&
    (List.range 4).all slotOk && decide (lo ≤ hi)

/-- The chain rules for operation i (R406, check 4). -/
def opChainOk (block : List Word) (c i : Nat) : Bool :=
  let o := opOf block i
  let p := opOf block (i - 1)
  if c = 1 then o.slot 0 != 0xFF && o.slot 2 != 0xFF
  else
    (if i = 0 then o.slot 0 != 0xFF
     else o.slot 0 == 0xFF && (o.kind == .matmul || o.kind == .eltwise || o.kind == .act)) &&
    (if i + 1 = c then o.slot 2 != 0xFF else o.slot 2 == 0xFF && !o.out32) &&
    o.mp == (opOf block 0).mp && o.mt == (opOf block 0).mt && o.gn == 1 &&
    (i == 0 || (if o.kind == .matmul then o.kp == 3 * ((p.np + 2) / 3) else o.np == p.np))

/-- The padding of R399 and the requirements of Table 17-5 and R396 for operation i (check 5). -/
def opShapeOk (block : List Word) (c t i : Nat) : Bool :=
  let o := opOf block i
  let a := opTensor block c t i 0
  let b := opTensor block c t i 1
  let q := opTensor block c t i 3
  let inOk := fun (x : Option Tensor) (rows len : Nat) =>
    match x with
    | some x => !x.word32 && decide (rows ≤ x.rows) && decide (len ≤ x.len)
    | none => false
  let aOk := fun (len : Nat) => a.isNone || inOk a (o.rowsA o.mp) len
  o.mp % o.tileM == 0 && o.np % o.tileN == 0 && (o.kind != .matmul || o.kp % 3 == 0) &&
    (match o.kind with
      | .matmul => aOk o.kp && inOk b o.np o.kp
      | .conv1d => aOk 0 && inOk b o.np o.kp && (match a with
          | some x => o.kp == o.kw * x.len
          | none => false)
      | .eltwise => aOk o.np && inOk b o.mp o.np
      | .act => aOk o.np && inOk b 1 1026
      | .pool1d => aOk o.np && o.slot 1 == 0xFF) &&
    (match opTensor block c t i 2 with
      | some x => decide (o.mp ≤ x.rows) && (if x.word32 then decide (o.np ≤ x.len) else x.len == 3 * ((o.np + 2) / 3))
      | none => true) &&
    (if o.qRows = 0 then o.slot 3 == 0xFF
     else match q with
       | some x => x.word32 && decide (o.qRows ≤ x.rows) && decide (o.np ≤ x.len)
       | none => false)

/-- The Stage bytes that operation i counts for (R409). -/
def opStage (block : List Word) (c t i : Nat) : Nat :=
  let o := opOf block i
  let lenA := match opTensor block c t i 0 with
    | some x => x.len
    | none => 0
  let a := match o.kind with
    | .matmul => o.mt * rb o.kp
    | .conv1d => o.rowsA o.mt * rb lenA
    | .pool1d => o.rowsA o.mt * rb o.nt
    | _ => o.mt * rb o.nt
  let b := match o.kind with
    | .matmul => o.nt * rb o.kp
    | .conv1d => o.nt * rb o.kp
    | .eltwise => o.mt * rb o.nt
    | .act => 1368
    | .pool1d => 0
  let h := if o.kind = .act ∨ ((o.kind = .matmul ∨ o.kind = .conv1d) ∧ o.gn = 1) then 1 else 2
  let g := if o.gn = 1 then 1 else 2
  (if i = 0 then 2 * a else 0) + h * b + g * (4 * o.nt * o.qRows) + (if i + 1 < c then 2 * (o.mt * rb o.np) else 0)

/-- The Stage bytes of a job (R409). -/
def jobStage (block : List Word) (c t : Nat) : Nat := (List.range c).foldl (fun n i => n + opStage block c t i) 0

/-- The first check that a job fails, with the operation concerned; none where it passes all (R408, Table 17-7). -/
def State.jobCheck (s : State) (owner : Nat) (ws block : List Word) : Option (Nat × Nat) :=
  let c := jobOps ws
  let t := jobTensors ws
  let ops := List.range c
  let tensor := fun (i k : Nat) => opTensor block c t i k
  let leased := fun (i : Nat) => (List.range 4).all (fun k => match tensor i k with
    | some x => s.tensorLease owner x.base x.extent
    | none => true)
  let apart := fun (i : Nat) => match tensor i 2 with
    | some x => ops.all (fun j =>
        [0, 1, 3].all (fun k => match tensor j k with
          | some y => !x.shares y
          | none => true) &&
        (j == i || match tensor j 2 with
          | some y => !x.shares y
          | none => true))
    | none => true
  let fields := fun (i : Nat) => opFieldsOk block c t i && (List.range 4).all (fun k => match tensor i k with
    | some x => x.fieldsOk
    | none => true)
  let first := fun (ok : Nat → Bool) => ops.find? (fun i => !ok i)
  if !s.tensorLease owner (jobBlock ws) (blockBytes ws) then some (1, 0)
  else match first leased with
    | some i => some (1, i)
    | none => match first apart with
      | some i => some (2, i)
      | none => match first fields with
        | some i => some (3, i)
        | none =>
          if !(List.range t).all (fun k => (tensorOf block c k).fieldsOk) then some (3, 0)
          else match first (opChainOk block c) with
            | some i => some (4, i)
            | none => match first (opShapeOk block c t) with
              | some i => some (5, i)
              | none => match first (fun i => decide ((opOf block i).pit ≤ 16384)) with
                | some i => some (6, i)
                | none => if 32768 * jobBanks ws < jobStage block c t then some (7, 0) else none

/-- The status code of a failed check (Table 17-7). -/
def checkStatus (check : Nat) : Nat := if check ≤ 2 then 0x11 else if check ≤ 5 then 0x15 else 0x16

/-! ### The walk (R403) -/

/-- One step of the Hilbert generation of R403 at scale s. -/
def hilbertStep (t s x y : Nat) : Nat × Nat :=
  let rx := (t >>> 1) % 2
  let ry := (t ^^^ rx) % 2
  let p := if ry = 0 then (if rx = 1 then (s - 1 - y, s - 1 - x) else (y, x)) else (x, y)
  (p.1 + s * rx, p.2 + s * ry)

/-- (x, y) of step d of the curve over a square of side 2 ^ levels (R403). -/
def hilbert (levels d : Nat) : Nat × Nat :=
  (List.range levels).foldl (fun p l => hilbertStep (d >>> (2 * l)) (2 ^ l) p.1 p.2) (0, 0)

/-- Levels of the smallest power of two that is at least n. -/
def levelsOf (n : Nat) : Nat := ((List.range 17).find? (fun l => decide (n ≤ 2 ^ l))).getD 17

/-- The L2 tiles (gm, gn) in the order of the walk (R403). -/
def walk (order gm gn : Nat) : List (Nat × Nat) :=
  if order = 0 then (List.range gm).flatMap (fun i => (List.range gn).map (fun j => (i, j)))
  else if order = 1 then (List.range gn).flatMap (fun j => (List.range gm).map (fun i => (i, j)))
  else
    let l := levelsOf (max gm gn)
    ((List.range (4 ^ l)).map (hilbert l)).filterMap (fun p =>
      if p.2 < gm ∧ p.1 < gn then some (p.2, p.1) else none)

/-- The walk of a job: that of its first operation (R403, R407). -/
def jobWalk (block : List Word) : List (Nat × Nat) :=
  let o := opOf block 0
  walk (o.fld 0 7 6) o.gm o.gn

/-- The desk tiles of operation o in L2 tile (gm, gn), row-major (R401, R404). -/
def OpDesc.tiles (o : OpDesc) (at_ : Nat × Nat) : List (Nat × Nat) :=
  let rows := (min o.mt (o.mp - at_.1 * o.mt)) / o.tileM
  let cols := (min o.nt (o.np - at_.2 * o.nt)) / o.tileN
  (List.range rows).flatMap (fun r => (List.range cols).map (fun c => (r, c)))

/-! ### Panels (R401, R402) -/

/-- n elements of a row of a tensor from element e on, as the Hall holds them. -/
def State.readElems (s : State) (t : Tensor) (row e n : Nat) : List Nat :=
  (List.range n).map (fun i =>
    let w := s.hallWord (t.elemAddr row (e + i))
    if t.word32 then w.toNat else field w (10 * ((e + i) % 3) + 9) (10 * ((e + i) % 3)))

/-- A block of a tensor: rows from r on, n elements of each from element e on; unleased bytes raise EV_HALL_UNLEASED. -/
def State.readBlock (s : State) (t : Tensor) (r rows e n : Nat) : List (List Nat) × State :=
  let s1 := (List.range rows).foldl (fun s i =>
    if n = 0 then s
    else s.touchHall (t.elemAddr (r + i) e) (t.elemAddr (r + i) (e + n - 1) + 4 - t.elemAddr (r + i) e)) s
  ((List.range rows).map (fun i => s.readElems t (r + i) e n), s1)

/-- A panel of a tensor that may be absent. -/
def State.readPanel (s : State) (t : Option Tensor) (r rows e n : Nat) : List (List Nat) × State :=
  match t with
  | some t => s.readBlock t r rows e n
  | none => ([], s)

/-- The A panel of operation i for L2 tile (gm, gn) (R401). -/
def State.panelA (s : State) (block : List Word) (c t i : Nat) (at_ : Nat × Nat) : List (List Nat) × State :=
  let o := opOf block i
  let a := opTensor block c t i 0
  let m := min o.mt (o.mp - at_.1 * o.mt)
  let n := min o.nt (o.np - at_.2 * o.nt)
  match o.kind with
  | .matmul => s.readPanel a (at_.1 * o.mt) m 0 o.kp
  | .conv1d => s.readPanel a (at_.1 * o.mt * o.stride) (o.rowsA m) 0 (match a with
      | some x => x.len
      | none => 0)
  | .pool1d => s.readPanel a (at_.1 * o.mt * o.stride) (o.rowsA m) (at_.2 * o.nt) n
  | _ => s.readPanel a (at_.1 * o.mt) m (at_.2 * o.nt) n

/-- The B panel of operation i for L2 tile (gm, gn) (R401). -/
def State.panelB (s : State) (block : List Word) (c t i : Nat) (at_ : Nat × Nat) : List (List Nat) × State :=
  let o := opOf block i
  let b := opTensor block c t i 1
  let m := min o.mt (o.mp - at_.1 * o.mt)
  let n := min o.nt (o.np - at_.2 * o.nt)
  match o.kind with
  | .eltwise => s.readPanel b (at_.1 * o.mt) m (at_.2 * o.nt) n
  | .act => s.readPanel b 0 1 0 1026
  | .pool1d => ([], s)
  | _ => s.readPanel b (at_.2 * o.nt) n 0 o.kp

/-- The Q panel of operation i for L2 tile (gm, gn) (R401). -/
def State.panelQ (s : State) (block : List Word) (c t i : Nat) (at_ : Nat × Nat) : List (List Nat) × State :=
  let o := opOf block i
  s.readPanel (opTensor block c t i 3) 0 o.qRows (at_.2 * o.nt) (min o.nt (o.np - at_.2 * o.nt))

/-- A panel that every L2 tile shares is taken from those held, or loaded and held (R402). -/
def heldPanel (hold : Bool) (key : Nat) (held : Cells (List (List Nat))) (s : State)
    (load : State → List (List Nat) × State) : List (List Nat) × Cells (List (List Nat)) × State :=
  if hold then
    match Cells.find held key with
    | some p => (p, held, s)
    | none => let r := load s; (r.1, Cells.insert held key r.1, r.2)
  else let r := load s; (r.1, held, r.2)

/-- The panels of operation i for an L2 tile, with those held for the job (R401, R402). -/
def State.loadOp (s : State) (block : List Word) (c t i : Nat) (at_ : Nat × Nat) (held : Cells (List (List Nat))) :
    OpPanels × Cells (List (List Nat)) × State :=
  let o := opOf block i
  let ra := s.panelA block c t i at_
  let holdB := o.kind == .act || ((o.kind == .matmul || o.kind == .conv1d) && o.gn == 1)
  let rb := heldPanel holdB (2 * i) held ra.2 (fun s => s.panelB block c t i at_)
  let rq := heldPanel (o.gn == 1) (2 * i + 1) rb.2.1 rb.2.2 (fun s => s.panelQ block c t i at_)
  ({ a := ra.1, b := rb.1, q := rq.1 }, rq.2.1, rq.2.2)

/-! ### What a desk tile computes (R394, R395) -/

/-- Element e of row r of a panel; 0 beyond it. -/
def elemOf (p : List (List Nat)) (r e : Nat) : Nat := (p.getD r []).getD e 0

/-- A sum over k below n. -/
def sumOver (n : Nat) (f : Nat → Int) : Int := (List.range n).foldl (fun z k => z + f k) 0

/-- The maximum over j below n of values that start with f 0. -/
def maxOver (n : Nat) (f : Nat → Int) : Int := (List.range n).foldl (fun z j => max z (f j)) (f 0)

/-- The exact value of acc at row m and column n of an L2 tile, before it wraps (R394, Table 17-4). a and b give operand
elements; lenA is LEN of A. -/
def OpDesc.exact (o : OpDesc) (lenA : Nat) (a b : Nat → Nat → Int) (bias : Int) (m n : Nat) : Int :=
  match o.kind with
  | .matmul => bias + sumOver o.kp (fun k => a m k * b n k)
  | .conv1d => bias + sumOver o.kw (fun j => sumOver lenA (fun i => a (m * o.stride + j * o.dil) i * b n (j * lenA + i)))
  | .eltwise =>
    if o.sub = 0 then bias + a m n * 2 ^ o.fld 3 19 16 + b m n * 2 ^ o.fld 3 23 20
    else if o.sub = 1 then bias + a m n * b m n
    else bias + max (a m n) (b m n)
  | .act => 0
  | .pool1d =>
    let v := fun (j : Nat) => a (m * o.stride + j) n
    bias + (if o.sub = 0 then maxOver o.kw v else roundDiv (sumOver o.kw v) o.kw)

/-- acc as the Pit holds it: 32 bits, wrapped (R390). -/
def wrap32 (z : Int) : Int := signed 32 (unsigned 32 z)

/-- Requantisation of acc (R395, steps 2 to 4); err is how far the desk's quotient lies off. -/
def requantise (acc : Int) (mult shift : Nat) (zp : Int) (clipLo clipHi : Int) (outS : Bool) (err : Int) : Int :=
  let q := roundDiv (acc * mult) (2 ^ shift) + err
  let lo : Int := if outS then -512 else 0
  let hi : Int := if outS then 511 else 1023
  max (max clipLo lo) (min (min clipHi hi) (q + zp))

/-- What a desk tile works on: the panels of its L2 tile, LEN of A, the bit patterns of A, the signedness of A, of B and of the output,
and a WORD32 output. -/
structure Operand where
  p : OpPanels
  lenA : Nat
  aPat : Nat → Nat → Nat
  sa : Bool
  sb : Bool
  outS : Bool
  out32 : Bool

/-- What a desk gets wrong in one element: how far its sum or selected value, and how far its quotient of step 2 of R395, lie off. -/
abbrev DeskErr := Int × Int

/-- The exact sum, or the value that ACT selects, at row m and column n of an L2 tile (R394). -/
def OpDesc.sumAt (o : OpDesc) (x : Operand) (m n : Nat) : Int :=
  match o.kind with
  | .act => tenBit x.outS (elemOf x.p.b 0 (x.aPat m n % 1024))
  | _ => o.exact x.lenA (fun r e => tenBit x.sa (x.aPat r e)) (fun r e => tenBit x.sb (elemOf x.p.b r e))
    (if o.biasEn then signed 32 (elemOf x.p.q 0 n) else 0) m n

/-- MULT of column n (R395). -/
def OpDesc.multAt (o : OpDesc) (x : Operand) (n : Nat) : Nat :=
  if o.perCh then field (word (elemOf x.p.q o.biasEn.toNat n)) 15 0 else o.fld 4 15 0

/-- SHIFT of column n (R395). -/
def OpDesc.shiftAt (o : OpDesc) (x : Operand) (n : Nat) : Nat :=
  if o.perCh then field (word (elemOf x.p.q o.biasEn.toNat n)) 21 16 else o.fld 4 21 16

/-- The value that a desk which errs by e stores at row m and column n, as bits: 10 of them, or 32 for a WORD32 output (R394,
R395). -/
def OpDesc.value (o : OpDesc) (x : Operand) (e : DeskErr) (m n : Nat) : Nat :=
  let width := if x.out32 then 32 else 10
  let v := o.sumAt x m n + e.1
  if o.kind = .act then unsigned width v
  else if o.out32 then unsigned width (wrap32 v)
  else unsigned width (requantise (wrap32 v) (o.multAt x n) (o.shiftAt x n) (signed 10 (o.fld 4 31 22))
    (tenBit x.outS (o.fld 5 9 0)) (tenBit x.outS (o.fld 5 25 16)) x.outS e.2)

/-- The residue unit passes the element at row m and column n (R417): the desk's sum, held to 40 bits, or the value it selected, has the
residue mod 3 that the operands give; and the quotient times 2^SHIFT with the rounder's remainder has that of the product. -/
def OpDesc.residueOk (o : OpDesc) (x : Operand) (e : DeskErr) (m n : Nat) : Bool :=
  let z := o.sumAt x m n
  let held := signed 40 (unsigned 40 (z + e.1))
  let product := wrap32 held * (o.multAt x n : Int)
  let q := roundDiv product (2 ^ o.shiftAt x n)
  let rest := product - q * 2 ^ o.shiftAt x n
  (held - z) % 3 == 0 &&
    (o.kind == .act || o.out32 || ((q + e.2) * 2 ^ o.shiftAt x n + rest - product) % 3 == 0)

/-! ### Stores (R405) -/

/-- Elements of one output row stored from element e on: in a PACK10 row their fields alone, and with the row's last
element the padding slots and bits [31:30] of its word as 0 (R405). np: N_p. -/
def State.storeRow (s : State) (t : Tensor) (np row e : Nat) (vs : List Nat) : State :=
  if vs.isEmpty then s
  else
    let lo := t.elemAddr row e
    let s1 := s.touchHall lo (t.elemAddr row (e + vs.length - 1) + 4 - lo)
    (List.range vs.length).foldl (fun s i =>
      let k := e + i
      let a := t.elemAddr row k
      let v := vs.getD i 0
      if t.word32 then s.putHallWords a [word v]
      else
        let w := withField (s.hallWord a) (10 * (k % 3) + 9) (10 * (k % 3)) v
        let pad := fun (w : Word) => if k % 3 = 0 then withField w 31 10 0 else if k % 3 = 1 then withField w 31 20 0
          else withField w 31 30 0
        s.putHallWords a [if k + 1 = np then pad w else w]) s1

end Sys2Proof.Machine
end

