-- ==== Sys2Proof/Machine/Ensemble.lean ====
section
/-!
DEFINITION. Ensemble jobs, failing desks, self-tests and the display lease (17, 18).
-/

namespace Sys2Proof.Machine

/-! ### State -/

/-- What a Stage bank in use holds has changed: where a panel or a chained output lies in its banks is open (R15, R115). -/
def State.stageMoved (s : State) : State := { s with ens := { s.ens with stageGen := s.ens.stageGen + 1 } }

/-- The work of desk d may have taken n CORE cycles by the end of this tick (R391, R420, R423); unknown after a frequency step. -/
def State.deskDone (s : State) (d n : Nat) : Bool :=
  match Cells.get (fun _ => none) s.ens.deskAt d with
  | some t => s.usPassed t (n / s.coreMHz)
  | none => true

/-- The Ensemble's state beside its registers replaced. -/
def State.setEns (s : State) (e : Ens) : State := { s with ens := e }

/-- Desk d is retired. -/
def State.deskRetired (s : State) (d : Nat) : Bool := s.flag Reg.ENS_RETIRED d

/-- A running job by its number. -/
def State.runningJob (s : State) (id : Nat) : Option Job := s.ens.jobs.find? (fun j => j.id == id && j.phase == .running)

/-- A job replaced. -/
def State.setJob (s : State) (j : Job) : State :=
  s.setEns { s.ens with jobs := s.ens.jobs.map (fun k => if k.id = j.id then j else k) }

/-- The Stage banks that started jobs hold, as a mask (R412). -/
def State.stageHeld (s : State) : Nat :=
  s.ens.jobs.foldl (fun m j => if j.phase = .running then m ||| j.banks else m) 0

/-- The free Stage banks, ascending. -/
def State.stageFree (s : State) : List Nat := (List.range 16).filter (fun b => !s.stageHeld.testBit b)

/-- A desk computed a wrong tile or pass whose repeat has not ended: it gets no work (R418). -/
def State.deskFailing (s : State) (d : Nat) : Bool :=
  s.ens.redo.any (fun e => e.2 == d) || (List.range 16).any (fun x => match s.desk x with
    | .tile _ (some f) => f == d
    | _ => false)

/-- DESK_MAX withholds desk d: the highest-numbered unleased desks that could run tiles are withheld first (Table 9-5). -/
def State.overCap (s : State) (d : Nat) : Bool :=
  !s.deskLeased d && !s.deskRetired d &&
    decide (s.fld Reg.SENSE_CAPS 4 0 ≤ ((List.range d).filter (fun x => !s.deskLeased x && !s.deskRetired x)).length)

/-- CAPPED: desks withheld by DESK_MAX, from their DESK_IDLE boundary on. -/
def State.capped (s : State) : Nat :=
  (List.range 16).foldl (fun m d => if s.overCap d && s.desk d == .idle then m + 2 ^ d else m) 0

/-- BUSY: desks that hold a tile or a pass. -/
def State.busyDesks (s : State) : Nat :=
  (List.range 16).foldl (fun m d => match s.desk d with
    | .tile _ _ => m + 2 ^ d
    | .pass _ _ => m + 2 ^ d
    | _ => m) 0

/-- Desk d can be given job tiles (R413, R418, R419). -/
def State.deskOpen (s : State) (d : Nat) : Bool :=
  s.desk d == .idle && !s.deskLeased d && !s.ens.joining.contains d && !s.deskRetired d && !s.deskFailing d && !s.overCap d

/-- Job tiles are dispatched: in TUTTI, and not while a descent to MEZZO or past D2 runs (R412, R415). -/
def State.jobsRun (s : State) : Bool :=
  s.coreOn && s.cur == 0 && (!s.moving || decide (s.tgt ≤ s.cur) || (s.ladder.step == .jobsIdle && decide (2 ≤ s.tgt)))

/-! ### Job completion (R414) -/

/-- RESULT0 to RESULT3 of a job, with COOKIE. -/
def Job.results (j : Job) (r0 : Nat) : List Word := [word r0, word j.run, word j.again, nth j.words 3]

/-- A job ends with a status: its banks are free. -/
def State.endJob (s : State) (j : Job) (status r0 : Nat) : State :=
  let s1 := s.setJob { j with phase := .ended status (j.results r0), flight := [], held := [] }
  s1.setEns { s1.ens with
    started := s.ens.started.filter (· != j.id)
    redo := s.ens.redo.filter (fun e => e.1.job != j.id)
    stageGen := s.ens.stageGen + 1 }

/-- The completion of an ended job is given out: to its ring, in ISSUE_RESULT and ISSUE_RES0–3, or not at all for OK with
SILENT (R414, R416). -/
def State.giveCompletion (s : State) (j : Job) (status : Nat) (res : List Word) : State :=
  let drop := fun (s : State) => s.setEns { s.ens with jobs := s.ens.jobs.filter (fun k => k.id != j.id) }
  let s1 := s.bump Reg.ENS_JOB_STAT 15 0
  match j.ring with
  | none =>
    let seq := (s1.fld Reg.ENS_ISSUE_RESULT 23 16 + 1) % 256
    drop ((List.range 4).foldl (fun s k => s.setReg (Reg.ENS_ISSUE_RES + 4 * k) (nth res k))
      (s1.setReg Reg.ENS_ISSUE_RESULT (word (2 ^ 31 + 0x10000 * seq + 256 * status))))
  | some r =>
    if status = 0 ∧ bit (nth j.words 0) 8 then
      (s1.setJob { j with phase := .posted }).leaveSlot r j.index
    else (s1.setJob { j with phase := .posted }).post (j.leftTo.getD (s1.ringPair r))
      (.completion (field (nth j.words 0) 31 16) 0xFE status j.index r res true)

/-- The jobs of a ring with a number below n have given their completions (R414). -/
def State.jobsGiven (s : State) (ring : Option Nat) (n : Nat) : Bool :=
  s.ens.jobs.all (fun k => decide (n ≤ k.id) || k.ring != ring || k.phase == .posted)

/-- The job may give its completion: all earlier jobs and malformed entries of its ring have given theirs (R141, R414). -/
def State.completionDue (s : State) (j : Job) : Bool :=
  s.jobsGiven j.ring j.id && !s.ens.badJobs.any (fun b => some b.ring == j.ring && decide (b.before ≤ j.id))

/-- The completions of ended jobs that may be given out. -/
def State.giveJobs (s : State) : State :=
  s.ens.jobs.foldl (fun s j => match j.phase with
    | .ended st res => if s.completionDue j then s.giveCompletion j st res else s
    | _ => s) s

/-- The BAD_VERB completions of malformed JOB entries whose turn has come (R141, R410). -/
def State.giveBad (s : State) : State :=
  s.ens.badJobs.foldl (fun s b =>
    if s.jobsGiven (some b.ring) b.before then
      (s.setEns { s.ens with badJobs := s.ens.badJobs.filter (· != b) }).post b.pair
        (.completion b.tag 0xFE Status.badVerb.code b.index b.ring [] false)
    else s) s

/-- Completions are given out in submission order per ring (R141, R414). -/
def State.giveCompletions (s : State) : State :=
  (List.range (s.ens.badJobs.length + 1)).foldl (fun s _ => s.giveJobs.giveBad) s.giveJobs

/-- A started job ends once nothing of it runs: with the status its faults or a cancel gave it, or with OK or OK_DEGRADED when
its walk is done (R412, R414). -/
def State.settleJob (s : State) (id : Nat) : State :=
  match s.runningJob id with
  | some j =>
    let busy := (List.range 16).any (fun d => match s.desk d with
      | .tile t _ => t.job == id
      | _ => false)
    let waits := s.ens.redo.any (fun e => e.1.job == id)
    if busy || waits then s
    else match j.ending with
      | some (st, r0) => s.endJob j st r0
      | none =>
        if j.flight.isEmpty && decide ((jobWalk j.block).length ≤ j.next) then
          if j.again = 0 then s.endJob j 0 0 else s.endJob j 1 (0x10000 * j.retired)
        else s
  | none => s

/-- Every started job that is done ends. -/
def State.settleJobs (s : State) : State := s.ens.started.foldl State.settleJob s

/-! ### Retirement and faults (R418, R419) -/

/-- The ring field of a job's events: its ring, or 0xFF for register issue. -/
def Job.ringField (j : Job) : Nat := j.ring.getD 0xFF

/-- Desk d is retired: RETIRED, RETIRE_LOG, and a note in every started job. -/
def State.retireDesk (s : State) (d cause ring : Nat) : State :=
  let s1 := (s.setFlag Reg.ENS_RETIRED d true).setReg Reg.ENS_RETIRE_LOG (word (d + 16 * cause + 0x10000 * ring))
  s1.setEns { s1.ens with
    joining := s1.ens.joining.filter (· != d)
    jobs := s1.ens.jobs.map (fun j => if j.phase = .running then { j with retired := numWithBit j.retired d true } else j) }

/-- EV_ENS_DESK_RETIRED. -/
def State.retiredEvent (s : State) (d cause ring : Nat) : State := s.raise 104 (word (d + 16 * cause + 256 * ring))

/-- A job will end with DATA_FAULT once its tiles in progress have ended; its tiles that wait for a re-issue are dropped
(R418). -/
def State.dataFault (s : State) (j : Job) (op desks : Nat) : State :=
  let s1 := s.setJob { j with ending := some (0x1C, 16 * op + 0x10000 * desks) }
  s1.setEns { s1.ens with redo := s1.ens.redo.filter (fun e => e.1.job != j.id) }

/-- No desk but failing ones is unretired and unleased: a tile that waits for a re-issue ends its job at once (R418). -/
def State.stuckTiles (s : State) : State :=
  if (List.range 16).any (fun d => !s.deskRetired d && !s.deskLeased d && !s.deskFailing d) then s
  else s.ens.redo.foldl (fun s e => match s.runningJob e.1.job with
    | some j => s.endJob j 0x1C (16 * e.1.op + 0x10000 * 2 ^ e.2)
    | none => s) s

/-! ### Dispatch (R404, R413) -/

/-- The next desk tile of an L2 tile in flight that may start: the first operation not given out whole, once every desk tile
of the operation before it has ended (R404, R407). -/
def nextTile (j : Job) (l : L2Tile) : Option Tile :=
  let c := jobOps j.words
  let at_ := (jobWalk j.block).getD l.pos (0, 0)
  let tiles := fun (i : Nat) => (opOf j.block i).tiles at_
  let ready := fun (i : Nat) => decide (i = 0) || (tiles (i - 1)).all (fun t => l.ended.contains (i - 1, t.1, t.2))
  ((List.range c).filter ready).findSome? (fun i =>
    ((tiles i).find? (fun t => !l.given.contains (i, t.1, t.2))).map (fun t =>
      { job := j.id, op := i, pos := l.pos, row := t.1, col := t.2 }))

/-- The next desk tile of the started jobs: oldest job first, older L2 tile first (R413). -/
def State.nextWork (s : State) : Option Tile :=
  s.ens.started.findSome? (fun id => match s.runningJob id with
    | some j => if j.ending.isSome then none else j.flight.findSome? (nextTile j)
    | none => none)

/-- A desk tile noted as given out in its L2 tile. -/
def State.noteGiven (s : State) (t : Tile) : State :=
  match s.runningJob t.job with
  | some j => s.setJob { j with flight := j.flight.map (fun l =>
      if l.pos = t.pos then { l with given := (t.op, t.row, t.col) :: l.given } else l) }
  | none => s

/-- Desk d takes the work that R413 gives it: a re-issue of another desk's tile, else the next tile. -/
def State.giveDesk (s : State) (d : Nat) : State :=
  if !s.deskOpen d then s
  else match s.ens.redo with
    | (t, f) :: rest =>
      let s1 := (s.setEns { s.ens with redo := rest }).setDesk d (.tile t (some f))
      let s2 := s1.bump Reg.ENS_JOB_STAT 31 16
      match s2.runningJob t.job with
      | some j => s2.setJob { j with again := (j.again + 1) % 2 ^ 32 }
      | none => s2
    | [] => match s.nextWork with
      | some t => (s.noteGiven t).setDesk d (.tile t none)
      | none => s

/-- Free desks take work in ascending order (R404, R413). -/
def State.dispatch (s : State) : State := if s.jobsRun then (List.range 16).foldl State.giveDesk s else s

/-! ### The display lease (R422 to R426) -/

/-- HELD of LEASE: the leased desks. -/
def State.leaseHeld (s : State) : Nat := ((List.range 16).filter s.deskLeased).length

/-- EV_ENS_LEASE where HELD has changed. -/
def State.leaseEvent (s : State) (before : Nat) : State :=
  if s.leaseHeld = before then s
  else s.raise 108 (word (s.leaseHeld + 16 * s.ens.lease + 0x10000 * s.fld Reg.ENS_LEASED 15 0))

/-- The desk that the lease would take next: the highest-numbered that qualifies (R422). -/
def State.leasePick (s : State) : Option Nat :=
  ((List.range 16).reverse).find? (fun d => !s.deskRetired d && !s.deskLeased d && !s.ens.joining.contains d && s.desk d != .test)

/-- One more desk is chosen to join. -/
def State.pickDesk (s : State) : State :=
  match s.leasePick with
  | some d => s.setEns { s.ens with joining := s.ens.joining ++ [d] }
  | none => s

/-- Leased desks that no move replaces and that are not retired, with those that join beside a move. -/
def State.leaseSize (s : State) : Nat :=
  ((List.range 16).filter (fun d => s.deskLeased d && !s.deskRetired d && !s.ens.moves.any (fun m => m.1 == d))).length +
    s.ens.joining.length

/-- Desks are chosen until the lease has as many as were asked for, as far as desks qualify (R422). -/
def State.fillLease (s : State) : State :=
  (List.range 4).foldl (fun s _ => if s.leaseSize < s.ens.lease then s.pickDesk else s) s

/-- A chosen desk that holds no tile joins (R29, R422). -/
def State.joinDesks (s : State) : State :=
  s.ens.joining.foldl (fun s d =>
    if s.desk d = .idle then
      let n := s.leaseHeld
      ((s.setEns { s.ens with joining := s.ens.joining.filter (· != d) }).setFlag Reg.ENS_LEASED d true).leaseEvent n
    else s) s

/-- A move replaces leased desk d, where a desk qualifies and none is under way for it (R425). -/
def State.startMove (s : State) (d : Nat) : State :=
  if s.ens.moves.any (fun m => m.1 == d) then s
  else match s.leasePick with
    | some n => s.setEns { s.ens with joining := s.ens.joining ++ [n], moves := s.ens.moves ++ [(d, n)] }
    | none => s

/-- P_band (R423). -/
def State.bandPasses (s : State) : Nat := 6 * ((s.hActive + 31) / 32)

/-- T_band(D) in cycles (R423). -/
def State.bandCycles (s : State) (d : Nat) : Nat :=
  ((s.bandPasses + d - 1) / d) * (s.dmRank + 8) + (6 * (8 + s.hActive) * s.dmRow + 64 * s.hActive + 15) / 16

/-- LEASE_MIN for the sets in force (R423). -/
def State.leaseMin (s : State) : Nat :=
  let v := s.inForce Reg.SCAN_VTIM
  let room := min 8 (field v 9 0 + field v 19 10 + field v 29 20) * hTotal s.inForce * pixDiv s.inForce
  (([1, 2, 3, 4] : List Nat).find? (fun d => decide (s.bandCycles d ≤ room))).getD 0

/-- LEASE as it reads (Table 18-5): SHORT is stored. -/
def State.leaseWordNow (s : State) : Word :=
  word (s.leaseHeld + 16 * s.ens.lease + 256 * s.leaseMin) ||| (s.reg Reg.ENS_LEASE &&& 0x1000#32)

/-- A leased desk leaves the lease at a FRAME boundary (R29). -/
def State.leaveLease (s : State) (d : Nat) : State :=
  (s.setFlag Reg.ENS_LEASED d false).setEns { s.ens with moves := s.ens.moves.filter (fun m => m.1 != d) }

/-- The desks that leave at a FRAME boundary: those whose replacement has joined, retired ones whose replacement has not been
chosen, and the lowest-numbered ones beyond the number asked for (R425, R426). -/
def State.leavers (s : State) : List Nat :=
  let leased := (List.range 16).filter s.deskLeased
  let gone := leased.filter (fun d =>
    (match s.ens.moves.find? (fun m => m.1 == d) with
     | some m => s.deskLeased m.2
     | none => s.deskRetired d) || decide (s.ens.lease = 0))
  let rest := leased.filter (fun d => !gone.contains d && !s.ens.moves.any (fun m => m.1 == d))
  gone ++ rest.take (rest.length - s.ens.lease)

/-- SHORT judged at a FRAME boundary, with EV_ENS_LEASE_SHORT where it becomes 1 (Table 18-7). -/
def State.judgeShort (s : State) : State :=
  let m := s.leaseMin
  let short := decide (0 < s.ens.lease) && (decide (s.leaseHeld < s.ens.lease) || m == 0 || decide (s.ens.lease < m))
  let s1 := s.setFlag Reg.ENS_LEASE 12 short
  if short && !s.flag Reg.ENS_LEASE 12 then s1.raise 109 (word (s.leaseHeld + 256 * m)) else s1

/-- The lease is asked for D desks, 0 ending it (R331, R422). -/
def State.askLease (s : State) (d : Nat) : State :=
  let s1 := s.setEns { s.ens with lease := d, joining := if d = 0 then [] else s.ens.joining,
                                  moves := if d = 0 then [] else s.ens.moves }
  s1.fillLease

/-! ### Self-tests (R420, R421) -/

/-- The desks for which a test is due or asked for, that the request means. -/
def State.testsWanted (s : State) : List Nat :=
  (List.range 16).filter (fun d =>
    (s.ens.due.contains d && !s.deskRetired d) ||
      s.ens.asks.any (fun e => e.2.left.testBit d && s.deskRetired d == e.2.retest))

/-- A test of desk d may start now (R420). -/
def State.testAllowed (s : State) (d : Nat) : Bool :=
  s.desk d == .idle && !s.deskLeased d && !s.ens.joining.contains d && (s.deskRetired d || (!s.deskFailing d &&
    decide (2 ≤ ((List.range 16).filter (fun x => x != d && !s.deskLeased x && !s.deskRetired x && !s.overCap x)).length)))

/-- A test is running. -/
def State.testing (s : State) : Option Nat := (List.range 16).find? (fun d => s.desk d == .test)

/-- The next test starts where one may, and a leased desk that is due is moved (R420, R425). -/
def State.startTest (s : State) : State :=
  if s.testing.isSome || !s.coreOn || s.cur != 0 then s
  else
    let s1 := (s.testsWanted.filter (fun d => s.deskLeased d && !s.deskRetired d)).foldl State.startMove s
    match s1.testsWanted.find? s1.testAllowed with
    | some d => s1.setDesk d .test
    | none => s1

/-- A request for tests answered where none of its desks is left (R421). -/
def State.answerTests (s : State) : State :=
  s.ens.asks.foldl (fun s e =>
    let left := (List.range 16).foldl (fun m d =>
      if e.2.left.testBit d && s.deskRetired d == e.2.retest then m + 2 ^ d else m) 0
    if left = 0 then
      let s1 := s.setEns { s.ens with asks := Cells.erase s.ens.asks e.1 }
      match (s1.ring e.1).cur with
      | some f => if e.1 < 256 ∧ f.waiting = some (.deskTest 0) then s1.completeRing e.1 .ok [word e.2.passed] else s1
      | none => s1
    else s) s

/-! ### The service of DESK_IDLE boundaries -/

/-- Commits and page switches of ENS whose unleased desks have all passed a DESK_IDLE boundary (R33, R427). -/
def State.serveEns (s : State) : State :=
  s.commits.foldl (fun s q =>
    if q.page != 13 || !s.commits.contains q || q.desks != 0 then s
    else if q.toBasic then s.applyBasic 13
    else
      let s1 := s.applyShadow 13
      let s2 := s1.answerCommit q .ok []
      let left := s2.commits.filter (fun p => p != q)
      let s3 : State := { s2 with commits := left }
      if left.any (fun p => p.page == 13 && !p.toBasic) then s3 else (s3.setPending 13 false).serveStaging 13) s

/-- A fetched JOB entry enters a slot and is checked (R411); its block is copied for the checks (R393). -/
def State.addJob (s : State) (ring : Option Nat) (index owner : Nat) (ws : List Word) : State :=
  let slot := ((List.range 8).find? (fun k => !s.ens.jobs.any (fun j => j.slot == k))).getD 0
  let named := s.hasPage owner 13 && jobBlock ws % 16 == 0 && jobBanks ws != 0 && decide (jobBanks ws ≤ 16)
  let s := if named then s.touchHall (jobBlock ws) (blockBytes ws) else s
  let block := s.hallWords (jobBlock ws) (blockBytes ws / 4)
  let fail := fun (st r0 : Nat) => JobPhase.ended st [word r0, 0#32, 0#32, nth ws 3]
  let phase :=
    if !s.hasPage owner 13 then fail 0x12 0
    else if jobBlock ws % 16 ≠ 0 ∨ jobBanks ws = 0 ∨ 16 < jobBanks ws then fail 0x11 8
    else match s.jobCheck owner ws block with
      | some (k, i) => fail (checkStatus k) (k + 16 * i)
      | none => .checked
  s.setEns { s.ens with
    nextId := s.ens.nextId + 1
    jobs := s.ens.jobs ++ [{ id := s.ens.nextId, slot := slot, ring := ring, index := index, words := ws, owner := owner,
                             block := block, phase := phase }] }

/-- A register issue that waits takes a slot once one is free (R416). -/
def State.takeIssue (s : State) : State :=
  match s.ens.issue with
  | some (ws, owner) =>
    if s.ens.jobs.length < 8 then (s.setEns { s.ens with issue := none }).addJob none 0 owner ws else s
  | none => s

/-- What the Ensemble does whenever something changed for it: commits, lease joins, tests, dispatch, ended jobs and their
completions (R23, R404, R413, R414). -/
def State.ensRun (s : State) : State :=
  let s1 := s.takeIssue.serveEns.fillLease.joinDesks.startTest
  let s2 := s1.dispatch.stuckTiles.settleJobs
  s2.giveCompletions.answerTests

/-- Desk d passes a DESK_IDLE boundary. -/
def State.deskIdle (s : State) (d : Nat) : State :=
  let s1 := s.setDesk d .idle
  { s1 with commits := s1.commits.map (fun q => { q with desks := numWithBit q.desks d false }) }

/-- The Ensemble at a FRAME boundary: desks leave, those that have joined are used, SHORT is judged, and the bands of the next
frame, of lines y0 to y1, are expanded anew (R29, R331, R424, R425). -/
def State.ensFrame (s : State) (y0 y1 : Nat) : State :=
  let n := s.leaseHeld
  let s1 := s.leavers.foldl State.leaveLease s
  let s2 := (s1.setEns { s1.ens with
    used := s1.fld Reg.ENS_LEASED 15 0, band := none, nextBand := y0 / 8, firstBand := y0 / 8
    bandEnd := y1 / 8 + 1 }).leaseEvent n
  let idle := fun (s : State) (d : Nat) => match s.desk d with
    | .pass _ _ => s.setDesk d .idle
    | _ => s
  ((List.range 16).foldl idle s2).fillLease.joinDesks.judgeShort.ensRun

/-- The lease is released: step D7, or the end of demura mode 2 (R331, Table 3-3). -/
def State.releaseLease (s : State) : State :=
  let n := s.leaseHeld
  let s1 := s.askLease 0
  let s2 := (List.range 16).foldl (fun s d => if s.deskLeased d then
      (s.leaveLease d).setDesk d (match s.desk d with
        | .pass _ _ => .idle
        | u => u)
    else s) s1
  (s2.setEns { s2.ens with used := 0, band := none, nextBand := 0 }).leaseEvent n

/-! ### Jobs -/

/-- Jobs of a ring in flight (R411). -/
def State.jobsOf (s : State) (r : Nat) : Nat := (s.ens.jobs.filter (fun j => j.ring == some r)).length

/-- RING_JOBS in force: 0 acts as 1, above 8 as 8. -/
def State.ringJobs (s : State) : Nat := min 8 (max 1 (s.ffld Reg.ENS_CFG 3 0))

/-- JOB ring r is ready for a fetch (R124, R411). -/
def State.jobReady (s : State) (r : Nat) : Bool :=
  s.fetchReady r && s.ringType r == 4 && decide (s.ens.jobs.length < 8) && decide (s.jobsOf r < s.ringJobs)

/-- The fetch of the next JOB entry of ring r (R127, R139, R410, R411). -/
def State.fetchJob (s : State) (r : Nat) : State :=
  if !s.jobReady r then s
  else if s.pairHolds r then s
  else if !s.ringCovered r then s.haltRing r 2
  else
    let i := s.ringIndex r
    let ws := s.hallWords (s.entryAddr r i) 16
    if jobMalformed ws then
      let s1 := s.haltRing r 1
      State.giveCompletions (s1.setEns { s1.ens with badJobs := s1.ens.badJobs ++
        [{ ring := r, before := s1.ens.nextId, index := i, tag := field (nth ws 0) 31 16, pair := s1.ringPair r }] })
    else
      (s.setFld (ringWord r 3) 11 0 ((i + 1) % s.ringSize r))|> fun s => (s.addJob
        (some r) i (s.ringOwner r) ws).ensRun

/-- Ring r could be fetched from now: it is ready, and its COMPLETION ring does not hold it (R124, R127). -/
def State.canFetch (s : State) (r : Nat) : Bool :=
  s.fetchReady r && !s.pairHolds r && (s.ringType r != 4 || s.jobReady r)

/-- How many turns of the fetcher lie between the ring last fetched and ring r (R124). -/
def State.turnOf (s : State) (r : Nat) : Nat := (r + 255 - s.fetched) % 256

/-- It is the turn of ring r: no ring that could be fetched comes before it (R124). -/
def State.fetchTurn (s : State) (r : Nat) : Bool :=
  (List.range 256).all (fun q => decide (s.turnOf r ≤ s.turnOf q) || !s.canFetch q)

/-- A turn of the fetcher for ring r, taken by f; a ring that its COMPLETION ring holds takes none (R124). -/
def State.takeTurn (s : State) (r : Nat) (f : State → State) : State :=
  if !s.canFetch r then f s
  else if s.fetchTurn r then { f s with fetched := r }
  else s

/-- The fetcher takes the next entry of a ready COMMAND or MESSAGE SEND ring in its turn (R124). -/
def execEntryFetch (ring : BitVec 8) (s : State) : Host.Outcome State Fault Refusal :=
  .next (if s.ringType ring.toNat = 4 then s else s.takeTurn ring.toNat (fun s => s.fetch ring.toNat))

/-- JOB_FETCH (R411). -/
def execJobFetch (ring : BitVec 8) (s : State) : Host.Outcome State Fault Refusal :=
  .next (if s.ringType ring.toNat = 4 then s.takeTurn ring.toNat (fun s => s.fetchJob ring.toNat) else s)

/-- A job may take banks: checked, and not SERIAL behind an earlier job of its ring that has not ended (R412). -/
def State.mayStart (s : State) (j : Job) : Bool :=
  j.phase == .checked && !(bit (nth j.words 2) 16 && s.ens.jobs.any (fun k =>
    decide (k.id < j.id) && k.ring == j.ring && (k.phase == .checked || k.phase == .running)))

/-- The next job that starts: the first in fetch order that may, where enough banks are free (R412). -/
def State.jobToStart (s : State) : Option Job :=
  if s.coreOn && s.cur == 0 && !(s.moving && decide (s.cur < s.tgt)) then
    match s.ens.jobs.find? s.mayStart with
    | some j => if jobBanks j.words ≤ s.stageFree.length then some j else none
    | none => none
  else none

/-- A job starts: it takes the lowest-numbered free banks (R412). -/
def State.startJob (s : State) (j : Job) : State :=
  let banks := (s.stageFree.take (jobBanks j.words)).foldl (fun m b => m + 2 ^ b) 0
  let s1 := s.setJob { j with phase := .running, banks := banks }
  (s1.setEns { s1.ens with started := s1.ens.started ++ [j.id], stageGen := s1.ens.stageGen + 1 }).ensRun

/-- JOB_START (R412). -/
def execJobStart (s : State) : Host.Outcome State Fault Refusal :=
  .next (match s.jobToStart with
    | some j => s.startJob j
    | none => s)

/-- The job in a slot can load the panels of its next L2 tile: at most two are in flight (R402). -/
def State.loadable (s : State) (slot : Nat) : Option Job :=
  if s.jobsRun then
    s.ens.jobs.find? (fun j => j.slot == slot && j.phase == .running && j.ending.isNone && decide (j.flight.length < 2) &&
      decide (j.next < (jobWalk j.block).length))
  else none

/-- The panels of the next L2 tile of a job are in the Stage (R401, R404). -/
def State.loadPanels (s : State) (j : Job) : State :=
  let c := jobOps j.words
  let t := jobTensors j.words
  let at_ := (jobWalk j.block).getD j.next (0, 0)
  let r := (List.range c).foldl (fun (acc : List OpPanels × Cells (List (List Nat)) × State) i =>
    let x := acc.2.2.loadOp j.block c t i at_ acc.2.1
    (acc.1 ++ [x.1], x.2.1, x.2.2)) ([], j.held, s)
  (r.2.2.setJob { j with next := j.next + 1, held := r.2.1, flight := j.flight ++ [{ pos := j.next, panels := r.1 }] }).stageMoved.ensRun

/-- The panels of the next L2 tile of the job in a slot have been loaded (R401, R404). -/
def execL2PanelLoaded (slot : BitVec 3) (s : State) : Host.Outcome State Fault Refusal :=
  .next (match s.loadable slot.toNat with
    | some j => s.loadPanels j
    | none => s)

/-- What a desk tile works on: the panels of its L2 tile, or the chained input (R401, R407). -/
def tileOperand (j : Job) (l : L2Tile) (t : Tile) : Operand :=
  let c := jobOps j.words
  let n := jobTensors j.words
  let p := l.panels.getD t.op {}
  let a := opTensor j.block c n t.op 0
  { p := p
    lenA := (a.map Tensor.len).getD 0
    aPat := fun r e => if a.isSome then elemOf p.a r e
      else Cells.get (fun _ => 0) l.outs (2 ^ 32 * (t.op - 1) + 65536 * r + e)
    sa := inSigned j.block c n t.op
    sb := ((opTensor j.block c n t.op 1).map Tensor.isSigned).getD false
    outS := outSigned j.block c n t.op
    out32 := ((opTensor j.block c n t.op 2).map Tensor.word32).getD false }

/-- Something of each element of a desk tile by row: its row and column in the L2 tile, and what the desk gets wrong there. -/
def tileMap {α : Type} (o : OpDesc) (t : Tile) (errs : List DeskErr) (f : DeskErr → Nat → Nat → α) : List (List α) :=
  (List.range o.tileM).map (fun i => (List.range o.tileN).map (fun k =>
    f (errs.getD (i * o.tileN + k) (0, 0)) (t.row * o.tileM + i) (t.col * o.tileN + k)))

/-- The values that a desk stores of its tile by row (R394, R395). -/
def tileValues (j : Job) (l : L2Tile) (t : Tile) (errs : List DeskErr) : List (List Nat) :=
  tileMap (opOf j.block t.op) t errs ((opOf j.block t.op).value (tileOperand j l t))

/-- The residue unit passes the tile: every element has the residues that its operands give (R417). -/
def tilePasses (j : Job) (l : L2Tile) (t : Tile) (errs : List DeskErr) : Bool :=
  (tileMap (opOf j.block t.op) t errs ((opOf j.block t.op).residueOk (tileOperand j l t))).all (·.all id)

/-- A desk tile stored: in C in the Hall, or in the L2 tile's chained output (R405, R407). -/
def State.storeTile (s : State) (j : Job) (l : L2Tile) (t : Tile) (errs : List DeskErr) : State :=
  let c := jobOps j.words
  let o := opOf j.block t.op
  let at_ := (jobWalk j.block).getD l.pos (0, 0)
  let vs := tileValues j l t errs
  let note := fun (l : L2Tile) => { l with ended := (t.op, t.row, t.col) :: l.ended }
  let put := fun (s : State) (f : L2Tile → L2Tile) =>
    s.setJob { j with flight := j.flight.map (fun k => if k.pos = l.pos then note (f k) else k) }
  match opTensor j.block c (jobTensors j.words) t.op 2 with
  | some x =>
    let s1 := (List.range vs.length).foldl (fun s i =>
      s.storeRow x o.np (at_.1 * o.mt + t.row * o.tileM + i) (at_.2 * o.nt + t.col * o.tileN) (vs.getD i [])) s
    put s1 id
  | none =>
    put s.stageMoved (fun k =>
      { k with outs := (List.range vs.length).foldl (fun m i =>
        (List.range (vs.getD i []).length).foldl (fun m e =>
          Cells.put (fun _ => 0) m (2 ^ 32 * t.op + 65536 * (t.row * o.tileM + i) + (t.col * o.tileN + e))
            ((vs.getD i []).getD e 0)) m) k.outs })

/-- An L2 tile is done once every desk tile of every operation has ended; it leaves the Stage (R402, R407). -/
def State.retireL2 (s : State) (id : Nat) : State :=
  match s.runningJob id with
  | some j =>
    let c := jobOps j.words
    s.setJob { j with flight := j.flight.filter (fun l =>
      !(List.range c).all (fun i => ((opOf j.block i).tiles ((jobWalk j.block).getD l.pos (0, 0))).all (fun t =>
        l.ended.contains (i, t.1, t.2)))) }
  | none => s

/-- A desk tile that passed its check: stored, unless its job ends with DATA_FAULT, or the tile is a re-issue of a cancelled
job (R418). first: the desk that failed it before, which is then retired. -/
def State.tilePassed (s : State) (j : Job) (t : Tile) (first : Option Nat) (errs : List DeskErr) : State :=
  let drops := match j.ending with
    | some (st, _) => st == 0x1C || first.isSome
    | none => false
  let s1 := match first with
    | some f => (s.retireDesk f 1 j.ringField).retiredEvent f 1 j.ringField
    | none => s
  match s1.runningJob t.job with
  | some j1 =>
    match j1.flight.find? (fun l => l.pos == t.pos) with
    | some l => if drops then s1 else (s1.storeTile j1 l t errs).retireL2 t.job
    | none => s1
  | none => s1

/-- A desk tile that failed its check on desk d (R418). -/
def State.tileFailed (s : State) (j : Job) (d : Nat) (t : Tile) (first : Option Nat) : State :=
  match first with
  | none => if j.ending.isSome then s else s.setEns { s.ens with redo := s.ens.redo ++ [(t, d)] }
  | some f =>
    let s1 := match j.ending with
      | some _ => s
      | none => s.dataFault j t.op (2 ^ f + 2 ^ d)
    ((s1.setFlag Reg.ENS_SUSPECT f true).setFlag Reg.ENS_SUSPECT d true).raise 106 (word (f + 16 * d + 256 * j.ringField))

/-- Re-issues wait in ascending order of the desk that failed (18, "When things collide"). -/
def State.sortRedo (s : State) : State :=
  s.setEns { s.ens with redo := (List.range 16).flatMap (fun d => s.ens.redo.filter (fun e => e.2 == d)) }

/-- The cycles for which a tile of operation o of the job that is running occupies its desk (R391). -/
def State.tileCycles (s : State) (t : Tile) : Nat :=
  match s.runningJob t.job with
  | some j => (opOf j.block t.op).cycles
  | none => 0

/-- The residue unit of the desk passes the tile (R417). -/
def Job.passes (j : Job) (t : Tile) (errs : List DeskErr) : Bool :=
  match j.flight.find? (fun l => l.pos == t.pos) with
  | some l => tilePasses j l t errs
  | none => true

/-- The desk tile of a desk ends, with what the desk got wrong; its residue unit passes it or not (R417, R418). -/
def execTileEnd (desk : BitVec 4) (errs : List DeskErr) (s : State) : Host.Outcome State Fault Refusal :=
  .next (match s.desk desk.toNat with
    | .tile t first =>
      if !s.deskDone desk.toNat (s.tileCycles t) then s
      else
        let s1 := s.deskIdle desk.toNat
        (match s1.runningJob t.job with
         | some j =>
           let j1 := { j with run := satAdd 0xFFFFFFFF j.run 1 }
           let s2 := s1.setJob j1
           if j1.passes t errs then s2.tilePassed j1 t first errs else (s2.tileFailed j1 desk.toNat t first).sortRedo
         | none => s1).ensRun
    | _ => s)

/-- Every job of a set is cancelled (JOB_CANCEL, R57, R415): one that has not started ends at once, a started one when its
tiles in progress have ended. -/
def State.cancelJobs (s : State) (which : Job → Bool) : State :=
  s.ens.jobs.foldl (fun s j =>
    if !which j then s
    else match j.phase with
      | .checked => s.endJob j 0x1A 0
      | .running => if j.ending.isSome then s else s.setJob { j with ending := some (0x1A, 0) }
      | _ => s) s

/-- JOB_CANCEL (0x95). -/
def execJobCancel (ring : BitVec 8) (s : State) : Host.Outcome State Fault Refusal :=
  .next (s.runVerb ring.toNat 0x95
    (fun s v => s.hasPage v.owner 13 && (v.owner == 0 || s.ringOwner (field (v.arg 0) 7 0) == v.owner))
    (fun s v => v.argsWithin [0xFF#32] && s.ringEn (field (v.arg 0) 7 0) && s.ringType (field (v.arg 0) 7 0) == 4)
    (fun s v =>
      let mine := fun (j : Job) => j.ring == some (field (v.arg 0) 7 0) && (j.phase == .checked || j.phase == .running)
      let n := (s.ens.jobs.filter mine).length
      ((s.cancelJobs mine).ensRun).complete v .ok [word n]))

/-- A write of ISSUE.GO (R10, R416): the image in ISSUE_W0–3 is issued for the page owner, unless an issue is in progress. -/
def State.issueGo (s : State) (v : Word) : State :=
  if !bit v 31 || s.ens.issue.isSome || s.ens.jobs.any (fun j => j.ring.isNone) then s
  else
    let ws := (List.range 4).map (fun k => s.reg (Reg.ENS_ISSUE_W + 4 * k))
    let s1 := s.setFlag Reg.ENS_ISSUE_RESULT 31 false
    if jobMalformed ws then
      let seq := (s1.fld Reg.ENS_ISSUE_RESULT 23 16 + 1) % 256
      (List.range 4).foldl (fun s k => s.setReg (Reg.ENS_ISSUE_RES + 4 * k) 0#32)
        (s1.setReg Reg.ENS_ISSUE_RESULT (word (2 ^ 31 + 0x10000 * seq + 256 * Status.badVerb.code)))
    else (s1.setEns { s1.ens with issue := some (ws, s.fld Reg.ENS_MODE 13 8) }).ensRun

/-! ### Self-test rows -/

/-- A self-test falls due (R421): the next unretired desk after the last one tested. -/
def execBistDue (s : State) : Host.Outcome State Fault Refusal :=
  .next (
    let p := s.ffld Reg.ENS_CFG 15 8
    if s.coreOn && s.fflag Reg.ENS_CFG 16 && decide (0 < p) && decide (p * 60 * 32768 ≤ s.elapsed s.ens.dueFrom) then
      let s1 := s.setEns { s.ens with dueFrom := s.edge }
      match ((List.range 16).map (fun k => (s.ens.lastTested + 1 + k) % 16)).find? (fun d => !s.deskRetired d) with
      | some d => (s1.setEns { s1.ens with due := s1.ens.due.filter (· != d) ++ [d] }).ensRun
      | none => s1
    else s)

/-- A self-test ends with its result (R419, R420). -/
def State.endTest (s : State) (d : Nat) (passes : Bool) : State :=
  let retired := s.deskRetired d
  let seq := (s.fld Reg.ENS_BIST_RESULT 23 16 + 1) % 256
  let s1 := (s.deskIdle d).setReg Reg.ENS_BIST_RESULT (word (2 ^ 31 + 0x10000 * seq + 256 * passes.toNat + d))
  let s2 := s1.setEns { s1.ens with
    due := s1.ens.due.filter (· != d), lastTested := d
    asks := s1.ens.asks.map (fun e =>
      if e.2.left.testBit d && e.2.retest == retired then
        (e.1, { e.2 with left := numWithBit e.2.left d false, passed := numWithBit e.2.passed d passes })
      else e) }
  let s3 := if retired && passes then
      ((s2.setFlag Reg.ENS_RETIRED d false).setFlag Reg.ENS_SUSPECT d false).raise 105 (word d)
    else if !retired && !passes then (s2.retireDesk d 3 0xFF).retiredEvent d 3 0xFF
    else s2
  (s3.raise 107 (word (d + 16 * passes.toNat + 32 * (!retired && !passes).toNat))).ensRun

/-- The self-test of the desk under test ends (R420). -/
def execBistEnd (passes : Bool) (s : State) : Host.Outcome State Fault Refusal :=
  .next (match s.testing with
    | some d => if s.deskDone d 8192 then s.endTest d passes else s
    | none => s)

/-- Desks asked to be tested, under a key: the ring of the verb, 256 or 257 for the registers. -/
def State.askTests (s : State) (key mask : Nat) (retest : Bool) : State :=
  s.setEns { s.ens with asks := Cells.insert s.ens.asks key { left := mask, retest := retest } }

/-- DESK_TEST and DESK_RETEST (R421): deferred while desks are to be tested. -/
def State.deskTestVerb (retest : Bool) (s : State) (v : Verb) : State :=
  let t := field (v.arg 1) 15 0
  ((s.askTests v.ring (field (v.arg 0) 15 0) retest).defer v (.deskTest 0) (if t = 0 then 65536 else t)).ensRun

/-- DESK_TEST (0x92). -/
def execDeskTest (ring : BitVec 8) (s : State) : Host.Outcome State Fault Refusal :=
  .next (s.runVerb ring.toNat 0x92 (pageRight 13) (fun _ v => v.argsWithin [0xFFFF#32, 0xFFFF#32]) (State.deskTestVerb false))

/-- DESK_RETEST (0x93). -/
def execDeskRetest (ring : BitVec 8) (s : State) : Host.Outcome State Fault Refusal :=
  .next (s.runVerb ring.toNat 0x93 (pageRight 13) (fun _ v => v.argsWithin [0xFFFF#32, 0xFFFF#32]) (State.deskTestVerb true))

/-- A write of a test register, ignored while the tests it asked for run (R10). -/
def State.writeTests (s : State) (key mask : Nat) (retest : Bool) : State :=
  if (Cells.find s.ens.asks key).isSome then s else (s.askTests key mask retest).ensRun

/-- A write of DESK_TEST. -/
def State.writeDeskTest (s : State) (v : Word) : State := s.writeTests 256 (field v 15 0) false

/-- A write of DESK_RETEST. -/
def State.writeDeskRetest (s : State) (v : Word) : State := s.writeTests 257 (field v 15 0) true

/-! ### Bands (R423, R424, R426) -/

/-- Leased desk d takes the next pass of the band: a repeat that it did not run itself, else the next pass (R423, R426). -/
def State.givePass (s : State) (d : Nat) : State :=
  if !(s.ens.used.testBit d && s.deskLeased d && !s.deskRetired d && s.desk d == .idle) then s
  else match s.ens.band with
    | some b =>
      match b.redo with
      | (p, f) :: rest =>
        ((s.setEns { s.ens with band := some { b with redo := rest } }).setDesk d (.pass p (some f))).bump
          Reg.ENS_LEASE_STAT 31 16
      | [] =>
        if b.next < s.bandPasses then
          (s.setEns { s.ens with band := some { b with next := b.next + 1 } }).setDesk d (.pass b.next none)
        else s
    | none => s

/-- The leased desks in use take passes, in ascending order. -/
def State.givePasses (s : State) : State := (List.range 16).foldl State.givePass s

/-- Active line 8(b − 1), at whose start band b may be expanded, can have started in the frame that runs (R424). -/
def State.bandLine (s : State) (b : Nat) : Bool :=
  s.scan.frameOn && (match s.scan.lastReal with
    | some t => s.scan.cycles.isNone ||
        s.usPassed t ((s.firstActive + (8 * (b - 1) - 8 * s.ens.firstBand)) * hTotal s.inForce * pixDiv s.inForce / s.coreMHz)
    | none => true)

/-- The next band may start expanding (R424): the one before has ended, and from band 2 on its line of the frame has come. -/
def State.bandDue (s : State) : Bool :=
  s.coreOn && s.dmMode == 2 && s.ens.used != 0 && s.ens.band.isNone && decide (s.ens.nextBand < s.ens.bandEnd) &&
    (decide (s.ens.nextBand < s.ens.firstBand + 2) || s.bandLine s.ens.nextBand)

/-- Expansion of the next band starts (R424). -/
def execBandExpansionStart (s : State) : Host.Outcome State Fault Refusal :=
  .next (if s.bandDue then
      (s.setEns { s.ens with band := some { band := s.ens.nextBand }, nextBand := s.ens.nextBand + 1 }).givePasses
    else s)

/-- Hall byte of word k of pixel x of line y of the band buffer (R327). -/
def State.bandAddr (s : State) (x y k : Nat) : Nat :=
  s.ffld (Reg.PIPE_DM_BASE + 8) 22 0 + (y / 8 % 2) * 64 * s.hActive + (y % 8) * 8 * s.hActive + 8 * x + 4 * k

/-- The residue unit passes a band pass: every sum of the desk has the residue mod 3 of the exact one (R417). -/
def passOk (errs : List Int) : Bool := errs.all (fun e => e % 3 == 0)

/-- The codes that a pass writes: map p mod 6, 8 lines by 32 columns, with what the desk got wrong (R326, R327, R423). -/
def State.writePass (s : State) (b p : Nat) (errs : List Int) : State :=
  let m := p % 6
  let x0 := 32 * (p / 6)
  let n := min 32 (s.hActive - x0)
  let lines := min 8 (s.vActive - 8 * b)
  let u := s.ffld Reg.PIPE_DM_BASE 22 0 + m * s.vActive * s.dmRow
  let v := s.ffld (Reg.PIPE_DM_BASE + 4) 22 0 + m * s.hActive * s.dmRow
  let s1 := (s.touchHall (u + 8 * b * s.dmRow) (lines * s.dmRow)).touchHall (v + x0 * s.dmRow) (n * s.dmRow)
  (List.range lines).foldl (fun s l =>
    let y := 8 * b + l
    (List.range n).foldl (fun s c =>
      let a := s.bandAddr (x0 + c) y (m / 3)
      let w := withField (s.hallWord a) (10 * (m % 3) + 9) (10 * (m % 3)) (unsigned 10 (s.dmRound (s.dmSum m (x0 + c) y + errs.getD (32 * l + c) 0)))
      s.putHallWords a [if m % 3 = 0 then withField w 31 30 0 else w])
      (s.touchHall (s.bandAddr x0 y (m / 3)) (8 * (n - 1) + 4))) s1

/-- A band all of whose passes have been written is complete (R424). -/
def State.settleBand (s : State) : State :=
  match s.ens.band with
  | some b => if s.bandPasses ≤ b.ran then s.setEns { s.ens with band := none } else s
  | none => s

/-- A band pass ends, with what the desk got wrong; its residue check passes or not (R423, R426). -/
def execBandPassEnd (desk : BitVec 4) (errs : List Int) (s : State) : Host.Outcome State Fault Refusal :=
  .next (match s.desk desk.toNat, s.ens.band with
    | .pass p first, some b =>
      if !s.deskDone desk.toNat (s.dmRank + 8) then s
      else
        let s1 := s.setDesk desk.toNat .idle
        (if passOk errs then
          let s2 := ((s1.writePass b.band p errs).setEns { s1.ens with band := some { b with ran := b.ran + 1 } }).settleBand
          (match first with
           | some f => ((s2.retiredEvent f 2 0xFE).startMove f).joinDesks
           | none => s2)
         else match first with
          | none =>
            let s2 := s1.retireDesk desk.toNat 2 0xFE
            s2.setEns { s2.ens with band := some { b with redo := b.redo ++ [(p, desk.toNat)] } }
          | some f =>
            let s2 := (s1.setFlag Reg.ENS_SUSPECT f true).setFlag Reg.ENS_SUSPECT desk.toNat true
            s2.raise 106 (word (f + 16 * desk.toNat + 256 * 0xFE))).givePasses
    | _, _ => s)

/-! ### Commits and verbs (R427, R428) -/

/-- A write of COMMIT of ENS (R427). -/
def State.ensGo (s : State) (v : Word) : State := if bit v 0 then (s.goCommit 13).ensRun else s

/-- ENS_SET (0x90). -/
def execEnsSet (ring : BitVec 8) (s : State) : Host.Outcome State Fault Refusal :=
  .next (s.runVerb ring.toNat 0x90 (pageRight 13) (fun _ v => v.argsWithin [0x0001FF0F#32])
    (fun s v => s.stageVerb v 13))

/-- ENS_COMMIT (0x91). -/
def execEnsCommit (ring : BitVec 8) (s : State) : Host.Outcome State Fault Refusal :=
  .next (s.runVerb ring.toNat 0x91 (pageRight 13) (fun _ v => v.argsWithin []) (fun s v => (s.verbCommit v 13).ensRun))

/-- STATUS of ENS as it reads (Table 18-6). -/
def State.ensStatus (s : State) : Word :=
  withField (withField (s.reg Reg.ENS_STATUS) 20 16 s.stageFree.length) 11 8 s.ens.jobs.length

/-- ENS_READ (0x94). -/
def execEnsRead (ring : BitVec 8) (s : State) : Host.Outcome State Fault Refusal :=
  .next (s.runVerb ring.toNat 0x94 (pageRight 13) (fun _ v => v.argsWithin [0x1#32])
    (fun s v =>
      if bit (v.arg 0) 0 then
        s.complete v .ok [s.leaseWordNow, s.reg Reg.ENS_LEASE_STAT, s.reg Reg.ENS_JOB_STAT, s.reg Reg.ENS_RETIRE_LOG]
      else s.complete v .ok [s.reg Reg.ENS_RETIRED, s.reg Reg.ENS_LEASED, s.reg Reg.ENS_SUSPECT, s.ensStatus]))

/-! ### The ladder and resets -/

/-- Every unleased desk is idle. -/
def State.desksIdle (s : State) : Bool := s.tileDesks == 0

/-- Step D2 acts on jobs (R57, R415): below MEZZO jobs that have not started complete with HALTED, and a forced descent
abandons started ones. -/
def State.jobsAtD2 (s : State) (target : Nat) (forced : Bool) : State :=
  let s1 := if 2 ≤ target then s.cancelJobs (fun j => j.phase == .checked) else s
  (if forced then s1.cancelJobs (fun j => j.phase == .running) else s1).ensRun

/-- D2 is over: started jobs have paused (MEZZO), or completed (R56, R415). -/
def State.jobsDone (s : State) (target : Nat) : Bool :=
  if target = 1 then s.desksIdle else !s.ens.jobs.any (fun j => j.phase == .running)

/-- The Ensemble after a reset (Table 4-4): jobs, retirements and the lease are lost; the registers are reset with the others. -/
def State.resetEns (s : State) : State := s.setEns { dueFrom := s.edge }

end Sys2Proof.Machine
end

