-- ==== Sys2Proof/Machine/Face.lean ====
section
/-!
DEFINITION. FACE (16): wall time, evaluation, pushes and full-frame frames, the commit check, profiles and verbs.
-/

namespace Sys2Proof.Machine

/-- FACE's state beside its registers replaced. -/
def State.setFace (s : State) (x : Face) : State := { s with face := x }

/-- The twelve fields. -/
def faceFields : List Nat := List.range 12

/-! ### Wall time and evaluation (R375, R376) -/

/-- CADENCE of field f, 0 acting as 1. -/
def State.cadence (s : State) (f : Nat) : Nat := max 1 (s.ffld (faceField f 1) 31 24)

/-- The wall second count has changed since the last boundary (R225, R375). -/
def State.secondDue (s : State) : Bool := s.wallSec != s.face.second

/-- The evaluations of a tick, after its Score steps (R376): at a wall-second boundary the fields whose CADENCE divides s, and
the fields that a raise or a new WALL has marked. -/
def State.evaluate (s : State) : State :=
  (faceFields.filter (fun f => (s.secondDue && s.wallSec % s.cadence f == 0) || s.face.evals.contains f)).foldl
    (State.evalField false) (s.setFace { s.face with second := s.wallSec, evals := [] })

/-- A wall-second boundary comes, behind the Score steps of its tick (R376). -/
def execWallSecondBoundary (s : State) : Host.Outcome State Fault Refusal :=
  .next (if s.secondDue then s.evaluate else s)

/-- The tick in which a new WALL takes effect: every enabled field is evaluated at its end (R376). -/
def State.wallTick (s : State) : State :=
  match s.face.wallNext with
  | some w =>
    let s1 := s.setFace { s.face with wall := w, wallNext := none }
    (s1.setFace { s1.face with second := s1.wallSec }).markEvals faceFields
  | none => s

/-- WALL as written. -/
def State.wallReg (s : State) : BitVec 48 := (s.reg Reg.FACE_WALL_HI).setWidth 16 ++ s.reg Reg.FACE_WALL_LO

/-- A write of WALL_HI: WALL takes effect at the next tick (16, "Expert control"). -/
def State.writeWallHi (s : State) (v : Word) : State :=
  let s1 := s.hostSet Reg.FACE_WALL_HI v
  s1.setFace { s1.face with wallNext := some s1.wallReg }

/-- Every enabled field is evaluated and becomes DUE: REPAINT, or an accepted commit (R376). -/
def State.repaint (s : State) : State := faceFields.foldl (State.evalField true) s

/-- A write of REQ with REPAINT. -/
def State.writeFaceReq (s : State) (v : Word) : State := if bit v 0 then s.repaint else s

/-! ### Where the face appears (R380 to R383) -/

/-- The divisor of a rung (Table 13-4). -/
def rungDiv (r : Nat) : Nat := [1, 2, 4, 6, 12, 60].getD r 60

/-- The rung of the face's full-frame rate (R381). -/
def State.faceRung (s : State) : Nat := max (min 5 (s.ffld Reg.SCAN_LR_CFG 10 8)) (min 5 (s.fld Reg.SENSE_CAPS 10 8))

/-- Scan-out is stopped, outside a guided transition. -/
def State.scanStopped (s : State) : Bool := !s.scan.running && s.scan.trans == .none

/-- Full-frame runs: a RASTER panel without HOLD, FACE enabled, scan-out stopped outside FERMATA (R381). -/
def State.fullWanted (s : State) : Bool :=
  s.fflag Reg.FACE_CFG 0 && s.panelClass == 1 && !s.holds && s.scanStopped && decide (s.cur ≤ 3) && s.panel != 5

/-- STATUS.FULL follows, with EV_FACE_MODE at each change (R381). -/
def State.faceMode (s : State) : State :=
  if s.flag Reg.FACE_STATUS 8 = s.fullWanted then s
  else ((s.setFlag Reg.FACE_STATUS 8 s.fullWanted).setFace { s.face with lastFull := none }).raise 102 (word s.fullWanted.toNat)

/-- Scan-out has stopped: with LAYER 0 every enabled field becomes DUE, and full-frame may begin (Table 16-4). -/
def State.faceStops (s : State) : State :=
  (if s.fflag Reg.FACE_CFG 1 then s
   else faceFields.foldl (fun s f => if s.faceEn f then s.setDue f (s.faceShown f) else s) s).faceMode

/-- The enabled fields that wait to be shown, ascending. -/
def State.dueFields (s : State) : List Nat := faceFields.filter (fun f => s.faceFits f && s.faceDue f)

/-- A push may be made once CORE runs (R380): FACE enabled, outside FERMATA, scan-out stopped, and the panel ON or in HOLD as
one that keeps its picture. -/
def State.pushDue (s : State) : Bool :=
  s.fflag Reg.FACE_CFG 0 && decide (s.cur ≤ 3) && s.scanStopped && s.face.pushing.isNone && s.ladder.step != .fermata &&
    (s.panel == 2 || s.panel == 3) && (s.panelClass == 2 || (s.panelClass == 1 && s.holds)) &&
    (!s.dueFields.isEmpty || !s.face.bgBoxes.isEmpty)

/-- A field is no longer DUE. -/
def State.clearDue (s : State) (f : Nat) : State := s.setFlag (faceVal f) 30 false

/-- The pixels of a rectangle through stages 3 to 8 as a push sends them: coarse demura, no overdrive, and the store invalid
after it (R334, R343, R382). -/
def State.facePixels (s : State) (r : Rect) (tap : Nat → Nat → Col) : List PixOut :=
  r.points.map (fun p => s.pixOut (tap p.1 p.2) false false false p.1 p.2)

/-- A REGION push of one box. -/
def State.pushBox (s : State) (acc : List PixOut) (r : Rect) (tap : Nat → Nat → Col) : List PixOut × State :=
  match r.clip s.hActive s.vActive with
  | some c => let px := s.facePixels c tap; (acc ++ px, s.sendRegion c px)
  | none => (acc, s)

/-- The rows of a set of boxes, in the order of GDIR. -/
def State.boxRows (s : State) (boxes : List Rect) : List Nat :=
  let rows := (List.range s.vActive).filter (fun y => boxes.any (fun b => decide (b.y0 ≤ y) && decide (y ≤ b.y1)))
  if s.fflag Reg.STAVE_CFG 9 then rows.reverse else rows

/-- LINE packets of whole rows (R380, RASTER with HOLD). -/
def State.pushRows (s : State) (rows : List Nat) : List PixOut × State :=
  rows.foldl (fun (acc : List PixOut × State) y =>
    let px := acc.2.facePixels { x0 := 0, y0 := y, x1 := acc.2.hActive - 1, y1 := y } acc.2.faceOnly
    (acc.1 ++ px, acc.2.sendRow 2 (acc.2.firstActive + acc.2.lineOfRow y - 1) y px)) ([], s)

/-- The cycles of a pixel period of a push or full-frame frame: BURST_PIXDIV of the burst clock, else PIXDIV (R382). -/
def State.pushDiv (s : State) : Nat :=
  if s.ladder.core = .burst then max 1 (s.ffld Reg.FACE_CFG 23 16) else pixDiv s.inForce

/-- A number of pixel periods of a push in µs (R382). -/
def State.pushUs (s : State) (periods : Nat) : Nat := s.pushDiv * periods / max 1 s.coreMHz

/-- The pixel periods of a REGION push of boxes (R300, R380). -/
def State.boxPeriods (s : State) (boxes : List Rect) : Nat :=
  boxes.foldl (fun n b => match b.clip s.hActive s.vActive with
    | some r => n + (r.y1 + 1 - r.y0) * (r.x1 + 1 - r.x0 + hTotal s.inForce - s.hActive)
    | none => n) 0

/-- The pixel periods of a push of rows: frame lines from 0 to the line of the last of them (R380). -/
def State.rowPeriods (s : State) (rows : List Nat) : Nat :=
  hTotal s.inForce * rows.foldl (fun n y => max n (s.firstActive + s.lineOfRow y + 1)) 0

/-- A push of the DUE fields and of the boxes to be blanked (R380, R386). -/
def State.pushFace (s : State) : State :=
  let due := s.dueFields
  let s1 := s.setStave { s.stave with sent := [] }
  let bg := colOf (s.inForce Reg.FACE_BG)
  let r := if s.panelClass = 2 then
      let r0 := s.face.bgBoxes.foldl (fun (acc : List PixOut × State) b => acc.2.pushBox acc.1 b (fun _ _ => bg)) ([], s1)
      due.foldl (fun (acc : List PixOut × State) f => acc.2.pushBox acc.1 (acc.2.faceBox f) acc.2.faceOnly) r0
    else s1.pushRows (s1.boxRows (s1.face.bgBoxes ++ due.map s1.faceBox))
  let s2 := due.foldl State.clearDue r.2
  let boxes := s.face.bgBoxes ++ due.map s.faceBox
  let region := s.panelClass == 2
  ({ s2 with pipe := { s2.pipe with odValid := false } } : State).setFace { s2.face with
    bgBoxes := []
    pushing := some {
      shown := due.map (fun f => (f, s.faceShown f)), full := false, sig := signature (r.1.map (·.tap))
      rows := if region then [] else s.boxRows boxes, at_ := s.edge
      us := s.pushUs (if region then s.boxPeriods boxes else s.rowPeriods (s.boxRows boxes)) } }

/-- Pixels wait for the panel: a panel that is off is powered on, and a link that is OFF trains first (R356, R360, R361,
R383). -/
def State.wakeLink (s : State) : State :=
  if s.stave.step != .none then s
  else if s.panel = 0 then s.powerOn
  else if s.link = 0 ∧ (s.panel = 2 ∨ s.panel = 3) then s.startTraining 0
  else s

/-- A push starts in the first burst or CORE cycles after a field becomes DUE, once the link is trained (R380). -/
def execFacePush (s : State) : Host.Outcome State Fault Refusal :=
  .next (if s.coreOn && s.pushDue then
      (if s.linkSends then s.pushFace else s.wakeLink)
    else s)

/-- The next full-frame frame may start (R381): d × T_base at TUTTI_FREQ after the last one. -/
def State.fullDue (s : State) : Bool :=
  s.flag Reg.FACE_STATUS 8 && s.face.pushing.isNone && s.ladder.step != .fermata &&
    (match s.face.lastFull with
     | some t => s.usPassed t (rungDiv s.faceRung * s.baseUs)
     | none => true)

/-- A full-frame frame: every row with BG outside the boxes; every field is shown (R381). -/
def State.fullFrame (s : State) : State :=
  let shown := (faceFields.filter s.faceFits).map (fun f => (f, s.faceShown f))
  let px := s.facePixels s.activeRect s.faceOnly
  let s1 := s.sendRaster (s.fld Reg.FACE_PUSHES 31 0) px
  let s2 := shown.foldl (fun s e => s.clearDue e.1) s1
  ({ s2 with pipe := { s2.pipe with odValid := false } } : State).setFace { s2.face with
    bgBoxes := [], lastFull := some s.edge
    pushing := some {
      shown := shown, full := true, sig := signature (px.map (·.tap)), at_ := s.edge
      us := s.pushUs (hTotal s.inForce * (s.firstActive + s.vActive)) } }

/-- A full-frame frame starts once the panel is lit and its link trained (R381, R383). -/
def execFullFrameStart (s : State) : Host.Outcome State Fault Refusal :=
  .next (if s.coreOn && s.fullDue then (if s.linkSends then s.fullFrame else s.wakeLink) else s)

/-- A field shown: FIELD_VAL takes its value with VALID, OVER and RANGE follow it with EV_FACE_RANGE at a rise, and its miss
count returns to 0 (R377, R384, R385). -/
def State.showField (s : State) (f v : Nat) : State :=
  let w1 := s.inForce (faceField f 1)
  let wide := !bit w1 9 && decide (10 ^ s.faceCells f ≤ v)
  let range := bit w1 9 && decide (255 < field w1 19 12 + v)
  let rose := (wide && !s.flag (faceVal f) 28) || (range && !s.flag (faceVal f) 29)
  let s1 := ((((s.setFld (faceVal f) 26 0 v).setFlag (faceVal f) 31 true).setFlag (faceVal f) 28 wide).setFlag
    (faceVal f) 29 range).setFace { s.face with miss := Cells.put (fun _ => 0) s.face.miss f 0 }
  if rose then s1.raise 100 (word (f + 16 * wide.toNat + 32 * range.toNat)) else s1

/-- A push or full-frame frame ends (R385). -/
def State.endPush (s : State) (p : FacePush) : State :=
  let s1 := (((s.setFace { s.face with pushing := none }).setReg Reg.FACE_LAST_SIG p.sig).setReg Reg.FACE_PUSHES
    (s.reg Reg.FACE_PUSHES + 1#32))
  let s2 := p.shown.foldl (fun s e => s.showField e.1 e.2) s1
  let mask := p.shown.foldl (fun m e => numWithBit m e.1 true) 0
  s2.raise 98 (word (mask + 4096 * p.full.toNat + 0x10000 * s2.fld Reg.FACE_PUSHES 15 0))

/-- A push or full-frame frame ends, its pixel periods after its start (R382, R385). -/
def execFacePushEnd (s : State) : Host.Outcome State Fault Refusal :=
  .next (match s.face.pushing with
    | some p => if s.usPassed p.at_ p.us then s.endPush p else s
    | none => s)

/-! ### Commit (R386, R389) -/

/-- The box of a field of a FACE set. -/
def boxOf (fc : Nat → Word) (f : Nat) : Rect :=
  let w0 := fc (faceField f 0)
  let w2 := fc (faceField f 2)
  { x0 := field w0 11 0, y0 := field w0 27 16
    x1 := field w0 11 0 + min 8 (max 1 (field (fc (faceField f 1)) 7 4)) * field w2 7 0 - 1
    y1 := field w0 27 16 + field w2 15 8 - 1 }

/-- The enabled fields of a FACE set. -/
def enabledFields (fc : Nat → Word) : List Nat := faceFields.filter (fun f => bit (fc (faceField f 0)) 31)

/-- Two rectangles share a pixel. -/
def Rect.meets (a b : Rect) : Bool := decide (a.x0 ≤ b.x1) && decide (b.x0 ≤ a.x1) && decide (a.y0 ≤ b.y1) && decide (b.y0 ≤ a.y1)

/-- A box lies in the active area in force. -/
def State.boxFits (s : State) (r : Rect) : Bool := decide (r.x1 < s.hActive) && decide (r.y1 < s.vActive)

/-- Code 1 of R386 for a field of a FACE set. -/
def State.badField (s : State) (fc : Nat → Word) (f : Nat) : Bool :=
  let kind := field (fc (faceField f 1)) 3 0
  let w2 := fc (faceField f 2)
  kind == 0 || decide (11 ≤ kind) || field w2 7 0 == 0 || field w2 15 8 == 0 || !s.boxFits (boxOf fc f)

/-- Code 4 of R386: the burst pixel divider of a FACE set does not fit. -/
def State.badBurst (s : State) (fc : Nat → Word) : Bool :=
  let div := max 1 (field (fc Reg.FACE_CFG) 23 16)
  let mhz := if s.flag Reg.DEV_LADDER_CFG 9 then 50 else 48
  s.panelClass != 0 && (!slotsFit s.inForce s.inForce s.depth div ||
    (s.panelClass == 1 && !s.holds &&
      decide (rungDiv s.faceRung * s.baseCycles * mhz < (vTotal s.inForce * hTotal s.inForce * div + 100 * mhz) * s.tuttiMHz)))

/-- The first code that a FACE set fails against the SCAN set in force; 0 where it passes (R386). -/
def State.faceCode (s : State) (fc : Nat → Word) : Nat :=
  let fs := enabledFields fc
  if fs.any (s.badField fc) then 1
  else if fs.any (fun a => fs.any (fun b => a != b && (boxOf fc a).meets (boxOf fc b))) then 2
  else if fs.any (fun f => !bit (fc (faceField f 1)) 9 && decide (246 < field (fc (faceField f 1)) 19 12)) then 3
  else if s.badBurst fc then 4 else 0

/-- The boxes of fields that a set moves or disables: enabled in force, and not enabled with the same box in the set. -/
def State.movedBoxes (s : State) (fc : Nat → Word) : List Rect :=
  ((enabledFields s.inForce).filter (fun f => !(bit (fc (faceField f 0)) 31 && boxOf fc f == boxOf s.inForce f))).map
    (boxOf s.inForce)

/-- The commit of FACE at a FRAME boundary (R386). -/
def State.commitFace (s : State) : State :=
  let code := s.faceCode s.reg
  let s1 := s.setFld Reg.FACE_STATUS 7 4 code
  if code ≠ 0 then
    let s2 := s1.setFlag Reg.FACE_STATUS 2 true
    (s2.endCommit 12 .badArg [s2.reg Reg.FACE_STATUS &&& 0xFFFFFFFE#32]).raise 101 (word code)
  else
    let old := s1.movedBoxes s1.reg
    let s2 := (s1.setFlag Reg.FACE_STATUS 2 false).applyShadow 12
    let s3 := faceFields.foldl (fun s f =>
      let t := if s.face.unfit.contains f then s.setFlag (faceVal f) 29 false else s
      if t.faceEn f then t else t.clearDue f) s2
    let s4 := s3.setFace { s3.face with unfit := [], bgBoxes := if s3.scanStopped then s3.face.bgBoxes ++ old else [] }
    let s5 := s4.repaint.faceMode
    s5.endCommit 12 .ok [s5.reg Reg.FACE_STATUS &&& 0xFFFFFFFE#32]

/-- RANGE of a field that no longer fits, with EV_FACE_RANGE where it rises (R377, R389). -/
def State.markUnfit (s : State) (f : Nat) : State :=
  if s.flag (faceVal f) 29 then s
  else (s.setFlag (faceVal f) 29 true).raise 100 (word (f + 16 * (s.flag (faceVal f) 28).toNat + 32))

/-- After a guided transition the set in force is checked again: fields whose box left the active area are not rendered and
read RANGE until an accepted commit (R389). -/
def State.recheckFace (s : State) : State :=
  let bad := (enabledFields s.inForce).filter (fun f => s.face.unfit.contains f || !s.boxFits (boxOf s.inForce f))
  bad.foldl State.markUnfit (s.setFace { s.face with unfit := bad })

/-- A write of COMMIT of FACE. -/
def State.faceGo (s : State) (v : Word) : State := if bit v 0 then s.goCommit 12 else s

/-! ### Profiles and verbs (R387, R388) -/

/-- Table-window word i of FACE (0 to 319) as an offset. -/
def faceTable (i : Nat) : Nat := 0x1C0000 + 4 * i

/-- The registers of a KIND 0 payload, in its order (R387). -/
def faceProfileRegs : List Nat := [Reg.FACE_CFG, Reg.FACE_BG] ++ (List.range 8).map (fun k => Reg.FACE_PAL + 4 * k)

/-- The rule of a CONFIG_FACE payload (R387). -/
def facePayloadOk (bs : List Byte) : Bool :=
  let ws := bytesWords bs
  let w1 := nth ws 1
  let kind := field w1 31 30
  let n := field w1 24 16
  decide (8 ≤ bs.length) && field (nth ws 0) 31 8 == 0 &&
    (if kind = 0 then
      bs.length == 48 && field w1 29 0 == 0 && (faceProfileRegs.zipIdx).all (fun e => within (nth ws (e.2 + 2)) (writable e.1))
    else if kind = 1 then
      bs.length == 8 + 4 * n && within w1 0xC1FF03FF#32 && decide (1 ≤ n) && decide (n ≤ 510) &&
        decide (field w1 9 0 + n ≤ 320) &&
        (List.range n).all (fun i => aliasOk (faceTable (field w1 9 0 + i)) (nth ws (i + 2)))
    else if kind = 2 then
      bs.length == 8 + 4 * n && within w1 0xC1FF1FFF#32 && decide (1 ≤ n) && decide (n ≤ 510) &&
        decide (field w1 12 0 + n ≤ 8192) && (List.range n).all (fun i => field (nth ws (i + 2)) 31 30 == 0)
    else false)

/-- A record of a CONFIG_FACE profile staged, or written to the atlas at once for KIND 2 (R387). -/
def State.stageFaceRec (s : State) (bs : List Byte) : State :=
  let ws := bytesWords bs
  let w1 := nth ws 1
  match field w1 31 30 with
  | 0 => (faceProfileRegs.zipIdx).foldl (fun s e => s.stage e.1 (nth ws (e.2 + 2))) s
  | 1 => (List.range (field w1 24 16)).foldl (fun s i => s.stage (faceTable (field w1 9 0 + i)) (nth ws (i + 2))) s
  | _ => s.setAoWords (field w1 12 0) ((ws.drop 2).take (field w1 24 16))

/-- A CONFIG_FACE profile staged in ascending SEQ, with the number of records applied (R387). -/
def State.stageFace (s : State) (profile : Nat) : Nat × State :=
  let (recs, s1) := s.configRecs 4 profile facePayloadOk
  (recs.length, recs.foldl (fun s e => s.stageFaceRec e.2) s1)

/-- FACE_LOAD (0x8B). -/
def execFaceLoad (ring : BitVec 8) (s : State) : Host.Outcome State Fault Refusal :=
  .next (s.runVerb ring.toNat 0x8B (pageRight 12) (fun _ v => v.argsWithin [0xFF#32])
    (fun s v =>
      let r := s.stageFace (field (v.arg 0) 7 0)
      if r.1 = 0 then r.2.complete v .badArg else r.2.verbCommit v 12 (some r.1)))

/-- The offsets that FACE_SET may name (Table 16-5). -/
def faceOffset (a : Nat) : Bool := (decide (0xC000 ≤ a) && decide (a ≤ 0xC034)) || (decide (0x1C0000 ≤ a) && decide (a ≤ 0x1C04FC))

/-- FACE_SET (0x8C). -/
def execFaceSet (ring : BitVec 8) (s : State) : Host.Outcome State Fault Refusal :=
  .next (s.runVerb ring.toNat 0x8C (pageRight 12)
    (fun _ v => v.argsWithin [0xFFFFFF#32, 0xFFFFFFFF#32] && faceOffset (v.arg 0).toNat &&
      (aliasOk (v.arg 0).toNat (v.arg 1) || ((v.arg 0).toNat == Reg.FACE_REQ && within (v.arg 1) 1#32)))
    (fun s v => s.stageVerb v 12))

/-- FACE_COMMIT (0x8D). -/
def execFaceCommit (ring : BitVec 8) (s : State) : Host.Outcome State Fault Refusal :=
  .next (s.runVerb ring.toNat 0x8D (pageRight 12) (fun _ v => v.argsWithin []) (fun s v => s.verbCommit v 12))

/-- FACE_WALL (0x8E): WALL takes effect at the next tick; the previous one is returned. -/
def execFaceWall (ring : BitVec 8) (s : State) : Host.Outcome State Fault Refusal :=
  .next (s.runVerb ring.toNat 0x8E (pageRight 12) (fun _ v => v.argsWithin [0xFFFFFFFF#32, 0xFFFF#32])
    (fun s v =>
      let old := s.wallReg
      ((s.setReg Reg.FACE_WALL_LO (v.arg 0)).writeWallHi (v.arg 1)).complete v .ok
        [old.setWidth 32, word (old.toNat / 2 ^ 32)]))

/-- FACE_READ (0x8F). -/
def execFaceRead (ring : BitVec 8) (s : State) : Host.Outcome State Fault Refusal :=
  .next (s.runVerb ring.toNat 0x8F (pageRight 12)
    (fun _ v => v.argsWithin [0xF#32] && decide (field (v.arg 0) 3 0 ≤ 11))
    (fun s v => s.complete v .ok [s.reg Reg.FACE_STATUS, word s.wallSec, s.reg (faceVal (field (v.arg 0) 3 0)),
      s.reg Reg.FACE_PUSHES]))

/-- FACE after a CORE reset: a push in progress is lost. -/
def State.cutPush (s : State) : State := s.setFace { s.face with pushing := none }

/-- FACE after a SYSTEM reset: WALL goes on, everything else starts anew (Table 16-6). -/
def State.resetFace (s : State) : State :=
  s.setFace { wall := s.face.wall, wallNext := s.face.wallNext, second := s.face.second }

end Sys2Proof.Machine
end

