-- ==== Sys2Proof/Machine/Freq.lean ====
section
/-!
DEFINITION. CORE's frequency and VDD_CORE (R65, R69 to R71): the frequencies of TUTTI and MEZZO, frequency steps, requests
for VDD_CORE and their confirmation, the lock of the PLL, and the verbs and writes of LADDER_CFG.
-/

namespace Sys2Proof.Machine

/-- The frequency code of TUTTI: codes above 4 act as 4 (Table 3-12). -/
def State.tuttiCode (s : State) : Nat := min 4 (s.fld Reg.DEV_LADDER_CFG 2 0)

/-- The frequency code of MEZZO, which is never faster than TUTTI (R69). -/
def State.mezzoCode (s : State) : Nat := max s.tuttiCode (min 4 (max 2 (s.fld Reg.DEV_LADDER_CFG 6 4)))

/-- The frequency code of ladder state c. -/
def State.freqFor (s : State) (c : Nat) : Nat := if c = 0 then s.tuttiCode else s.mezzoCode

/-- VCORE_FIXED. -/
def State.vcoreFixed (s : State) : Bool := s.flag Reg.DEV_LADDER_CFG 8

/-- A confirmation of VDD_CORE is awaited since a tick, or not. -/
def State.setVcoreAt (s : State) (t : Option (BitVec 48)) : State := { s with ladder := { s.ladder with vcoreAt := t } }

/-- CORE steps to a PLL frequency: item 4 and the link follow, and a step from 400 MHz lets VDD_CORE fall (R70, R242,
R358). In the 2 ticks of a CORE reset the step is taken when CORE restarts (R87). The cycles of the frame that
runs are no longer those of its lines alone (R65), nor are those of the desks' work in progress. -/
def State.setFreq (s : State) (f : Nat) : State :=
  if s.boot.coreHeld then { s with boot := { s.boot with coreWas := .pll f } }
  else if s.ladder.core = .pll f then s
  else
    let s0 : State := { s with scan := { s.scan with cycles := none }, ens := { s.ens with deskAt := [] } }
    let s1 := ((s0.setCore (.pll f)).tuneFreqStep).staveFreqStep
    if s.ladder.core = .pll 0 ∧ !s.vcoreFixed then s1.raise 2 650#32 else s1

/-- VDD_CORE for 400 MHz is requested and its confirmation awaited (R70). -/
def State.askVcore (s : State) : State := (s.setVcoreAt (some s.edge)).raise 2 750#32

/-- CORE takes frequency code f; 400 MHz waits at 200 MHz for its confirmation unless VDD_CORE is fixed (R70, R71). -/
def State.goFreq (s : State) (f : Nat) : State :=
  if f = 0 ∧ !s.vcoreFixed then
    if s.ladder.core = .pll 0 then s else (s.setFreq 1).askVcore
  else (s.setVcoreAt none).setFreq f

/-- The PLL code that clocks CORE, if it does. -/
def State.pllCode (s : State) : Option Nat :=
  match s.ladder.core with
  | .pll f => some f
  | _ => none

/-- A step down that waits is taken at a FRAME boundary (R69). -/
def State.freqBoundary (s : State) : State :=
  match s.pllCode with
  | some r => if s.cur ≤ 1 ∧ r < s.freqFor s.cur then s.goFreq (s.freqFor s.cur) else s
  | none => s

/-- LADDER_CFG takes a value (R69 to R71): VCORE_FIXED clears VCORE_LOW; a step up is taken at once, a step down waits for
the next FRAME boundary, or not where scan-out is stopped. -/
def State.applyLadderCfg (s : State) (v : Word) : State :=
  let old := s.freqFor s.cur
  let fixed := s.vcoreFixed
  let s1 := s.hostSet Reg.DEV_LADDER_CFG v
  let s2 := if s1.vcoreFixed then s1.setFlag Reg.DEV_LADDER_STATE 11 false else s1
  match s2.pllCode with
  | some r =>
    let new := s2.freqFor s2.cur
    if 2 ≤ s2.cur ∨ (new = old ∧ (fixed ∨ !s2.vcoreFixed)) ∨ (r < new ∧ s2.scanRuns) then s2
    else s2.goFreq new
  | none => s2

/-- LADDER_CONFIG (0x11): LADDER_CFG, IDLE, WAKE_TGT and TACET_CFG in one tick. -/
def execLadderConfig (ring : BitVec 8) (s : State) : Host.Outcome State Fault Refusal :=
  .next (s.runVerb ring.toNat 0x11 clientZero
    (fun _ v => v.argsWithin [0x377#32, 0x87FFFFFF#32, 0xFFFFFF#32, 0x0FF1FFFF#32])
    (fun s v => ((((s.applyLadderCfg (v.arg 0)).hostSet Reg.DEV_IDLE (v.arg 1)).hostSet Reg.DEV_WAKE_TGT (v.arg 2)).hostSet
      Reg.DEV_TACET_CFG (v.arg 3)).complete v .ok))

/-- 400 MHz is withheld in TUTTI: the request is repeated by a LADDER_SET (R70). -/
def State.repeatVcore (s : State) : State :=
  if s.cur == 0 && !s.moving && s.tuttiCode == 0 && !s.vcoreFixed && s.pllCode == some 1 && s.ladder.vcoreAt.isNone then s.askVcore
  else s

/-- LADDER_SET (0x10, R54, R55). -/
def execLadderSet (ring : BitVec 8) (s : State) : Host.Outcome State Fault Refusal :=
  .next (s.runVerb ring.toNat 0x10 (pageRight 0)
    (fun _ v => v.argsWithin [0x7#32] && decide (field (v.arg 0) 2 0 ≤ 5))
    (fun s v => (s.request (field (v.arg 0) 2 0) .verb (some v.ring)).repeatVcore))

/-- REQUEST_STATE: a ladder request with cause Score and the effect of LADDER_SET (R54). -/
def execRequestState (task : BitVec 4) (s : State) : Host.Outcome State Fault Refusal :=
  .next (s.runStep task.toNat 0x20 0x7#32 (fun _ w => decide (5 < field w 2 0))
    (fun s w => ((s.stepOn task.toNat).request (field w 2 0) .score none).repeatVcore))

/-- The level that confirms VDD_CORE, in mV: UP_MV rounded up to a multiple of 10 (R199). -/
def State.confirmMv (s : State) : Nat := (s.fld Reg.DEV_VCORE_CFG 9 0 + 9) / 10 * 10

/-- RAIL_STATUS.CONFIRM follows VDD_CORE (R199). -/
def State.showConfirm (s : State) (mv : Nat) : State := s.setFlag Reg.SENSE_RAIL_STATUS 16 (decide (s.confirmMv ≤ mv))

/-- VDD_CORE has this level: CONFIRM shows it until the next report (R199). -/
def State.seeCore (s : State) (mv : Nat) : State :=
  State.showConfirm { s with sense := { s.sense with coreMv := some mv } } mv

/-- The VDD_CORE comparator reports its level, which confirms it while a request waits (R70, R199). -/
def execVcoreConfirmed (mv : Nat) (s : State) : Host.Outcome State Fault Refusal :=
  .next (if s.boot.step == .por || s.boot.step == .tacet || s.boot.sysHeld then s
    else
      let s1 := s.seeCore mv
      if s1.ladder.vcoreAt.isSome ∧ s1.confirmMv ≤ mv then
        ((s1.setVcoreAt none).setFlag Reg.DEV_LADDER_STATE 11 false).setFreq 0
      else s1)

/-- No confirmation within TIMEOUT ticks: CORE stays at 200 MHz (R70). -/
def execVcoreTimeout (s : State) : Host.Outcome State Fault Refusal :=
  .next (match s.ladder.vcoreAt with
    | some t =>
      if max 1 (s.fld Reg.DEV_VCORE_CFG 25 16) ≤ s.elapsed t then
        (s.setVcoreAt none).setFlag Reg.DEV_LADDER_STATE 11 true
      else s
    | none => s)

/-- The PLL locks: CORE on FAST_RC in TUTTI or MEZZO takes the frequency of its state (R69, R82). -/
def execPllLock (s : State) : Host.Outcome State Fault Refusal :=
  .next (
    let s1 : State := { s with ladder := { s.ladder with pllLocked := true } }
    if s1.boot.step = .released ∧ s1.ladder.core = .fastRc ∧ s1.cur ≤ 1 ∧ !s1.boot.coreHeld then s1.goFreq (s1.freqFor s1.cur)
    else s1)

end Sys2Proof.Machine
end

