-- ==== Sys2Proof/Machine/Scan.lean ====
section
/-!
DEFINITION. Scan-out and the pipeline's commits (13, 14, 15): commit checks, guided transitions, self-refresh, the refresh
ladder, brightness and overdrive bank, frames, statistics and the freeze detector, profiles and verbs.
-/

namespace Sys2Proof.Machine

/-- Scan-out's state beside its registers replaced. -/
def State.setScan (s : State) (x : Scan) : State := { s with scan := x }

/-- The SCAN set that will be in force: the shadow where a transition is under way for it (R306, R355). -/
def State.scanSet (s : State) : Nat → Word := if s.scan.transPages.contains 9 then s.reg else s.inForce

/-- The STAVE set that will be in force (R355). -/
def State.staveSet (s : State) : Nat → Word := if s.scan.transPages.contains 11 then s.reg else s.inForce

/-! ### Commit checks (R304, R340) -/

/-- The base rate of a SCAN set at TUTTI_FREQ lies within 2 % of BASE_HZ (R304). -/
def State.rateFits (s : State) (sc : Nat → Word) : Bool :=
  let cyc := pixDiv sc * hTotal sc * vTotal sc
  let want := field (sc Reg.SCAN_CLASS) 15 8 * cyc
  let have_ := s.tuttiMHz * 1000000
  decide (50 * (max have_ want - min have_ want) ≤ want)

/-- The first code that a SCAN set fails; 0 where it passes or is OFF (R304, Table 13-7). -/
def State.scanCode (s : State) (sc : Nat → Word) : Nat :=
  let cls := field (sc Reg.SCAN_CLASS) 1 0
  let h := field (sc Reg.SCAN_ACTIVE) 11 0
  let v := field (sc Reg.SCAN_ACTIVE) 27 16
  let hz := field (sc Reg.SCAN_CLASS) 15 8
  let porch := [Reg.SCAN_HTIM, Reg.SCAN_VTIM].flatMap (fun a => [field (sc a) 9 0, field (sc a) 19 10, field (sc a) 29 20])
  if cls = 0 then 0
  else if cls = 3 then 1
  else if h = 0 ∨ 2048 < h ∨ v = 0 ∨ 2048 < v then 2
  else if porch.any (· == 0) then 3
  else if pixDiv sc = 0 then 4
  else if hz = 0 ∨ 120 < hz ∨ !s.rateFits sc then 5
  else if bandwidthCode sc s.staveSet s.depth ≠ 0 then 6
  else 0

/-- A committed SCAN set applies seamlessly (R305). -/
def seamless (a b : Nat → Word) : Bool :=
  a Reg.SCAN_CLASS &&& 0xFF13#32 == b Reg.SCAN_CLASS &&& 0xFF13#32 &&
  a Reg.SCAN_ACTIVE &&& 0x0FFF0FFF#32 == b Reg.SCAN_ACTIVE &&& 0x0FFF0FFF#32

/-- A range of Hall bytes lies in one enabled lease of a type. -/
def State.inLease (s : State) (type : Nat) (a : Nat × Nat) : Bool :=
  match s.leaseOf a.1 a.2 with
  | some l => s.leaseType l == type
  | none => false

/-- Two ranges share a byte. -/
def rangesMeet (a b : Nat × Nat) : Bool := decide (a.1 < b.1 + b.2) && decide (b.1 < a.1 + a.2)

/-- DM_MODE of a PIPE set; 3 acts as 0. -/
def dmModeOf (pc : Nat → Word) : Nat := let m := field (pc Reg.PIPE_CFG) 9 8; if m = 3 then 0 else m

/-- The map areas and the band buffer of a PIPE set in an active area (R326, R340). -/
def demuraAreas (pc : Nat → Word) (h v : Nat) : List (Nat × Nat) :=
  let row := 4 * ((min 16 (max 1 (field (pc Reg.PIPE_DM_CFG) 4 0)) + 2) / 3)
  [(field (pc Reg.PIPE_DM_BASE) 22 0, 6 * v * row), (field (pc (Reg.PIPE_DM_BASE + 4)) 22 0, 6 * h * row),
   (field (pc (Reg.PIPE_DM_BASE + 8)) 22 0, 128 * h)]

/-- The overdrive store of a PIPE set in an active area (R332). -/
def storeArea (pc : Nat → Word) (h v : Nat) : Nat × Nat :=
  (field (pc Reg.PIPE_OD_BASE) 22 0, (if bit (pc Reg.PIPE_CFG) 13 then 2 else 4) * h * v)

/-- Thresholds T1 to T3 of a PIPE set (R335). -/
def odThreshold (pc : Nat → Word) (k : Nat) : Int :=
  if k = 1 then signed 16 (field (pc Reg.PIPE_OD_T01) 15 0)
  else if k = 2 then signed 16 (field (pc Reg.PIPE_OD_T01) 31 16)
  else signed 16 (field (pc Reg.PIPE_OD_T2) 15 0)

/-- The first code that a PIPE set fails for an active area; 0 where it passes (R340). -/
def State.pipeCode (s : State) (pc : Nat → Word) (h v : Nat) : Nat :=
  let live := dmModeOf pc == 2
  let od := bit (pc Reg.PIPE_CFG) 12
  let dm := demuraAreas pc h v
  let store := storeArea pc h v
  let areas := (if live then dm else []) ++ (if od then [store] else [])
  let ch := field (pc Reg.PIPE_OD_CFG) 3 0
  if live && !(dm.take 2).all (s.inLease 2) then 1
  else if live && !(dm.drop 2).all (s.inLease 3) then 2
  else if od && !s.inLease 3 store then 3
  else if (List.range areas.length).any (fun i => (List.range i).any (fun j =>
      rangesMeet (areas.getD i (0, 0)) (areas.getD j (0, 0)))) then 4
  else if od && (decide (ch = 0) || decide (8 < ch) ||
      !(decide (odThreshold pc 1 < odThreshold pc 2) && decide (odThreshold pc 2 < odThreshold pc 3))) then 5
  else 0

/-! ### Generations, brightness and the overdrive bank (R335, R336, R342) -/

/-- GAIN_EFF from the set in force and the cap taken at this boundary (R336). -/
def State.gainNow (s : State) : Nat := min (min 4096 (s.ffld Reg.PIPE_BRIGHT 12 0)) (256 * (s.scan.bright + 1))

/-- A new generation begins with the next frame, once at a boundary (R342). -/
def State.stepGen (s : State) : State :=
  let s1 := s.setReg Reg.PIPE_GAIN_EFF (word s.gainNow)
  if s.pipe.applied then s1
  else
    let next := s.reg Reg.SCAN_FRAME + 1#32
    let s2 := (s1.bump Reg.PIPE_GEN 15 0).setReg Reg.PIPE_GEN_FRAME next
    ({ s2 with pipe := { s2.pipe with applied := true } } : State).raise 88
      (word (s2.fld Reg.PIPE_GEN 15 0 + 0x10000 * (next.toNat % 65536)))

/-- The BRIGHT cap of SENSE.CAPS. -/
def State.brightCap (s : State) : Nat := s.fld Reg.SENSE_CAPS 15 12

/-- The temperature that chooses the overdrive bank: READY, not STALE and not faulted (R335). -/
def State.odTemp (s : State) : Option Int :=
  let ch := s.ffld Reg.PIPE_OD_CFG 3 0
  if decide (1 ≤ ch) && decide (ch ≤ 8) && s.channelGood ch then some (s.channelValue ch) else none

/-- The bank after steps up and down from bank k (R335). -/
def State.odBankFrom (s : State) (t : Int) (k : Nat) : Nat :=
  let hyst : Int := let h := s.ffld Reg.PIPE_OD_CFG 25 16; if h = 0 then 32 else h
  let up := (List.range 3).foldl (fun k _ => if k < 3 ∧ odThreshold s.inForce (k + 1) < t then k + 1 else k) k
  (List.range 3).foldl (fun k _ => if 0 < k ∧ t < odThreshold s.inForce k - hyst then k - 1 else k) up

/-- The overdrive bank of the next frame (R335). -/
def State.odBoundary (s : State) : State :=
  let old := s.fld Reg.PIPE_STATUS 17 16
  let go := fun (s : State) (k : Nat) (arg : Nat) =>
    if k = old then s else (s.setFld Reg.PIPE_STATUS 17 16 k).raise 90 (word (k + 0x10000 * arg))
  match s.odTemp with
  | some t =>
    let s1 : State := { s with pipe := { s.pipe with bankKnown := true } }
    let from_ := if s.pipe.bankKnown then old else s.ffld Reg.PIPE_OD_CFG 9 8
    go s1 (s.odBankFrom t from_) (unsigned 16 t)
  | none =>
    if s.pipe.bankKnown then s
    else if s.ffld Reg.PIPE_OD_CFG 9 8 = old then s
    else let (w, s1) := s.takeFree; go s1 (s.ffld Reg.PIPE_OD_CFG 9 8) (w.toNat % 65536)

/-! ### Self-refresh (R309, R310) -/

/-- Self-refresh is allowed (R309). -/
def State.srAllowed (s : State) : Bool :=
  (s.panelClass == 2 || (s.panelClass == 1 && s.holds)) && s.fflag Reg.SCAN_SR_CFG 31

/-- Scan-out starts no further frame. -/
def State.stopScan (s : State) : State :=
  State.setFlag { s with scan := { s.scan with running := false, frameOn := false, stats := none, quiet := 0, wake := false } }
    Reg.SCAN_STATE 11 true

/-- EV_SCAN_SR (Table 13-8). -/
def State.srEvent (s : State) (on : Bool) : State := s.raise 82 (word (on.toNat + 256 * (s.reg Reg.SCAN_FRAME).toNat))

/-- Self-refresh is entered (R309); a SCAN commit that is pending asks scan-out to resume (R303). -/
def State.enterSr (s : State) : State :=
  let s1 := ((s.stopScan.setFlag Reg.SCAN_STATE 9 true).holdPanel.srEvent true).faceStops
  if s1.pendingOn 9 then s1.askResume else s1

/-- Scan-out in self-refresh is asked to resume (R303, R310, R339). -/
def State.wakeSr (s : State) : State := if s.inSr then s.askResume else s

/-- A write of REQ with SR_ENTER: self-refresh where it is allowed (R309). -/
def State.askSr (s : State) : State := if s.scan.running && s.srAllowed then s.enterSr else s

/-! ### Guided transitions (R305, R306, Table 13-3) -/

/-- G1: scan-out stops; a panel that keeps its picture is put into hold, another is sent DISCHARGE with GAO asserted. -/
def State.stepG1 (s : State) (pages : List Nat) : State :=
  let s1 := (s.setScan { s.scan with
      running := false, frameOn := false, stats := none, trans := .g1, transAt := s.edge, transPages := pages, laddered := false, wake := false
    }).setFlag Reg.SCAN_STATE 10 true
  let s2 := s1.setFlag Reg.SCAN_STATE 11 true
  if s2.holds || s2.panelClass == 2 then s2.holdPanel
  else if (s2.panel == 2 || s2.panel == 3) && (s2.link == 2 || s2.link == 3) then
    let t := (s2.sendControl none 1 0 []).setLink 3
    t.setStave { t.stave with gao := true }
  else s2

/-- A page's set waits in the transition under way, or begins one. -/
def State.guide (s : State) (page : Nat) : State :=
  if s.scan.trans = .none then s.stepG1 [page]
  else s.setScan { s.scan with transPages := s.scan.transPages ++ [page] }

/-- GAO of a panel in a transition to CLASS OFF: F2 to F5 take the place of G3 to G5 (R362). -/
def State.transOff (s : State) : State :=
  let s1 := s.setScan { s.scan with trans := .off }
  if s1.panel = 0 then s1.endOffTransition
  else (((s1.setStave { s1.stave with offFault := false }).setCause 1).setPanel 4).enterF2

/-- G3: a panel that was off is powered on, another retrains (R361). A panel in FAULT stays unpowered through a restart that no
commit runs (R364). -/
def State.transOn (s : State) : State :=
  let s1 := s.setScan { s.scan with trans := .g3 }
  if s1.stave.step != .none then s1
  else if (s1.panel = 5 ∨ s1.link = 4) ∧ s1.scan.transPages = [] then s1.endG3
  else if s1.panel = 0 ∨ s1.panel = 5 ∨ s1.link = 4 then s1.powerOn
  else s1.startTraining 0

/-- The pads of a panel that a CORE reset found powered are driven at their latched levels (R363). -/
def State.takePads (s : State) : State := s.drivePanel 0xF#4 s.pins.pnlEn

/-- A panel that a CORE reset found off or without its supply is powered off (R363): pads that no rail uses fall at once. -/
def State.dropPads (s : State) : State :=
  let s1 := s.drivePanel (~~~(BitVec.ofNat 4 (s.ffld Reg.STAVE_PWR_CFG 3 0))) 0#4
  let s2 := s1.setStave { s1.stave with offFault := s1.panel == 5 }
  (if s2.panel = 5 then s2 else s2.setCause 8).enterF2

/-- The panel at G2 (R306, R363): latched pads of a restart after a CORE reset first. -/
def State.panelG2 (s : State) : State :=
  if s.pins.pnlLatched != 0#4 then
    if (s.panel == 2 || s.panel == 3) && s.pnlPg then s.takePads.transOn else s.dropPads
  else if s.panelClass = 0 then s.transOff
  else s.transOn

/-- G2: the set in force; then the panel's power (R306). -/
def State.stepG2 (s : State) : State :=
  let s1 := (s.scan.transPages.foldl State.applyShadow s).setDelays
  let resized := s.scan.resized || s1.hActive != s.hActive || s1.vActive != s.vActive
  State.panelG2 { s1 with pipe := { s1.pipe with odValid := false }, scan := { s1.scan with resized := resized } }

/-- A power-off is under way: G2 waits for its end. -/
def State.poweringOff (s : State) : Bool := s.lowering || s.stave.step == .discharge

/-- 1 µs after G1 the set is in force (G2, R306). -/
def execTransitionSetInForce (s : State) : Host.Outcome State Fault Refusal :=
  .next (if s.scan.trans = .g1 ∧ !s.poweringOff ∧ s.usPassed s.scan.transAt 1 then s.stepG2 else s)

/-! ### Profiles (R318, R344, R370) -/

/-- Words staged in consecutive RW/S words from an offset on. -/
def State.stageRange (s : State) (a : Nat) (ws : List Word) : State :=
  (ws.zipIdx).foldl (fun s e => s.stage (a + 4 * e.2) e.1) s

/-- Consecutive RW/S words from an offset on take these values without a reserved bit. -/
def rangeOk (a : Nat) (ws : List Word) : Bool := (ws.zipIdx).all (fun e => aliasOk (a + 4 * e.2) e.1)

/-- The page number that a CONFIG_PANEL payload names (R318). -/
def panelPage (bs : List Byte) : Nat := field (nth (bytesWords bs) 0) 15 8

/-- The rule of a CONFIG_PANEL payload by its page (R318, R344, R370). -/
def panelPayloadOk (bs : List Byte) : Bool :=
  let ws := bytesWords bs
  let w1 := nth ws 1
  field (nth ws 0) 31 16 == 0 &&
    (match panelPage bs with
     | 9 => bs.length == 92 && rangeOk Reg.SCAN_CLASS ((ws.drop 1).take 9) && rangeOk Reg.SCAN_WATCH_RECT0 ((ws.drop 10).take 13)
     | 10 =>
       if bit w1 31 then
         let n := field w1 24 16
         within w1 0x81FF3FFF#32 && decide (1 ≤ n) && decide (n ≤ 510) && bs.length == 8 + 4 * n &&
           rangeOk (0x1A0000 + 4 * field w1 13 0) (ws.drop 2)
       else bs.length == 68 && w1 == 0#32 && rangeOk Reg.PIPE_CFG (ws.drop 2)
     | 11 => bs.length == 68 && rangeOk Reg.STAVE_CFG ((ws.drop 1).take 12) && rangeOk Reg.STAVE_GAMMA_REF (ws.drop 13)
     | _ => false)

/-- One record staged in its page's shadow set. -/
def State.stagePanelRec (s : State) (bs : List Byte) : State :=
  let ws := bytesWords bs
  let w1 := nth ws 1
  match panelPage bs with
  | 9 => (s.stageRange Reg.SCAN_CLASS ((ws.drop 1).take 9)).stageRange Reg.SCAN_WATCH_RECT0 (ws.drop 10)
  | 10 => if bit w1 31 then s.stageRange (0x1A0000 + 4 * field w1 13 0) (ws.drop 2) else s.stageRange Reg.PIPE_CFG (ws.drop 2)
  | _ => (s.stageRange Reg.STAVE_CFG ((ws.drop 1).take 12)).stageRange Reg.STAVE_GAMMA_REF (ws.drop 13)

/-- A CONFIG_PANEL profile of a page staged: for PIPE every record in order of SEQ and their number, for SCAN and STAVE the
record with the highest SEQ and that SEQ; none where no record passes. -/
def State.stagePanel (s : State) (page profile : Nat) : Option Nat × State :=
  let (recs, s1) := s.configRecs 1 profile panelPayloadOk
  let mine := recs.filter (fun e => panelPage e.2 == page)
  match mine.getLast? with
  | none => (none, s1)
  | some e =>
    if page = 10 then (some mine.length, mine.foldl (fun s r => s.stagePanelRec r.2) s1)
    else (some e.1, s1.stagePanelRec e.2)

/-- A loading verb of SCAN or STAVE: staged and committed, or BAD_ARG where no record passes. -/
def State.loadPanel (page : Nat) (s : State) (v : Verb) : State :=
  match s.stagePanel page (field (v.arg 0) 7 0) with
  | (none, s1) => s1.complete v .badArg
  | (some n, s1) => let t := s1.verbCommit v page (some n); if page = 9 then t.wakeSr else t

/-- What PIPE_LOAD (0x80) or BRIGHT_SET (0x84) stages, and the result that its completion carries first: none where no record
of the profile passes (R344, Table 14-4). -/
def State.pipeStage (s : State) (v : Verb) : Option (Option Nat) × State :=
  if v.code = 0x80 then
    match s.stagePanel 10 (field (v.arg 0) 7 0) with
    | (none, s1) => (none, s1)
    | (some n, s1) => (some (some n), s1)
  else (some none, s.stage Reg.PIPE_BRIGHT (v.arg 0 &&& 0x1FFF#32))

/-- COMMIT.REFRESH of a verb asks scan-out to resume (R339). -/
def State.pipeRefresh (s : State) (v : Verb) : State :=
  if v.code = 0x84 ∧ bit (v.arg 0) 16 then s.wakeSr else s

/-- PIPE_LOAD or BRIGHT_SET: staged and committed, or held until the pending commit has been applied or refused (R345). -/
def State.pipeLoad (s : State) (v : Verb) : State :=
  if s.pendingOn 10 then s.defer v (.staging 10)
  else match s.pipeStage v with
    | (none, s1) => s1.complete v .badArg
    | (some x, s1) => (s1.verbCommit v 10 x).pipeRefresh v

/-- The loads of PIPE that waited for the end of its commit stage their values and commit them (R345). -/
def State.serveLoads (s : State) : State :=
  (s.waiters (.staging 10)).foldl (fun s r => match s.verbOf r with
    | some v =>
      match s.pipeStage v with
      | (none, s1) => s1.complete v .badArg
      | (some x, s1) => ((s1.addCommit 10 (some v.ring)).await v (.commit 10 x) 2097152).pipeRefresh v
    | none => s) s

/-! ### Commits at a FRAME boundary (R303 to R305, R339 to R341, R369) -/

/-- The commit of SCAN at a boundary (R303 to R305). -/
def State.commitScan (s : State) : State :=
  let code := s.scanCode s.reg
  if code ≠ 0 then
    (((s.setFlag Reg.SCAN_STATUS 18 true).setFld Reg.SCAN_STATUS 3 0 code).endCommit 9 .badArg).raise 85 (word code)
  else if s.scan.trans = .none ∧ seamless s.reg s.inForce then
    (s.applyShadow 9).endCommit 9 .ok [s.reg Reg.SCAN_FRAME + 1#32]
  else s.guide 9

/-- What a PIPE commit makes of the display lease (R331). -/
def State.pipeLease (s : State) (old : Nat → Word) : State :=
  let desks := fun (pc : Nat → Word) => min 4 (max 1 (field (pc Reg.PIPE_DM_CFG) 18 16))
  if dmModeOf s.inForce = 2 then
    if dmModeOf old ≠ 2 ∨ desks old ≠ desks s.inForce then s.askLease (desks s.inForce) else s
  else if dmModeOf old = 2 then s.releaseLease else s

/-- The commit of PIPE at a FRAME boundary (R339, R340, R342). -/
def State.commitPipe (s : State) : State :=
  let active := s.scanSet Reg.SCAN_ACTIVE
  let code := s.pipeCode s.reg (field active 11 0) (field active 27 16)
  if code ≠ 0 then
    ((((s.setFlag Reg.PIPE_STATUS 10 true).setFld Reg.PIPE_STATUS 3 0 code).endCommit 10 .badArg).raise 91 (word code)).serveLoads
  else
    let old := s.inForce
    let s1 := s.applyShadow 10
    let new := s1.inForce
    let fresh := bit (new Reg.PIPE_CFG) 12 && (!bit (old Reg.PIPE_CFG) 12 ||
      bit (old Reg.PIPE_CFG) 13 != bit (new Reg.PIPE_CFG) 13 || old Reg.PIPE_OD_BASE != new Reg.PIPE_OD_BASE)
    let s2 : State := { s1 with pipe := { s1.pipe with
      mapsLost := false, storeLost := false, odValid := s1.pipe.odValid && !fresh && bit (new Reg.PIPE_CFG) 12 } }
    let s3 := ((s2.setFlag Reg.PIPE_STATUS 21 false).pipeLease old).stepGen
    (s3.endCommit 10 .ok [s3.reg Reg.PIPE_GEN, s3.reg Reg.PIPE_GEN_FRAME]).serveLoads

/-- The registers of STAVE whose change is guided (R369). -/
def guidedRegs : List Nat := [Reg.STAVE_CFG, Reg.STAVE_DRV_W01, Reg.STAVE_DRV_W23, Reg.STAVE_GATE_CFG]

/-- The GAMMA_REF table words. -/
def gammaRegs : List Nat := (List.range 4).map (fun k => Reg.STAVE_GAMMA_REF + 4 * k)

/-- The commit of STAVE at a FRAME boundary (R355, R369). -/
def State.commitStave (s : State) : State :=
  let code := bandwidthCode s.scanSet s.reg s.depth
  if code ≠ 0 then
    (((s.setFlag Reg.STAVE_STATUS 18 true).setFld Reg.STAVE_STATUS 23 20 code).endCommit 11 .badArg).raise 96 (word code)
  else
    let due := s.stave.gammaDue || gammaRegs.any (fun a => s.reg a != s.inForce a)
    let s1 := s.setStave { s.stave with gammaDue := due }
    if s1.scan.trans != .none || ((s1.panel == 2 || s1.panel == 3) && guidedRegs.any (fun a => s1.reg a != s1.inForce a)) then
      s1.guide 11
    else ((s1.applyShadow 11).setDelays).endCommit 11 .ok [s1.reg Reg.SCAN_FRAME]

/-- A present's page. -/
def isPresentPage (p : Nat) : Bool := decide (32 ≤ p)

/-- A present queued while scan-out is in self-refresh, on a surface that a layer shows, waits for a real boundary (R291). -/
def State.presentHeld (s : State) (n : Nat) : Bool :=
  match (s.surf n).queued with
  | some q => q.inSr && s.resumable && s.layerShows n
  | none => false

/-- One commit request at a FRAME boundary. While a transition has begun at it, only SCAN and STAVE join (R306, R369). In
self-refresh a SCAN commit and presents of a shown surface wait for the resume boundary (R291, R303). -/
def State.serveFrame (real : Bool) (s : State) (p : Nat) : State :=
  if s.scan.trans != .none && p != 9 && p != 11 then s
  else if p = 9 then if !real && s.inSr then s else s.commitScan
  else if p = 10 then s.commitPipe
  else if p = 11 then s.commitStave
  else if p = 12 then s.commitFace
  else if !real && s.presentHeld (p - 32) then s
  else s.applyPresent (p - 32)

/-- The pages whose boundary is FRAME, and the presents of the eight surfaces (Table 1-7, R291). -/
def framePages : List Nat := [9, 10, 11, 12] ++ (List.range 8).map (fun n => 32 + n)

/-! ### The refresh ladder (R307, R308) -/

/-- The REFRESH cap; codes above 5 act as 5. -/
def State.refreshCap (s : State) : Nat := min 5 (s.fld Reg.SENSE_CAPS 10 8)

/-- The rung in force. -/
def State.rungNow (s : State) : Nat := max s.scan.rung s.refreshCap

/-- STATE shows rung and cap, with EV_SCAN_RATE where the rung in force changes (R308). -/
def State.showRung (s : State) : State :=
  let old := s.fld Reg.SCAN_STATE 2 0
  let s1 := (s.setFld Reg.SCAN_STATE 2 0 s.rungNow).setFld Reg.SCAN_STATE 6 4 s.refreshCap
  if old = s.rungNow then s1
  else s1.raise 81 (word (s.rungNow + 16 * s.refreshCap + 256 * (s.reg Reg.SCAN_FRAME + 1#32).toNat))

/-- The static count and the ladder rung at a real boundary (R307, R308); ends tells whether the boundary ends a frame. After a
transition or a resume, whose boundary ends none, the first frame runs at rung 0 or the cap (R305, R310). -/
def State.lowRefresh (s : State) (ends : Bool) : State :=
  if s.scan.presented then ((s.setFld Reg.SCAN_STATE 31 16 0).setScan { s.scan with rung := 0, quiet := 0 }).showRung
  else
    let n := satAdd 65535 (s.fld Reg.SCAN_STATE 31 16) 1
    let lr := s.inForce Reg.SCAN_LR_CFG
    let up := bit lr 31 && decide (max 1 (field lr 7 0) ≤ n)
    let rung := if !ends then 0 else if up ∧ s.scan.rung < min 5 (field lr 10 8) then s.scan.rung + 1 else s.scan.rung
    ((s.setFld Reg.SCAN_STATE 31 16 (if up then 0 else n)).setScan
      { s.scan with rung := rung, quiet := s.scan.quiet + ends.toNat }).showRung

/-! ### Statistics and the freeze detector (R312 to R316) -/

/-- WATCH_STAT of watcher w. -/
def watchStat (w : Nat) : Nat := Reg.SCAN_WATCH_STAT + 4 * w

/-- A miss of watcher w in frame f (R313, R314); both counts of WATCH_STAT wrap (R2). -/
def State.watchMiss (s : State) (w f : Nat) : State :=
  let n := (s.fld (watchStat w) 7 0 + 1) % 256
  let s1 := (s.setFld (watchStat w) 7 0 n).bump (watchStat w) 31 16
  let cfg := s1.inForce Reg.SCAN_FRZ_CFG
  if bit cfg 31 && decide (max 1 (field cfg 3 0) ≤ n) && !s1.flag Reg.SCAN_FRZ_STATUS w then
    let hide := field cfg 9 8 == 1
    let s2 := s1.setFlag Reg.SCAN_FRZ_STATUS w true
    (if hide then s2.setFlag Reg.SCAN_FRZ_STATUS 8 true else s2).raise 83
      (word (w + 8 * hide.toNat + 256 * n + 0x10000 * (f % 65536)))
  else s1

/-- Watcher w judges a frame (R313). -/
def State.judgeWatch (s : State) (st : StatSet) (w : Nat) : State :=
  let cfg := s.inForce (Reg.SCAN_WATCH_CFG + 4 * w)
  let mode := field cfg 1 0
  if (mode != 1 && mode != 2) || (s.watchArea w).isNone || !st.judged then s
  else if !st.same.getD w false then s.setFld (watchStat w) 15 0 0
  else if mode = 1 then
    let u := s.fld (watchStat w) 15 8 + 1
    if max 1 (field cfg 15 8) ≤ u then (s.setFld (watchStat w) 15 8 0).watchMiss w st.frame
    else s.setFld (watchStat w) 15 8 u
  else if st.shown.contains (field cfg 18 16) then s.watchMiss w st.frame
  else s

/-- A result set is published (R316), and the watchers judge its frame. -/
def State.publishStats (s : State) (st : StatSet) : State :=
  let info := s.reg Reg.SCAN_ST_INFO
  let s1 := (((s.setReg Reg.SCAN_ST_FRAME (word st.frame)).setReg Reg.SCAN_ST_INFO
    (word (2 ^ 31 + 0x10000 * ((field info 23 16 + 1) % 256) + st.gen))).setReg Reg.SCAN_ST_LUMA
    (word (st.apl + 0x10000 * st.max))).setReg Reg.SCAN_ST_COUNT (word st.count)
  let s2 := (st.sigs.zipIdx).foldl (fun s e => s.setReg (Reg.SCAN_SIG + 4 * e.2) e.1) s1
  let s3 := (st.hist.zipIdx).foldl (fun s e => s.setReg (Reg.SCAN_HIST + 4 * e.2) (word e.1)) s2
  (List.range 5).foldl (fun s w => s.judgeWatch st w) (s3.raise 84 (word st.frame))

/-- The set of the last frame is published, if it waits. -/
def State.publishReady (s : State) : State :=
  match s.scan.ready with
  | some st => (s.setScan { s.scan with ready := none }).publishStats st
  | none => s

/-- A time counted from the last real boundary has come, within the tick it falls in. -/
def State.sinceReal (s : State) (us : Nat) : Bool :=
  match s.scan.lastReal with
  | some t => s.usPassed t us
  | none => true

/-- Two line times after a boundary, the statistics of the frame it ended are published (R316). -/
def execStatsPublish (s : State) : Host.Outcome State Fault Refusal :=
  .next (if s.sinceReal s.scan.statsUs then s.publishReady else s)

/-- FROZEN bits cleared by the host or by FREEZE_CLEAR: HIDDEN falls with the last of them (R314). -/
def State.clearFrozen (s : State) (mask : Word) : State :=
  let s1 := s.setReg Reg.SCAN_FRZ_STATUS (s.reg Reg.SCAN_FRZ_STATUS &&& ~~~(mask &&& 0x1F#32))
  if s1.fld Reg.SCAN_FRZ_STATUS 4 0 = 0 then s1.setFlag Reg.SCAN_FRZ_STATUS 8 false else s1

/-! ### Boundaries (R22, R23) -/

/-- The lease is asked for again in MEZZO or TUTTI where demura mode 2 is in force and none is asked for (R331). -/
def State.leaseAgain (s : State) : State :=
  if s.cur ≤ 1 ∧ s.tgt ≤ 1 ∧ s.dmMode = 2 ∧ s.ens.lease = 0 then s.askLease (min 4 (max 1 (s.ffld Reg.PIPE_DM_CFG 18 16))) else s

/-- The Ensemble at a FRAME boundary, with the rectangle that the next frame sends, if one follows (R29, R424). -/
def State.ensBoundary (s : State) (r : Option Rect) : State :=
  match r with
  | some a => s.leaseAgain.ensFrame a.y0 a.y1
  | none =>
    let s1 := s.leaseAgain.ensFrame 0 0
    s1.setEns { s1.ens with bandEnd := 0 }

/-- The rectangle that the next frame sends: all rows of a RASTER panel, the changed rectangle of a REGION panel (R300). -/
def State.nextRect (s : State) : Option Rect :=
  if s.panelClass = 2 ∧ !s.scan.fullPush then
    match s.scan.dirty with
    | some r => r.clip s.hActive s.vActive
    | none => none
  else some s.activeRect

/-- The tuning place of a FRAME boundary: items 4 (real only) and 7, and lane delays that follow the taps of item 4
(Table 10-1, R348). -/
def State.frameTune (s : State) (real : Bool) : State :=
  let items := if real then [4, 7] else [7]
  let s1 := s.tunePlace items items
  if (s1.item 4).applied = (s.item 4).applied then s1 else s1.setDelays

/-- The commit place of a FRAME boundary: commits and switches to BASIC, then the brightness cap (R23, R336, R342). -/
def State.frameCommits (s : State) (real : Bool) : State :=
  let cap := s.brightCap
  let capNew := cap != s.scan.bright
  let s1 : State := { s with scan := { s.scan with presented := false, bright := cap }, pipe := { s.pipe with applied := false } }
  let s2 := s1.serveCommits framePages (State.serveFrame real)
  let s3 := if capNew then s2.stepGen else s2
  s3.setScan { s3.scan with hidden := s3.flag Reg.SCAN_FRZ_STATUS 8 }

/-! ### The pace of frames (R298 to R301) -/

/-- The cycles from the start of a frame to its boundary: the VSYNC, VBP and active lines of a RASTER frame (R299), or the rows
that a push sends (R300). -/
def frameCycles (cls : Nat) (sc : Nat → Word) (rect : Option Rect) : Nat :=
  if cls = 2 then
    match rect with
    | some r => pixDiv sc * ((r.y1 + 1 - r.y0) * (r.x1 + 1 - r.x0 + hTotal sc - field (sc Reg.SCAN_ACTIVE) 11 0))
    | none => 0
  else pixDiv sc * hTotal sc * (vTotal sc - field (sc Reg.SCAN_VTIM) 9 0)

/-- The cycles from a boundary to the next frame start: none where the boundary starts scan-out, else the front porch that the
rung stretches (R299), or the rest of the push slot (R300). -/
def State.gapCycles (s : State) (starts : Bool) : Nat :=
  let d := rungDiv s.rungNow
  if starts then 0
  else if s.panelClass = 2 then d * s.baseCycles - s.scan.pushLen
  else pixDiv s.inForce * hTotal s.inForce * (s.ffld Reg.SCAN_VTIM 9 0 + (d - 1) * vTotal s.inForce)

/-- The pace of the frame period that begins at a real boundary, at the frequency in force; a step up keeps it in µs until the
next boundary (R65, R301, R308). -/
def State.paceFrame (s : State) (starts : Bool) : State :=
  let mhz := max 1 s.coreMHz
  let gap := s.gapCycles starts
  let len := frameCycles s.panelClass s.inForce s.nextRect
  s.setScan { s.scan with
    startUs := gap / mhz, endUs := (gap + len) / mhz, statsUs := 2 * hTotal s.inForce * pixDiv s.inForce / mhz
    cycles := some (gap + len), pushLen := len }

/-- The front-porch lines after the boundary of a RASTER frame, among them those that a rung adds, sent one IDLE packet each
(R299, R352). -/
def State.sendPorch (s : State) (starts : Bool) : State :=
  if !starts ∧ s.panelClass = 1 ∧ s.linkSends then
    s.sendIdleLines (s.firstActive + s.vActive) (s.ffld Reg.SCAN_VTIM 9 0 + (rungDiv s.rungNow - 1) * vTotal s.inForce)
  else s

/-- A real FRAME boundary (R23, R299): the last frame's statistics, commits, the frequency, the refresh rung and self-refresh,
the overdrive bank, tuning steps of item 4 and tests of items 4 and 7, the crack loop, and the lease. ends tells whether a
frame ends here. -/
def State.realBoundary (s : State) (ends : Bool) : State :=
  let s1 := s.publishReady
  let done := s1.pipe.odPriming && ends
  let s2 : State := { s1 with
    scan := { s1.scan with frameOn := false, ready := s1.scan.stats, stats := none, lastReal := some s1.edge, lastSynth := none }
    pipe := { s1.pipe with odPriming := false, odValid := s1.pipe.odValid || done }
    intake := { s1.intake with teArmed := some s1.edge } }
  let s3 := (s2.frameCommits true).freqBoundary
  let s4 := if s3.panelClass = 2 ∧ s3.linkSends then s3.sendDueGamma else s3
  let s5 := (s4.lowRefresh ends).odBoundary
  let s6 := (s5.frameTune true).crackBoundary
  let s7 := if ends && s6.scan.running && s6.srAllowed && decide (max 1 (s6.ffld Reg.SCAN_SR_CFG 15 0) ≤ s6.scan.quiet) then
    s6.enterSr else if s6.scan.running then (s6.paceFrame (!ends)).sendPorch (!ends) else s6
  s7.ensBoundary (if s7.scan.running then s7.nextRect else none)

/-- A real frame boundary ends a frame (R299 to R301). The frame's cycles are those of its lines, or as many as the clock gave
where CORE's frequency changed in it. -/
def execFrameBoundary (cycles : Nat) (s : State) : Host.Outcome State Fault Refusal :=
  .next (if s.coreOn ∧ s.scan.running ∧ s.scan.frameOn ∧ s.sinceReal s.scan.endUs then
      (s.setReg Reg.SCAN_FRAME_CYC (word (min 0xFFFFFFFF (s.scan.cycles.getD cycles)))).realBoundary true
    else s)

/-- The tick from which synthetic boundaries are counted (R22). -/
def State.synthFrom (s : State) : BitVec 48 := (s.scan.lastSynth.orElse (fun _ => s.scan.lastReal)).getD s.boot.releasedAt

/-- A synthetic FRAME boundary is due (Table 1-5). One whose tick fell while CORE was stopped or in a transition is issued at the
first tick at which it can be, and not skipped; the ones after it keep their ticks (DESIGN CHOICE, log entry 59). -/
def State.synthDue (s : State) : Bool :=
  s.boot.step == .released && s.coreOn && !s.scan.running && s.scan.trans == .none && decide (32768 ≤ s.elapsed s.synthFrom)

/-- A synthetic FRAME boundary (R22, R23). -/
def State.synthBoundary (s : State) : State :=
  let s1 := s.setScan { s.scan with lastSynth := some (s.synthFrom + BitVec.ofNat 48 (32768 * (s.elapsed s.synthFrom / 32768))) }
  let s2 := ((s1.frameCommits false).freqBoundary.frameTune false).crackBoundary
  s2.ensBoundary none

/-- A synthetic FRAME boundary falls due (R22). -/
def execSyntheticFrameBoundary (s : State) : Host.Outcome State Fault Refusal :=
  .next (if s.synthDue then s.synthBoundary else s)

/-! ### Frames (R299 to R302, R311) -/

/-- The accesses that a frame makes for one layer: rows of every plane as far as the active area shows them (R28, R302). -/
def State.touchLayer (ovl : Bool) (s : State) : State :=
  match s.layerSurf ovl with
  | none => s
  | some (n, b) =>
    let p := s.inForce Reg.SCAN_OVL_POS
    let dx := if ovl then field p 11 0 else 0
    let dy := if ovl then field p 27 16 else 0
    let w := min (s.surfW n) (s.hActive - dx)
    let h := min (s.surfH n) (s.vActive - dy)
    let fmt := s.surfFmt n
    let base := s.bufBase n b
    if s.covered base (s.bufSpan n) || w == 0 then s
    else
      let p1 := base + s.fld (surfWord n 3) 22 0
      let ch := chromaH fmt h
      let s1 := (List.range h).foldl (fun s y => s.touchHall (base + y * s.stride0 n) (rowBytes fmt w)) s
      if fmt < 3 then s1
      else (List.range (2 * ch)).foldl (fun s y =>
        let plane := if y < ch then p1 else p1 + s.stride1 n * chromaH fmt (s.surfH n)
        s.touchHall (plane + (y % ch) * s.stride1 n) (chromaBytes fmt w)) s1

/-- The store of overdrive is read and written for the pixels sent (R332). -/
def State.writeStore (s : State) (px : List PixOut) : State :=
  let area := storeArea s.inForce s.hActive s.vActive
  let touch := !s.covered area.1 area.2
  px.foldl (fun s p =>
    let a := s.odAddr p.x p.y
    let s1 := if touch then (s.touchHall a s.odEntry).touchHall a s.odEntry else s
    s1.putHallBytes a (s1.odBytes p.mid)) s

/-- The dither phase at a frame start (R338). -/
def State.stepPhase (s : State) : State :=
  let ph := if !s.fflag Reg.PIPE_CFG 21 then 0
    else if s.fld Reg.SCAN_STATE 2 0 = 0 then (s.pipe.phase + 1) % 4 else s.pipe.phase
  { s with pipe := { s.pipe with phase := ph } }

/-- The first frame of a scan-out that resumes finds its link and panel in RUN and ON again (R356, R360). -/
def State.panelRuns (s : State) : State :=
  let s1 := if s.link = 3 then s.setLink 2 else s
  if s1.panel = 3 then s1.setPanel 2 else s1

/-- A band of a live frame is late (R330, R424). -/
def State.bandLate (s : State) (b : Nat) : State :=
  let n := s.reg Reg.SCAN_FRAME
  (((((s.setFlag Reg.PIPE_STATUS 19 true).bump Reg.PIPE_DM_STAT 15 0).setFld Reg.PIPE_DM_STAT 23 16 b).setReg
    Reg.PIPE_DM_FALL_FRAME n).bump Reg.ENS_LEASE_STAT 15 0).raise 89 n

/-- A frame that starts counts, in FRAME and the dither phase, and finds its link and panel running (R311, R338). -/
def State.frameCount (s : State) : State := ((s.bump Reg.SCAN_FRAME 31 0).stepPhase).panelRuns

/-- A frame starts live (R330). -/
def State.frameLive (s : State) : Bool := s.dmMode == 2 && s.ens.used != 0 && !s.pipe.mapsLost

/-- The first band that is late is one that the frame sends (R330). -/
def frameFalls (live : Bool) (late : Option Nat) (rect : Option Rect) : Bool :=
  match late, rect with
  | some b, some r => live && decide (8 * b ≤ r.y1) && decide (r.y0 < 8 * b + 8)
  | _, _ => false

/-- The panel pixels that a frame sends. -/
def framePoints (rect : Option Rect) : List (Nat × Nat) :=
  match rect with
  | some r => r.points
  | none => []

/-- What a frame start shows in STATUS: LIVE, a late band, a skipped layer, and pixels not delivered (R302, R330). -/
def State.frameMarks (s : State) (live fell missed : Bool) (late : Option Nat) : State :=
  let s2 := s.setFlag Reg.PIPE_STATUS 18 live
  let s3 := if fell then s2.bandLate (late.getD 0) else s2
  let s4 := if s3.layerSkipped then s3.setFlag Reg.SCAN_STATUS 20 true else s3
  if missed then s4.setFlag Reg.SCAN_STATUS 19 true else s4

/-- The pixels of a frame (R302, R330, R334). -/
def State.framePixels (s : State) (live fell : Bool) (late : Option Nat) (under pts : List (Nat × Nat)) : List PixOut :=
  pts.map (fun p =>
    s.pixOut (s.blend p.1 p.2) (live && (!fell || decide (p.2 < 8 * late.getD 0))) (s.odOn && s.pipe.odValid) (under.contains p)
      p.1 p.2)

/-- The Hall accesses of a frame: its layers, and the overdrive store (R28, R302, R332, R334). -/
def State.frameHall (s : State) (px : List PixOut) (none_ od : Bool) : State :=
  let s6 := if none_ || s.scan.hidden then s else (s.touchLayer false).touchLayer true
  let s7 := if od then s6.writeStore px else s6
  let prime := od && !s7.pipe.odValid
  { (s7.setFlag Reg.PIPE_STATUS 20 prime) with pipe := { s7.pipe with odPriming := prime } }

/-- The signatures of a frame, where an area of which no pixel was sent keeps its previous one (R312). -/
def State.frameSigs (s : State) (px : List PixOut) : List Word :=
  ((List.range 5).map (fun w => s.watchSig w px)).zipIdx.map (fun e => (e.1.orElse (fun _ => Cells.find s.scan.prevSigs e.2)).getD 0#32)

/-- A frame's statistics wait for its end, and its rectangle is being sent (R313, R315). -/
def State.noteStats (s : State) (n : Nat) (px : List PixOut) (rect : Option Rect) : State :=
  let kept := s.frameSigs px
  let st := { frameStats n (s.fld Reg.PIPE_GEN 15 0) kept px with
    same := kept.zipIdx.map (fun e => Cells.find s.scan.prevSigs e.2 == some e.1), judged := s.scan.judges
    shown := s.scan.firstShown }
  s.setScan { s.scan with
    frameOn := true, stats := some st, judges := true, fullPush := false, dirty := none, push := rect, firstShown := []
    prevSigs := kept.zipIdx.map (fun e => (e.2, e.1)) }

/-- A frame's packets (R352, R353). -/
def State.frameSend (s : State) (n : Nat) (px : List PixOut) (rect : Option Rect) : State :=
  match rect with
  | some r => if s.panelClass = 2 then State.sendRegion (s.setStave { s.stave with sent := [] }) r px else s.sendRaster n px
  | none => s.setStave { s.stave with sent := [] }

/-- A frame starts (R311). late is the first band of a live frame that is not complete when it is due (R330); under are the
pixels that the Hall does not deliver in time (R302). Its pixels are taken as they stand now. -/
def State.frameStart (s : State) (late : Option Nat) (under : List (Nat × Nat)) : State :=
  let s1 := s.frameCount
  let n := (s1.reg Reg.SCAN_FRAME).toNat
  let rect := s1.nextRect
  let live := s1.frameLive
  let fell := frameFalls live late rect
  let pts := framePoints rect
  let s5 := s1.frameMarks live fell (pts.any (fun p => under.contains p)) late
  let px := s5.framePixels live fell late under pts
  ((s5.frameHall px pts.isEmpty s5.odOn).noteStats n px rect).frameSend n px rect

/-- A step of the ladder waits for the moment between two frames. -/
def State.ladderWaits (s : State) : Bool := s.ladder.step == .frame || s.ladder.step == .panel

/-- A RASTER frame or REGION push starts (R299, R300, R311). -/
def execFrameStart (late : Option Nat) (underrun : List (Nat × Nat)) (s : State) : Host.Outcome State Fault Refusal :=
  .next (if s.coreOn ∧ s.scan.running ∧ !s.scan.frameOn ∧ !s.ladderWaits ∧ s.sinceReal s.scan.startUs then
      s.frameStart late underrun
    else s)

/-! ### The end of a transition, and resume (R306, R310, R341) -/

/-- The areas in force are checked again for a changed active size (R341). -/
def State.recheckAreas (s0 : State) : State :=
  let s := s0.setScan { s0.scan with resized := false }
  let code := s.pipeCode s.inForce s.hActive s.vActive
  if !s0.scan.resized ∨ code = 0 ∨ 5 ≤ code then s
  else
    let dm := demuraAreas s.inForce s.hActive s.vActive
    let store := storeArea s.inForce s.hActive s.vActive
    let live := s.dmMode == 2
    let od := s.fflag Reg.PIPE_CFG 12
    let maps := live && !((dm.take 2).all (s.inLease 2) && (dm.drop 2).all (s.inLease 3))
    let gone := od && !s.inLease 3 store
    let meets := code == 4
    let s1 : State := { s with pipe := { s.pipe with
      mapsLost := s.pipe.mapsLost || maps || (meets && live), storeLost := s.pipe.storeLost || gone || (meets && od) } }
    (s1.setFlag Reg.PIPE_STATUS 21 true).raise 91 (word (code + 16))

/-- Scan-out runs from here on. -/
def State.startScan (s : State) : State :=
  State.setFlag { s with scan := { s.scan with
    running := true, frameOn := false, trans := .none, rung := 0, quiet := 0, judges := false, laddered := false, wake := false } }
    Reg.SCAN_STATE 11 false

/-- STATE.SR falls, with EV_SCAN_SR. -/
def State.leaveSr (s : State) : State := if s.inSr then (s.setFlag Reg.SCAN_STATE 9 false).srEvent false else s

/-- One frame period of the timing in force has passed since the end of G3 (Table 13-3). -/
def State.g4Over (s : State) : Bool :=
  let mhz := max 1 s.coreMHz
  s.usPassed s.scan.transAt ((s.baseCycles + mhz - 1) / mhz)

/-- G5 (Table 13-3): GAO is released, a real boundary serves what waits, the commits of the transition complete, and the first
new frame starts. -/
def State.stepG5 (s : State) (late : Option Nat) (under : List (Nat × Nat)) : State :=
  let pages := s.scan.transPages
  let s1 := (s.setStave { s.stave with gao := false }).startScan
  let s2 := ((s1.setScan { s1.scan with transPages := [], fullPush := true, dirty := none }).setFlag Reg.SCAN_STATE 10 false).setFld
    Reg.SCAN_STATE 31 16 0
  let n := s2.reg Reg.SCAN_FRAME + 1#32
  let s3 := ((s2.leaveSr.recheckAreas).recheckFace).faceMode
  let s4 := if pages.contains 9 then s3.endCommit 9 .ok [n] else s3
  let s5 := if pages.contains 11 then s4.endCommit 11 .ok [s4.reg Reg.SCAN_FRAME] else s4
  let s6 := (s5.realBoundary false).setFld Reg.SCAN_STATE 31 16 0
  if !s6.scan.running then s6
  else (if s6.ladderWaits then s6 else s6.frameStart late under).raise 80 n

/-- A guided transition ends (G5, R306). -/
def execTransitionComplete (late : Option Nat) (underrun : List (Nat × Nat)) (s : State) : Host.Outcome State Fault Refusal :=
  .next (if s.scan.trans = .g4 ∧ s.coreOn ∧ s.g4Over then s.stepG5 late underrun else s)

/-- The resume boundary and the first frame after it (R310). -/
def State.resumeNow (s : State) (late : Option Nat) (under : List (Nat × Nat)) : State :=
  let s1 := s.startScan.leaveSr.faceMode
  let s2 := s1.realBoundary false
  if s2.scan.running && !s2.ladderWaits then s2.frameStart late under else s2

/-- Scan-out resumes from self-refresh, or from what the ladder made of the panel, once the link is ready (R73, R310, R361); a
face push or full-frame frame in progress ends first (R383). A panel that was powered off is powered on, one with an idle
link trains. -/
def execSrResume (late : Option Nat) (underrun : List (Nat × Nat)) (s : State) : Host.Outcome State Fault Refusal :=
  .next (
    if !(s.resumable && s.scan.wake && s.scan.trans == .none && s.coreOn && decide (s.cur ≤ 1) && s.face.pushing.isNone) then s
    else if s.panel = 5 ∨ s.link = 4 then s.resumeNow late underrun
    else if s.stave.step != .none || s.link == 1 then s
    else if s.panel = 0 then s.powerOn
    else if s.link = 0 then s.startTraining 0
    else s.resumeNow late underrun)

/-- Scan-out restarts with its kept set at the end of a CORE reset (R317). No DISCHARGE is sent (R363). -/
def State.restartScan (s : State) : State :=
  if s.panelClass = 0 then s.drivePanel 0xF#4 0#4
  else (((s.setScan { s.scan with trans := .g1, transAt := s.edge, transPages := [] }).setFlag Reg.SCAN_STATE 10 true).setFlag
    Reg.SCAN_STATE 11 true)

/-! ### Waits that end without their boundary (R24, R25) -/

/-- Ring r's present is still queued on a surface: its boundary has not come. -/
def State.presentQueued (s : State) (n r : Nat) : Bool :=
  (s.surf n).queued.any (fun q => q.source == .verb && q.ring == some r)

/-- A wait of ring r may end with TIMEOUT: that of a present ends so while it is queued, not while it waits for its copy. -/
def State.timesOut (s : State) (r : Nat) : Wait → Bool
  | .present n => s.presentQueued n r
  | _ => true

/-- A queued present is withdrawn (R25): its buffer is free again unless an update is open on it. -/
def State.withdrawPresent (s : State) (n : Nat) : State :=
  let x := s.surf n
  match x.queued with
  | some q =>
    let s1 : State := { s with commits := s.commits.filter (fun (c : BoundaryReq) => c.page != presentPage n) }
    let s2 := s1.setSurf n { x with queued := none }
    if x.openBuf = some q.buf then s2 else s2.freeBuf n q.buf
  | none => s

/-- The verb of ring r has waited too long (R25): its commit or present is withdrawn, or its wait ends; it completes with
TIMEOUT. A present that has been applied waits for its copy without a timeout. -/
def State.waitTimeout (s : State) (r : Nat) : State :=
  match (s.ring r).cur with
  | some f =>
    match f.waiting with
    | some w =>
      if f.timeout = 0 ∨ s.elapsed f.since < f.timeout ∨ !s.timesOut r w then s
      else
        let s1 := match w with
          | .commit p _ =>
            let left := s.commits.filter (fun (q : BoundaryReq) => !(q.page == p && !q.toBasic && q.ring == some r))
            let t : State := { s with commits := left }
            if left.any (fun (q : BoundaryReq) => q.page == p && !q.toBasic) then t
            else
              let u := (t.setPending p false).serveStaging p
              if p = 10 then u.serveLoads else u
          | .journal => s.setJrnl { s.jrnl with items := s.jrnl.items.map (fun (i : JItem) =>
              if i.origin = JOrigin.ring r then { i with origin := JOrigin.part } else i) }
          | .deskTest _ => { s with ens := { s.ens with asks := Cells.erase s.ens.asks r } }
          | .present n => s.withdrawPresent n
          | _ => s
        s1.completeRing r .timeout
    | none => s
  | none => s

/-- A request that finds no boundary within its timeout (R24, R25). -/
def execBoundaryWaitTimeout (ring : BitVec 8) (s : State) : Host.Outcome State Fault Refusal :=
  .next (s.waitTimeout ring.toNat)

/-! ### Writes -/

/-- A write of COMMIT of SCAN (R303). -/
def State.scanGo (s : State) (v : Word) : State := if bit v 0 then (s.goCommit 9).wakeSr else s

/-- A write of COMMIT of PIPE (R339). -/
def State.pipeGo (s : State) (v : Word) : State :=
  let s1 := if bit v 0 then s.goCommit 10 else s
  if bit v 0 && bit v 1 then s1.wakeSr else s1

/-! ### Verbs (R319, R345, R371) -/

/-- SCAN_LOAD (0x76). -/
def execScanLoad (ring : BitVec 8) (s : State) : Host.Outcome State Fault Refusal :=
  .next (s.runVerb ring.toNat 0x76 (pageRight 9) (fun _ v => v.argsWithin [0xFF#32]) (State.loadPanel 9))

/-- The offsets that SCAN_SET may name (Table 13-5). -/
def scanOffset (a : Nat) : Bool := (decide (0x9000 ≤ a) && decide (a ≤ 0x90B8)) || (decide (0x190000 ≤ a) && decide (a ≤ 0x19007C))

/-- SCAN_SET (0x77). -/
def execScanSet (ring : BitVec 8) (s : State) : Host.Outcome State Fault Refusal :=
  .next (s.runVerb ring.toNat 0x77 (pageRight 9)
    (fun _ v => v.argsWithin [0xFFFFFF#32, 0xFFFFFFFF#32] && scanOffset (v.arg 0).toNat && aliasOk (v.arg 0).toNat (v.arg 1))
    (fun s v => s.stageVerb v 9))

/-- SCAN_COMMIT (0x78). -/
def execScanCommit (ring : BitVec 8) (s : State) : Host.Outcome State Fault Refusal :=
  .next (s.runVerb ring.toNat 0x78 (pageRight 9) (fun _ v => v.argsWithin []) (fun s v => (s.verbCommit v 9).wakeSr))

/-- SCAN_REFRESH (0x79): a resume, or an entry into self-refresh. -/
def execScanRefresh (ring : BitVec 8) (s : State) : Host.Outcome State Fault Refusal :=
  .next (s.runVerb ring.toNat 0x79 (pageRight 9) (fun _ v => v.argsWithin [0x3#32])
    (fun s v =>
      let s1 := if bit (v.arg 0) 0 then s.wakeSr else s
      if bit (v.arg 0) 1 then (s1.askSr).complete v (if s1.srAllowed then .ok else .okDegraded) else s1.complete v .ok))

/-- FREEZE_CLEAR (0x7A). -/
def execFreezeClear (ring : BitVec 8) (s : State) : Host.Outcome State Fault Refusal :=
  .next (s.runVerb ring.toNat 0x7A (pageRight 9) (fun _ v => v.argsWithin [0x1F#32])
    (fun s v => let s1 := s.clearFrozen (v.arg 0); s1.complete v .ok [s1.reg Reg.SCAN_FRZ_STATUS]))

/-- The words of a STATS_READ group (Table 13-5). -/
def statsGroup (g : Nat) : List Nat :=
  if g = 0 then [Reg.SCAN_ST_FRAME, Reg.SCAN_ST_INFO, Reg.SCAN_ST_LUMA, Reg.SCAN_ST_COUNT]
  else (List.range 4).map (fun i => Reg.SCAN_HIST + 4 * (4 * (g - 1) + i))

/-- STATS_READ (0x7B). -/
def execStatsRead (ring : BitVec 8) (s : State) : Host.Outcome State Fault Refusal :=
  .next (s.runVerb ring.toNat 0x7B (pageRight 9)
    (fun _ v => v.argsWithin [0xF#32] && decide (field (v.arg 0) 3 0 ≤ 8))
    (fun s v => s.complete v .ok ((statsGroup (field (v.arg 0) 3 0)).map s.reg)))

/-- SCAN_READ (0x7C). -/
def execScanRead (ring : BitVec 8) (s : State) : Host.Outcome State Fault Refusal :=
  .next (s.runVerb ring.toNat 0x7C (pageRight 9) (fun _ v => v.argsWithin [])
    (fun s v => s.complete v .ok ([Reg.SCAN_FRAME, Reg.SCAN_STATE, Reg.SCAN_FRAME_CYC, Reg.SCAN_STATUS].map s.reg)))

/-- PIPE_LOAD (0x80). -/
def execPipeLoad (ring : BitVec 8) (s : State) : Host.Outcome State Fault Refusal :=
  .next (s.runVerb ring.toNat 0x80 (pageRight 10) (fun _ v => v.argsWithin [0xFF#32]) State.pipeLoad)

/-- PIPE_SET (0x81). -/
def execPipeSet (ring : BitVec 8) (s : State) : Host.Outcome State Fault Refusal :=
  .next (s.runVerb ring.toNat 0x81 (pageRight 10)
    (fun _ v => v.argsWithin [0xFFFFFF#32, 0xFFFFFFFF#32] && decide (0xA000 ≤ (v.arg 0).toNat) && decide ((v.arg 0).toNat ≤ 0xA044) &&
      aliasOk (v.arg 0).toNat (v.arg 1))
    (fun s v => s.stageVerb v 10))

/-- PIPE_TABLE (0x82). -/
def execPipeTable (ring : BitVec 8) (s : State) : Host.Outcome State Fault Refusal :=
  .next (s.runVerb ring.toNat 0x82 (pageRight 10)
    (fun _ v =>
      let a := (v.arg 0).toNat
      let n := field (v.arg 1) 2 0
      within (v.arg 0) 0xFFFFFF#32 && within (v.arg 1) 7#32 && decide (1 ≤ n) && decide (n ≤ 5) && decide (0x1A0000 ≤ a) &&
        decide (a ≤ 0x1ADFFC) && (List.range 5).all (fun i => if i < n then aliasOk (a + 4 * i) (v.arg (2 + i)) else v.arg (2 + i) == 0#32))
    (fun s v => s.stageVerb v 10))

/-- PIPE_COMMIT (0x83). -/
def execPipeCommit (ring : BitVec 8) (s : State) : Host.Outcome State Fault Refusal :=
  .next (s.runVerb ring.toNat 0x83 (pageRight 10) (fun _ v => v.argsWithin [0x1#32])
    (fun s v => let s1 := s.verbCommit v 10; if bit (v.arg 0) 0 then s1.wakeSr else s1))

/-- BRIGHT_SET (0x84): GAIN staged and committed. -/
def execBrightSet (ring : BitVec 8) (s : State) : Host.Outcome State Fault Refusal :=
  .next (s.runVerb ring.toNat 0x84 (pageRight 10) (fun _ v => v.argsWithin [0x11FFF#32])
    State.pipeLoad)

/-- PIPE_READ (0x85). -/
def execPipeRead (ring : BitVec 8) (s : State) : Host.Outcome State Fault Refusal :=
  .next (s.runVerb ring.toNat 0x85 (pageRight 10) (fun _ v => v.argsWithin [])
    (fun s v => s.complete v .ok ([Reg.PIPE_STATUS, Reg.PIPE_GEN, Reg.PIPE_GEN_FRAME, Reg.PIPE_GAIN_EFF].map s.reg)))

/-- STAVE_LOAD (0x86). -/
def execStaveLoad (ring : BitVec 8) (s : State) : Host.Outcome State Fault Refusal :=
  .next (s.runVerb ring.toNat 0x86 (pageRight 11) (fun _ v => v.argsWithin [0xFF#32]) (State.loadPanel 11))

/-- Scan-out and the pipeline after a SYSTEM reset. -/
def State.resetScan (s : State) : State := { s with scan := { prevSigs := [] }, pipe := {} }

/-- Scan-out and the pipeline after a CORE reset: registers are kept, the frame in progress and the store are lost
(R317, R334, R343). -/
def State.cutScan (s : State) : State :=
  { s with
    scan := { lastReal := s.scan.lastReal, lastSynth := s.scan.lastSynth, bright := s.scan.bright, resized := s.scan.resized, prevSigs := [] }
    pipe := { s.pipe with odValid := false, odPriming := false, bankKnown := false, applied := false } }

end Sys2Proof.Machine
end

