-- ==== Sys2Proof/Machine/LadderSteps.lean ====
section
/-!
DEFINITION. The steps of ladder moves (Tables 3-3 and 3-5) and CORE bursts (Table 3-6, R66 to R68).
-/

namespace Sys2Proof.Machine

/-- The ladder's state beside its registers replaced. -/
def State.setLadder (s : State) (x : Ladder) : State := { s with ladder := x }

/-- The ladder waits for a step. -/
def State.setStep (s : State) (m : MoveStep) : State := s.setLadder { s.ladder with step := m }

/-! ### Descent (Table 3-3) -/

/-- The descent is forced: by its request, or because the part stands above the ceiling (R57, R72). -/
def State.forced (s : State) : Bool := s.ladder.cause == .forced || decide (s.cur < s.ceil)

/-- D2: jobs pause or complete; a forced descent does not wait for them (R56, R57, R415). Until host release the ladder is in
TUTTI, and a descent that a ceiling asked for waits (R82, log entry 57). -/
def execDescentJobsIdle (s : State) : Host.Outcome State Fault Refusal :=
  .next (if s.ladder.step = .jobsIdle ∧ s.boot.step = .released then
      let s1 := s.jobsAtD2 s.tgt s.forced
      if s1.forced || s1.jobsDone s1.tgt then s1.setStep .frame else s1
    else s)

/-- The moment of a FRAME boundary: between two frames, or at once while scan-out is stopped (R25, Table 3-3). -/
def State.atFrame (s : State) : Bool := !s.scanRuns || (s.scan.running && !s.scan.frameOn)

/-- D6 for a panel that cannot hold its picture: scan-out stops, and FACE takes the panel over or it is powered off (R73); one
that is being powered on for a resume is powered off too (log entry 60). -/
def State.stopRaster (s : State) : State :=
  if s.scan.running then
    let s1 := s.stopScan
    let s2 := s1.setScan { s1.scan with laddered := true, fullPush := true }
    let s3 := if s2.link = 2 then s2.setLink 3 else s2
    let s4 := s3.faceStops
    if s4.flag Reg.FACE_STATUS 8 then s4
    else if s4.panel = 2 ∨ s4.panel = 3 then s4.powerOff 2 false else s4
  else if s.panel = 1 ∧ s.scan.trans = .none ∧ !s.flag Reg.FACE_STATUS 8 then s.powerOff 2 false
  else s

/-- D6: presents and updates end, and the panel is put into the condition of Table 3-7 (R73, R295). -/
def State.panelStep (s : State) : State :=
  let s1 := s.haltIntake
  let s2 :=
    if s1.panelClass = 2 ∨ (s1.panelClass = 1 ∧ s1.holds) then
      let t := if s1.scan.running then s1.enterSr else s1
      t.setScan { t.scan with fullPush := true }
    else s1.stopRaster
  s2.setStep .coreStop

/-- D3 and D4: CORE steps to MEZZO's frequency; below MEZZO D6 follows at the same boundary (R56, R69). -/
def execDescentFrameStep (s : State) : Host.Outcome State Fault Refusal :=
  .next (if s.ladder.step = .frame ∧ s.atFrame then
      let s1 := s.setCur 1
      let s2 := if s1.pllCode.isSome then s1.goFreq (s1.freqFor 1) else s1
      if s2.tgt = 1 then s2.reachTarget else s2.panelStep
    else s)

/-- D6 of a descent that leaves MEZZO (R56, R73). -/
def execDescentPanelStep (s : State) : Host.Outcome State Fault Refusal :=
  .next (if s.ladder.step = .panel ∧ s.atFrame then s.panelStep else s)

/-- A ring still executes a verb other than the one that waits for this move, or a message (D5). -/
def State.verbsLeft (s : State) : Bool :=
  s.rings.any (fun e => match e.2.cur with
    | some f => !f.orphan && (!f.started || (f.waiting.isSome && f.waiting != some .ladder))
    | none => false)

/-- Every entry that has a slot is written before CORE stops (D7). -/
def State.writeAll (s : State) : State :=
  s.rings.foldl (fun s e => (List.range e.2.outbox.length).foldl (fun s _ => s.writeEntry e.1) s) s

/-- D7 may be taken: D5 and D6 are over, the panel's power steps among them (log entry 60), and no port and no crossing holds a
host word (Table 3-3). -/
def State.d7Ready (s : State) : Bool :=
  !s.verbsLeft && s.stave.step == .none && s.desksIdle && s.portA.wbuf.isEmpty && s.portB.wbuf.isEmpty && s.crossing.isEmpty

/-- D7: the move's verb completes, pending entries are written, and CORE, PLL, Stage and Pits stop (Table 3-3, R331, R360). -/
def State.stepD7 (s : State) : State :=
  let s1 := (s.answerMove (if s.ladder.capped then .okDegraded else .ok) [word s.tgt]).deliverFlags.writeAll
  let s2 := s1.linkOff.releaseLease
  let s3 := (s2.setEns { s2.ens with stageGen := s2.ens.stageGen + 1 }).setLadder { s2.ladder with pllLocked := false, vcoreAt := none }
  { (s3.setCore .stopped).setCur 2 with tap := {}, pins := { s3.pins with dsiTe := false } }

/-- Events that wait for a ring go back to their pending flags; completions and messages wait on (Table 6-2, D8). -/
def State.unpost (s : State) : State := s.rings.foldl (fun s e => s.unqueue e.1) s

/-- D8: the Hall is powered off, and entries that were announced and not fetched are lost (R52, Table 3-3). -/
def State.stepD8 (s : State) : State :=
  let lost := (List.range 256).any (fun r => s.ringEn r && s.isSubmission r && s.announced r)
  let s1 := if lost then s.setFlag Reg.DEV_LADDER_STATE 12 true else s
  let s2 := s1.unpost
  let s3 := s2.setEns { s2.ens with jobs := [], started := [] }
  ((s3.setLadder { s3.ladder with refillRings := true }).setBanks 0#48).setCur 3

/-- D7 and D8 (Table 3-3): jobs that are still in a slot complete with HALTED first. -/
def execDescentCoreStop (s : State) : Host.Outcome State Fault Refusal :=
  .next (if s.ladder.step = .coreStop then
      if s.cur ≤ 1 then
        if s.ens.jobs.any (fun j => j.phase == .checked || (j.phase == .running && j.ending.isNone)) then s.jobsAtD2 s.tgt true
        else if s.d7Ready then
          let s1 := s.stepD7
          if s1.tgt = 2 then s1.reachTarget
          else
            let s2 := s1.stepD8
            if s2.tgt = 3 then s2.reachTarget else s2.setStep .fermata
        else s
      else if s.ladder.burstOn then s
      else
        let s1 := s.stepD8
        if s1.tgt = 3 then s1.reachTarget else s1.setStep .fermata
    else s)

/-- A lit panel is powered off by the ladder (R362). -/
def State.darken (s : State) : State := if s.panel = 2 ∨ s.panel = 3 then s.powerOff 2 false else s

/-- A lit panel is powered off below MEZZO in a CORE burst that is part of the step (R362). -/
def State.darkenBurst (s : State) : State := (s.setCore .burst).darken

/-- The panel is lit. -/
def State.lit (s : State) : Bool := s.panel == 2 || s.panel == 3

/-- D9, once a panel lit by full-frame is off: FACE is frozen, and bursts take tokens from here on (R67, Table 3-3). -/
def State.stepD9 (s : State) : State :=
  let s2 := s.setCur 4
  ((if s2.ladder.core = .stopped then s2 else s2.setCore .stopped).setLadder
    { s2.ladder with core := .stopped, tokens := s2.tokenMax, refillFrom := s2.edge }).faceMode

/-- D10, once a lit panel is off: Score task 1 starts (Table 3-3). -/
def State.stepD10 (s : State) : State :=
  let s1 := s.setCore .stopped
  (s1.setLadder { s1.ladder with step := .task1, d10At := s1.edge }).startTask 1

/-- D9, and toward TACET D10, once every burst has ended (Table 3-3). Each begins with the power-off of a panel that it darkens,
and goes on once that has ended. -/
def execDescentFermataEntry (s : State) : Host.Outcome State Fault Refusal :=
  .next (if s.ladder.step = .fermata ∧ !s.ladder.burstOn ∧ s.face.pushing.isNone ∧ s.stave.step = .none then
      if s.cur ≠ 4 ∧ s.lit ∧ s.flag Reg.FACE_STATUS 8 then s.darkenBurst
      else
        let s1 := if s.cur = 4 then s else s.stepD9
        if s1.tgt = 4 then s1.reachTarget else if s1.lit then s1.darkenBurst else s1.stepD10
    else s)

/-- The levels of TACET (Table 2-5): rails and panel enables low, CHG_EN released, SUP_REQ and ALIVE low. -/
def State.dropRails (s : State) : State :=
  let s1 := (s.drivePanel 0xF#4 0#4).setStave { s.stave with step := .none, gao := false, checking := none }
  { s1.setFld Reg.STAVE_PWR_STATE 2 0 0 with pins := { s1.pins with
      pseqEn := 0#12, pseqLatched := 0#12, chgEnLow := false, chgLatched := false, supReq := false, alive := false } }

/-- The part is in TACET: CORE, tasks and every rail are off. -/
def State.enterTacet (s : State) : State :=
  let s1 := ((List.range 16).foldl (fun s t => s.setFlag Reg.SCORE_RUN t false) s).dropRails
  let s2 := s1.setBanks 0#48
  (({ s2 with boot := { s2.boot with step := .tacet } }.setCore .stopped).setCur 5).setTgt 5

/-- D11, unless a wake came during D10: then the descent ends here and the ascent begins (R74). -/
def State.stepD11 (s : State) : State :=
  if s.tgt = 5 then (s.enterTacet).endMove
  else if s.tgt = s.cur then s.reachTarget
  else s.setStep (firstStep s.cur s.tgt)

/-- Task 1 has halted: D11 (Table 3-3, R74). -/
def execTask1HaltedTacet (s : State) : Host.Outcome State Fault Refusal :=
  .next (if s.ladder.step = .task1 ∧ !s.running 1 then s.stepD11 else s)

/-- 65 536 ticks after D10 began task 1 is halted (Table 3-3, R74). -/
def execTask1Timeout (s : State) : Host.Outcome State Fault Refusal :=
  .next (if s.ladder.step = .task1 ∧ 65536 ≤ s.elapsed s.ladder.d10At then
      (if s.running 1 then s.haltTask 1 4 else s).stepD11
    else s)

/-! ### Ascent (Table 3-5) -/

/-- U1 to U3: CORE is clocked by FAST_RC, the PLL starts, and the banks that leases touch are powered (R64). -/
def execAscentCoreStart (s : State) : Host.Outcome State Fault Refusal :=
  .next (if s.ladder.step = .coreStart then
      let s1 := s.endBurst.setCore .fastRc
      let s2 := if 3 ≤ s1.cur ∧ s1.tgt ≤ 2 then s1.setBanks s1.touchedBanks else s1
      s2.setStep (if s2.tgt ≤ 1 then .pllSwitch else .banks)
    else s)

/-- An enabled ring after its bytes were lost: empty (R52). With bits 19 to 0 of word 3 its ERR is cleared too (log entry 55). An entry
that waits for its completion to be written counts no longer. -/
def State.renewRing (s : State) (r : Nat) : State :=
  if s.ringEn r then
    let t := s.emptyRing r
    t.setRing r { t.ring r with cur := (t.ring r).cur.map (fun f => { f with orphan := true }) }
  else s

/-- U5: after the Hall was unpowered, RING leases are filled with zeros, rings are empty, surfaces show nothing, and the
overdrive store is invalid (R52, R295, R334). -/
def State.refill (s : State) : State :=
  if s.ladder.refillRings then
    let s1 := (List.range 32).foldl (fun (s : State) l =>
      if s.leaseEn l && s.leaseType l == 1 then s.zeroHall (s.leaseLo l) (s.leaseHi l - s.leaseLo l) else s) s
    let s2 := ((List.range 256).foldl State.renewRing s1).freshSurfaces
    { s2 with pipe := { s2.pipe with odValid := false }, ladder := { s2.ladder with refillRings := false } }
  else s

/-- Work that waited for CORE goes on: pending events, journal, jobs, held tuning runs. -/
def State.resumeWork (s : State) : State := s.deliverFlags.kick.ensRun

/-- U4 to U6: CORE takes the target's frequency where the PLL is locked, the rung is reached, and what waited goes on
(R64, Table 3-5). -/
def State.stepU4 (s : State) : State :=
  let from_ := s.cur
  let s1 := ((if 2 ≤ from_ then s.setBanks s.touchedBanks else s).setCur s.tgt).refill
  let s2 := (s1.setLadder { s1.ladder with idleCount := 0 }).wdogRestart
  let s3 := s2.resumeWork
  let s4 := if s3.pllCode.isSome ∨ (2 ≤ from_ ∧ s3.ladder.pllLocked) then s3.goFreq (s3.freqFor s3.cur) else s3
  (if 2 ≤ from_ then s4.tuneHeld.faceMode else s4).reachTarget

/-- CORE switches to the PLL at the target's frequency (U4). -/
def execAscentPllSwitch (s : State) : Host.Outcome State Fault Refusal :=
  .next (if s.ladder.step = .pllSwitch then s.stepU4 else s)

/-- The end of an ascent to PIANO: CORE runs for the refill, the pending events and FACE's mode, and stops (R64, R73). -/
def State.stepPiano (s : State) : State :=
  ((((s.setBanks s.touchedBanks).setCur 2).refill).resumeWork.writeAll.faceMode).reachTarget

/-- The end of an ascent to PIANISSIMO, which a request alone can name: the Hall stays unpowered (R52, Table 3-1, log entry 25). -/
def State.stepPianissimo (s : State) : State := ((s.setCur 3).deliverFlags.kick.faceMode).reachTarget

/-- The end of an ascent to a rung below MEZZO (R64). -/
def execAscentBanksPowered (s : State) : Host.Outcome State Fault Refusal :=
  .next (if s.ladder.step = .banks then (if 3 ≤ s.tgt then s.stepPianissimo else s.stepPiano) else s)

/-! ### Bursts (R66 to R68, Table 3-6) -/

/-- A pending flag can be delivered in a burst: to its line, or in PIANO to its ring (Table 3-6). -/
def State.flagWants (s : State) (f : EvFlag) : Bool :=
  let w := s.route f.event
  let r := field w 7 0
  (bit w 9 && !f.ringOnly) ||
    (bit w 8 && s.cur == 2 && s.ringEn r && s.ringType r == 2 && !(s.ring r).enabling && !s.ringHalted r && s.ringRoom r)

/-- A ring has an entry to be written and a slot for it, in PIANO. -/
def State.entryWants (s : State) : Bool :=
  s.cur == 2 && s.rings.any (fun e => !(s.queued e.1).isEmpty && s.ringEn e.1 && !s.ringHalted e.1 &&
    decide (s.ringUsed e.1 < s.ringSize e.1 - 1))

/-- The key FIFO waits to be drained in PIANO (R179). -/
def State.keysWant (s : State) : Bool :=
  let r := s.ffld Reg.KEYS_FIFO_CFG 15 8
  s.cur == 2 && s.fflag Reg.KEYS_FIFO_CFG 16 && !s.keys.fifo.isEmpty && s.ringEn r && s.ringType r == 2 && !s.ringHalted r &&
    s.ringRoom r && (s.keys.drainDue || decide (max 1 (s.ffld Reg.KEYS_FIFO_CFG 23 18) ≤ s.keys.fifo.length))

/-- The journal has work that this state allows (R58, Table 3-6). -/
def State.journalWants (s : State) : Bool :=
  !s.jrnl.readonly && (s.jrnl.busy.isSome || s.nextBits.isSome || s.nextItem.isSome)

/-- FACE has something to show (Table 3-6). -/
def State.faceWants (s : State) : Bool := s.face.pushing.isSome || s.pushDue || s.fullDue

/-- Tuning items that run in bursts and measure or can; item 0 that waits for a T_AO result needs none (R221, R223). -/
def State.tuneWants (s : State) : Bool :=
  ([0, 1, 2, 3, 5, 7] : List Nat).any (fun n => s.tuning n && (if (s.item n).measuring then n != 0 else s.canMeasure n))

/-- A request for a burst remains (Table 3-6). -/
def State.burstWanted (s : State) : Bool :=
  (List.range 4).any (fun b => !(s.bus b).isEmpty) || s.journalWants || s.faceWants || s.keysWant || s.entryWants ||
    s.flags.any s.flagWants || s.coalWants || s.tuneWants

/-- A burst carries a journal operation that began before FERMATA and takes no token (R67). -/
def State.tokenFree (s : State) : Bool := s.cur != 4 || s.jrnl.busy.isSome || s.jrnl.items.any (·.begun)

/-- A burst may start: below MEZZO with CORE stopped, no ascent, a request, and in FERMATA a token (R66, R67). -/
def State.burstReady (s : State) : Bool :=
  s.boot.step == .released && decide (2 ≤ s.cur) && decide (s.cur ≤ 4) && s.ladder.core == .stopped &&
    !(s.moving && decide (s.tgt < s.cur)) && s.burstWanted && (s.tokenFree || decide (0 < s.ladder.tokens))

/-- A burst starts (R66, R67): events are delivered, the journal goes on. -/
def execBurstStart (s : State) : Host.Outcome State Fault Refusal :=
  .next (if s.burstReady then
      let s1 := s.setLadder { s.ladder with
        burstOn := true, burstFrom := s.edge, tokens := if s.tokenFree then s.ladder.tokens else s.ladder.tokens - 1 }
      (s1.setCore .burst).deliverFlags.kick
    else s)

/-- A burst ends when no request remains and no power step of the panel is under way (R66, R68, log entry 60); a link that it
trained goes OFF (R360). -/
def execBurstEnd (s : State) : Host.Outcome State Fault Refusal :=
  .next (if s.ladder.burstOn ∧ !s.burstWanted ∧ s.stave.step = .none then s.endBurst.linkOff else s)

end Sys2Proof.Machine
end

