-- ==== Sys2Proof/Machine/Keys.lean ====
section
/-!
DEFINITION. Keys, encoders and pulses (08): scans and debounce, the key FIFO and its drain, stuck keys, the sense
threshold, commits and the KEYS verbs.
-/

namespace Sys2Proof.Machine

/-! ### State -/

/-- The key block's own state written. -/
def State.setKeys (s : State) (k : Keys) : State := { s with keys := k }

/-- A key or button beside its recognised state. -/
def State.key (s : State) (k : Nat) : KeySt := Cells.get (fun _ => {}) s.keys.keys k

/-- A key's state written. -/
def State.setKey (s : State) (k : Nat) (v : KeySt) : State :=
  s.setKeys { s.keys with keys := Cells.put (fun _ => {}) s.keys.keys k v }

/-- Register and bit that show source k recognised pressed (Table 8-5). -/
def heldBit (k : Nat) : Nat × Nat :=
  if k < 64 then (Reg.KEYS_HELD + 4 * (k / 32), k % 32) else (Reg.KEYS_BTN_STATE, k - 64)

/-- Register and bit that show source k masked (Table 8-5). -/
def maskedBit (k : Nat) : Nat × Nat :=
  if k < 64 then (Reg.KEYS_MASKED + 4 * (k / 32), k % 32) else (Reg.KEYS_BTN_STATE, k - 56)

/-- Source k is recognised pressed. -/
def State.isHeld (s : State) (k : Nat) : Bool := s.flag (heldBit k).1 (heldBit k).2

/-- Source k recognised pressed or released. -/
def State.setHeld (s : State) (k : Nat) (b : Bool) : State := s.setFlag (heldBit k).1 (heldBit k).2 b

/-- Source k is masked. -/
def State.isMasked (s : State) (k : Nat) : Bool := s.flag (maskedBit k).1 (maskedBit k).2

/-- Source k masked or unmasked. -/
def State.setMasked (s : State) (k : Nat) (b : Bool) : State := s.setFlag (maskedBit k).1 (maskedBit k).2 b

/-- HELD: sources recognised pressed and not masked. -/
def State.heldCount (s : State) : Nat := ((List.range 72).filter (fun k => s.isHeld k)).length

/-- The matrix is enabled in force (R164). -/
def State.matrixOn (s : State) : Bool := s.ffld Reg.KEYS_CFG 7 0 != 0 && s.ffld Reg.KEYS_CFG 15 8 != 0

/-- Source k is enabled in force. -/
def State.keyOn (s : State) (k : Nat) : Bool :=
  if k < 64 then s.matrixOn && s.fflag Reg.KEYS_CFG (k / 8) && s.fflag Reg.KEYS_CFG (8 + k % 8)
  else s.fflag Reg.KEYS_CFG (16 + (k - 64))

/-! ### The FIFO (R173 to R178) -/

/-- A key event word (Table 8-3). -/
def keyWord (tick : Word) (code type data : Nat) : BitVec 64 :=
  BitVec.ofNat 64 (tick.toNat + 2 ^ 32 * code + 2 ^ 40 * type + 2 ^ 44 * data)

/-- The FIFO written, with COUNT and the head registers (R177). -/
def State.setFifo (s : State) (l : List (BitVec 64)) : State :=
  let h := l.headD 0#64
  let was := s.keys.fifo.length
  let at_ := s.keys.fifoAt.drop (was - l.length) ++ List.replicate (l.length - was) s.edge
  (((s.setKeys { s.keys with fifo := l, fifoAt := at_ }).setFld Reg.KEYS_STATUS 6 0 l.length).setReg Reg.KEYS_HEAD_LO
    (h.setWidth 32)).setReg Reg.KEYS_HEAD_HI ((h >>> 32).setWidth 32)

/-- The open OVERFLOW entry after one more lost entry. -/
def lostOne (w : BitVec 64) (timebase : Bool) : BitVec 64 :=
  let lost := (w.toNat / 2 ^ 44) % 2 ^ 16
  let w1 := w.toNat - 2 ^ 44 * lost + 2 ^ 44 * min 65535 (lost + 1)
  BitVec.ofNat 64 (if timebase && decide (w1 < 2 ^ 63) then w1 + 2 ^ 63 else w1)

/-- An entry for the FIFO (R175, R178): written, replaced by an OVERFLOW entry, or lost. -/
def State.pushKey (s : State) (w : BitVec 64) : State :=
  let l := s.keys.fifo
  let n := l.length
  let tb := (w.toNat / 2 ^ 40) % 16 == 7
  if n ≤ 62 then
    let s1 := s.setFifo (l ++ [w])
    if n + 1 = max 1 (s.ffld Reg.KEYS_FIFO_CFG 5 0) then (s1.raise 38 (word (n + 1))).wake 10 else s1
  else if n = 63 then
    let lost := BitVec.ofNat 64 ((w.toNat % 2 ^ 32) + 2 ^ 32 * 0xFE + 2 ^ 40 * 6 + 2 ^ 44 + (if tb then 2 ^ 63 else 0))
    ((s.setFifo (l ++ [lost])).setFlag Reg.KEYS_STATUS 18 true).raise 38 (word (64 + 256))
  else if s.flag Reg.KEYS_STATUS 18 then s.setFifo (l.take 63 ++ [lostOne (l.getD 63 0#64) tb])
  else s

/-- n entries removed from the head: an open OVERFLOW entry is closed (R175). -/
def State.popKeys (s : State) (n : Nat) : State :=
  if n = 0 ∨ s.keys.fifo = [] then s else (s.setFifo (s.keys.fifo.drop n)).setFlag Reg.KEYS_STATUS 18 false

/-- An entry of this tick for source code. -/
def State.keyEntry (s : State) (code type data : Nat) : State := s.pushKey (keyWord s.now code type data)

/-- EV_KEYS_STATE (Table 8-9). -/
def State.keysState (s : State) (code kind : Nat) : State := s.raise 39 (word (code + 256 * kind))

/-! ### Scans (R164 to R167, R180, R181) -/

/-- Enabled rows that a scan drives. -/
def State.scanRows (s : State) : Nat :=
  if s.matrixOn then (maskBits 8 (s.ffld Reg.KEYS_CFG 7 0)).length else 0

/-- Ticks between scan starts (R164). -/
def State.scanPeriod (s : State) : Nat :=
  let deep := s.ffld Reg.KEYS_SCAN_CFG 15 8
  if !s.matrixOn then 32
  else if (s.cur = 3 ∨ s.cur = 4) ∧ deep ≠ 0 then max 16 deep
  else max 16 (s.ffld Reg.KEYS_SCAN_CFG 7 0)

/-- The key block runs: in every state but POR, SYSTEM reset and TACET (Table 2-5, Table 8-4). -/
def State.keysOn (s : State) : Bool := s.aoOn

/-- A scan falls due. -/
def State.scanDue (s : State) : Bool :=
  s.keys.scanAt.isNone && s.keysOn && (match s.keys.scanLast with
    | some t => decide (s.scanPeriod ≤ s.elapsed t)
    | none => true)

/-- A scan starts (R164). -/
def execScanStart (s : State) : Host.Outcome State Fault Refusal :=
  .next (if s.scanDue then s.setKeys { s.keys with scanAt := some s.edge, scanLast := some s.edge } else s)

/-- A press recognised (R166): PRESS entry, EV_KEYS_PRESS and its wake source. -/
def State.pressKey (s : State) (k : Nat) : State :=
  let s1 := (s.setHeld k true).setKey k { s.key k with count := 0, since := s.edge }
  let h := s1.heldCount
  ((s1.keyEntry k 0 h).raise 32 (word (k + 256 * h))).wake (if k = 64 then 0 else 1)

/-- A release recognised (R166): RELEASE entry and EV_KEYS_RELEASE. -/
def State.releaseKey (s : State) (k : Nat) : State :=
  let d := min 4095 (s.elapsed (s.key k).since / 256)
  let s1 := (s.setHeld k false).setKey k {}
  (s1.keyEntry k 1 (s1.heldCount + 256 * d)).raise 33 (word (k + 256 * d))

/-- A source masked (R180). -/
def State.maskKey (s : State) (k : Nat) : State :=
  (((s.setHeld k false).setMasked k true).setKey k { since := s.edge }).keyEntry k 4 0 |>.keysState k 0

/-- A source unmasked with an UNMASKED entry (R180, R181); one still pressed starts from the pressed state. -/
def State.unmaskKey (s : State) (k : Nat) (pressed : Bool) : State :=
  let secs := min 0xFFFFF (s.elapsed (s.key k).since / 32768)
  let s1 := ((s.setMasked k false).setHeld k pressed).setKey k (if pressed then { since := s.edge } else {})
  (s1.keyEntry k 5 secs).keysState k 1

/-- One reading of source k at a scan end (R166, R180, R181); from is the scan's start. -/
def State.readKey (s : State) (from_ : BitVec 48) (k : Nat) (pressed : Bool) : State :=
  if !s.keyOn k then s
  else
    let q := s.key k
    if s.isMasked k then
      let whole := (from_ - q.since).toNat / 32768
      if q.unmask then s.unmaskKey k pressed
      else if q.sampleAt ≤ whole then
        if pressed then s.setKey k { q with sampleAt := whole + 1 } else s.unmaskKey k false
      else s
    else if pressed == s.isHeld k then
      let s1 := s.setKey k { q with count := 0 }
      let stuck := s.ffld Reg.KEYS_SCAN_CFG 31 24
      if pressed && stuck != 0 && decide (stuck * 32768 ≤ s.elapsed q.since) then s1.maskKey k else s1
    else
      let need := max 1 (if pressed then s.ffld Reg.KEYS_SCAN_CFG 19 16 else s.ffld Reg.KEYS_SCAN_CFG 23 20)
      if need ≤ q.count + 1 then (if pressed then s.pressKey k else s.releaseKey k)
      else s.setKey k { q with count := q.count + 1 }

/-! ### Encoders (R168, R169) -/

/-- An encoder's state. -/
def State.enc (s : State) (n : Nat) : EncSt := Cells.get (fun _ => {}) s.keys.encs n

/-- An encoder's state written. -/
def State.setEnc (s : State) (n : Nat) (v : EncSt) : State :=
  s.setKeys { s.keys with encs := Cells.put (fun _ => {}) s.keys.encs n v }

/-- Place of accepted levels (A, B) in the positive sequence 00, 10, 11, 01. -/
def encPlace (a b : Bool) : Nat :=
  match a, b with
  | false, false => 0
  | true, false => 1
  | true, true => 2
  | false, true => 3

/-- The quarter-steps of one step, by STEP (R169). -/
def encNeed (step : Nat) : Int := if step = 0 then 1 else if step = 2 then 4 else 2

/-- The step that a count of quarter-steps makes (R169). -/
def encStep (need q : Int) : Int := if need ≤ q then 1 else if q ≤ -need then -1 else 0

/-- The encoder's accepted levels become (a, b) (R168). -/
def State.encMove (s : State) (n : Nat) (a b : Bool) : State :=
  let e := s.enc n
  let d := (encPlace a b + 4 - encPlace e.a e.b) % 4
  if d = 0 then s
  else if d = 2 then (s.setEnc n { e with a := a, b := b }).bumpSat Reg.KEYS_ERRORS (8 * n + 7) (8 * n)
  else
    let need : Int := encNeed (s.ffld Reg.KEYS_ENC_CFG (8 * n + 1) (8 * n))
    let q : Int := e.q + (if d = 1 then 1 else -1)
    let step : Int := encStep need q
    let out := if s.fflag Reg.KEYS_ENC_CFG (8 * n + 4) then -step else step
    let pos := Reg.KEYS_ENC_POS + 4 * n
    (s.setEnc n { a := a, b := b, q := q - need * step, steps := e.steps + out }).setReg pos
      (s.reg pos + BitVec.ofInt 32 out)

/-- The level of a pad that encoder n accepts: a new one once it has been seen on FILT + 1 consecutive ticks (R168). -/
def State.encAccept (s : State) (n : Nat) (was level : Bool) (seen : Nat) : Bool :=
  if s.ffld Reg.KEYS_ENC_CFG (8 * n + 3) (8 * n + 2) < seen then level else was

/-- The pads of an encoder at this tick, with the consecutive ticks for which each has shown its level (R168). -/
def execEncoderTransition (enc : BitVec 1) (a b : PadRun) (s : State) : Host.Outcome State Fault Refusal :=
  .next (
    let n := enc.toNat
    let e := s.enc n
    if s.keysOn && s.vddioUp && s.fflag Reg.KEYS_CFG (24 + n) then
      s.encMove n (s.encAccept n e.a a.level a.seen) (s.encAccept n e.b b.level b.seen)
    else s)

/-- The ENC_STEP entry of an encoder at a scan end (R169). -/
def State.encEntry (s : State) (n : Nat) : State :=
  let e := s.enc n
  if e.steps = 0 then s
  else
    let v := clampInt (-128) 127 e.steps
    let code := 0x48 + n
    (((s.setEnc n { e with steps := e.steps - v }).keyEntry code 2 (unsigned 8 v)).raise 34
      (word (code + 256 * unsigned 8 v))).wake 2

/-! ### The sense threshold (R182 to R184, R230) -/

/-- A column at a level in µV is above the threshold of tap k (R182): VDDIO × (0.30 + 0.40 × k / 15). -/
def aboveTap (vddio k level : Nat) : Bool := decide (vddio * (45 + 4 * k) < 150 * level)

/-- The highest tap that a column exceeds, found in four successive-approximation steps; 0 where it exceeds none (R183). -/
def columnTap (vddio level : Nat) : Nat :=
  [8, 4, 2, 1].foldl (fun k b => if aboveTap vddio (k + b) level then k + b else k) 0

/-- The keys that a scan reads pressed (R36, R165): a matrix key whose column is above the tap in force while its row is driven, and
the buttons; with VDDIO out of range KBTN0 alone is read. cols holds the level of each key's column in µV. -/
def State.pressedKeys (s : State) (vddio : Nat) (cols : List Nat) (btns : BitVec 8) : BitVec 72 :=
  BitVec.ofNat 72 ((List.range 72).foldl (fun m k =>
    let on := if k < 64 then s.vddioUp && aboveTap vddio (s.fld Reg.KEYS_THRESH 3 0) (cols.getD k 0)
      else (k == 64 || s.vddioUp) && btns.getLsbD (k - 64)
    if on then m + 2 ^ k else m) 0)

/-- TARGET for the last accepted LEAK (R184); before any, BASE_TAP plus the kept delta (R230). -/
def State.tapTarget (s : State) (leak : Option Nat) : Nat :=
  let base := s.ffld Reg.KEYS_LEAK_CFG 15 12
  match leak with
  | some l => if s.fflag Reg.KEYS_LEAK_CFG 16 then min 15 (max base (l + s.ffld Reg.KEYS_LEAK_CFG 11 8)) else base
  | none => ((s.tuneKept 5).getD 0 base).toNat

/-- The last accepted LEAK. -/
def State.lastLeak (s : State) : Option Nat :=
  if s.flag Reg.KEYS_THRESH 12 then some (s.fld Reg.KEYS_THRESH 11 8) else none

/-- WET and DRY (R184). -/
def State.wetDry (s : State) (leak : Nat) : State :=
  let v := leak + s.ffld Reg.KEYS_LEAK_CFG 11 8
  let wet := s.flag Reg.KEYS_THRESH 16
  if 15 < v ∧ !wet then (s.setFlag Reg.KEYS_THRESH 16 true).keysState 0 2
  else if v ≤ 13 ∧ wet then (s.setFlag Reg.KEYS_THRESH 16 false).keysState 0 3
  else s

/-- A column that R183 compares: enabled, with no key recognised pressed or masked. -/
def State.columnQualifies (s : State) (c : Nat) : Bool :=
  s.fflag Reg.KEYS_CFG (8 + c) && (List.range 8).all (fun r => !s.isHeld (8 * r + c) && !s.isMasked (8 * r + c))

/-- Item 5 judges a measured LEAK (R230). -/
def State.judgeLeak (s : State) (leak : Nat) : State :=
  let base := s.ffld Reg.KEYS_LEAK_CFG 15 12
  let baseline := match s.lastLeak with
    | some l => l
    | none => base - s.ffld Reg.KEYS_LEAK_CFG 11 8
  let near := match s.tune.badLeak with
    | some l => decide (l ≤ leak + 1) && decide (leak ≤ l + 1)
    | none => false
  let ok := decide (leak ≤ baseline + 3) || near
  let target := s.tapTarget (some leak)
  let s1 := { s with tune := { s.tune with badLeak := if ok then none else some leak } }
  let s2 := if ok then ((s1.setFld Reg.KEYS_THRESH 11 8 leak).setFlag Reg.KEYS_THRESH 12 true).wetDry leak else s1
  s2.tuneResult 5 [(target : Int)] (word (target + 256 * leak)) ok

/-- The run of item 5 ends without a measurement; a POWER_UP run sets the tap in force to BASE_TAP plus the kept delta (R230). -/
def State.noLeak (s : State) : State :=
  ((if (s.item 5).trig = 0 then s.setApplied 5 (s.tuneKept 5) else s).settle 5).tuneEnd 5 .okDegraded

/-- LEAK (R183): the highest tap over the columns that qualify. -/
def State.leakOf (s : State) (vddio : Nat) (cols : List Nat) : Nat :=
  ((List.range 8).filter s.columnQualifies).foldl (fun m c => max m (columnTap vddio (cols.getD c 0))) 0

/-- The column leakage measured in ticks E + 1 to E + 4 (R183, R230), with the level of each column in µV while every enabled row is
driven. -/
def execLeakMeasurement (levels : KeyLevels) (s : State) : Host.Outcome State Fault Refusal :=
  .next (if s.tuning 5 && (s.item 5).measuring && decide (4 ≤ s.elapsed s.keys.gapAt) then
      if s.matrixOn && (List.range 8).any s.columnQualifies then s.judgeLeak (s.leakOf levels.vddio levels.cols)
      else s.noLeak
    else s)

/-! ### Commit (R185) -/

/-- A committed KEYS set takes effect (R185): a pulse input it enables starts anew, and TARGET, WET and DRY follow
LEAK_CFG. -/
def State.applyKeys (s : State) : State :=
  let wasOn := s.ffld Reg.KEYS_CFG 27 26
  let s1 := s.applyShadow 4
  let s2 := s1.setFlag Reg.KEYS_STATUS 19 s1.matrixOn
  let s3 := (List.range 2).foldl (fun s n =>
    if s.fflag Reg.KEYS_CFG (26 + n) && !wasOn.testBit n then
      s.setKeys { s.keys with pulses := Cells.put (fun _ => {}) s.keys.pulses n { since := s.edge } } else s) s2
  let s4 := match s3.lastLeak with
    | some l => s3.wetDry l
    | none => s3
  s4.setTarget 5 [(s4.tapTarget s4.lastLeak : Int)]

/-- The commits that wait for this SCAN_GAP: they come first (R23, R164). -/
def State.keysCommits (s : State) : State := s.serveCommits [4] (fun s p => s.applyKeys.endCommit p .ok)

/-- A source that is not enabled: at a scan end it loses what it holds, with a RELEASE or an UNMASKED entry (R185). -/
def State.dropKey (s : State) (k : Nat) : State :=
  if s.isMasked k then s.unmaskKey k false
  else if s.isHeld k then s.releaseKey k
  else s.setKey k {}

/-- Source k at a scan end: disabled, or read by this scan, or enabled by a commit at this very SCAN_GAP (R166, R185). -/
def State.scanKey (s : State) (from_ : BitVec 48) (pressed : BitVec 72) (sampled : Nat → Bool) (k : Nat) : State :=
  if !s.keyOn k then s.dropKey k
  else if sampled k then s.readKey from_ k (pressed.getLsbD k)
  else s

/-- The tuning place of the SCAN_GAP boundary (R23, R164, R184). -/
def State.scanGap (s : State) : State :=
  let every := s.ffld Reg.KEYS_LEAK_CFG 7 0
  let n := s.keys.scans + 1
  let s1 := s.setKeys { s.keys with scans := n }
  let s2 := if every ≠ 0 ∧ s1.matrixOn ∧ n % every = 0 then s1.tuneTrigger 5 4 else s1
  s2.tunePlace [5] [5]

/-- A scan ends (R164, R166, R169, R174): commits, then the entries of the sources and of the encoders in ascending code. Bit k
of pressed is the reading of source k. -/
def State.scanEnd (s : State) (from_ : BitVec 48) (pressed : BitVec 72) : State :=
  let s1 := (s.setKeys { s.keys with scanAt := none, gapAt := s.edge }).keysCommits
  let s2 := (List.range 72).foldl (fun u k => u.scanKey from_ pressed s.keyOn k) s1
  ((s2.encEntry 0).encEntry 1).scanGap

/-- The scan in progress ends at its tick E with what it sensed (R164, R165). -/
def execScanEnd (levels : KeyLevels) (s : State) : Host.Outcome State Fault Refusal :=
  .next (match s.keys.scanAt with
    | some t =>
      if s.keysOn && decide (max s.scanRows 1 ≤ s.elapsed t) then s.scanEnd t (s.pressedKeys levels.vddio levels.cols levels.btns)
      else s
    | none => s)

/-! ### Pulses (R170 to R172) -/

/-- A pulse input's state. -/
def State.pulse (s : State) (n : Nat) : PulseSt := Cells.get (fun _ => {}) s.keys.pulses n

/-- Puts one pulse input's counting state. -/
def State.setPulse (s : State) (n : Nat) (p : PulseSt) : State :=
  s.setKeys { s.keys with pulses := Cells.put (fun _ => {}) s.keys.pulses n p }

/-- PULSEn_CFG. -/
def pulseCfg (n : Nat) : Nat := Reg.KEYS_PULSE_CFG + 4 * n

/-- An accepted edge (R170, R171); its entry is written as the tick ends (R174). -/
def State.acceptPulse (s : State) (n interval : Nat) : State :=
  let code := 0x4A + n
  let s1 := s.setPulse n { s.pulse n with last := some s.edge, stopped := false }
  let s2 := if s1.fflag (pulseCfg n) 18 then s1.setKeys { s1.keys with late := s1.keys.late ++ [(code, interval)] } else s1
  let total := s2.reg (Reg.KEYS_PULSE_TOTAL + 4 * n) + 1#32
  let sum := s2.fld (Reg.KEYS_PULSE_FRAC + 4 * n) 15 0 + s2.ffld (Reg.KEYS_PULSE_STEP + 4 * n) 23 0
  let s3 := ((s2.setReg (Reg.KEYS_PULSE_TOTAL + 4 * n) total).setReg (Reg.KEYS_PULSE_FRAC + 4 * n)
    (word (sum % 2 ^ 16))).setReg (Reg.KEYS_PULSE_LAST + 4 * n) s2.now
  let s4 := (List.range (sum / 2 ^ 16)).foldl (fun s _ => s.raise (36 + n) total) s3
  (s4.raise 35 (word (code + 256 * interval))).wake 3

/-- The PULSE entries of the tick, in ascending code behind all its other entries (R174). -/
def State.writePulses (s : State) : State :=
  let l := s.keys.late
  ([0x4A, 0x4B].flatMap (fun c => l.filter (fun e => e.1 == c))).foldl (fun s e => s.keyEntry e.1 3 e.2)
    (s.setKeys { s.keys with late := [] })

/-- An edge on a pulse input (R170). -/
def State.pulseEdge (s : State) (n : Nat) (rising : Bool) : State :=
  let kind := s.ffld (pulseCfg n) 17 16
  if !s.fflag Reg.KEYS_CFG (26 + n) || !(kind == 2 || (kind == 1) == !rising) then s
  else match (s.pulse n).last with
    | none => s.acceptPulse n 0xFFFFF
    | some t =>
      if s.elapsed t < s.ffld (pulseCfg n) 15 0 then s.bumpSat Reg.KEYS_ERRORS (23 + 8 * n) (16 + 8 * n)
      else s.acceptPulse n (min 0xFFFFF (s.elapsed t))

/-- An edge on PULSEn in this tick (R170, R171). -/
def execPulseEdge (input : BitVec 1) (rising : Bool) (s : State) : Host.Outcome State Fault Refusal :=
  .next (if s.keysOn && s.vddioUp then s.pulseEdge input.toNat rising else s)

/-- No pulse has been accepted for STOP × 1024 ticks, counted from the enable before the first one (R172). -/
def State.pulseStopped (s : State) (n : Nat) : Bool :=
  let stop := s.ffld (pulseCfg n) 31 24
  let p := s.pulse n
  s.keysOn && s.fflag Reg.KEYS_CFG (26 + n) && decide (0 < stop) && !p.stopped &&
    decide (stop * 1024 ≤ s.elapsed (p.last.getD p.since))

/-- EV_KEYS_STATE with kind STOPPED (R172). -/
def execPulseStopped (input : BitVec 1) (s : State) : Host.Outcome State Fault Refusal :=
  .next (
    let n := input.toNat
    if s.pulseStopped n then
      (s.setPulse n { s.pulse n with stopped := true }).keysState (0x4A + n) 4
    else s)

/-- The TIMEBASE entry of this Metronome value is not written yet (R176). -/
def State.timebaseDue (s : State) : Bool :=
  s.now == 0#32 && s.cur != 5 && decide (s.metro.toNat / 2 ^ 32 ≠ s.keys.timebase)

/-- The TIMEBASE entry (R176). -/
def execTimebase (s : State) : Host.Outcome State Fault Refusal :=
  .next (if s.timebaseDue then
      let hi := s.metro.toNat / 2 ^ 32
      (s.setKeys { s.keys with timebase := hi }).pushKey (keyWord 0#32 0xFF 7 (16 * hi))
    else s)

/-! ### Pops and the drain (R177, R179) -/

/-- A write of POP (R177): ignored while DRAIN_EN is 1. -/
def State.writePop (s : State) (v : Word) : State :=
  if s.fflag Reg.KEYS_FIFO_CFG 16 then s else (s.popKeys (field v 6 0)).bump Reg.KEYS_STATUS 15 8

/-- The drain may work in this state (R179): PIANO only in a burst that BATCH or WAIT asked for. -/
def State.drainOpen (s : State) : Bool :=
  s.fflag Reg.KEYS_FIFO_CFG 16 && !s.keys.fifo.isEmpty && s.takesEvents (s.ffld Reg.KEYS_FIFO_CFG 15 8) &&
    (decide (s.cur ≤ 1) || (s.cur == 2 && (s.keys.drainDue ||
      decide (max 1 (s.ffld Reg.KEYS_FIFO_CFG 23 18) ≤ s.keys.fifo.length))))

/-- The drain writes one KIND 1 entry of up to three FIFO entries and removes them (R179). -/
def State.drainKeys (s : State) : State :=
  let r := s.ffld Reg.KEYS_FIFO_CFG 15 8
  if !s.drainOpen || !(s.ring r).outbox.isEmpty then s
  else if !s.ringCovered r then s.haltRing r 2
  else
    let ws := s.keys.fifo.take 3
    let s1 := ((s.post r (.keys ws)).writeEntry r).popKeys ws.length
    s1.setKeys { s1.keys with drainDue := decide (s.cur = 2) && !s1.keys.fifo.isEmpty }

/-- The drain's next entry (R179). -/
def execKeyDrain (s : State) : Host.Outcome State Fault Refusal := .next s.drainKeys

/-- In PIANO the oldest entry has waited WAIT × 64 ticks (R179). -/
def State.drainWaited (s : State) : Bool :=
  let wait := s.ffld Reg.KEYS_FIFO_CFG 31 24
  s.cur == 2 && s.fflag Reg.KEYS_FIFO_CFG 16 && decide (0 < wait) && (match s.keys.fifoAt with
    | t :: _ => decide (wait * 64 ≤ s.elapsed t)
    | [] => false)

/-- The drain asks for a burst because WAIT has passed (R179). -/
def execDrainWaitExpiry (s : State) : Host.Outcome State Fault Refusal :=
  .next (if s.drainWaited then s.setKeys { s.keys with drainDue := true } else s)

/-! ### Verbs (Table 8-8) -/

/-- The registers of a CONFIG_KEYS payload, in its order (R187). -/
def keysProfileRegs : List Nat :=
  [Reg.KEYS_CFG, Reg.KEYS_SCAN_CFG, Reg.KEYS_ENC_CFG, Reg.KEYS_PULSE_CFG, Reg.KEYS_PULSE_CFG + 4, Reg.KEYS_PULSE_STEP,
    Reg.KEYS_PULSE_STEP + 4, Reg.KEYS_LEAK_CFG, Reg.KEYS_FIFO_CFG]

/-- The rule of a CONFIG_KEYS payload (R187). -/
def keysPayloadOk (bs : List Byte) : Bool :=
  let ws := bytesWords bs
  bs.length == 40 && field (nth ws 0) 31 8 == 0 &&
    (keysProfileRegs.zipIdx).all (fun e => within (nth ws (e.2 + 1)) (writable e.1))

/-- A CONFIG_KEYS profile staged: the record with the highest SEQ (R187). -/
def State.stageKeys (s : State) (profile : Nat) : Option Nat × State :=
  let (recs, s1) := s.configRecs 2 profile keysPayloadOk
  match recs.getLast? with
  | some r => (some r.1, (keysProfileRegs.zipIdx).foldl (fun s e => s.stage e.1 (nth (bytesWords r.2) (e.2 + 1))) s1)
  | none => (none, s1)

/-- KEYS_LOAD (0x30, R187). -/
def execKeysLoad (ring : BitVec 8) (s : State) : Host.Outcome State Fault Refusal :=
  .next (s.runVerb ring.toNat 0x30 (pageRight 4) (fun _ v => v.argsWithin [0xFF#32])
    (fun s v =>
      let r := s.stageKeys (field (v.arg 0) 7 0)
      match r.1 with
      | some q => r.2.verbCommit v 4 (some q)
      | none => r.2.complete v .badArg))

/-- KEYS_SET (0x31, R185). -/
def execKeysSet (ring : BitVec 8) (s : State) : Host.Outcome State Fault Refusal :=
  .next (s.runVerb ring.toNat 0x31 (pageRight 4)
    (fun _ v => v.argsWithin [0xFF#32, 0xFFFFFFFF#32] && stageable 4 (field (v.arg 0) 7 0) (v.arg 1))
    (fun s v => (s.stage (0x4000 + field (v.arg 0) 7 0) (v.arg 1)).verbCommit v 4))

/-- KEYS_READ (0x32, R177). -/
def execKeysRead (ring : BitVec 8) (s : State) : Host.Outcome State Fault Refusal :=
  .next (s.runVerb ring.toNat 0x32 (pageRight 4) (fun _ v => v.argsWithin [0x1#32])
    (fun s v =>
      let pop := bit (v.arg 0) 0
      if pop && s.fflag Reg.KEYS_FIFO_CFG 16 then s.complete v .busy
      else
        let s1 := if pop then (s.popKeys 1).bump Reg.KEYS_STATUS 15 8 else s
        s1.complete v .ok [s.reg Reg.KEYS_HEAD_LO, s.reg Reg.KEYS_HEAD_HI, word s.keys.fifo.length,
          word (s1.fld Reg.KEYS_STATUS 15 8)]))

/-- KEYS_DRAIN (0x33, R179). -/
def execKeysDrain (ring : BitVec 8) (s : State) : Host.Outcome State Fault Refusal :=
  .next (s.runVerb ring.toNat 0x33 (pageRight 4) (fun _ v => v.argsWithin [0x1FF#32])
    (fun s v =>
      let w := s.reg Reg.KEYS_FIFO_CFG
      (s.stage Reg.KEYS_FIFO_CFG (withBit (withField w 15 8 (field (v.arg 0) 7 0)) 16 (bit (v.arg 0) 8))).verbCommit v 4))

/-- KEYS_UNMASK (0x34, R181). -/
def execKeysUnmask (ring : BitVec 8) (s : State) : Host.Outcome State Fault Refusal :=
  .next (s.runVerb ring.toNat 0x34 (pageRight 4)
    (fun _ v => v.argsWithin [0xFF#32] && (decide (field (v.arg 0) 7 0 ≤ 0x47) || field (v.arg 0) 7 0 == 0xFF))
    (fun s v =>
      let c := field (v.arg 0) 7 0
      ((List.range 72).foldl (fun s k =>
        if (c = k ∨ c = 0xFF) ∧ s.isMasked k then s.setKey k { s.key k with unmask := true } else s) s).complete v .ok))

/-- PULSE_TOTAL_SET (0x35, R171): it takes effect at the next tick. -/
def execPulseTotalSet (ring : BitVec 8) (s : State) : Host.Outcome State Fault Refusal :=
  .next (s.runVerb ring.toNat 0x35 (pageRight 4) (fun _ v => v.argsWithin [0x1#32, 0xFFFFFFFF#32, 0xFFFF#32])
    (fun s v => s.await v (.pulseTotal (field (v.arg 0) 0 0) (v.arg 1) (v.arg 2)) 0))

/-- A PULSE_TOTAL_SET takes effect, before the tick's pulse is counted (R187, Table 8-8). -/
def State.putTotal (s : State) (r : Nat) : State :=
  match (s.ring r).cur with
  | some f => match f.waiting with
    | some (.pulseTotal n total frac) =>
      ((s.setReg (Reg.KEYS_PULSE_TOTAL + 4 * n) total).setReg (Reg.KEYS_PULSE_FRAC + 4 * n) frac).completeRing r .ok
    | _ => s
  | none => s

/-- The totals that take effect at this tick. -/
def State.putTotals (s : State) : State := (s.rings.map (·.1)).foldl State.putTotal s

end Sys2Proof.Machine
end

