-- ==== Sys2Proof/Machine/Sense.lean ====
section
/-!
DEFINITION. Battery, temperature and the part's own health (09): rounds and results, the coulomb counter, process counts,
rails and their guards, threshold slots, levels and actions, the charger, the SENSE commit and verbs.
-/

namespace Sys2Proof.Machine

/-! ### Results (R188 to R191) -/

/-- The SENSE block with its internal state replaced. -/
def State.setSense (s : State) (x : Sense) : State := { s with sense := x }

/-- The SENSE block runs: in every state but POR, TACET and a SYSTEM reset (R211, Table 9-6). -/
def State.senseOn (s : State) : Bool := s.aoOn

/-- The round period in ticks: DEEP_ROUND in PIANISSIMO and FERMATA; 0 acts as 1 (R188). -/
def State.roundPeriod (s : State) : Nat :=
  1024 * max 1 (if s.cur = 3 ∨ s.cur = 4 then s.ffld Reg.SENSE_CFG 31 24 else s.ffld Reg.SENSE_CFG 23 16)

/-- A round starts at this tick (R188). -/
def State.roundDue (s : State) : Bool :=
  s.senseOn && s.metro.toNat % s.roundPeriod == 0 && s.sense.roundAt != some s.metro

/-- The enabled channels among codes 0 to 6 in ascending code; VBAT always (R188). -/
def State.enabledChannels (s : State) : List Nat := 0 :: (maskBits 7 (s.ffld Reg.SENSE_CFG 6 0)).filter (fun c => c != 0)

/-- A round of the enabled channels starts, and with it every PM_EVERY-th time the process counts (R188, R198). -/
def execRoundStart (s : State) : Host.Outcome State Fault Refusal :=
  .next (if s.roundDue then
      let every := s.ffld Reg.SENSE_CFG 15 12
      let n := s.sense.rounds + 1
      let pm := decide (0 < every ∧ every ≤ n)
      s.setSense { s.sense with
        roundAt := some s.metro, left := s.enabledChannels, published := false
        rounds := if pm then 0 else n, pmFrom := if pm then some s.edge else s.sense.pmFrom }
    else s)

/-- HYST of Table 9-2 where the slot names 0. -/
def defaultHyst (ch : Nat) : Nat := if ch = 0 then 50 else if ch = 7 then 64 else if 9 ≤ ch then 16 else 32

/-- Offset of word w of slot n (Table 9-11). -/
def slotWord (n w : Nat) : Nat := Reg.SENSE_SLOT_W0 + 8 * n + 4 * w

/-- Slot n is enabled in force and no commit refused it (R201). -/
def State.slotOn (s : State) (n : Nat) : Bool := s.fflag (slotWord n 1) 5 && !s.flag (slotWord n 1) 11

/-- ASSERTED of slot n. -/
def State.slotAsserted (s : State) (n : Nat) : Bool := s.flag (slotWord n 1) 16

/-- The argument of EV_SENSE_ASSERT and EV_SENSE_CLEAR (Table 9-13). -/
def State.slotArg (s : State) (n value : Nat) : Word :=
  let w := s.inForce (slotWord n 1)
  word (n + 16 * field w 3 0 + 256 * field w 10 8 + 0x10000 * value)

/-- Slot n changes state: at once in its own words, with its event; on levels, actions and CHG_EN in the next tick. An
assertion with WAKE is the SENSE wake source (R203, R204). -/
def State.slotChange (s : State) (n value : Nat) (on : Bool) : State :=
  let s1 := (s.setFld (slotWord n 1) 23 20 0).setFlag (slotWord n 1) 16 on
  let s2 := (s1.setSense { s1.sense with slotsDirty := true }).raise (if on then 40 else 41) (s1.slotArg n value)
  if on && s2.fflag (slotWord n 1) 6 then s2.wake 7 else s2

/-- A sample meets the condition for the slot's present state (R203). -/
def State.slotCrosses (s : State) (n : Nat) (v : Int) : Bool :=
  let w0 := s.inForce (slotWord n 0)
  let level := signed 16 (field w0 15 0)
  let set := field w0 25 16
  let hyst : Int := if set = 0 then defaultHyst (s.ffld (slotWord n 1) 3 0) else set
  match s.fflag (slotWord n 1) 4, s.slotAsserted n with
  | false, false => decide (level < v)
  | false, true => decide (v < level - hyst)
  | true, false => decide (v < level)
  | true, true => decide (level + hyst < v)

/-- Slot n takes one sample (R202, R203). -/
def State.slotSample (s : State) (n value : Nat) : State :=
  if s.slotCrosses n (signed 16 value) then
    let c := s.fld (slotWord n 1) 23 20 + 1
    if max 1 (s.ffld (slotWord n 0) 29 26) ≤ c then s.slotChange n value (!s.slotAsserted n)
    else s.setFld (slotWord n 1) 23 20 c
  else s.setFld (slotWord n 1) 23 20 0

/-- Slot n watches a channel that has published a good result in this tick (R202). -/
def State.slotHears (s : State) (n : Nat) : Bool :=
  let ch := s.ffld (slotWord n 1) 3 0
  s.slotOn n && s.sense.fresh.contains ch && s.channelGood ch

/-- At the end of a tick the slots of the channels that published in it take their samples, in ascending slot number
(R202, R203). -/
def State.sampleSlots (s : State) : State :=
  let t := (List.range 16).foldl (fun s n =>
    if s.slotHears n then s.slotSample n (s.fld (resultReg (s.ffld (slotWord n 1) 3 0)) 15 0) else s) s
  t.setSense { t.sense with fresh := [] }

/-- The result word after a publication: VALUE, SEQ one higher, FAULT, STALE and READY (R189). -/
def resultWord (old : Word) (value : Nat) (fault stale : Bool) : Word :=
  word (value + 0x10000 * ((field old 23 16 + 1) % 256) + (if fault then 2 ^ 28 else 0) + (if stale then 2 ^ 30 else 0) +
    2 ^ 31)

/-- A channel publishes a result, which its slots sample at the end of the tick (R189, R202). -/
def State.publish (s : State) (ch value : Nat) (fault : Bool := false) (stale : Bool := false) : State :=
  let t := s.setReg (resultReg ch) (resultWord (s.reg (resultReg ch)) (value % 65536) fault stale)
  t.setSense { t.sense with fresh := ch :: t.sense.fresh }

/-! ### Conversions (R190, R194 to R197, R227) -/

/-- A SAR code after the correction of tuning item 2 (R227). -/
def State.sarCode (s : State) (raw : Int) : Nat :=
  let f := (s.item 2).applied
  (clampInt 0 16383 (roundDiv ((raw - f.getD 0 0) * (16384 + f.getD 1 0)) 16384)).toNat

/-- Point k of the table of NTC n in force (Table 9-11). -/
def State.ntcPoint (s : State) (n k : Nat) : Int := signed 16 (s.ffld (Reg.SENSE_NTC0_PT + 0x100 * n + 4 * k) 15 0)

/-- The temperature of ratio code c by the table of NTC n (R195). -/
def State.ntcValue (s : State) (n c : Nat) : Int :=
  let k := c / 512
  let a := s.ntcPoint n k
  let b := s.ntcPoint n (k + 1)
  clampInt (-32768) 32767 (roundDiv (a * 512 + (b - a) * ((c - 512 * k : Nat) : Int)) 512)

/-- An NTC conversion is published: an open or shorted one with FAULT and its VALUE unchanged, and with the event where the
result before it was good (R195, R196). -/
def State.publishNtc (s : State) (n c : Nat) : State :=
  let s1 := s.setFld Reg.SENSE_NTC_RAW (16 * n + 13) (16 * n) c
  if 16128 ≤ c ∨ c ≤ 256 then
    let s2 := s1.publish (1 + n) (s1.fld (resultReg (1 + n)) 15 0) true
    if s2.sense.ntcGood.contains n then
      (s2.setSense { s2.sense with ntcGood := s2.sense.ntcGood.filter (· != n) }).raise 45
        (word (n + if 16128 ≤ c then 2 else 0))
    else s2
  else
    (s1.setSense { s1.sense with ntcGood := n :: s1.sense.ntcGood.filter (· != n) }).publish (1 + n)
      (unsigned 16 (s1.ntcValue n c))

/-- A die sensor's reading, corrected by item 3, is published; T_AO may trigger DELTA runs, and item 0 may wait for it (R197, R215, R223, R228). -/
def State.publishDie (s : State) (ch : Nat) (raw : Int) : State :=
  let v := clampInt (-32768) 32767 (raw + (s.item 3).applied.getD (ch - 3) 0)
  let s1 := (s.setSense { s.sense with published := true }).publish ch (unsigned 16 v)
  if ch = 3 then
    (if s1.tuning 0 && (s1.item 0).measuring && s1.canMeasure 0 then s1.tuneCrystal else s1).tuneDelta
  else s1

/-- The result of a channel withheld while its tuning item measures (R190). -/
def State.withheld (s : State) (ch : Nat) : Bool := if ch ≤ 2 then (s.item 2).measuring else (s.item 3).measuring

/-- T_MAX at the end of a round in which a die sensor published (R191). -/
def State.publishMax (s : State) : State :=
  if s.sense.published then
    let ready := [3, 4, 5, 6].filter (fun c => s.flag (resultReg c) 31)
    let v := ready.foldl (fun (m : Int) c => max m (s.channelValue c)) (-32768)
    s.publish 8 (unsigned 16 v) false (ready.any (fun c => s.flag (resultReg c) 30))
  else s

/-- A conversion of a channel ends with this raw code or uncorrected reading. -/
def State.convert (s : State) (ch : Nat) (raw : Int) : State :=
  if s.withheld ch then s.setFlag (resultReg ch) 30 true
  else if ch = 0 then s.publish 0 (unsigned 16 (roundDiv ((s.sarCode raw : Int) * 5) 16))
  else if ch ≤ 2 then s.publishNtc (ch - 1) (s.sarCode raw)
  else s.publishDie ch raw

/-- The next channel of the round is converted (R188, R189). raw is the SAR code of VBAT or of an NTC's ratio, or the
uncorrected reading of a die sensor in 1/16 °C. -/
def execConversion (raw : Int) (s : State) : Host.Outcome State Fault Refusal :=
  .next (match s.sense.left with
    | ch :: rest =>
      if s.senseOn && s.sense.convAt != some s.edge then
        let s1 := (s.setSense { s.sense with left := rest, convAt := some s.edge, convCh := ch }).convert ch raw
        if rest.isEmpty then s1.publishMax else s1
      else s
    | [] => s)

/-! ### Coulomb counter and process counts (R192, R193, R198) -/

/-- CHARGE. -/
def State.charge (s : State) : BitVec 48 := (s.reg Reg.SENSE_CHG_HI).setWidth 16 ++ s.reg Reg.SENSE_CHG_LO

/-- CHARGE written. -/
def State.setCharge (s : State) (v : BitVec 48) : State :=
  (s.setReg Reg.SENSE_CHG_LO (v.setWidth 32)).setFld Reg.SENSE_CHG_HI 15 0 (v.toNat / 2 ^ 32)

/-- A sample of the coulomb counter: IBAT, and CHARGE with the SEQ added last (R192, R193). total is the sum of
V(ISNS_LO) − V(ISNS_HI) over the 4096 ticks, in units of 156.25 nV. -/
def State.ibatSample (s : State) (total : Int) : State :=
  let v := roundDiv total 4096 - signed 16 (s.ffld Reg.SENSE_CC_CFG 15 0)
  let c := clampInt (-32768) 32767 v
  let s1 := s.publish 7 (unsigned 16 c) (decide (c ≠ v))
  (s1.setCharge (s1.charge + BitVec.ofInt 48 c)).setFld Reg.SENSE_CHG_HI 31 24 (s1.fld Reg.SENSE_IBAT 23 16)

/-- A sample can be taken at a 4096-tick mark (R193). -/
def State.canSample (s : State) : Bool := s.senseOn && s.fflag Reg.SENSE_CFG 10 && !s.flag Reg.SENSE_RAIL_STATUS 5

/-- A 4096-tick mark: IBAT is published and added to CHARGE, or CC_MISSED counts it (R192, R193). -/
def execIbatSample (total : Int) (s : State) : Host.Outcome State Fault Refusal :=
  .next (if s.metro.toNat % 4096 == 0 && s.sense.ibatAt != some s.metro && s.boot.step != .por && s.boot.step != .tacet then
      let s1 := s.setSense { s.sense with ibatAt := some s.metro }
      if s1.canSample then s1.ibatSample total else s1.bump Reg.SENSE_CC_MISSED 31 0
    else s)

/-- The 32-tick window of the process monitors, which the tick of the round's start begins, is at its last tick (R198). -/
def State.pmDue (s : State) : Bool :=
  match s.sense.pmFrom with
  | some t => s.senseOn && decide (31 ≤ s.elapsed t)
  | none => false

/-- PM0 to PM3 are published from the counts of the window (R198). -/
def execPmCountEnd (counts : List Nat) (s : State) : Host.Outcome State Fault Refusal :=
  .next (if s.pmDue then
      (List.range 4).foldl (fun s n => s.publish (9 + n) (min 32767 (counts.getD n 0 / 64)))
        (s.setSense { s.sense with pmFrom := none })
    else s)

/-! ### Rails and their guards (R199, R200) -/

/-- The guards of R200 act: SUP_REQ is high and SUPPLY_CFG.EN is 1. -/
def State.guarded (s : State) : Bool := s.pins.supReq && s.fflag Reg.SENSE_SUPPLY_CFG 8

/-- The start sequence still waits for the supplies, for as long as R84 gives them (log entry 57). -/
def State.suppliesAwaited (s : State) : Bool := s.boot.step == .reset || s.boot.step == .supplies

/-- The class of rail r at a level in mV: 1 in range, 2 LOW, 3 HIGH (R199). -/
def State.railClass (s : State) (r mv : Nat) : Nat :=
  if mv < 10 * s.ffld (Reg.SENSE_RAIL_VBAT + 4 * r) 8 0 then 2
  else if 10 * s.ffld (Reg.SENSE_RAIL_VBAT + 4 * r) 24 16 < mv then 3
  else 1

/-- The ceiling of R200 is set: TACET with cause BATTERY. -/
def State.guardCeil (s : State) : State :=
  State.applyCeil { s with ladder := { s.ladder with ceilSupply := 5 } }

/-- VBAT becomes LOW while guarded (R200). -/
def State.brownout (s : State) : State :=
  ((s.setFlag Reg.SENSE_STATUS 8 true).raise 46 (word (s.fld (resultReg 0) 15 0))).guardCeil

/-- A rail takes a class, and RAIL_STATUS shows it (R199). -/
def State.setRail (s : State) (r c : Nat) : State :=
  let s1 := (s.setFlag Reg.SENSE_RAIL_STATUS r (c == 2)).setFlag Reg.SENSE_RAIL_STATUS (8 + r) (c == 3)
  let since := if c = 2 then Cells.insert s1.sense.lowSince r s1.edge else Cells.erase s1.sense.lowSince r
  s1.setSense { s1.sense with rails := Cells.put (fun _ => 0) s1.sense.rails r c, lowSince := since }

/-- The class that DWELL consecutive ticks have given rail r, whose levels in the last ticks are mv, the newest last; 0 acts
as 1 (R199). -/
def State.dwellClass (s : State) (r : Nat) (mv : List Nat) : Option Nat :=
  let dwell := max 1 (s.ffld Reg.SENSE_SUPPLY_CFG 7 0)
  match (mv.reverse.take dwell).map (s.railClass r) with
  | c :: cs => if cs.length + 1 = dwell ∧ cs.all (· == c) then some c else none
  | [] => none

/-- The comparator of a rail reports its levels, in mV, in the consecutive ticks that end at this one. DWELL ticks of one class
give it that class; VDD_CORE's level also sets CONFIRM. The first class of a rail is no change. VBAT becoming LOW is the
brown-out (R199, R200). -/
def execRailClassChange (rail : BitVec 3) (mv : List Nat) (s : State) : Host.Outcome State Fault Refusal :=
  .next (
    let r := rail.toNat
    let old := Cells.get (fun _ => 0) s.sense.rails r
    if !s.senseOn || decide (6 ≤ r) then s
    else
      let s0 := if r = 2 then s.seeCore (mv.getLastD 0) else s
      let c := (s.dwellClass r mv).getD old
      if old = c then s0
      else
        let s1 := s0.setRail r c
        let s2 := if old = 0 then s1 else s1.raise 44 (s1.reg Reg.SENSE_RAIL_STATUS &&& 0x3FFF#32)
        if r = 0 ∧ c = 2 ∧ s2.guarded then s2.brownout else s2)

/-- The rails of the supply guard that have been LOW for GRACE ticks (R200). -/
def State.lostRails (s : State) : List Nat :=
  [1, 2, 4, 5].filter (fun r => match Cells.find s.sense.lowSince r with
    | some t => decide (max 1 (s.ffld Reg.SENSE_SUPPLY_CFG 31 16) ≤ s.elapsed t)
    | none => false)

/-- A supply has stayed LOW for GRACE ticks: SUPPLY_LOSS and the ceiling TACET (R200). -/
def execSupplyLoss (s : State) : Host.Outcome State Fault Refusal :=
  .next (if s.senseOn && s.guarded && !s.suppliesAwaited && !s.lostRails.isEmpty then
      let left := s.sense.lowSince.filter (fun e => !s.lostRails.contains e.1)
      ((s.setSense { s.sense with lowSince := left }).setFlag Reg.SENSE_STATUS 9 true).guardCeil
    else s)

/-! ### Levels, actions and the charger (R204 to R209) -/

/-- The slots of a class that are asserted. -/
def State.classOn (s : State) (c : Nat) : Bool :=
  (List.range 16).any (fun n => s.slotAsserted n && s.ffld (slotWord n 1) 10 8 == c)

/-- The thermal level of the slots (R205). -/
def State.thermalLevel (s : State) : Nat := if s.classOn 3 then 3 else if s.classOn 2 then 2 else if s.classOn 1 then 1 else 0

/-- The battery level of the slots (R205). -/
def State.batteryLevel (s : State) : Nat := if s.classOn 5 then 2 else if s.classOn 4 then 1 else 0

/-- The action word of a thermal level 1 to 3, in force. -/
def State.thermalWord (s : State) (l : Nat) : Word := s.inForce (Reg.SENSE_ACT_WARM + 4 * (l - 1))

/-- The action word of a battery level 1 or 2, in force. -/
def State.batteryWord (s : State) (l : Nat) : Word := s.inForce (Reg.SENSE_ACT_BLOW + 4 * (l - 1))

/-- The action words of levels 1 to l. -/
def upTo (f : Nat → Word) (l : Nat) : List Word := (List.range l).map (fun i => f (i + 1))

/-- CEIL of the combined words: the highest code; 6 and 7, which name no state, act as 5. -/
def ceilOf (ws : List Word) : Nat := ws.foldl (fun m w => max m (min 5 (field w 22 20))) 0

/-- The combination of action words that CAPS shows (R205). -/
def combineActions (ws : List Word) : Word :=
  let desk := ws.foldl (fun m w => min m (field w 4 0)) 16
  let refresh := ws.foldl (fun m w => max m (min 5 (field w 10 8))) 0
  let bright := ws.foldl (fun m w => min m (field w 15 12)) 15
  let stop := ws.any (fun w => bit w 16)
  word (desk + 0x100 * refresh + 0x1000 * bright + (if stop then 0x10000 else 0) + 0x100000 * ceilOf ws)

/-- The words of levels above a up to b name TASK1 (Table 9-4). -/
def reaches (f : Nat → Word) (a b : Nat) : Bool := (List.range b).any (fun i => decide (a ≤ i) && bit (f (i + 1)) 17)

/-- Slot changes of the tick before take effect on LEVELS, CAPS, ceilings and TASK1 (R204 to R206). -/
def State.levelsTick (s : State) : State :=
  if s.sense.slotsDirty then
    let old := s.reg Reg.SENSE_LEVELS
    let t := s.thermalLevel
    let b := s.batteryLevel
    let mask := (List.range 16).foldl (fun m n => if s.slotAsserted n then m + 2 ^ n else m) 0
    let new := word (t + 16 * b + (if s.classOn 6 then 0x100 else 0) + 0x10000 * mask)
    let tw := upTo s.thermalWord t
    let bw := upTo s.batteryWord b
    let task1 := reaches s.thermalWord (field old 1 0) t || reaches s.batteryWord (field old 5 4) b
    let s1 := (s.setReg Reg.SENSE_LEVELS new).setReg Reg.SENSE_CAPS (combineActions (tw ++ bw))
    let s2 := s1.setSense { s1.sense with slotsDirty := false, task1Due := task1 }
    let s3 := if field old 8 0 = field new 8 0 then s2 else s2.raise 42 (new &&& 0x1FF#32)
    State.applyCeil { s3 with ladder := { s3.ladder with ceilThermal := ceilOf tw, ceilBattery := ceilOf bw } }
  else s

/-- WHY CHG_EN is pulled low: FORCE_OFF, a CHG slot, CHG_STOP, NTC_REQ (R208). -/
def State.chargeStops (s : State) : Nat :=
  (if s.flag Reg.SENSE_CHG_CFG 0 then 1 else 0) + (if s.flag Reg.SENSE_LEVELS 8 then 2 else 0) +
  (if s.flag Reg.SENSE_CAPS 16 then 4 else 0) +
  (if s.flag Reg.SENSE_CHG_CFG 1 && (!s.flag (resultReg 1) 31 || s.flag (resultReg 1) 28) then 8 else 0)

/-- CHG_STATUS follows the pins and the conditions of R208. -/
def State.showCharger (s : State) : State :=
  let level := s.pins.chgStat
  let charging := level == s.flag Reg.SENSE_CHG_CFG 2
  s.setReg Reg.SENSE_CHG_STATUS (word ((if s.pins.chgEnLow then 1 else 0) + (if level then 2 else 0) +
    (if charging then 4 else 0) + 16 * s.chargeStops))

/-- EV_SENSE_CHG. -/
def State.raiseChg (s : State) : State :=
  s.raise 43 (word ((if s.pins.chgStat then 1 else 0) + (if s.pins.chgEnLow then 2 else 0)))

/-- CHG_EN pulled low or released by R208, with its event where it changes; the pad's latch is gone (R209). -/
def State.driveCharger (s : State) : State :=
  if s.senseOn then
    let low := s.chargeStops != 0
    let change := low != s.pins.chgEnLow
    let s1 := State.setFlag { s with pins := { s.pins with chgEnLow := low, chgLatched := false } } Reg.DEV_PAD_LATCH 16 false
    (if change then s1.raiseChg else s1).showCharger
  else s

/-- CONFIRM compares the level of VDD_CORE that the comparator reported last with UP_MV in force (R199, log entry 57). -/
def State.confirmTick (s : State) : State :=
  match s.sense.coreMv with
  | some mv => s.showConfirm mv
  | none => s

/-- What SENSE does at every tick: CONFIRM, a due start of task 1, levels and actions, CHG_EN (R199, R204, R206, R208). -/
def State.senseTick (s : State) : State :=
  if s.senseOn then
    let s1 := s.confirmTick.setSense { s.sense with task1Due := false }
    ((if s.sense.task1Due then s1.startTask 1 else s1).levelsTick).driveCharger
  else s

/-- The sampled level of CHG_STAT changes (R207); while SENSE does not run the pin changes and nothing samples it. -/
def execChgStatChange (level : Bool) (s : State) : Host.Outcome State Fault Refusal :=
  .next (
    let s1 : State := { s with pins := { s.pins with chgStat := level } }
    if level == s.pins.chgStat then s else if s.senseOn then (s1.raiseChg.wake 9).showCharger else s1)

/-- A write of CHG_CFG takes effect at once (R12, R208). -/
def State.writeChgCfg (s : State) (v : Word) : State := (s.hostSet Reg.SENSE_CHG_CFG v).driveCharger

/-! ### Commit (R201, R210) -/

/-- What a commit does to slot n before its words take effect: a changed slot returns COUNT to 0, and is cleared where it is
asserted and CHANNEL, DIR or CLASS changes or EN goes (R210). -/
def State.commitSlot (s : State) (n : Nat) : State :=
  let old0 := s.inForce (slotWord n 0)
  let old1 := s.inForce (slotWord n 1) &&& 0x77F#32
  let new1 := s.reg (slotWord n 1) &&& 0x77F#32
  if old0 = s.reg (slotWord n 0) ∧ old1 = new1 then s
  else
    let s1 := s.setFld (slotWord n 1) 23 20 0
    if s1.slotAsserted n && (field old1 3 0 != field new1 3 0 || bit old1 4 != bit new1 4 ||
        field old1 10 8 != field new1 10 8 || !bit new1 5) then
      s1.slotChange n (s1.fld (resultReg (field old1 3 0)) 15 0) false
    else s1

/-- ERR of slot n by what is now in force: CHANNEL 13 to 15 or CLASS 7 (R201). -/
def State.judgeSlot (s : State) (n : Nat) : State :=
  let w := s.inForce (slotWord n 1)
  s.setFlag (slotWord n 1) 11 (decide (13 ≤ field w 3 0) || field w 10 8 == 7)

/-- The SENSE page's shadow set and tables take effect (R201, R210). -/
def State.applySense (s : State) : State :=
  let s1 := ((List.range 16).foldl State.commitSlot s).applyShadow 5
  let s2 := (List.range 16).foldl State.judgeSlot s1
  (s2.setSense { s2.sense with slotsDirty := true }).endCommit 5 .ok

/-- This tick is without a conversion and has not been served as a boundary (R188). -/
def State.adcIdle (s : State) : Bool :=
  s.senseOn && s.sense.left.isEmpty && !s.roundDue && s.sense.convAt != some s.edge && s.sense.idleAt != some s.edge

/-- An ADC_IDLE boundary in the order of R23: SENSE commits and mode switches, then tap steps and measurements of the
tuning items it serves (R188, R210, R217, R219). -/
def execAdcIdleBoundary (s : State) : Host.Outcome State Fault Refusal :=
  .next (if s.adcIdle then
      let s1 := s.setSense { s.sense with idleAt := some s.edge }
      (s1.serveCommits [5] (fun s _ => s.applySense)).tunePlace [1, 2, 3] [0, 1, 2, 3]
    else s)

/-- A write of SENSE.COMMIT.GO (R10, R210). -/
def State.senseGo (s : State) (v : Word) : State := if bit v 0 then s.goCommit 5 else s

/-! ### Verbs (R212) -/

/-- The four result words of a SENSE_READ group (Table 9-8). -/
def senseGroup (g : Nat) : List Nat :=
  match g with
  | 0 => [resultReg 0, resultReg 1, resultReg 2, resultReg 8]
  | 1 => [resultReg 3, resultReg 4, resultReg 5, resultReg 6]
  | 2 => [Reg.SENSE_CHG_LO, Reg.SENSE_CHG_HI, Reg.SENSE_CC_MISSED, Reg.SENSE_IBAT]
  | _ => [Reg.SENSE_LEVELS, Reg.SENSE_CAPS, Reg.SENSE_RAIL_STATUS, Reg.SENSE_CHG_STATUS]

/-- SENSE_READ (0x40). -/
def execSenseRead (ring : BitVec 8) (s : State) : Host.Outcome State Fault Refusal :=
  .next (s.runVerb ring.toNat 0x40 (pageRight 5) (fun _ v => v.argsWithin [0x3#32])
    (fun s v => s.complete v .ok ((senseGroup (field (v.arg 0) 1 0)).map s.reg)))

/-- SENSE_SET (0x41): one RW/S register staged and committed. -/
def execSenseSet (ring : BitVec 8) (s : State) : Host.Outcome State Fault Refusal :=
  .next (s.runVerb ring.toNat 0x41 (pageRight 5)
    (fun _ v => v.argsWithin [0xFF#32, 0xFFFFFFFF#32] && stageable 5 (field (v.arg 0) 7 0) (v.arg 1))
    (fun s v => (s.stage (0x5000 + field (v.arg 0) 7 0) (v.arg 1)).verbCommit v 5))

/-- SLOT_SET (0x42): a slot's words staged and committed. -/
def execSlotSet (ring : BitVec 8) (s : State) : Host.Outcome State Fault Refusal :=
  .next (s.runVerb ring.toNat 0x42 (pageRight 5) (fun _ v => v.argsWithin [0xF#32, 0x3FFFFFFF#32, 0x77F#32])
    (fun s v =>
      let n := field (v.arg 0) 3 0
      ((s.stage (slotWord n 0) (v.arg 1)).stage (slotWord n 1) (v.arg 2)).verbCommit v 5))

/-- NTC_TABLE (0x43): COUNT points staged and committed. -/
def execNtcTable (ring : BitVec 8) (s : State) : Host.Outcome State Fault Refusal :=
  .next (s.runVerb ring.toNat 0x43 (pageRight 5)
    (fun _ v =>
      let n := field (v.arg 0) 18 16
      v.argsWithin (0x00073F01#32 :: List.replicate 6 0xFFFF#32) && decide (1 ≤ n) && decide (n ≤ 6) &&
        decide (field (v.arg 0) 13 8 + n ≤ 33))
    (fun s v =>
      let a := Reg.SENSE_NTC0_PT + 0x100 * field (v.arg 0) 0 0 + 4 * field (v.arg 0) 13 8
      ((List.range (field (v.arg 0) 18 16)).foldl (fun s i => s.stage (a + 4 * i) (v.arg (1 + i))) s).verbCommit v 5))

/-- CC_SET (0x44, R193): CHARGE cleared or preset; the value it replaced is returned. -/
def execCcSet (ring : BitVec 8) (s : State) : Host.Outcome State Fault Refusal :=
  .next (s.runVerb ring.toNat 0x44 (pageRight 5) (fun _ v => v.argsWithin [0x1#32, 0xFFFFFFFF#32, 0xFFFF#32])
    (fun s v =>
      let old := s.charge
      let new : BitVec 48 := if bit (v.arg 0) 0 then (v.arg 2).setWidth 16 ++ v.arg 1 else 0#48
      (s.setCharge new).complete v .ok [old.setWidth 32, word (old.toNat / 2 ^ 32)]))

/-- CHG_SET (0x45, R208): CHG_CFG written; CHG_EN follows at the next tick. -/
def execChgSet (ring : BitVec 8) (s : State) : Host.Outcome State Fault Refusal :=
  .next (s.runVerb ring.toNat 0x45 (pageRight 5) (fun _ v => v.argsWithin [0x7#32])
    (fun s v => (s.setReg Reg.SENSE_CHG_CFG (v.arg 0)).complete v .ok))

/-- SENSE at a SYSTEM reset, its registers already reset by their marks (Table 9-6): slot states and counts, rounds, rails
and the ceilings are cleared. -/
def State.resetSense (s : State) : State :=
  let s1 := (List.range 16).foldl (fun s n => (s.setFld (slotWord n 1) 23 20 0).setFlag (slotWord n 1) 16 false) s
  { s1 with
    sense := { ibatAt := s1.sense.ibatAt, rails := s1.sense.rails, lowSince := s1.sense.lowSince, coreMv := s1.sense.coreMv }
    ladder := { s1.ladder with ceilThermal := 0, ceilBattery := 0, ceilSupply := 0 } }

end Sys2Proof.Machine
end

