-- ==== Sys2Proof/Machine/Profiles.lean ====
section
/-!
DEFINITION. CONFIG_SCORE records and SCORE_LOAD (R161), and the copy of every profile 0 at step B5 (R79, R80).
-/

namespace Sys2Proof.Machine

/-- The fields of words 0 to 2 of a CONFIG_SCORE payload, and the words of its parts (Table 7-5). -/
structure ScoreRec where
  tasks : List Nat
  stepBase : Nat
  bufBase : Nat
  bus : List Word
  ladder : List Word
  blocks : List (List Word)
  steps : List Word
  bufs : List Word
  deriving DecidableEq, Repr

/-- A CONFIG_SCORE payload taken apart (Table 7-5). -/
def scoreRec (bs : List Byte) : ScoreRec :=
  let ws := bytesWords bs
  let w0 := nth ws 0
  let tasks := maskBits 16 (field w0 31 16)
  let nb := if bit w0 8 then 5 else 0
  let nl := if bit w0 9 then 5 else 0
  let at_ := 3 + nb + nl
  let steps := at_ + 6 * tasks.length
  let ns := field (nth ws 1) 23 12
  { tasks := tasks, stepBase := field (nth ws 1) 10 0, bufBase := field (nth ws 2) 10 0
    bus := (ws.drop 3).take nb
    ladder := (ws.drop (3 + nb)).take nl
    blocks := (List.range tasks.length).map (fun i => (ws.drop (at_ + 6 * i)).take 6)
    steps := (ws.drop steps).take ns
    bufs := (ws.drop (steps + ns)).take (field (nth ws 2) 23 12) }

/-- The DEV registers of the LADDER words, in their order (Table 7-5). -/
def ladderRegs : List Nat :=
  [Reg.DEV_LADDER_CFG, Reg.DEV_IDLE, Reg.DEV_WAKE_TGT, Reg.DEV_BURST_CFG, Reg.DEV_VCORE_CFG]

/-- The rule of a CONFIG_SCORE payload (R161): its length is that of its counts, nothing passes the end of its store, and no
LADDER word sets a reserved bit. A set reserved bit of words 0 to 2 rejects it too; those of bus and task words are dropped (log entry
56). -/
def scorePayloadOk (bs : List Byte) : Bool :=
  let ws := bytesWords bs
  let r := scoreRec bs
  let ns := field (nth ws 1) 23 12
  let nf := field (nth ws 2) 23 12
  decide (12 ≤ bs.length) && within (nth ws 0) 0xFFFF03FF#32 && within (nth ws 1) 0x00FFF7FF#32 &&
    within (nth ws 2) 0x00FFF7FF#32 && decide (r.stepBase + ns ≤ 2048) && decide (r.bufBase + nf ≤ 2048) &&
    bs.length == 4 * (3 + (if bit (nth ws 0) 8 then 5 else 0) + (if bit (nth ws 0) 9 then 5 else 0) + 6 * r.tasks.length + ns + nf) &&
    (r.ladder.zip ladderRegs).all (fun e => within e.1 (writable e.2))

/-- One word of the LADDER block written (R161). -/
def State.putLadderWord (s : State) (i : Nat) (v : Word) : State :=
  match i with
  | 0 => s.applyLadderCfg v
  | 3 => s.writeBurstCfg v
  | _ => s.hostSet (ladderRegs.getD i 0) v

/-- A CONFIG_SCORE record applied (R161). -/
def State.applyScoreRec (s : State) (bs : List Byte) : State :=
  let r := scoreRec bs
  let s1 := (r.bus.zipIdx).foldl (fun s e => s.writeBusCfg (Reg.BUS_I2C_CFG + 4 * e.2) e.1) s
  let s2 := (r.ladder.zipIdx).foldl (fun s e => s.putLadderWord e.2 e.1) s1
  let s3 := (r.tasks.zip r.blocks).foldl (fun s e =>
    (e.2.zipIdx).foldl (fun s w => s.hostSet (Reg.SCORE_TASK_CFG + 32 * e.1 + 4 * w.2) w.1) s) s2
  (s3.setAoWords (aoSteps + r.stepBase) r.steps).setAoWords (aoBufs + r.bufBase) r.bufs

/-- PROFILE shows the profile applied last and the number of its records (Table 7-7). -/
def State.showProfile (s : State) (p n : Nat) : State :=
  s.setReg Reg.SCORE_PROFILE (word (p + 256 * min 255 n + 0x10000))

/-- SCORE_LOAD's own effect (R161): every passing record of the profile in order of SEQ. -/
def State.scoreLoad (s : State) (v : Verb) : State :=
  let p := field (v.arg 0) 7 0
  let (recs, s1) := s.configRecs 0 p scorePayloadOk
  let named := recs.flatMap (fun e => (scoreRec e.2).tasks)
  let running := (maskBits 16 (s.fld Reg.SCORE_RUN 15 0)).filter named.contains
  let ladder := recs.any (fun e => !(scoreRec e.2).ladder.isEmpty)
  if recs.isEmpty then s1.complete v .badArg
  else if ladder && v.owner != 0 then s1.complete v .noPermission
  else if ladder && s.pageBusy 0 then s1.complete v .busy
  else if !running.isEmpty then s1.complete v .badArg [0#32, word (running.foldl (fun m t => m + 2 ^ t) 0)]
  else
    let s2 := recs.foldl (fun s e => s.applyScoreRec e.2) s1
    (s2.showProfile p recs.length).complete v .ok [word recs.length]

/-- SCORE_LOAD (0x20, R161). -/
def execScoreLoad (ring : BitVec 8) (s : State) : Host.Outcome State Fault Refusal :=
  .next (s.runVerb ring.toNat 0x20 (pageRight 3) (fun _ v => v.argsWithin [0xFF#32]) State.scoreLoad)

/-- The configuration is valid (R80, R161): these records carry the block of task 0 and a step at its START. -/
def scoreValid (recs : List (List Byte)) : Bool :=
  let rs := recs.map scoreRec
  let starts := rs.filterMap (fun r => match r.tasks with
    | 0 :: _ => some (field (nth (r.blocks.getD 0 []) 0) 10 0)
    | _ => none)
  match starts.getLast? with
  | some a => rs.any (fun r => decide (r.stepBase ≤ a) && decide (a < r.stepBase + r.steps.length))
  | none => false

/-- Profile 0 of the Score at B5: CFG_NONE tells that it gives no valid configuration (R80, R161). -/
def State.bootScore (s : State) : State :=
  let (recs, s1) := s.configRecs 0 0 scorePayloadOk
  let s2 := recs.foldl (fun s e => s.applyScoreRec e.2) s1
  let s3 := if recs.isEmpty then s2 else s2.showProfile 0 recs.length
  s3.setFlag Reg.DEV_BOOT_STATUS 12 (!scoreValid (recs.map (·.2)))

/-- Profile 0 of SCAN, PIPE and STAVE at B5, each as a commit (R318, R344, R370). -/
def State.bootPanel (s : State) : State :=
  let (recs, s1) := s.configRecs 1 0 panelPayloadOk
  let s2 := recs.foldl (fun s e => s.stagePanelRec e.2) s1
  [9, 10, 11].foldl (fun s p => if recs.any (fun e => panelPage e.2 == p) then s.goCommit p else s) s2

/-- Profile 0 of KEYS at B5, as a commit (R187). -/
def State.bootKeys (s : State) : State :=
  match s.stageKeys 0 with
  | (some _, s1) => s1.goCommit 4
  | (none, s1) => s1

/-- Profile 0 of FACE at B5, its register and table records as a commit (R387). -/
def State.bootFace (s : State) : State :=
  let (n, s1) := s.stageFace 0
  if n = 0 then s1 else s1.goCommit 12

/-- Configuration records that fail their CRC are counted in CFG_REJ, up to its end (R79, Table 4-9). -/
def State.countBroken (s : State) : State :=
  s.setFld Reg.DEV_BOOT_STATUS 11 8 (satAdd 15 (s.fld Reg.DEV_BOOT_STATUS 11 8) s.brokenConfigs)

/-- Every profile 0 copied at B5 (R79). -/
def State.bootProfiles (s : State) : State := (s.countBroken.bootScore.bootPanel.bootKeys.loadTune 0).2.bootFace

end Sys2Proof.Machine
end

