-- ==== Sys2Proof/Machine/Reset.lean ====
section
/-!
DEFINITION. Resets (04, R20, R43, R46, R53, R75, R86 to R89): POR, SYSTEM and CORE resets, the exit from TACET, and the
verbs, writes and events that ask for them.
-/

namespace Sys2Proof.Machine

/-- The start and reset state replaced. -/
def State.setBoot (s : State) (b : Boot) : State := { s with boot := b }

/-- The pins replaced. -/
def State.setPins (s : State) (p : Pins) : State := { s with pins := p }

/-! ### What every reset reaches -/

/-- Leases across a SYSTEM or CORE reset (R20): those with RETAIN stay enabled, the others are disabled; where the Hall is
powered, banks that no enabled lease touches are powered off. -/
def State.keepLeases (s : State) : State :=
  let s1 := (List.range 32).foldl (fun s l =>
    if s.leaseEn l && !s.flag (leaseWord l 1) 12 then s.setFlag (leaseWord l 1) 16 false else s) s
  if s1.banks = 0#48 then s1 else s1.setBanks (s1.banks &&& s1.touchedBanks)

/-- Boundary requests across a CORE reset: the commits of the KEYS and SENSE pages, which lie in the AO domain, wait on for their
boundary without their verb (R185, R211); all others are lost. -/
def keptCommits (l : List BoundaryReq) : List BoundaryReq :=
  (l.filter (fun q => !q.toBasic && (q.page == 4 || q.page == 5))).map (fun q => { q with ring := none })

/-- Rings, boundary requests, pending events, host ports and the TAP after any reset (R27, R93, Table 4-4). -/
def State.dropWork (s : State) : State :=
  { s with flags := [], rings := [], fetched := 255, commits := keptCommits s.commits, expertWait := [], portA := {}, portB := {}, tap := {} }

/-- EPOCH rises, and the cause and its count are recorded (R86). -/
def State.countReset (s : State) (cause : Nat) : State :=
  let s1 := (s.bump Reg.DEV_EPOCH 15 0).setFld Reg.DEV_RESET_CAUSE 3 0 cause
  if 5 ≤ cause then s1.bumpSat Reg.DEV_RESET_CAUSE 23 16 else s1.bumpSat Reg.DEV_RESET_CAUSE 15 8

/-! ### SYSTEM resets -/

/-- Pads captured by their latches at the level of the start of the tick (R43). -/
def State.latchPads (s : State) : State :=
  let p := s.pins
  let s1 := s.setPins { p with
    pseqEn := p.pseqAt, pseqLatched := 0xFFF#12, pnlEn := p.pnlAt, pnlLatched := 0xF#4
    chgEnLow := p.chgAt, chgLatched := true, dsiTe := false, alive := false }
  s1.setReg Reg.DEV_PAD_LATCH (word (p.pseqAt.toNat + 2 ^ 12 * p.pnlAt.toNat + (if p.chgAt then 2 ^ 16 else 0)))

/-- The blocks after a SYSTEM reset, their registers aside (Table 4-4); raises not yet counted are dropped (R27). -/
def State.restartBlocks (s : State) : State :=
  { s with
    counting := [], commits := [], crossing := []
    score := { sint := s.score.sint }, keys := {}, intake := {}, stave := {}
    ladder := { refillRings := s.ladder.refillRings || decide (3 ≤ s.cur) } }

/-- LADDER_STATE of a start: in TUTTI with CORE stopped. -/
def State.startLadder (s : State) : State :=
  s.setReg Reg.DEV_LADDER_STATE ((s.reg Reg.DEV_LADDER_STATE &&& 0xFFFF0000#32) ||| 0x600#32)

/-- A SYSTEM reset is applied (R43, R86, R88): its cause is counted, runs end, registers follow their marks, and the start
sequence begins anew once it ends. One that is applied already is extended. -/
def State.applySystem (s : State) (cause : Nat) : State :=
  let until_ := if cause = 1 then s.edge else s.edge + 2#48
  if s.boot.sysHeld then (if cause = 1 then s else s.setBoot { s.boot with sysUntil := until_ })
  else
    let s1 := s.dropWork.restartBlocks
    let s2 := State.tuneReset { s1.cutFuses with ladder := { s1.ladder with core := .stopped } } true
    let s3 := (s2.resetJournal.keepLeases.resetSysRegs.resetSense.resetFace.resetEns.resetScan.latchPads).startLadder
    let t := s3.countReset cause
    t.setBoot { step := .reset, cold := false, sysHeld := true, sysUntil := until_, startAt := s.edge }

/-- A SYSTEM reset requested by RESET_N, the watchdog, a verb or a write (Table 4-3): none in POR and in TACET. -/
def State.systemReset (s : State) (cause : Nat) : State :=
  if s.boot.step = .por ∨ s.boot.step = .tacet then s else s.applySystem cause

/-- Two consecutive low samples of RESET_N (R46): the input is ignored in POR and in TACET. -/
def execResetNLow (s : State) : Host.Outcome State Fault Refusal :=
  .next (if s.boot.step = .por ∨ s.boot.step = .tacet then s
    else (s.setPins { s.pins with resetN := false }).systemReset 1)

/-- The first tick without a cause of the SYSTEM reset: RESET_N is high, and 2 ticks have passed since the last other cause
(R76). -/
def execSystemResetEnd (s : State) : Host.Outcome State Fault Refusal :=
  .next (if s.boot.sysHeld ∧ s.elapsed s.boot.sysUntil < 2 ^ 47 then
      (s.setPins { s.pins with resetN := true }).setBoot { s.boot with sysHeld := false, startAt := s.edge }
    else s)

/-! ### CORE resets -/

/-- The CORE blocks after a CORE reset, their registers aside (R88, R295, R317, Table 4-4): the link is off and no packet is
held; panel state and crack results stay. -/
def State.cutBlocks (s : State) : State :=
  let v := s.stave
  let s1 : State := { s.resetIntake.cutPush.resetEns.cutScan with stave :=
    { offFault := v.offFault, failedAt := v.failedAt, checkDue := v.checkDue, lastCheck := v.lastCheck } }
  s1.setLink 0

/-- A CORE reset is applied for 2 ticks (R87, R88): PNL_EN pads are latched, rings and jobs are lost, bus steps end as
timeouts, and the AO domain runs on. -/
def State.applyCore (s : State) (cause : Nat) : State :=
  let p := s.pins
  let clock := s.ladder.core
  let s1 := s.tellWake.dropWork
  let s2 := (State.tuneReset { s1 with ladder := { s1.ladder with core := .stopped, byRing := none } } false).resetJournal
  let s3 := (s2.keepLeases.resetCoreRegs.cutBlocks.cutBuses).wdogRestart
  let s4 := (s3.setPins { s3.pins with pnlEn := p.pnlAt, pnlLatched := 0xF#4, dsiTe := false }).setFld Reg.DEV_PAD_LATCH 15 12
    p.pnlAt.toNat
  let t := s4.countReset cause
  t.setBoot { t.boot with
    coreHeld := true, coreUntil := s.edge + 2#48, coreWas := clock, coreWaiting := none }

/-- A CORE reset requested (R87): it waits while a ladder move runs, and is dropped while a reset is applied or another one waits;
with no move running it occurs in TUTTI and MEZZO alone. -/
def State.coreReset (s : State) (cause : Nat) : State :=
  if s.boot.step ≠ .released ∨ s.boot.sysHeld ∨ s.boot.coreHeld ∨ s.boot.coreWaiting.isSome then s
  else if s.moving then s.setBoot { s.boot with coreWaiting := some cause }
  else if 2 ≤ s.cur then s
  else s.applyCore cause

/-- RESET verbs that a dropped request leaves behind are finished without a completion. -/
def State.dropResetVerbs (s : State) : State :=
  s.rings.foldl (fun s e => match e.2.cur with
    | some f => if f.started && f.waiting.isNone && field (nth f.words 0) 7 0 == 0x14 && s.ringType e.1 == 0 then s.finish e.1 else s
    | none => s) s

/-- The move that a CORE reset waited for has ended (R87). -/
def execCoreResetAfterMove (s : State) : Host.Outcome State Fault Refusal :=
  .next (match s.boot.coreWaiting with
    | some cause =>
      if s.moving then s
      else
        let s1 := s.setBoot { s.boot with coreWaiting := none }
        if s.cur ≤ 1 then s1.applyCore cause else s1.dropResetVerbs
    | none => s)

/-- The argument of EV_BOOT_DONE (Table 4-5). -/
def State.bootArg (s : State) (none_ : Bool) : Word :=
  word (s.fld Reg.DEV_EPOCH 15 0 + 0x10000 * s.fld Reg.DEV_RESET_CAUSE 3 0 + (if none_ then 2 ^ 20 else 0))

/-- CORE runs again at the frequency of its state (R87): the clock it had, with a frequency step taken meanwhile; from FAST_RC the
PLL's where that has locked meanwhile (R69). -/
def State.restartCore (s : State) : State :=
  let s1 := State.setCore { s with boot := { s.boot with coreHeld := false } } s.boot.coreWas
  if s1.ladder.core = .fastRc ∧ s1.ladder.pllLocked ∧ s1.cur ≤ 1 then s1.goFreq (s1.freqFor s1.cur) else s1

/-- A CORE reset ends (R87, R89, R317, R363): CORE runs again at the state's frequency, journal repairs and scan-out restart,
and EV_BOOT_DONE is raised with CFG_NONE as the last start left it. -/
def execCoreResetEnd (s : State) : Host.Outcome State Fault Refusal :=
  .next (if s.boot.coreHeld ∧ s.elapsed s.boot.coreUntil < 2 ^ 47 then
      (s.restartCore.repairJournal.restartScan.deliverFlags).raise 4 (s.bootArg (s.flag Reg.DEV_BOOT_STATUS 12))
    else s)

/-! ### Requests -/

/-- RESET's own effect (0x14): no completion is written. The entry stays in execution, so that no entry behind it runs. -/
def State.resetVerb (s : State) (v : Verb) : State :=
  let q := s.ring v.ring
  let s1 := s.setRing v.ring { q with cur := q.cur.map (fun f => { f with started := true }) }
  if bit (v.arg 0) 0 then s1.systemReset 3
  else
    let s2 := s1.coreReset 6
    if s2.boot.coreHeld || s2.boot.coreWaiting.isSome then s2 else s2.dropResetVerbs

/-- RESET (0x14, R86, R87). -/
def execReset (ring : BitVec 8) (s : State) : Host.Outcome State Fault Refusal :=
  .next (s.runVerb ring.toNat 0x14 clientZero (fun _ v => v.argsWithin [1#32]) State.resetVerb)

/-! ### POR and TACET (R53, R62, R75) -/

/-- Everything that POR and TACET lose is at its POR value; flash, fuses, levels from outside and the commands that wait
stay. -/
def State.wiped (s : State) : State :=
  { State.reset with
    metro := s.metro, edge := s.edge, hallGen := s.hallGen + 1, flash := s.flash, fuses := s.fuses, free := s.free, pending := s.pending
    jrnl := s.jrnl
    pins := { resetN := s.pins.resetN, chgStat := s.pins.chgStat, kbtn0 := s.pins.kbtn0, pg := s.pins.pg }
    score := { sint := s.score.sint } }

/-- POR (R75, R88): flash and fuse operations are cut, every register takes its POR value or none, the Metronome is 0. -/
def execPor (s : State) : Host.Outcome State Fault Refusal :=
  .next (
    let s1 := s.cutJournal.cutFuses.wiped
    (State.undefRegs { s1 with metro := 0#48, edge := 0#48 }).startLadder)

/-- The registers that TACET keeps, with their kept bits (Table 3-2; the AO source, Table 4-4). -/
def tacetKept : List (Nat × Word) :=
  [(Reg.DEV_EPOCH, 0xFFFFFFFF#32), (Reg.DEV_RESET_CAUSE, 0xFFFFFFFF#32), (Reg.DEV_LADDER_STATE, 0xFFFF0000#32),
    (Reg.DEV_WAKE_SRC, 0xFFFFFFFF#32), (Reg.DEV_WAKE_TICK, 0xFFFFFFFF#32), (Reg.DEV_TACET_CFG, 0xFFFFFFFF#32),
    (Reg.DEV_BURST_COUNT, 0xFFFFFFFF#32), (Reg.DEV_BURST_TICKS, 0xFFFFFFFF#32), (Reg.DEV_AO_CLK, 0x5#32)]

/-- The part leaves TACET: a SYSTEM reset of cause 4 over POR values (R53, R62, R86). -/
def State.leaveTacet (s : State) : State :=
  let s2 := s.cutJournal.wiped.undefRegs
  let s3 := tacetKept.foldl (fun u e => u.setReg e.1 ((u.reg e.1 &&& ~~~e.2) ||| (s.reg e.1 &&& e.2))) s2
  let s4 := (s3.countReset 4).startLadder
  let t := s4.setPins { s4.pins with pseqLatched := 0xFFF#12, pnlLatched := 0xF#4, chgLatched := true }
  t.setBoot { step := .reset, cold := true, startAt := s.edge }

/-- The threshold of TACET_CFG in mV (Table 3-19). -/
def State.tacetMv (s : State) : Nat := 3000 + 10 * s.fld Reg.DEV_TACET_CFG 27 20

/-- HOLD of TACET_CFG in ticks, where 0 acts as 1 (Table 3-19). -/
def State.tacetHold (s : State) : Nat := max 1 (s.fld Reg.DEV_TACET_CFG 15 0)

/-- The ticks for which KBTN0 has been held with VBAT at or above the threshold: a tick with VBAT below it is ignored, and the count
starts again behind it (R62). -/
def State.heldTicks (s : State) (vbat : List Nat) : Nat := (vbat.reverse.takeWhile (fun v => decide (s.tacetMv ≤ v))).length

/-- KBTN0 is held in TACET, with VBAT in mV at each tick of the hold so far: the part leaves TACET once the hold has lasted HOLD ticks
with VBAT at or above the threshold (R62). -/
def execPowerKeyHold (vbat : List Nat) (s : State) : Host.Outcome State Fault Refusal :=
  .next (if s.boot.step = .tacet ∧ s.tacetHold ≤ s.heldTicks vbat then s.leaveTacet else s)

/-- VBAT, in mV, has risen to above the threshold from below it (R62). -/
def execVbatRise (vbat : Nat) (s : State) : Host.Outcome State Fault Refusal :=
  .next (if s.boot.step = .tacet ∧ s.flag Reg.DEV_TACET_CFG 16 ∧ s.tacetMv < vbat then s.leaveTacet else s)

/-! ### The watchdog (R90 to R92) -/

/-- The watchdog counts: EN, in TUTTI or MEZZO, outside the start sequence and bursts (R90). A CORE reset restarts the count and
does not hold it (Table 4-4). -/
def State.wdogOn (s : State) : Bool :=
  s.flag Reg.DEV_WDOG_CFG 31 && decide (s.cur ≤ 1) && s.boot.step == .released && !s.boot.sysHeld && !s.ladder.burstOn

/-- PERIOD: below 32 it acts as 32 (Table 4-12). -/
def State.wdogPeriod (s : State) : Nat := max 32 (s.fld Reg.DEV_WDOG_CFG 23 0)

/-- WDOG_STATUS.COUNT. -/
def State.wdogCount (s : State) : Nat := s.fld Reg.DEV_WDOG_STATUS 23 0

/-- The early warning, once between two kicks or restarts (R90). -/
def State.wdogWarn (s : State) : State :=
  if s.boot.wdogEarlyDone then s
  else ((s.setBoot { s.boot with wdogEarlyDone := true }).setFlag Reg.DEV_WDOG_STATUS 24 true).raise 5
    (word (s.fld Reg.DEV_WDOG_CFG 23 0))

/-- The early warning is due. -/
def State.wdogEarlyDue (s : State) : Bool :=
  s.wdogOn && !s.boot.wdogEarlyDone && decide (s.wdogPeriod / 2 ≤ s.wdogCount)

/-- COUNT has reached half of PERIOD (R90). -/
def execWdogEarly (s : State) : Host.Outcome State Fault Refusal := .next (if s.wdogEarlyDue then s.wdogWarn else s)

/-- The watchdog has expired, and its reset is neither applied nor waiting. -/
def State.wdogExpired (s : State) : Bool := s.wdogOn && s.boot.coreWaiting.isNone && decide (s.wdogPeriod ≤ s.wdogCount)

/-- COUNT has reached PERIOD: the warning where it is still due, then the reset of ACTION (R90). -/
def execWdogExpiry (s : State) : Host.Outcome State Fault Refusal :=
  .next (if s.wdogExpired then
      let s1 := s.wdogWarn
      if s1.flag Reg.DEV_WDOG_CFG 28 then s1.systemReset 2 else s1.coreReset 5
    else s)

/-- A write of WDOG_CFG: ignored while LOCK is 1 (R92). -/
def State.writeWdogCfg (s : State) (v : Word) : State :=
  if s.flag Reg.DEV_WDOG_CFG 30 then s else s.hostSet Reg.DEV_WDOG_CFG v

/-- A write of WDOG_KICK (R91). -/
def State.writeWdogKick (s : State) (v : Word) : State :=
  if field v 15 0 = 0xA5C3 then s.wdogRestart else s.setFlag Reg.DEV_WDOG_STATUS 25 true

/-- WDOG_CONFIG (0x15, R92). -/
def execWdogConfig (ring : BitVec 8) (s : State) : Host.Outcome State Fault Refusal :=
  .next (s.runVerb ring.toNat 0x15 clientZero (fun _ v => v.argsWithin [0xD0FFFFFF#32])
    (fun s v => if s.flag Reg.DEV_WDOG_CFG 30 then s.complete v .halted
      else (s.hostSet Reg.DEV_WDOG_CFG (v.arg 0)).complete v .ok))

/-- WDOG_KICK (0x16, R91). -/
def execWdogKick (ring : BitVec 8) (s : State) : Host.Outcome State Fault Refusal :=
  .next (s.runVerb ring.toNat 0x16 (fun s v => v.owner == 0 || s.hasPage v.owner 0) (fun _ v => v.argsWithin [])
    (fun s v => s.wdogRestart.complete v .ok))

/-- A write of RESET_REQ with its KEY (Table 4-11): SYSTEM wins over CORE. -/
def State.writeResetReq (s : State) (v : Word) : State :=
  if field v 31 16 ≠ 0x7740 then s
  else if bit v 1 then s.systemReset 3
  else if bit v 0 then s.coreReset 6
  else s

end Sys2Proof.Machine
end

