-- ==== Sys2Proof/Machine/Boot.lean ====
section
/-!
DEFINITION. The start sequence (Table 4-2, R76 to R85, R95, R363): fuse load, the low-battery check, the boot burst, power-up
tuning, host release, the rails of a part without a configuration, and the AO clock source.
-/

namespace Sys2Proof.Machine

/-- PHASE of BOOT_STATUS (Table 4-9). -/
def State.setPhase (s : State) (p : Nat) : State := s.setFld Reg.DEV_BOOT_STATUS 2 0 p

/-- B2: after POR the RC oscillator is the AO source and the crystal's qualification begins (Table 4-2, R85). -/
def State.startClock (s : State) : State :=
  if s.boot.step = .por then (s.setFlag Reg.DEV_AO_CLK 0 false).setFlag Reg.DEV_AO_CLK 2 true else s

/-- B2 to B4: fuse load, and after POR and a TACET exit the low-battery check against VBAT in mV (R76 to R78). corrected,
factBad and custBad tell what SECDED and the CRC of the factory section find. -/
def execStartSequence (vbat : Nat) (corrected factBad custBad : Bool) (s : State) : Host.Outcome State Fault Refusal :=
  .next (if (s.boot.step = .por ∨ s.boot.step = .reset) ∧ !s.boot.sysHeld then
      let s1 := (s.startClock.setReg Reg.DEV_BOOT_STATUS 0#32).fuseLoad corrected factBad custBad
      if s1.boot.cold && decide (vbat < s1.tacetMv) then s1.enterTacet
      else s1.setBoot { s1.boot with step := .supplies, b3At := s1.edge }
    else s)

/-- The comparators report VDDIO, VDD_CORE, VDD_PHY and VDDA in range (R45, R199). -/
def State.suppliesOk (s : State) : Bool :=
  [1, 2, 4, 5].all (fun r => Cells.get (fun _ => 0) s.sense.rails r == 1)

/-- 65 536 ticks after B3 a supply is still out of range: TACET without task 1, and no move of the ladder (R84). -/
def execSupplyStartTimeout (s : State) : Host.Outcome State Fault Refusal :=
  .next (if s.boot.step = .supplies ∧ 65536 ≤ s.elapsed s.boot.b3At ∧ !s.suppliesOk then s.enterTacet else s)

/-- The Hall at a start: banks of retained leases are powered again, and RING leases whose bytes were lost are zero (R20). -/
def State.bootHall (s : State) : State := (s.setBanks s.touchedBanks).refill

/-- PNL_EN at the end of B5 (R363): a panel left powered is powered off from F2 on, else every PNL_EN is driven low. -/
def State.takePanel (s : State) : State :=
  if s.pins.pnlEn = 0#4 then s.drivePanel 0xF#4 0#4
  else ((s.drivePanel (~~~(BitVec.ofNat 4 (s.ffld Reg.STAVE_PWR_CFG 3 0))) 0#4).setCause 8).enterF2

/-- B6: power-up tuning of every enabled item (R81). -/
def State.powerUpTuning (s : State) : State :=
  (List.range 8).foldl (fun s n => s.tuneTrigger n 0) ((s.setPhase 2).setBoot { s.boot with step := .tuning, b6At := s.edge })

/-- B5 and the begin of B6, once the four supplies are in range and no word or pulse of before a reset is in progress (R45, R79,
R89): boot scan, repairs, counters, AO memory, profiles and the panel pads. pulses is what each erase needs. -/
def execBootBurst (pulses : Nat) (s : State) : Host.Outcome State Fault Refusal :=
  .next (if s.boot.step = .supplies ∧ s.suppliesOk ∧ s.jrnl.busy.isNone then
      let s1 := ((s.setPhase 1).setCore .fastRc).bootHall
      let s2 : State := { s1.bootJournal pulses with ao := [] }
      s2.bootProfiles.takePanel.powerUpTuning
    else s)

/-- The next rail of R83 is raised, and its power-good awaited. -/
def State.nextRail (s : State) : State :=
  match s.boot.railsLeft with
  | n :: rest =>
    (s.drivePseq n true).setBoot { s.boot with railsLeft := rest, railWait := true, railLast := n, railAt := s.edge }
  | [] => s.setBoot { s.boot with railWait := false }

/-- Host release without a valid configuration (R83): PSEQ_EN outside BOOT_RAIL_MASK are driven low, those inside it are raised
one after the other, and the part descends to PIANO. The spec gives no order of the two: PIANO is requested at release, beside the
first rail (DESIGN CHOICE, log entry 22). -/
def State.releaseBare (s : State) : State :=
  let mask := s.bootMask
  let s1 := ((List.range 12).filter (fun n => !mask.testBit n)).foldl (fun s n => s.drivePseq n false) s
  (s1.setBoot { s1.boot with railsLeft := maskBits 12 mask }).nextRail.request 2 .boot none

/-- Items 1, 2, 3 and 5 have ended, or 256 ticks have passed since B6 (R81). -/
def State.releaseDue (s : State) : Bool :=
  s.boot.step == .tuning && ([1, 2, 3, 5].all (fun n => !s.tuning n) || decide (256 ≤ s.elapsed s.boot.b6At))

/-- CORE leaves FAST_RC at host release where the PLL has locked before it (R69, R82). -/
def State.releaseClock (s : State) : State :=
  if s.ladder.core = .fastRc ∧ s.ladder.pllLocked then s.goFreq (s.freqFor s.cur) else s

/-- Host release (R81 to R83): the ports answer, BOOT_STATUS is final, CORE takes the PLL where it has locked, EV_BOOT_DONE is
raised, and task 0 starts or the rails of a part without a configuration are raised. -/
def execHostRelease (s : State) : Host.Outcome State Fault Refusal :=
  .next (if s.releaseDue then
      let none_ := s.flag Reg.DEV_BOOT_STATUS 12
      let s1 := s.setBoot { s.boot with step := .released, releasedAt := s.edge }
      let s2 := (s1.setFld Reg.DEV_BOOT_STATUS 31 16 (min 0xFFFF (s.elapsed s.boot.startAt))).setPhase (if none_ then 4 else 3)
      let s3 := s2.releaseClock.raise 4 (s2.bootArg none_)
      if none_ then s3.releaseBare else s3.startTask 0
    else s)

/-- The power-good of the rail raised last has gone high (R83). -/
def execBootRailStep (s : State) : Host.Outcome State Fault Refusal :=
  .next (if s.boot.step = .released ∧ s.boot.railWait then
      (s.setPins { s.pins with pg := BitVec.ofNat 13 (numWithBit s.pins.pg.toNat s.boot.railLast true) }).nextRail
    else s)

/-- The power-good of the rail raised last has stayed low for 4096 ticks (R83). -/
def execBootRailPgTimeout (s : State) : Host.Outcome State Fault Refusal :=
  .next (if s.boot.step = .released ∧ s.boot.railWait ∧ 4096 ≤ s.elapsed s.boot.railAt then
      (s.setFlag Reg.DEV_BOOT_STATUS 13 true).nextRail
    else s)

/-! ### The AO clock source (R85) -/

/-- The AO clock domain runs. -/
def State.aoRuns (s : State) : Bool := s.boot.step != .por

/-- The crystal has qualified: the AO source switches to it, and items 0 and 1 are triggered (R85, Table 10-3). -/
def execCrystalQualified (s : State) : Host.Outcome State Fault Refusal :=
  .next (if s.aoRuns ∧ !s.flag Reg.DEV_AO_CLK 0 then
      let s1 := ((s.setFlag Reg.DEV_AO_CLK 0 true).setFlag Reg.DEV_AO_CLK 2 false).raise 6 1#32
      (s1.tuneTrigger 0 4).tuneTrigger 1 4
    else s)

/-- The crystal has missed 8 cycles: the AO source returns to the RC oscillator, and qualification starts again (R85). -/
def execCrystalLost (s : State) : Host.Outcome State Fault Refusal :=
  .next (if s.aoRuns ∧ s.flag Reg.DEV_AO_CLK 0 then
      (((s.setFlag Reg.DEV_AO_CLK 0 false).setFlag Reg.DEV_AO_CLK 1 true).setFlag Reg.DEV_AO_CLK 2 true).raise 6 0#32
    else s)

end Sys2Proof.Machine
end

