-- ==== Sys2Proof/Machine/Pads.lean ====
section
/-!
DEFINITION. Bumps, pads, pulls and drives, and the state that each signal takes in each condition (02).
-/

namespace Sys2Proof.Machine

/-! ### Bumps and signals (Tables 2-2 to 2-4) -/

/-- A row of the bump array. -/
inductive BumpRow where
  | a | b | c | d | e | f | g | h | j | k | l | m | n | p
  deriving DecidableEq, Repr

/-- A bump of the array: its row, and its column 1 to 16 (R34). -/
structure Bump where
  row : BumpRow
  col : Nat
  deriving DecidableEq, Repr

/-- The signals of Table 2-3. The second wire of a differential pair is its DN bump. -/
inductive Signal where
  | haClk | haCsN | haDq (n : Nat) | haDs | hbSck | hbMosi | hbCsN | hbMiso | hostIrqN (line : Bool) | resetN
  | tck | tms | tdi | tdo | dsiClk (dn : Bool) | dsiD (lane : Nat) (dn : Bool) | dsiTe | refclk | xtalIn | xtalOut
  | slk (lane : Nat) (dn : Bool) | lockN | faultN | gsp | gen | gdir | gao | gck (n : Nat) | pnlEn (n : Nat) | pnlPg
  | crkF | crkS | pseqEn (n : Nat) | pseqPg (n : Nat) | supReq | alive | chgEn | chgStat | scl (bus : Nat) | sda (bus : Nat)
  | sck (bus : Nat) | mosi (bus : Nat) | csN (bus cs : Nat) | miso (bus : Nat) | sint (n : Nat) | krow (n : Nat)
  | kcol (n : Nat) | kbtn (n : Nat) | enc (n : Nat) (phaseB : Bool) | pulse (n : Nat) | vbatSns | isnsHi | isnsLo
  | ntc (n : Nat) | ntcRef
  deriving DecidableEq, Repr

/-- The type codes of Table 2-3. -/
inductive PadType where
  | input | output | bidir | openDrain | openDrainBidir | analogIn | analogOut | crystal | receiver | transmitter
  deriving DecidableEq, Repr

/-- The pad supplies of Table 2-0. -/
inductive PadSupply where
  | ao | io | phy | analog
  deriving DecidableEq, Repr

/-- An internal pull. -/
inductive Pull where
  | up | down
  deriving DecidableEq, Repr

/-- The pull of a pad after POR: none at all, fixed, or that of a group of PAD_PULL (Tables 2-3 and 2-8). -/
inductive PadPull where
  | none
  | fixed (p : Pull)
  | group (g : Nat)
  deriving DecidableEq, Repr

/-- A row of Table 2-3, for one bump. -/
structure Pad where
  signal : Signal
  bump : Bump
  type : PadType
  supply : PadSupply
  pull : PadPull
  deriving DecidableEq, Repr

/-- Pads of one kind at consecutive columns of one row. -/
def padRun (f : Nat → Signal) (n : Nat) (row : BumpRow) (col : Nat) (t : PadType) (s : PadSupply) (p : PadPull) (first : Nat := 0) :
    List Pad :=
  (List.range n).map (fun i => ⟨f (first + i), ⟨row, col + i⟩, t, s, p⟩)

/-- Table 2-3 from the host ports to the Stave lanes, in table order. -/
def padsHost : List Pad :=
  [⟨.haClk, ⟨.a, 7⟩, .input, .io, .group 1⟩, ⟨.haCsN, ⟨.a, 9⟩, .input, .io, .group 0⟩] ++
  padRun .haDq 4 .a 2 .bidir .io (.group 1) ++ padRun .haDq 4 .a 10 .bidir .io (.group 1) 4 ++
  [⟨.haDs, ⟨.a, 6⟩, .output, .io, .group 2⟩, ⟨.hbSck, ⟨.a, 14⟩, .input, .io, .group 3⟩,
    ⟨.hbMosi, ⟨.b, 10⟩, .input, .io, .group 3⟩, ⟨.hbCsN, ⟨.a, 15⟩, .input, .io, .group 4⟩,
    ⟨.hbMiso, ⟨.b, 11⟩, .output, .io, .none⟩, ⟨.hostIrqN false, ⟨.b, 5⟩, .openDrain, .io, .none⟩,
    ⟨.hostIrqN true, ⟨.b, 6⟩, .openDrain, .io, .none⟩, ⟨.resetN, ⟨.b, 9⟩, .input, .ao, .fixed .up⟩,
    ⟨.tck, ⟨.b, 12⟩, .input, .io, .fixed .down⟩, ⟨.tms, ⟨.b, 13⟩, .input, .io, .fixed .up⟩,
    ⟨.tdi, ⟨.b, 14⟩, .input, .io, .fixed .up⟩, ⟨.tdo, ⟨.b, 15⟩, .output, .io, .none⟩,
    ⟨.dsiClk false, ⟨.c, 1⟩, .receiver, .phy, .none⟩, ⟨.dsiClk true, ⟨.c, 2⟩, .receiver, .phy, .none⟩,
    ⟨.dsiD 0 false, ⟨.d, 1⟩, .receiver, .phy, .none⟩, ⟨.dsiD 0 true, ⟨.d, 2⟩, .receiver, .phy, .none⟩,
    ⟨.dsiD 1 false, ⟨.e, 1⟩, .receiver, .phy, .none⟩, ⟨.dsiD 1 true, ⟨.e, 2⟩, .receiver, .phy, .none⟩,
    ⟨.dsiTe, ⟨.e, 4⟩, .output, .io, .none⟩, ⟨.refclk, ⟨.c, 13⟩, .input, .io, .group 5⟩,
    ⟨.xtalIn, ⟨.g, 1⟩, .crystal, .ao, .none⟩, ⟨.xtalOut, ⟨.g, 2⟩, .crystal, .ao, .none⟩]

/-- A Stave lane's pair. -/
def slkPair (lane : Nat) (row : BumpRow) : List Pad :=
  [⟨.slk lane false, ⟨row, 15⟩, .transmitter, .phy, .none⟩, ⟨.slk lane true, ⟨row, 16⟩, .transmitter, .phy, .none⟩]

/-- Table 2-3 from the Stave lanes to the charger, in table order. -/
def padsPanel : List Pad :=
  slkPair 0 .c ++ slkPair 1 .d ++ slkPair 2 .e ++ slkPair 3 .f ++
  [⟨.lockN, ⟨.g, 15⟩, .input, .io, .group 6⟩, ⟨.faultN, ⟨.g, 16⟩, .input, .io, .group 6⟩,
    ⟨.gsp, ⟨.h, 14⟩, .output, .io, .none⟩, ⟨.gen, ⟨.h, 15⟩, .output, .io, .none⟩, ⟨.gdir, ⟨.h, 16⟩, .output, .io, .none⟩,
    ⟨.gao, ⟨.j, 10⟩, .output, .io, .none⟩] ++
  padRun .gck 6 .j 11 .output .io .none ++ padRun .gck 2 .k 14 .output .io .none 6 ++
  padRun .pnlEn 4 .l 8 .output .ao .none ++
  [⟨.pnlPg, ⟨.k, 16⟩, .input, .io, .group 7⟩, ⟨.crkF, ⟨.l, 15⟩, .analogOut, .analog, .none⟩,
    ⟨.crkS, ⟨.l, 16⟩, .analogIn, .analog, .none⟩] ++
  padRun .pseqEn 8 .j 1 .output .ao .none ++ padRun .pseqEn 4 .k 1 .output .ao .none 8 ++
  padRun .pseqPg 8 .k 5 .input .ao (.group 14) ++ padRun .pseqPg 4 .l 1 .input .ao (.group 14) 8 ++
  [⟨.supReq, ⟨.h, 3⟩, .output, .ao, .none⟩, ⟨.alive, ⟨.h, 4⟩, .output, .ao, .none⟩,
    ⟨.chgEn, ⟨.h, 6⟩, .openDrain, .ao, .none⟩, ⟨.chgStat, ⟨.h, 7⟩, .input, .ao, .fixed .up⟩]

/-- Table 2-3 from the sensor buses to its end, in table order. -/
def padsSensor : List Pad :=
  [⟨.scl 0, ⟨.f, 9⟩, .openDrainBidir, .io, .none⟩, ⟨.sda 0, ⟨.f, 10⟩, .openDrainBidir, .io, .none⟩,
    ⟨.scl 1, ⟨.f, 11⟩, .openDrainBidir, .io, .none⟩, ⟨.sda 1, ⟨.f, 12⟩, .openDrainBidir, .io, .none⟩,
    ⟨.sck 2, ⟨.g, 5⟩, .output, .io, .none⟩, ⟨.mosi 2, ⟨.g, 6⟩, .output, .io, .none⟩,
    ⟨.csN 2 0, ⟨.g, 8⟩, .output, .io, .none⟩, ⟨.csN 2 1, ⟨.g, 9⟩, .output, .io, .none⟩,
    ⟨.sck 3, ⟨.g, 10⟩, .output, .io, .none⟩, ⟨.mosi 3, ⟨.g, 11⟩, .output, .io, .none⟩,
    ⟨.csN 3 0, ⟨.g, 13⟩, .output, .io, .none⟩, ⟨.csN 3 1, ⟨.g, 14⟩, .output, .io, .none⟩,
    ⟨.miso 2, ⟨.g, 7⟩, .input, .io, .group 9⟩, ⟨.miso 3, ⟨.g, 12⟩, .input, .io, .group 9⟩] ++
  padRun .sint 4 .h 9 .input .io (.group 8) ++ padRun .krow 8 .n 1 .output .io .none ++
  padRun .kcol 8 .p 1 .input .io (.group 10) ++ [⟨.kbtn 0, ⟨.h, 5⟩, .input, .ao, .fixed .down⟩] ++
  padRun .kbtn 7 .n 9 .input .io (.group 11) 1 ++
  [⟨.enc 0 false, ⟨.m, 12⟩, .input, .io, .group 12⟩, ⟨.enc 0 true, ⟨.m, 13⟩, .input, .io, .group 12⟩,
    ⟨.enc 1 false, ⟨.m, 14⟩, .input, .io, .group 12⟩, ⟨.enc 1 true, ⟨.m, 15⟩, .input, .io, .group 12⟩,
    ⟨.pulse 0, ⟨.n, 16⟩, .input, .io, .group 13⟩, ⟨.pulse 1, ⟨.p, 14⟩, .input, .io, .group 13⟩,
    ⟨.vbatSns, ⟨.m, 3⟩, .analogIn, .ao, .none⟩, ⟨.isnsHi, ⟨.m, 4⟩, .analogIn, .analog, .none⟩,
    ⟨.isnsLo, ⟨.m, 5⟩, .analogIn, .analog, .none⟩, ⟨.ntc 0, ⟨.m, 7⟩, .analogIn, .analog, .none⟩,
    ⟨.ntc 1, ⟨.m, 8⟩, .analogIn, .analog, .none⟩, ⟨.ntcRef, ⟨.m, 9⟩, .analogOut, .analog, .none⟩]

/-- The signal bumps in table order (R35, Table 2-3). -/
def pads : List Pad := padsHost ++ padsPanel ++ padsSensor

/-- The supplies of Table 2-4. -/
inductive PowerNet where
  | vbat | ao | io | core | phy | analog | vssa | vss
  deriving DecidableEq, Repr

/-- Power bumps at these columns of a row. -/
def powerRow (net : PowerNet) (row : BumpRow) (cols : List Nat) : List (PowerNet × Bump) := cols.map (fun c => (net, ⟨row, c⟩))

/-- VDD_CORE and VSS bumps (Table 2-4). -/
def corePower : List (PowerNet × Bump) :=
  powerRow .core .c [4, 5, 7, 8, 10, 11] ++ powerRow .core .d [5, 6, 8, 9, 11, 12] ++ powerRow .core .e [6, 7, 9, 10, 12, 13] ++
  powerRow .core .f [3, 4, 6, 7] ++ powerRow .vss .a [1, 8, 16] ++ powerRow .vss .b [2, 4, 7, 16] ++ powerRow .vss .c [3, 6, 9, 12] ++
  powerRow .vss .d [4, 7, 10, 13] ++ powerRow .vss .e [3, 5, 8, 11, 14] ++ powerRow .vss .f [2, 5, 8, 13] ++ powerRow .vss .g [4] ++
  powerRow .vss .h [2, 8] ++ powerRow .vss .j [9] ++ powerRow .vss .k [13] ++ powerRow .vss .l [7, 13] ++ powerRow .vss .m [16] ++
  powerRow .vss .p [13, 15, 16]

/-- The power bumps (R34, Table 2-4). -/
def powerBumps : List (PowerNet × Bump) :=
  powerRow .vbat .l [5, 6] ++ powerRow .vbat .m [1, 2] ++ powerRow .ao .g [3] ++ powerRow .ao .h [1] ++
  powerRow .io .b [3, 8] ++ powerRow .io .c [14] ++ powerRow .io .f [14] ++ powerRow .io .h [13] ++ powerRow .io .l [12] ++
  powerRow .io .p [11, 12] ++ powerRow .phy .b [1] ++ powerRow .phy .d [3, 14] ++ powerRow .phy .f [1] ++
  powerRow .analog .l [14] ++ powerRow .analog .m [11] ++ powerRow .analog .p [10] ++
  powerRow .vssa .m [6, 10] ++ powerRow .vssa .p [9] ++ corePower

/-! ### Supplies, pulls and drives (R36, R38, Tables 2-8 and 2-9) -/

/-- The pad supply is present and in its operating range (R36). -/
def State.padPowered (s : State) : PadSupply → Bool
  | .ao => true
  | .io => s.supplyUp 1
  | .phy => s.supplyUp 4
  | .analog => s.supplyUp 5

/-- The pull that a PAD_PULL code selects (Table 2-8). -/
def pullOf (code : Nat) : Option Pull := if code = 1 then some .down else if code = 2 then some .up else none

/-- The internal pull that a pad applies (R36, R38): none without its supply, and none at CHG_STAT in TACET. -/
def State.padPull (s : State) (p : Pad) : Option Pull :=
  if !s.padPowered p.supply then none
  else match p.pull with
    | .none => none
    | .fixed q => if p.signal = .chgStat ∧ s.boot.step = .tacet then none else some q
    | .group g => pullOf (s.fld Reg.DEV_PAD_PULL (2 * g + 1) (2 * g))

/-- The drive of a pad's group in mA (Table 2-9); the I²C pins sink 20 mA. The other outputs have no drive field. -/
def State.padDrive (s : State) (g : Signal) : Option Nat :=
  let mA := fun lo => [2, 4, 8, 12].getD (s.fld Reg.DEV_PAD_DRIVE (lo + 1) lo) 0
  match g with
  | .haDq _ | .haDs => some (mA 0)
  | .hbMiso => some (mA 2)
  | .gsp | .gck _ | .gen | .gao | .gdir => some (mA 4)
  | .sck _ | .mosi _ | .csN _ _ => some (mA 6)
  | .dsiTe => some (mA 8)
  | .krow _ => some (mA 10)
  | .scl _ | .sda _ => some 20
  | _ => none

/-! ### Signal states (R41, R42, Table 2-5) -/

/-- The columns of Table 2-5 for a part that has power. -/
inductive PadColumn where
  | por | sysReset | coreReset | running | low | tacet
  deriving DecidableEq, Repr

/-- The column of Table 2-5 that applies; during the start it is the CORE reset column (R41). -/
def State.padColumn (s : State) : PadColumn :=
  if s.boot.sysHeld then .sysReset
  else if s.boot.step = .por then .por
  else if s.boot.step = .tacet then .tacet
  else if s.boot.step ≠ .released ∨ s.boot.coreHeld then .coreReset
  else if s.cur ≤ 1 then .running
  else .low

/-- What a pad does: not driven, its input ignored, functional with a level that the block's traffic gives, watched as a wake
source, driven low or high, released, keeping its level since CORE stopped, electrical idle, oscillating (Table 2-5). -/
inductive PadState where
  | z | ignored | active | watched | low | high | released | hold | idle | osc
  deriving DecidableEq, Repr

/-- Driven to a level. -/
def driven (b : Bool) : PadState := if b then .high else .low

/-- CORE logic is functional at its pads: in TUTTI and MEZZO, and in CORE bursts below (code B). -/
def State.padsServed (s : State) : Bool := s.padColumn == .running || (s.padColumn == .low && s.coreOn)

/-- An output of CORE logic (codes A and B): functional while CORE serves its pads, and at its level of then between bursts (R42);
rest is its state in POR and resets. -/
def State.coreOut (s : State) (rest now : PadState) : PadState :=
  match s.padColumn with
  | .tacet => .z
  | .running => now
  | .low => if s.coreOn then now else match now with
    | .active => .hold
    | x => x
  | _ => rest

/-- An input of CORE logic: ignored in POR and in resets, and holding between bursts. -/
def State.coreIn (s : State) : PadState := s.coreOut .ignored .active

/-- An input of AO logic: ignored in POR and in a SYSTEM reset, and in TACET as given. -/
def State.aoIn (s : State) (tacet : PadState) : PadState :=
  match s.padColumn with
  | .por | .sysReset => .ignored
  | .tacet => tacet
  | _ => .active

/-- The enabled rows that a scan or the leakage measurement drives high in this tick (R164, R183). -/
def State.rowsHigh (s : State) : List Nat :=
  let rows := if s.matrixOn then maskBits 8 (s.ffld Reg.KEYS_CFG 7 0) else []
  if s.tuning 5 && (s.item 5).measuring && decide (1 ≤ s.elapsed s.keys.gapAt) && decide (s.elapsed s.keys.gapAt ≤ 4) then rows
  else match s.keys.scanAt with
    | some t => (rows.drop (s.elapsed t)).take 1
    | none => []

/-- An NTC conversion takes this tick (R195). -/
def State.ntcTick (s : State) : Bool := s.sense.convAt == some s.edge && (s.sense.convCh == 1 || s.sense.convCh == 2)

/-- A gate scan can be in progress: gate outputs follow Table 15-5 in its lines (State.gateLevel). -/
def State.gatesScan (s : State) : Bool :=
  s.fflag Reg.STAVE_CFG 12 && s.panelClass == 1 && ((s.scan.running && s.link == 2) || s.face.pushing.isSome)

/-- What a gate output, GAO or GDIR does: low in POR, in resets, and below MEZZO outside bursts. -/
def State.gatePad (s : State) (now : PadState) : PadState :=
  if s.padsServed then now else if s.padColumn = .tacet then .z else .low

/-- A bus pin: functional while its bus carries a transfer, at rest otherwise. -/
def State.busPad (s : State) (b : Nat) (rest : PadState) : PadState :=
  s.coreOut rest (if (s.bus b).isEmpty then rest else .active)

/-- The debug-lock fuse is blown. -/
def State.dbgLock (s : State) : Bool := s.flag Reg.DEV_PAD_LEVEL 31

/-- Boundary scan works: in TUTTI and MEZZO, with the debug lock open (R47). -/
def State.tapWorks (s : State) : Bool := s.padColumn == .running && !s.dbgLock

/-- A JTAG input. -/
def State.jtagIn (s : State) : PadState := if s.padColumn = .tacet then .z else if s.tapWorks then .active else .ignored

/-- The state of Table 2-5 that the logic behind a pad gives it (R41, R42, R44, R195). -/
def State.logicPad (s : State) (g : Signal) : PadState :=
  let c := s.padColumn
  match g with
  | .haClk | .haCsN | .hbSck | .hbCsN | .hbMosi =>
    match c with
    | .running => .active
    | .low => .watched
    | .tacet => .z
    | _ => .ignored
  | .haDq _ | .haDs | .hbMiso => if c = .running then .active else .z
  | .hostIrqN line => s.coreOut .released (if s.lineAsserted line then .low else .released)
  | .resetN => if c = .por ∨ c = .tacet then .ignored else .active
  | .tck | .tms | .tdi => s.jtagIn
  | .tdo => if s.tapWorks then (match s.tap.tdo with | some b => driven b | none => .z) else .z
  | .dsiClk _ | .dsiD _ _ => match c with
    | .running => .active
    | .low => .watched
    | _ => .z
  | .dsiTe => match c with
    | .running => driven s.pins.dsiTe
    | .tacet => .z
    | _ => .low
  | .refclk | .lockN | .faultN | .pnlPg | .miso _ => s.coreIn
  | .xtalIn | .xtalOut => .osc
  | .slk lane _ =>
    if c = .por ∨ c = .tacet then .z
    else if s.padsServed && s.lanes.any (fun l => l.lane == lane) && (s.link == 1 || s.link == 2 || s.link == 3) then .active
    else .idle
  | .gsp | .gen | .gck _ => s.gatePad (if s.gatesScan then .active else .low)
  | .gdir => s.gatePad (driven s.gdir)
  | .gao => s.gatePad (driven s.stave.gao)
  | .pnlEn n => if c = .por ∨ c = .tacet then .low else driven (s.pins.pnlEn.getLsbD n)
  | .crkF | .crkS => if c = .running ∧ s.stave.checking.isSome then .active else .z
  | .pseqEn n => if c = .por ∨ c = .tacet then .low else driven (s.pins.pseqEn.getLsbD n)
  | .pseqPg _ | .chgStat | .sint _ => s.aoIn .ignored
  | .supReq => driven s.pins.supReq
  | .alive => driven s.pins.alive
  | .chgEn => if c = .por ∨ c = .tacet then .released else if s.pins.chgEnLow then .low else .released
  | .kbtn n => if n = 0 then s.aoIn .watched else s.aoIn .z
  | .krow n => match c with
    | .por | .sysReset => .low
    | .tacet => .z
    | _ => if s.rowsHigh.contains n then .high else .z
  | .kcol _ | .enc _ _ | .pulse _ => s.aoIn .z
  | .scl b | .sda b => s.busPad b .released
  | .sck b | .mosi b => s.busPad b .low
  | .csN b _ => s.busPad b .high
  | .vbatSns => .active
  | .isnsHi | .isnsLo | .ntc _ => s.aoIn .z
  | .ntcRef => match c with
    | .tacet => .z
    | .por | .sysReset => .low
    | _ => driven s.ntcTick

/-! ### The boundary register at the bumps (R47, R50) -/

/-- A bump of the boundary register: powered from VDDIO, and no JTAG bump (R47). -/
def Pad.scanned (p : Pad) : Bool :=
  p.supply == .io && !(p.signal == .tck || p.signal == .tms || p.signal == .tdi || p.signal == .tdo)

/-- The bumps of the boundary register, in table order. -/
def scannedPads : List Pad := pads.filter Pad.scanned

/-- The input cell of bump i; its output cell is one place nearer to TDO and its output-enable cell two. Bit 242 is next to TDI
and bit 0 next to TDO (R47). -/
def inputCell (i : Nat) : Nat := 242 - 3 * i

/-- What the cells drive at bump i while EXTEST is loaded: on input-only bumps nothing (R47). -/
def extestPad (cells : BitVec 243) (p : Pad) (i : Nat) (logic : PadState) : PadState :=
  let on := cells.getLsbD (inputCell i - 2)
  let data := cells.getLsbD (inputCell i - 1)
  match p.type with
  | .input => logic
  | .openDrain | .openDrainBidir => if on && !data then .low else .released
  | _ => if on then driven data else .z

/-- EXTEST has the bumps of the boundary register follow their cells (R50). -/
def State.extest (s : State) : Bool := s.tapWorks && s.tap.ir == 0#4

/-- What a pad does at its bump: high-impedance without its supply, whatever else holds (R36); the boundary cells under EXTEST
(R50); the logic behind it otherwise (R41). -/
def State.padState (s : State) (p : Pad) : PadState :=
  let logic := s.logicPad p.signal
  if !s.padPowered p.supply then .z
  else if s.extest && p.scanned then extestPad s.tap.cells p (scannedPads.idxOf p) logic
  else logic

/-- What the output-data and output-enable cells capture of a pad, where the logic behind it gives a level (log entry 61). -/
def PadState.cell : PadState → Option (Bool × Bool)
  | .low => some (true, false)
  | .high => some (true, true)
  | .z | .released => some (false, false)
  | _ => none

/-- A vector with a bit put. -/
def putBit {n : Nat} (v : BitVec n) (i : Nat) (b : Bool) : BitVec n :=
  (v &&& ~~~(1#n <<< i)) ||| (if b then 1#n <<< i else 0#n)

/-- The cells of bump i captured: the level at the bump where the part drives it, and the data and the enable of the logic where it
gives them; every other cell takes what it sees from outside. -/
def State.captureBump (s : State) (levels : BitVec 243) (e : Pad × Nat) : BitVec 243 :=
  let i := inputCell e.2
  let l1 := match s.padState e.1 with
    | .low => putBit levels i false
    | .high => putBit levels i true
    | _ => levels
  if e.1.type = .input then l1
  else match (s.logicPad e.1.signal).cell with
    | some (on, data) => putBit (if on then putBit l1 (i - 1) data else l1) (i - 2) on
    | none => l1

/-- What the 243 cells capture (R47), levels being what they see from outside. -/
def State.captured (s : State) (levels : BitVec 243) : BitVec 243 :=
  scannedPads.zipIdx.foldl (fun l e => s.captureBump l e) levels

end Sys2Proof.Machine
end

