-- ==== Sys2Proof/Machine/Jtag.lean ====
section
/-!
DEFINITION. The boundary-scan port (R47, R50): the TAP controller of IEEE 1149.1, its instruction, bypass and boundary
registers.
-/

namespace Sys2Proof.Machine

/-- The next state of the TAP controller (IEEE 1149.1, R47). -/
def TapState.next (t : TapState) (tms : Bool) : TapState :=
  match t, tms with
  | .testLogicReset, true => .testLogicReset
  | .testLogicReset, false => .runTestIdle
  | .runTestIdle, true => .selectDr
  | .runTestIdle, false => .runTestIdle
  | .selectDr, true => .selectIr
  | .selectDr, false => .captureDr
  | .captureDr, true => .exit1Dr
  | .captureDr, false => .shiftDr
  | .shiftDr, true => .exit1Dr
  | .shiftDr, false => .shiftDr
  | .exit1Dr, true => .updateDr
  | .exit1Dr, false => .pauseDr
  | .pauseDr, true => .exit2Dr
  | .pauseDr, false => .pauseDr
  | .exit2Dr, true => .updateDr
  | .exit2Dr, false => .shiftDr
  | .updateDr, true => .selectDr
  | .updateDr, false => .runTestIdle
  | .selectIr, true => .testLogicReset
  | .selectIr, false => .captureIr
  | .captureIr, true => .exit1Ir
  | .captureIr, false => .shiftIr
  | .shiftIr, true => .exit1Ir
  | .shiftIr, false => .shiftIr
  | .exit1Ir, true => .updateIr
  | .exit1Ir, false => .pauseIr
  | .pauseIr, true => .exit2Ir
  | .pauseIr, false => .pauseIr
  | .exit2Ir, true => .updateIr
  | .exit2Ir, false => .shiftIr
  | .updateIr, true => .selectDr
  | .updateIr, false => .runTestIdle

/-- The instruction selects the boundary register: EXTEST or SAMPLE/PRELOAD (R47). -/
def boundarySelected (ir : BitVec 4) : Bool := ir == 0#4 || ir == 1#4

/-- The action of a TCK edge in the controller's state: what is captured or shifted at it, TDI entering at the top of the
register and its lowest bit leaving on TDO. levels is what the 243 cells would capture, bit 0 next to TDO; code is what
Capture-IR loads above its two fixed bits. -/
def Tap.act (t : Tap) (tdi : Bool) (levels : BitVec 243) (code : BitVec 4) : Tap :=
  match t.state with
  | .captureIr => { t with irShift := (code &&& 0xC#4) ||| 1#4 }
  | .shiftIr => { t with irShift := (t.irShift >>> 1) ||| (if tdi then 8#4 else 0#4) }
  | .captureDr => if boundarySelected t.ir then { t with shift := levels } else { t with bypass := false }
  | .shiftDr =>
    if boundarySelected t.ir then { t with shift := (t.shift >>> 1) ||| (if tdi then 1#243 <<< 242 else 0#243) }
    else { t with bypass := tdi }
  | _ => t

/-- What entering a state does: Update-IR and Update-DR take the shifted bits, Test-Logic-Reset selects BYPASS (R47). -/
def Tap.enter (t : Tap) (n : TapState) : Tap :=
  let t1 := { t with state := n }
  match n with
  | .updateIr => { t1 with ir := t.irShift }
  | .updateDr => if boundarySelected t.ir then { t1 with cells := t.shift } else t1
  | .testLogicReset => { t1 with ir := 0xF#4 }
  | _ => t1

/-- TDO: driven in the shift states alone. -/
def Tap.out (t : Tap) : Option Bool :=
  match t.state with
  | .shiftIr => some (t.irShift.getLsbD 0)
  | .shiftDr => some (if boundarySelected t.ir then t.shift.getLsbD 0 else t.bypass)
  | _ => none

/-- A TCK edge with the levels of TMS and TDI and the levels at the bumps that the part does not drive (R47): in TUTTI and MEZZO
alone; the TAP is held in Test-Logic-Reset otherwise, and a blown debug lock or an absent VDDIO leaves every edge without effect. -/
def execTapTckEdge (tms tdi : Bool) (levels : BitVec 243) (s : State) : Host.Outcome State Fault Refusal :=
  .next (if !s.vddioUp || s.dbgLock then s
    else if !s.tapWorks then { s with tap := {} }
    else
      let (w, s1) := s.takeFree
      let t := (s.tap.act tdi (s.captured levels) (w.setWidth 4)).enter (s.tap.state.next tms)
      { s1 with tap := { t with tdo := t.out } })

/-- What the bumps of the boundary register follow: their cells while EXTEST is loaded (R50). -/
def State.bumpsFollow (s : State) : Option (BitVec 243) := if s.extest then some s.tap.cells else none

/-- Where boundary scan does not work the TAP is held in Test-Logic-Reset (R47). -/
def State.tapTick (s : State) : State := if s.tapWorks then s else { s with tap := {} }

end Sys2Proof.Machine
end

