-- ==== Sys2Proof/Machine/Ports.lean ====
section
/-!
DEFINITION. Host ports (05): what a register reads as, reads and writes of the client alias, the write buffers and what each
buffered word does, and the answers on the DSI bus after a turnaround (R284).
-/

namespace Sys2Proof.Machine

/-! ### What registers read as -/

/-- PAD_LEVEL (Table 2-11). -/
def State.padLevel (s : State) : Word :=
  word (s.pins.pseqEn.toNat + 2 ^ 12 * s.pins.pnlEn.toNat + (if s.pins.chgEnLow then 0 else 2 ^ 16) +
    (if s.pins.supReq then 2 ^ 17 else 0) + (if s.pins.alive then 2 ^ 18 else 0) +
    (if s.pins.kbtn0 then 2 ^ 19 else 0) + (if s.pins.chgStat then 2 ^ 20 else 0) +
    (if s.pins.resetN then 2 ^ 21 else 0)) ||| (s.reg Reg.DEV_PAD_LEVEL &&& 0x80000000#32)

/-- A register or table word as it reads: those the part derives from other state, and the stored ones. -/
def State.view (s : State) (a : Nat) : Word :=
  if a = Reg.DEV_METRO_LO then s.now
  else if a = Reg.DEV_METRO_HI then word (s.metro.toNat / 2 ^ 32)
  else if a = Reg.DEV_PAD_LEVEL ∧ s.boot.step ≠ .por then s.padLevel
  else if a = Reg.DEV_PAD_PG ∧ s.boot.step ≠ .por then s.pins.pg.setWidth 32
  else if a = Reg.HPORT_A_STATUS then s.portStatus .a
  else if a = Reg.HPORT_B_STATUS then s.portStatus .b
  else if a = Reg.CUE_IRQ_STAT then s.irqStat
  else if a = Reg.TUNE_BUSY then s.tuneBusy
  else if a = Reg.JRNL_STATUS then s.jrnlStatus
  else if a = Reg.JRNL_NEXT_SEQ then word (s.jrnl.seqMax + 1)
  else if a = Reg.JRNL_SPACE then s.jrnlSpace
  else if a = Reg.JRNL_WEAR then s.jrnlWear
  else if Reg.JRNL_SECTOR ≤ a ∧ a < Reg.JRNL_CTR_TAB then s.sectorEntry ((a - Reg.JRNL_SECTOR) / 4)
  else if a = Reg.FACE_WALL_SEC then word s.wallSec
  else if a = Reg.ENS_STATUS then s.ensStatus
  else if a = Reg.ENS_BUSY then word s.busyDesks
  else if a = Reg.ENS_CAPPED then word s.capped
  else if a = Reg.ENS_LEASE then s.leaseWordNow
  else if Reg.CUE_RING_W0 ≤ a ∧ a < Reg.CUE_RING_W0 + 0x1000 ∧ a % 16 = 12 then
    withBit (s.reg a) 14 (s.ringWaits ((a - Reg.CUE_RING_W0) / 16))
  else s.reg a

/-! ### Read latency (R99, R100, R105, R117) -/

/-- LATENCY of port A: below 8 it acts as 8. -/
def State.latency (s : State) : Nat := max 8 (s.fld Reg.HPORT_A_CFG 5 0)

/-- R99 and R105 cover word k of a read with a port clock of f kHz: the word is ready when it is due. Waits at the Hall arbiter
beyond the budget are not covered. -/
def State.covered_ (s : State) (p : Port) (f k : Nat) (g : Region) : Bool :=
  let c := s.coreMHz
  let j := g == .journal
  let need := (f * 480 + (if j then f * c else 0) + 20000 * c - 1) / (20000 * c) + 4
  let slip := if s.flag Reg.HPORT_A_CFG 8 then 8 else 0
  g != .hall && (match p with
    | .a => if k = 0 then decide (need ≤ s.latency + slip) else if j then decide (f ≤ 40000) else decide (f ≤ 2000 * c)
    | .b => k != 0 || decide (f * (24000 + ((if j then 50 else 0) + 20) * c) ≤ 8000000 * max 1 (s.fld Reg.HPORT_B_CFG 3 0) * c))

/-! ### Buffered words (R102, R110) -/

/-- The row of the command table that a buffered word belongs to. -/
inductive WordRow where
  | plain | doorbell
  | modeExpert | modeBasic | leaseEnable | leaseDisable | ladderReqGo | resetSystem | resetCore | wdogKick
  | permLock | ringEnable | ringDisable | cueResume | scoreStart | scoreStop | keysPop | keysCommit | senseCommit
  | tuneReq | jrnlCmd | surfaceEnable | surfaceDisable | openGo | presentGo | dsiCommit
  | scanWake | scanSrEnter | scanCommit | pipeCommit | staveRetrain | staveCrack | staveRecover | staveCommit
  | wallHi | faceRepaint | faceCommit | ensCommit | deskTest | deskRetest | issueGo
  deriving DecidableEq, Repr

/-- The row of a word to a register that starts an action (R10): plain where it starts none. -/
def pageRow (a : Nat) (v : Word) : WordRow :=
  let on := fun (b : Bool) (r : WordRow) => if b then r else .plain
  if isMode a then (if bit v 0 then .modeExpert else .modeBasic)
  else if a = Reg.DEV_LADDER_REQ then on (bit v 31) .ladderReqGo
  else if a = Reg.DEV_RESET_REQ then (if bit v 1 then .resetSystem else on (bit v 0) .resetCore)
  else if a = Reg.DEV_WDOG_KICK then .wdogKick
  else if a = Reg.HPORT_PERM_LOCK then on (bit v 0) .permLock
  else if a = Reg.CUE_RESUME then on (bit v 31) .cueResume
  else if a = Reg.SCORE_START then .scoreStart
  else if a = Reg.SCORE_STOP then .scoreStop
  else if a = Reg.KEYS_POP then .keysPop
  else if a = Reg.KEYS_COMMIT then on (bit v 0) .keysCommit
  else if a = Reg.SENSE_COMMIT then on (bit v 0) .senseCommit
  else if a = Reg.TUNE_REQ then .tuneReq
  else if a = Reg.JRNL_CMD then on (bit v 31) .jrnlCmd
  else if a = Reg.INTAKE_COMMIT then on (bit v 0) .dsiCommit
  else if a = Reg.INTAKE_OPEN then on (bit v 31) .openGo
  else if a = Reg.INTAKE_PRESENT then on (bit v 31) .presentGo
  else if a = Reg.SCAN_COMMIT then on (bit v 0) .scanCommit
  else if a = Reg.SCAN_REQ then (if bit v 0 then .scanWake else on (bit v 1) .scanSrEnter)
  else if a = Reg.PIPE_COMMIT then on (bit v 0) .pipeCommit
  else if a = Reg.STAVE_COMMIT then on (bit v 0) .staveCommit
  else if a = Reg.STAVE_REQ then
    (if bit v 0 then .staveRetrain else if bit v 1 then .staveCrack else on (bit v 2) .staveRecover)
  else if a = Reg.FACE_WALL_HI then .wallHi
  else if a = Reg.FACE_REQ then on (bit v 0) .faceRepaint
  else if a = Reg.FACE_COMMIT then on (bit v 0) .faceCommit
  else if a = Reg.ENS_COMMIT then on (bit v 0) .ensCommit
  else if a = Reg.ENS_DESK_TEST then .deskTest
  else if a = Reg.ENS_DESK_RETEST then .deskRetest
  else if a = Reg.ENS_ISSUE then on (bit v 31) .issueGo
  else .plain

/-- The row of a word to a table window: word 1 of a lease or ring, word 4 of a surface. -/
def tableRow (a : Nat) (v : Word) : WordRow :=
  if Reg.DEV_LEASE_W0 ≤ a ∧ a < Reg.DEV_LEASE_W0 + 0x100 ∧ a % 8 = 4 then
    (if bit v 16 then .leaseEnable else .leaseDisable)
  else if Reg.CUE_RING_W0 ≤ a ∧ a < Reg.CUE_RING_W0 + 0x1000 ∧ a % 16 = 4 then
    (if bit v 31 then .ringEnable else .ringDisable)
  else if Reg.INTAKE_SURF_W0 ≤ a ∧ a < Reg.INTAKE_SURF_W0 + 0x100 ∧ a % 32 = 16 then
    (if bit v 31 then .surfaceEnable else .surfaceDisable)
  else .plain

/-- The row of a buffered word. -/
def rowOf (w : BufWord) : WordRow :=
  match regionOf w.off with
  | .page => pageRow w.off w.val
  | .table => tableRow w.off w.val
  | .doorbell => .doorbell
  | _ => .plain

/-- A word written to a register page that starts no action, or to a table word (R4, R12). -/
def State.writeReg (s : State) (a : Nat) (v : Word) : State :=
  if a = Reg.DEV_LADDER_CFG then s.applyLadderCfg v
  else if a = Reg.DEV_LADDER_REQ then s.writeLadderReq v
  else if a = Reg.DEV_BURST_CFG then s.writeBurstCfg v
  else if a = Reg.DEV_PAD_PULL then s.writePadPull v
  else if a = Reg.DEV_WDOG_CFG then s.writeWdogCfg v
  else if a = Reg.HPORT_ERR_LOG then
    (if bit v 31 then (s.setFlag a 31 false).setFld a 23 16 0 else s)
  else if a = Reg.HPORT_PERM_LOCK then s
  else if a = Reg.SCORE_OVF then s.writeScoreOvf v
  else if a = Reg.SENSE_CHG_CFG then s.writeChgCfg v
  else if a = Reg.JRNL_CMD then s.writeJrnlCmd v
  else if a = Reg.SCAN_FRZ_STATUS then s.clearFrozen v
  else if a = Reg.TUNE_DELTA then s.writeTune 8 v
  else if a = Reg.TUNE_XT_ADJ then s.writeTune 9 v
  else if itemCfg 0 ≤ a ∧ a < itemCfg 8 then s.writeTune ((a - itemCfg 0) / 4) v
  else if Reg.BUS_I2C_CFG ≤ a ∧ a < Reg.BUS_MODE then s.writeBusCfg a v
  else if Reg.DEV_LEASE_W0 ≤ a ∧ a < Reg.DEV_LEASE_W0 + 0x100 ∧ a % 8 = 0 then s.writeLease0 ((a - Reg.DEV_LEASE_W0) / 8) v
  else if Reg.CUE_RING_W0 ≤ a ∧ a < Reg.CUE_RING_W0 + 0x1000 then
    s.writeRingPlain ((a - Reg.CUE_RING_W0) / 16) (a % 16 / 4) v
  else if Reg.CUE_ROUTE_0 ≤ a ∧ a < Reg.CUE_ROUTE_0 + 0x200 then (s.hostSet a v).deliverFlags
  else if Reg.INTAKE_SURF_W0 ≤ a ∧ a < Reg.INTAKE_SURF_W0 + 0x100 then
    s.writeSurf ((a - Reg.INTAKE_SURF_W0) / 32) (a % 32 / 4) v
  else if isShadow a then s.writeShadow a v
  else s.hostSet a v

/-- A word that starts no action applied (R4, R6, R12, R110): registers, table words, the Hall and AO memory. -/
def State.writePlain (s : State) (a : Nat) (v : Word) : State :=
  match regionOf a with
  | .page => s.writeReg a v
  | .table => s.writeReg a v
  | .hall => s.putHallBytes (a - 0x200000) (wordBytes v)
  | .atlas => s.setAo ((a - 0xA00000) / 4) (v &&& 0x3FFFFFFF#32)
  | .steps => s.setAo ((a - 0xA00000) / 4) v
  | .bufs => s.setAo ((a - 0xA00000) / 4) v
  | _ => s

/-- A write of CUE.RESUME with GO (R140). -/
def State.resumeWrite (s : State) (v : Word) : State :=
  let s1 := s.hostSet Reg.CUE_RESUME v
  if s1.ringHalted (field v 7 0) then s1.resumeRing (field v 7 0) (bit v 8) else s1

/-- A write of SCAN.REQ: WAKE, then SR_ENTER (R309, R310). -/
def State.scanReq (s : State) (v : Word) : State :=
  let s1 := if bit v 0 then s.wakeSr else s
  if bit v 1 then s1.askSr else s1

/-- A write of STAVE.REQ: RETRAIN, CRACK_CHECK and RECOVER, each where its bit is set (R356, R364, R366). -/
def State.staveReq (s : State) (v : Word) : State :=
  let s1 := if bit v 0 then s.staveRetrain else s
  let s2 := if bit v 1 then s1.staveCheck else s1
  if bit v 2 then s2.staveRecover else s2

/-- A buffered word applied. -/
def State.applyWord (s : State) (w : BufWord) : State :=
  let a := w.off
  let v := w.val
  match rowOf w with
  | .plain => s.writePlain a v
  | .doorbell => s.doorbell ((a - 0x10000) / 4) v
  | .modeExpert => s.modeExpert (pageOf a) w.client
  | .modeBasic => let t := s.modeBasic (pageOf a); if pageOf a = 13 then t.ensRun else t
  | .leaseEnable => s.writeLeaseOn ((a - Reg.DEV_LEASE_W0) / 8) v
  | .leaseDisable => s.writeLeaseOff ((a - Reg.DEV_LEASE_W0) / 8) v
  | .ladderReqGo => s.writeLadderReq v
  | .resetSystem => s.writeResetReq v
  | .resetCore => s.writeResetReq v
  | .wdogKick => s.writeWdogKick v
  | .permLock => s.lockPerms false
  | .ringEnable => s.writeRingOn ((a - Reg.CUE_RING_W0) / 16) v (w.client == 0)
  | .ringDisable => s.writeRingOff ((a - Reg.CUE_RING_W0) / 16) v
  | .cueResume => s.resumeWrite v
  | .scoreStart => s.startTasks (field v 15 0)
  | .scoreStop => (maskBits 16 (field v 15 0)).foldl State.stopTask s
  | .keysPop => s.writePop v
  | .keysCommit => s.goCommit 4
  | .senseCommit => s.senseGo v
  | .tuneReq => s.writeTuneReq v
  | .jrnlCmd => s.writeJrnlCmd v
  | .surfaceEnable => s.writeSurfOn ((a - Reg.INTAKE_SURF_W0) / 32) v
  | .surfaceDisable => s.writeSurfOff ((a - Reg.INTAKE_SURF_W0) / 32) v
  | .openGo => s.writeOpen v
  | .presentGo => s.writePresent v
  | .dsiCommit => s.intakeGo v
  | .scanWake => s.scanReq v
  | .scanSrEnter => s.scanReq v
  | .scanCommit => s.scanGo v
  | .pipeCommit => s.pipeGo v
  | .staveRetrain => s.staveReq v
  | .staveCrack => s.staveReq v
  | .staveRecover => s.staveReq v
  | .staveCommit => s.staveGo v
  | .wallHi => s.writeWallHi v
  | .faceRepaint => s.writeFaceReq v
  | .faceCommit => s.faceGo v
  | .ensCommit => s.ensGo v
  | .deskTest => s.writeDeskTest v
  | .deskRetest => s.writeDeskRetest v
  | .issueGo => s.issueGo v

/-- A port RESET has waited for this state: the buffer is empty (R103). -/
def State.resetting (s : State) : Bool := s.portA.resetDue && s.portA.wbuf.isEmpty

/-- A port RESET takes effect (R103): A_CFG returns to its reset value. -/
def State.resetPort (s : State) : State :=
  (s.setPort .a { s.portA with resetDue := false }).setReg Reg.HPORT_A_CFG (porWord Reg.HPORT_A_CFG)

/-- The next word of a port applied where it belongs to this row (R102); a port RESET that waited for it follows. -/
def State.takeWord (s : State) (p : Port) (r : WordRow) : State :=
  match s.nextWord p (fun w => rowOf w == r) with
  | some (w, t) => if t.resetting then (t.applyWord w).resetPort else t.applyWord w
  | none => s

/-! ### Reads (R98, R101, R107, R111, R114 to R116) -/

/-- The words of a port that are on their way: in the crossing unit, then in its buffer. -/
def State.onTheWay (s : State) (p : Port) : List BufWord :=
  (s.crossing.filter (·.port == p)).map (·.word) ++ (s.port p).wbuf

/-- The state as a read on a port forwards it: as it will be once the port's words on their way to one domain have taken effect
(R102). A reset among them would drop the words behind it and forwards nothing. -/
def State.ahead (s : State) (p : Port) (ao : Bool) : State :=
  ((s.onTheWay p).filter (fun w => isAoTarget w.off == ao && rowOf w != .resetSystem && rowOf w != .resetCore)).foldl
    State.applyWord s

/-- An AO register as a read forwards it (R102): RW and RW/S bits as they will be, W1C bits that a write on its way clears as cleared,
the others as they are. -/
def forwarded (a : Nat) (is will : Word) : Word :=
  match regSpec a with
  | some r => (is &&& ~~~(r.rw ||| r.rws ||| r.w1c)) ||| (will &&& (r.rw ||| r.rws)) ||| (is &&& will &&& r.w1c)
  | none => is

/-- What an accepted word of the alias reads as on a port (R102, R115). -/
def State.readWord (s : State) (p : Port) (a : Nat) : Word :=
  let t := s.ahead p (isAoTarget a)
  match regionOf a with
  | .page => if isAoTarget a then forwarded a (s.view a) (t.view a) else t.view a
  | .doorbell => t.view a
  | .table => if isAoTarget a then forwarded a (s.view a) (t.view a) else t.view a
  | .hall =>
    let x := a - 0x200000
    bytesWord (t.hallRaw x) (t.hallRaw (x + 1)) (t.hallRaw (x + 2)) (t.hallRaw (x + 3))
  | .journal => s.flashWord ((a - 0x800000) / 4)
  | .stage =>
    let i := (a - 0x900000) / 4
    if s.stageHeld.testBit (i / 8192) then Config.stageWord s.ens.stageGen i else 0#32
  | .none => 0xFFFFFFFF#32
  | _ => t.aoWord ((a - 0xA00000) / 4)

/-- One word of a read select, k-th in the burst (R101): the value sent, and the log of a refusal. It is checked, and its latency
judged, in the state in which it arrives (R110, R117). late tells that it is not ready when it is due. -/
def State.readOne (s : State) (p : Port) (client a f k : Nat) (late : Bool) : Word × State :=
  let cause := s.accessCause p client a false 0#32
  if cause ≠ 0 then (0xFFFFFFFF#32, s.refuse p false client a cause)
  else if regionOf a = .journal ∧ s.jrnl.busy.isSome then (0xFFFFFFFF#32, s.refuse p false client a 11)
  else if late && !s.covered_ p f k (regionOf a) then (0xFFFFFFFF#32, s.refuse p false client a 9)
  else (s.readWord p a, s)

/-! ### Selects -/

/-- A select that is no RESET_ENABLE disarms RESET (R103), and every host access restarts the idle timer (R59). -/
def State.selected (s : State) (p : Port) : State :=
  State.setPort { s with ladder := { s.ladder with idleCount := 0 } } p { s.port p with armed := false }

/-- A select on a port: nothing happens where the part does not answer (R61, R82). -/
def State.onSelect (s : State) (p : Port) (f : State → State) : State := if s.portsAnswer then f (s.selected p) else s

/-- Bytes that a select returned. -/
def State.send (s : State) (p : Port) (bs : List Byte) : State := s.setPort p { s.port p with sent := bs }

/-- The offset of word k of a burst: it wraps inside the alias (R101). -/
def burstOff (off k : Nat) : Nat := (off + 4 * k) % 2 ^ 24

/-- The words of a read select (R101). -/
def State.readBurst (s : State) (p : Port) (client off f : Nat) (late : List Nat) (n : Nat) : List Word × State :=
  (List.range n).foldl (fun acc k =>
    let r := acc.2.readOne p client (burstOff off k) f k (late.contains k)
    (acc.1 ++ [r.1], r.2)) ([], s)

/-- READ (R101): count bytes from an offset on, at a port clock in kHz; late names the words that the part has not ready in
time. An offset that is not aligned is refused in full. -/
def execHostRead (port : Port) (client : BitVec 8) (off : BitVec 24) (count clockKHz : Nat) (late : List Nat) (s : State) :
    Host.Outcome State Fault Refusal :=
  .next (s.onSelect port (fun s =>
    let c := client.toNat
    let a := off.toNat
    if a % 4 ≠ 0 then
      (s.refuse port false c a (s.accessCause port c a false 0#32)).send port (List.replicate count 0xFF#8)
    else
      let r := s.readBurst port c a clockKHz late ((count + 3) / 4)
      r.2.send port ((wordsBytes r.1).take count)))

/-- A full buffer applies its front word where that has a CORE target, which takes one word per cycle (R102, log entry 62). -/
def State.makeRoom (s : State) (p : Port) : State :=
  if 64 ≤ (s.port p).wbuf.length then
    match s.frontWord p (fun _ => true) with
    | some (w, t) => t.applyWord w
    | none => s
  else s

/-- An accepted word enters its port's buffer, and the crossing unit where that has room; a word that finds the buffer full is
dropped and logged with cause OVERRUN (R102). -/
def State.buffer (s : State) (p : Port) (w : BufWord) : State :=
  if 64 ≤ (s.port p).wbuf.length then s.refuse p true w.client w.off 10
  else State.crossAll (s.setPort p { s.port p with wbuf := (s.port p).wbuf ++ [w] })

/-- One word of a write select (R101, R102, R111). -/
def State.writeOne (s : State) (p : Port) (client a : Nat) (v : Word) : State :=
  let cause := s.accessCause p client a true v
  if cause ≠ 0 then s.refuse p true client a cause
  else if regionOf a = .page ∧ (regSpec a).isNone then s
  else (s.makeRoom p).buffer p { client := client % 64, off := a, val := v }

/-- WRITE (R101, R102): whole words, and the 1 to 3 bytes of a partial last word, which are dropped. -/
def execHostWrite (port : Port) (client : BitVec 8) (off : BitVec 24) (ws : List Word) (tail : Nat) (s : State) :
    Host.Outcome State Fault Refusal :=
  .next (s.onSelect port (fun s =>
    let c := client.toNat
    let a := off.toNat
    if a % 4 ≠ 0 then s.refuse port true c a (s.accessCause port c a true (ws.headD 0#32))
    else
      let s1 := (ws.zipIdx).foldl (fun s e => s.writeOne port c (burstOff a e.2) e.1) s
      if tail % 4 = 0 then s1 else s1.refuse port true c (burstOff a ws.length) 3))

/-- The bytes of DEV.ID, lowest first, repeated (Table 5-2). -/
def idBytes (n : Nat) : List Byte := (List.range n).map (fun i => [0x01#8, 0x0A#8, 0x40#8, 0x77#8].getD (i % 4) 0#8)

/-- READ_ID (R96, R104): its address is neither checked nor logged. -/
def execReadId (port : Port) (count : Nat) (s : State) : Host.Outcome State Fault Refusal :=
  .next (s.onSelect port (fun s => s.send port (idBytes count)))

/-- READ_STATUS of port A: BUSY in bit 0, bit 1 is 1 (Table 5-2). -/
def execReadStatus (count : Nat) (s : State) : Host.Outcome State Fault Refusal :=
  .next (s.onSelect .a (fun s => s.send .a (List.replicate count (if s.portA.wbuf.isEmpty then 2#8 else 3#8))))

/-- WRITE_ENABLE: accepted with no effect (Table 5-2). -/
def execWriteEnable (s : State) : Host.Outcome State Fault Refusal := .next (s.onSelect .a (fun s => s))

/-- RESET_ENABLE arms RESET for the next select (Table 5-2). -/
def execResetEnable (s : State) : Host.Outcome State Fault Refusal :=
  .next (s.onSelect .a (fun s => s.setPort .a { s.portA with armed := true }))

/-- RESET (R103): after RESET_ENABLE alone; A_CFG returns to its reset value once the write buffer is empty. -/
def execPortReset (s : State) : Host.Outcome State Fault Refusal :=
  .next (s.onSelect .a (fun t =>
    if s.portA.armed then
      (if s.portA.wbuf.isEmpty then t.resetPort else t.setPort .a { t.portA with resetDue := true })
    else t))

/-- What a select asks for (Table 5-2, R104). -/
inductive SelectKind where
  | read | write | readId | readStatus | writeEnable | resetEnable | reset
  deriving DecidableEq, Repr

/-- The command of a port A select by the bytes of its first clock, rising edge first (Table 5-2): the second byte is the complement of
the first (R97). -/
def selectA (rise fall : Byte) : Option SelectKind :=
  if fall ≠ ~~~rise then none
  else match rise with
    | 0xEE#8 => some .read
    | 0x12#8 => some .write
    | 0x9F#8 => some .readId
    | 0x05#8 => some .readStatus
    | 0x06#8 => some .writeEnable
    | 0x66#8 => some .resetEnable
    | 0x99#8 => some .reset
    | _ => none

/-- The command of a port B frame by its command byte (R104). -/
def selectB (code : Byte) : Option SelectKind :=
  match code with
  | 0x02#8 => some .write
  | 0x0B#8 => some .read
  | 0x9F#8 => some .readId
  | _ => none

/-- The command of a select on either port; port B has no second byte. -/
def selectOf (p : Port) (code second : Byte) : Option SelectKind :=
  match p with
  | .a => selectA code second
  | .b => selectB code

/-- A select whose command bytes spell no command (R97, R104): logged with cause BAD_CMD, CLIENT, DIR and ERR_ADDR 0. -/
def execBadCommandSelect (bytes : SelectBytes) (s : State) : Host.Outcome State Fault Refusal :=
  .next (if (selectOf bytes.port bytes.code bytes.second).isNone then
      s.onSelect bytes.port (fun s => s.refuse bytes.port false 0 0 8) else s)

/-! ### Rows of buffered words -/

/-- A word without a row of its own (R4). -/
def execRegisterWrite (port : Port) (s : State) : Host.Outcome State Fault Refusal := .next (s.takeWord port .plain)

/-- A buffered write of MODE.CTRL = 1 (R32). -/
def execModeExpert (port : Port) (s : State) : Host.Outcome State Fault Refusal := .next (s.takeWord port .modeExpert)

/-- A buffered write of MODE.CTRL = 0 (R33). -/
def execModeBasic (port : Port) (s : State) : Host.Outcome State Fault Refusal := .next (s.takeWord port .modeBasic)

/-- A buffered write of LADDER_REQ with GO (R54). -/
def execLadderReqGo (port : Port) (s : State) : Host.Outcome State Fault Refusal := .next (s.takeWord port .ladderReqGo)

/-- A buffered write of word 1 of a lease with EN = 1 (R17). -/
def execLeaseEnable (port : Port) (s : State) : Host.Outcome State Fault Refusal := .next (s.takeWord port .leaseEnable)

/-- A buffered write of word 1 of a lease with EN = 0 (R17, R19). -/
def execLeaseDisable (port : Port) (s : State) : Host.Outcome State Fault Refusal := .next (s.takeWord port .leaseDisable)

/-- A buffered write of RESET_REQ with SYSTEM (R86). -/
def execResetReqSystem (port : Port) (s : State) : Host.Outcome State Fault Refusal := .next (s.takeWord port .resetSystem)

/-- A buffered write of RESET_REQ with CORE alone (R86, R87). -/
def execResetReqCore (port : Port) (s : State) : Host.Outcome State Fault Refusal := .next (s.takeWord port .resetCore)

/-- A buffered write of WDOG_KICK (R91). -/
def execWdogKickWrite (port : Port) (s : State) : Host.Outcome State Fault Refusal := .next (s.takeWord port .wdogKick)

/-- A buffered write of PERM_LOCK with LOCK = 1 (R109). -/
def execPermLockWrite (port : Port) (s : State) : Host.Outcome State Fault Refusal := .next (s.takeWord port .permLock)

/-- A buffered write of a doorbell (R122). -/
def execDoorbellWrite (port : Port) (s : State) : Host.Outcome State Fault Refusal := .next (s.takeWord port .doorbell)

/-- A buffered write of word 1 of a ring with EN = 1 (R119). -/
def execRingEnable (port : Port) (s : State) : Host.Outcome State Fault Refusal := .next (s.takeWord port .ringEnable)

/-- A buffered write of word 1 of a ring with EN = 0 (R121). -/
def execRingDisable (port : Port) (s : State) : Host.Outcome State Fault Refusal := .next (s.takeWord port .ringDisable)

/-- A buffered write of RESUME with GO (R140). -/
def execCueResumeWrite (port : Port) (s : State) : Host.Outcome State Fault Refusal := .next (s.takeWord port .cueResume)

/-- A buffered write of SCORE.START (R142). -/
def execScoreStartWrite (port : Port) (s : State) : Host.Outcome State Fault Refusal := .next (s.takeWord port .scoreStart)

/-- A buffered write of SCORE.STOP (R142). -/
def execScoreStopWrite (port : Port) (s : State) : Host.Outcome State Fault Refusal := .next (s.takeWord port .scoreStop)

/-- A buffered write of KEYS.POP (R177). -/
def execKeysPop (port : Port) (s : State) : Host.Outcome State Fault Refusal := .next (s.takeWord port .keysPop)

/-- A buffered write of KEYS.COMMIT with GO (R185). -/
def execKeysCommitGo (port : Port) (s : State) : Host.Outcome State Fault Refusal := .next (s.takeWord port .keysCommit)

/-- A buffered write of SENSE.COMMIT with GO (R210). -/
def execSenseCommitGo (port : Port) (s : State) : Host.Outcome State Fault Refusal := .next (s.takeWord port .senseCommit)

/-- A buffered write of TUNE.REQ (R215). -/
def execTuneReqWrite (port : Port) (s : State) : Host.Outcome State Fault Refusal := .next (s.takeWord port .tuneReq)

/-- A buffered write of JRNL.CMD with GO (R270). -/
def execJrnlCmdGo (port : Port) (s : State) : Host.Outcome State Fault Refusal := .next (s.takeWord port .jrnlCmd)

/-- A buffered write of word 4 of a surface with EN = 1 (R287). -/
def execSurfaceEnable (port : Port) (s : State) : Host.Outcome State Fault Refusal := .next (s.takeWord port .surfaceEnable)

/-- A buffered write of word 4 of a surface with EN = 0 (R287). -/
def execSurfaceDisable (port : Port) (s : State) : Host.Outcome State Fault Refusal := .next (s.takeWord port .surfaceDisable)

/-- A buffered write of INTAKE.OPEN with GO (R288). -/
def execOpenGo (port : Port) (s : State) : Host.Outcome State Fault Refusal := .next (s.takeWord port .openGo)

/-- A buffered write of INTAKE.PRESENT with GO (R290). -/
def execPresentGo (port : Port) (s : State) : Host.Outcome State Fault Refusal := .next (s.takeWord port .presentGo)

/-- A buffered write of INTAKE.COMMIT with GO (R274). -/
def execDsiCommitGo (port : Port) (s : State) : Host.Outcome State Fault Refusal := .next (s.takeWord port .dsiCommit)

/-- A buffered write of SCAN.REQ with WAKE (R310). -/
def execScanReqWake (port : Port) (s : State) : Host.Outcome State Fault Refusal := .next (s.takeWord port .scanWake)

/-- A buffered write of SCAN.REQ with SR_ENTER alone (R309). -/
def execScanReqSrEnter (port : Port) (s : State) : Host.Outcome State Fault Refusal := .next (s.takeWord port .scanSrEnter)

/-- A buffered write of SCAN.COMMIT with GO (R303). -/
def execScanCommitGo (port : Port) (s : State) : Host.Outcome State Fault Refusal := .next (s.takeWord port .scanCommit)

/-- A buffered write of PIPE.COMMIT with GO (R339). -/
def execPipeCommitGo (port : Port) (s : State) : Host.Outcome State Fault Refusal := .next (s.takeWord port .pipeCommit)

/-- A buffered write of STAVE.REQ with RETRAIN (R356). -/
def execStaveReqRetrain (port : Port) (s : State) : Host.Outcome State Fault Refusal := .next (s.takeWord port .staveRetrain)

/-- A buffered write of STAVE.REQ with CRACK_CHECK and without RETRAIN (R366). -/
def execStaveReqCrackCheck (port : Port) (s : State) : Host.Outcome State Fault Refusal := .next (s.takeWord port .staveCrack)

/-- A buffered write of STAVE.REQ with RECOVER alone (R364). -/
def execStaveReqRecover (port : Port) (s : State) : Host.Outcome State Fault Refusal := .next (s.takeWord port .staveRecover)

/-- A buffered write of STAVE.COMMIT with GO (R369). -/
def execStaveCommitGo (port : Port) (s : State) : Host.Outcome State Fault Refusal := .next (s.takeWord port .staveCommit)

/-- A buffered write of FACE.WALL_HI (R375). -/
def execWallHiWrite (port : Port) (s : State) : Host.Outcome State Fault Refusal := .next (s.takeWord port .wallHi)

/-- A buffered write of FACE.REQ with REPAINT (R376). -/
def execFaceRepaintWrite (port : Port) (s : State) : Host.Outcome State Fault Refusal := .next (s.takeWord port .faceRepaint)

/-- A buffered write of FACE.COMMIT with GO (R386). -/
def execFaceCommitGo (port : Port) (s : State) : Host.Outcome State Fault Refusal := .next (s.takeWord port .faceCommit)

/-- A buffered write of ENS.COMMIT with GO (R427). -/
def execEnsCommitGo (port : Port) (s : State) : Host.Outcome State Fault Refusal := .next (s.takeWord port .ensCommit)

/-- A buffered write of ENS.DESK_TEST (R421). -/
def execDeskTestWrite (port : Port) (s : State) : Host.Outcome State Fault Refusal := .next (s.takeWord port .deskTest)

/-- A buffered write of ENS.DESK_RETEST (R421). -/
def execDeskRetestWrite (port : Port) (s : State) : Host.Outcome State Fault Refusal := .next (s.takeWord port .deskRetest)

/-- A buffered write of ENS.ISSUE with GO (R416). -/
def execIssueGo (port : Port) (s : State) : Host.Outcome State Fault Refusal := .next (s.takeWord port .issueGo)

/-! ### The bus turnaround of DSI (R284) -/

/-- The byte that get_power_mode returns (Table 12-3). -/
def State.powerMode (s : State) : Byte :=
  BitVec.ofNat 8 (8 + (if s.flag Reg.INTAKE_STATUS 4 then 16 else 0) + (if s.flag Reg.INTAKE_STATUS 3 then 4 else 0))

/-- The byte that get_pixel_format returns for a channel's surface (Table 12-3). -/
def State.formatByte (s : State) (vc : Nat) : Byte :=
  match s.surfFmt (s.chanSurf vc) with
  | 1 => 0x77#8
  | 2 => 0x55#8
  | _ => 0x00#8

/-- The acknowledge-and-error-report with the bits set since the last one, or the acknowledge trigger (R284). -/
def State.sendReport (s : State) : State :=
  s.setIntake { s.intake with
    reply := if s.intake.reportBits = 0 then .acknowledge else .report s.intake.reportBits, reportBits := 0, readReq := none }

/-- A read response, truncated to the maximum return packet size (R284). -/
def State.sendData (s : State) (generic : Bool) (bs : List Byte) : State :=
  s.setIntake { s.intake with reply := .data generic (bs.take s.intake.maxReturn), readReq := none }

/-- The host turns the bus around (R276, R284): two-byte parameters go most significant byte first; line is the number of lines
that scan-out has started in the current frame. -/
def execBusTurnaround (line : Nat) (s : State) : Host.Outcome State Fault Refusal :=
  .next (if !s.dsiOn then s
    else match s.intake.readReq with
      | none => s.sendReport
      | some .powerMode => s.sendData false [s.powerMode]
      | some (.pixelFormat vc) => s.sendData false [s.formatByte vc]
      | some .scanline =>
        let n := if s.scan.running && s.scan.frameOn then min 0xFFFF (min line s.vActive) else 0
        s.sendData false [BitVec.ofNat 8 (n / 256), BitVec.ofNat 8 n]
      | some (.register off) =>
        if off % 4 = 0 ∧ off < 0xF000 ∧ (regSpec off).isSome then s.sendData true (wordBytes (s.view off))
        else (s.dsiFault 13).sendReport
      | some .bad => (s.dsiFault 13).sendReport)

end Sys2Proof.Machine
end

