-- ==== Sys2Proof/Machine/Dispatch.lean ====
section
/-!
DEFINITION. The command table: one arm per command, each calling its own meaning.
-/

namespace Sys2Proof.Machine

/-- The effect of a command on everything but the queue. -/
def exec (i : Instr) (s : State) : Host.Outcome State Fault Refusal :=
  match i with
  | .por => Sys2Proof.Machine.execPor s
  | .startSequence vbat corrected factBad custBad => Sys2Proof.Machine.execStartSequence vbat corrected factBad custBad s
  | .supplyStartTimeout => Sys2Proof.Machine.execSupplyStartTimeout s
  | .bootBurst pulses => Sys2Proof.Machine.execBootBurst pulses s
  | .hostRelease => Sys2Proof.Machine.execHostRelease s
  | .bootRailStep => Sys2Proof.Machine.execBootRailStep s
  | .bootRailPgTimeout => Sys2Proof.Machine.execBootRailPgTimeout s
  | .crystalQualified => Sys2Proof.Machine.execCrystalQualified s
  | .crystalLost => Sys2Proof.Machine.execCrystalLost s
  | .pllLock => Sys2Proof.Machine.execPllLock s
  | .resetNLow => Sys2Proof.Machine.execResetNLow s
  | .systemResetEnd => Sys2Proof.Machine.execSystemResetEnd s
  | .coreResetAfterMove => Sys2Proof.Machine.execCoreResetAfterMove s
  | .coreResetEnd => Sys2Proof.Machine.execCoreResetEnd s
  | .reset ring => Sys2Proof.Machine.execReset ring s
  | .resetReqSystem port => Sys2Proof.Machine.execResetReqSystem port s
  | .resetReqCore port => Sys2Proof.Machine.execResetReqCore port s
  | .wdogConfig ring => Sys2Proof.Machine.execWdogConfig ring s
  | .wdogKick ring => Sys2Proof.Machine.execWdogKick ring s
  | .wdogKickWrite port => Sys2Proof.Machine.execWdogKickWrite port s
  | .wdogEarly => Sys2Proof.Machine.execWdogEarly s
  | .wdogExpiry => Sys2Proof.Machine.execWdogExpiry s
  | .powerKeyHold vbat => Sys2Proof.Machine.execPowerKeyHold vbat s
  | .vbatRise vbat => Sys2Proof.Machine.execVbatRise vbat s
  | .ladderSet ring => Sys2Proof.Machine.execLadderSet ring s
  | .ladderReqGo port => Sys2Proof.Machine.execLadderReqGo port s
  | .ladderConfig ring => Sys2Proof.Machine.execLadderConfig ring s
  | .ladderTune ring => Sys2Proof.Machine.execLadderTune ring s
  | .alarmSet ring => Sys2Proof.Machine.execAlarmSet ring s
  | .idleTimer => Sys2Proof.Machine.execIdleTimer s
  | .descentJobsIdle => Sys2Proof.Machine.execDescentJobsIdle s
  | .descentFrameStep => Sys2Proof.Machine.execDescentFrameStep s
  | .descentPanelStep => Sys2Proof.Machine.execDescentPanelStep s
  | .descentCoreStop => Sys2Proof.Machine.execDescentCoreStop s
  | .descentFermataEntry => Sys2Proof.Machine.execDescentFermataEntry s
  | .task1HaltedTacet => Sys2Proof.Machine.execTask1HaltedTacet s
  | .task1Timeout => Sys2Proof.Machine.execTask1Timeout s
  | .hostSelectWake port => Sys2Proof.Machine.execHostSelectWake port s
  | .dsiLaneWake => Sys2Proof.Machine.execDsiLaneWake s
  | .ascentCoreStart => Sys2Proof.Machine.execAscentCoreStart s
  | .ascentPllSwitch => Sys2Proof.Machine.execAscentPllSwitch s
  | .burstStart => Sys2Proof.Machine.execBurstStart s
  | .burstEnd => Sys2Proof.Machine.execBurstEnd s
  | .tokenRefill => Sys2Proof.Machine.execTokenRefill s
  | .vcoreConfirmed mv => Sys2Proof.Machine.execVcoreConfirmed mv s
  | .vcoreTimeout => Sys2Proof.Machine.execVcoreTimeout s
  | .alarmMatch => Sys2Proof.Machine.execAlarmMatch s
  | .hallLease ring => Sys2Proof.Machine.execHallLease ring s
  | .leaseEnable port => Sys2Proof.Machine.execLeaseEnable port s
  | .leaseDisable port => Sys2Proof.Machine.execLeaseDisable port s
  | .padSet ring => Sys2Proof.Machine.execPadSet ring s
  | .modeExpert port => Sys2Proof.Machine.execModeExpert port s
  | .modeExpertTakeEffect page => Sys2Proof.Machine.execModeExpertTakeEffect page s
  | .modeBasic port => Sys2Proof.Machine.execModeBasic port s
  | .frameBoundary cycles => Sys2Proof.Machine.execFrameBoundary cycles s
  | .syntheticFrameBoundary => Sys2Proof.Machine.execSyntheticFrameBoundary s
  | .adcIdleBoundary => Sys2Proof.Machine.execAdcIdleBoundary s
  | .linkIdleBoundary => Sys2Proof.Machine.execLinkIdleBoundary s
  | .boundaryWaitTimeout ring => Sys2Proof.Machine.execBoundaryWaitTimeout ring s
  | .hostRead port client off count clockKHz late => Sys2Proof.Machine.execHostRead port client off count clockKHz late s
  | .hostWrite port client off ws tail => Sys2Proof.Machine.execHostWrite port client off ws tail s
  | .registerWrite port => Sys2Proof.Machine.execRegisterWrite port s
  | .readId port count => Sys2Proof.Machine.execReadId port count s
  | .readStatus count => Sys2Proof.Machine.execReadStatus count s
  | .writeEnable => Sys2Proof.Machine.execWriteEnable s
  | .resetEnable => Sys2Proof.Machine.execResetEnable s
  | .portReset => Sys2Proof.Machine.execPortReset s
  | .portConfig ring => Sys2Proof.Machine.execPortConfig ring s
  | .permSet ring => Sys2Proof.Machine.execPermSet ring s
  | .permLock ring => Sys2Proof.Machine.execPermLock ring s
  | .permLockWrite port => Sys2Proof.Machine.execPermLockWrite port s
  | .permAutoLock => Sys2Proof.Machine.execPermAutoLock s
  | .errClear ring => Sys2Proof.Machine.execErrClear ring s
  | .doorbellWrite port => Sys2Proof.Machine.execDoorbellWrite port s
  | .ringEnable port => Sys2Proof.Machine.execRingEnable port s
  | .ringFillDone ring => Sys2Proof.Machine.execRingFillDone ring s
  | .ringDisable port => Sys2Proof.Machine.execRingDisable port s
  | .ringSetup ring => Sys2Proof.Machine.execRingSetup ring s
  | .ringStop ring => Sys2Proof.Machine.execRingStop ring s
  | .nop ring => Sys2Proof.Machine.execNop ring s
  | .echo ring => Sys2Proof.Machine.execEcho ring s
  | .fence ring => Sys2Proof.Machine.execFence ring s
  | .fenceComplete ring => Sys2Proof.Machine.execFenceComplete ring s
  | .fenceTimeout ring => Sys2Proof.Machine.execFenceTimeout ring s
  | .resume ring => Sys2Proof.Machine.execResume ring s
  | .cueResumeWrite port => Sys2Proof.Machine.execCueResumeWrite port s
  | .eventRoute ring => Sys2Proof.Machine.execEventRoute ring s
  | .irqAck ring => Sys2Proof.Machine.execIrqAck ring s
  | .entryFetch ring => Sys2Proof.Machine.execEntryFetch ring s
  | .entryWrite ring => Sys2Proof.Machine.execEntryWrite ring s
  | .messageSend ring => Sys2Proof.Machine.execMessageSend ring s
  | .coalTicksExpiry ring => Sys2Proof.Machine.execCoalTicksExpiry ring s
  | .taskStart ring => Sys2Proof.Machine.execTaskStart ring s
  | .taskHalt ring => Sys2Proof.Machine.execTaskHalt ring s
  | .scoreStartWrite port => Sys2Proof.Machine.execScoreStartWrite port s
  | .scoreStopWrite port => Sys2Proof.Machine.execScoreStopWrite port s
  | .bufWrite ring => Sys2Proof.Machine.execBufWrite ring s
  | .bufRead ring => Sys2Proof.Machine.execBufRead ring s
  | .busConfig ring => Sys2Proof.Machine.execBusConfig ring s
  | .scoreLoad ring => Sys2Proof.Machine.execScoreLoad ring s
  | .haltStep task => Sys2Proof.Machine.execHaltStep task s
  | .setPin task => Sys2Proof.Machine.execSetPin task s
  | .waitPin task level => Sys2Proof.Machine.execWaitPin task level s
  | .waitTicks task => Sys2Proof.Machine.execWaitTicks task s
  | .waitInput task => Sys2Proof.Machine.execWaitInput task s
  | .clearInput task => Sys2Proof.Machine.execClearInput task s
  | .i2cWrite task => Sys2Proof.Machine.execI2cWrite task s
  | .i2cRead task => Sys2Proof.Machine.execI2cRead task s
  | .i2cReadToRing task => Sys2Proof.Machine.execI2cReadToRing task s
  | .spiXfer task => Sys2Proof.Machine.execSpiXfer task s
  | .spiXferToRing task => Sys2Proof.Machine.execSpiXferToRing task s
  | .raiseEvent task => Sys2Proof.Machine.execRaiseEvent task s
  | .postCue task => Sys2Proof.Machine.execPostCue task s
  | .branchIf task level => Sys2Proof.Machine.execBranchIf task level s
  | .callStep task => Sys2Proof.Machine.execCallStep task s
  | .returnStep task => Sys2Proof.Machine.execReturnStep task s
  | .loopStep task => Sys2Proof.Machine.execLoopStep task s
  | .requestState task => Sys2Proof.Machine.execRequestState task s
  | .scoreWaitTimeout sample => Sys2Proof.Machine.execScoreWaitTimeout sample s
  | .busTransferEnd bus outcome recovered data => Sys2Proof.Machine.execBusTransferEnd bus outcome recovered data s
  | .busStepTimeout task => Sys2Proof.Machine.execBusStepTimeout task s
  | .sintEdge input rising => Sys2Proof.Machine.execSintEdge input rising s
  | .scanStart => Sys2Proof.Machine.execScanStart s
  | .scanEnd levels => Sys2Proof.Machine.execScanEnd levels s
  | .leakMeasurement levels => Sys2Proof.Machine.execLeakMeasurement levels s
  | .encoderTransition enc a b => Sys2Proof.Machine.execEncoderTransition enc a b s
  | .pulseEdge input rising => Sys2Proof.Machine.execPulseEdge input rising s
  | .pulseStopped input => Sys2Proof.Machine.execPulseStopped input s
  | .timebase => Sys2Proof.Machine.execTimebase s
  | .keysPop port => Sys2Proof.Machine.execKeysPop port s
  | .keyDrain => Sys2Proof.Machine.execKeyDrain s
  | .keysLoad ring => Sys2Proof.Machine.execKeysLoad ring s
  | .keysSet ring => Sys2Proof.Machine.execKeysSet ring s
  | .keysRead ring => Sys2Proof.Machine.execKeysRead ring s
  | .keysDrain ring => Sys2Proof.Machine.execKeysDrain ring s
  | .keysUnmask ring => Sys2Proof.Machine.execKeysUnmask ring s
  | .pulseTotalSet ring => Sys2Proof.Machine.execPulseTotalSet ring s
  | .keysCommitGo port => Sys2Proof.Machine.execKeysCommitGo port s
  | .roundStart => Sys2Proof.Machine.execRoundStart s
  | .conversion raw => Sys2Proof.Machine.execConversion raw s
  | .ibatSample total => Sys2Proof.Machine.execIbatSample total s
  | .pmCountEnd counts => Sys2Proof.Machine.execPmCountEnd counts s
  | .railClassChange rail mv => Sys2Proof.Machine.execRailClassChange rail mv s
  | .supplyLoss => Sys2Proof.Machine.execSupplyLoss s
  | .chgStatChange level => Sys2Proof.Machine.execChgStatChange level s
  | .senseRead ring => Sys2Proof.Machine.execSenseRead ring s
  | .senseSet ring => Sys2Proof.Machine.execSenseSet ring s
  | .slotSet ring => Sys2Proof.Machine.execSlotSet ring s
  | .ntcTable ring => Sys2Proof.Machine.execNtcTable ring s
  | .ccSet ring => Sys2Proof.Machine.execCcSet ring s
  | .chgSet ring => Sys2Proof.Machine.execChgSet ring s
  | .senseCommitGo port => Sys2Proof.Machine.execSenseCommitGo port s
  | .tuneRun ring => Sys2Proof.Machine.execTuneRun ring s
  | .tuneSet ring => Sys2Proof.Machine.execTuneSet ring s
  | .tuneRead ring => Sys2Proof.Machine.execTuneRead ring s
  | .tuneLoad ring => Sys2Proof.Machine.execTuneLoad ring s
  | .tuneRebase ring => Sys2Proof.Machine.execTuneRebase ring s
  | .tuneReqWrite port => Sys2Proof.Machine.execTuneReqWrite port s
  | .tunePeriodTrigger item => Sys2Proof.Machine.execTunePeriodTrigger item s
  | .tuneRunEnd item vals => Sys2Proof.Machine.execTuneRunEnd item vals s
  | .tuneTimeout item => Sys2Proof.Machine.execTuneTimeout item s
  | .oneSecondBoundary => Sys2Proof.Machine.execOneSecondBoundary s
  | .fuseStage ring => Sys2Proof.Machine.execFuseStage ring s
  | .fuseProgram ring => Sys2Proof.Machine.execFuseProgram ring s
  | .fuseProgramDone failed => Sys2Proof.Machine.execFuseProgramDone failed s
  | .jrnlAppend ring => Sys2Proof.Machine.execJrnlAppend ring s
  | .jrnlRead ring => Sys2Proof.Machine.execJrnlRead ring s
  | .jrnlFind ring => Sys2Proof.Machine.execJrnlFind ring s
  | .jrnlDelete ring => Sys2Proof.Machine.execJrnlDelete ring s
  | .jrnlCompact ring => Sys2Proof.Machine.execJrnlCompact ring s
  | .counterSetup ring => Sys2Proof.Machine.execCounterSetup ring s
  | .counterAdd ring => Sys2Proof.Machine.execCounterAdd ring s
  | .counterRead ring => Sys2Proof.Machine.execCounterRead ring s
  | .counterFlush ring => Sys2Proof.Machine.execCounterFlush ring s
  | .jrnlCmdGo port => Sys2Proof.Machine.execJrnlCmdGo port s
  | .wordProgramDone verified begun => Sys2Proof.Machine.execWordProgramDone verified begun s
  | .eraseStart => Sys2Proof.Machine.execEraseStart s
  | .erasePulseDone blank => Sys2Proof.Machine.execErasePulseDone blank s
  | .counterProgram begun => Sys2Proof.Machine.execCounterProgram begun s
  | .counterFlushTimer => Sys2Proof.Machine.execCounterFlushTimer s
  | .counterRollover => Sys2Proof.Machine.execCounterRollover s
  | .compaction => Sys2Proof.Machine.execCompaction s
  | .vSyncStart => Sys2Proof.Machine.execVSyncStart s
  | .hSyncStart => Sys2Proof.Machine.execHSyncStart s
  | .syncEnd => Sys2Proof.Machine.execSyncEnd s
  | .endOfTransmission => Sys2Proof.Machine.execEndOfTransmission s
  | .nullBlanking vc => Sys2Proof.Machine.execNullBlanking vc s
  | .colorModeOff vc => Sys2Proof.Machine.execColorModeOff vc s
  | .colorModeOn vc => Sys2Proof.Machine.execColorModeOn vc s
  | .shutDown vc => Sys2Proof.Machine.execShutDown vc s
  | .turnOnPeripheral vc => Sys2Proof.Machine.execTurnOnPeripheral vc s
  | .genericShortWrite vc => Sys2Proof.Machine.execGenericShortWrite vc s
  | .genericRead vc params => Sys2Proof.Machine.execGenericRead vc params s
  | .setMaximumReturnPacketSize vc size => Sys2Proof.Machine.execSetMaximumReturnPacketSize vc size s
  | .genericLongWrite vc payload => Sys2Proof.Machine.execGenericLongWrite vc payload s
  | .packedPixelStream fmt pixels => Sys2Proof.Machine.execPackedPixelStream fmt pixels s
  | .dcsNop vc => Sys2Proof.Machine.execDcsNop vc s
  | .softReset vc => Sys2Proof.Machine.execSoftReset vc s
  | .getPowerMode vc => Sys2Proof.Machine.execGetPowerMode vc s
  | .getPixelFormat vc => Sys2Proof.Machine.execGetPixelFormat vc s
  | .enterSleepMode vc => Sys2Proof.Machine.execEnterSleepMode vc s
  | .exitSleepMode vc => Sys2Proof.Machine.execExitSleepMode vc s
  | .setDisplayOff vc => Sys2Proof.Machine.execSetDisplayOff vc s
  | .setDisplayOn vc => Sys2Proof.Machine.execSetDisplayOn vc s
  | .setColumnAddress vc sc ec => Sys2Proof.Machine.execSetColumnAddress vc sc ec s
  | .setPageAddress vc sp ep => Sys2Proof.Machine.execSetPageAddress vc sp ep s
  | .writeMemoryStart vc data => Sys2Proof.Machine.execWriteMemoryStart vc data s
  | .writeMemoryContinue vc data => Sys2Proof.Machine.execWriteMemoryContinue vc data s
  | .setTearOff vc => Sys2Proof.Machine.execSetTearOff vc s
  | .setTearOn vc => Sys2Proof.Machine.execSetTearOn vc s
  | .setPixelFormat vc code => Sys2Proof.Machine.execSetPixelFormat vc code s
  | .setTearScanline vc => Sys2Proof.Machine.execSetTearScanline vc s
  | .getScanline vc => Sys2Proof.Machine.execGetScanline vc s
  | .dsiPresent vc full auto x0 y0 x1 y1 tag => Sys2Proof.Machine.execDsiPresent vc full auto x0 y0 x1 y1 tag s
  | .dsiFence vc tag => Sys2Proof.Machine.execDsiFence vc tag s
  | .dsiFenceComplete => Sys2Proof.Machine.execDsiFenceComplete s
  | .setRegionHint vc x0 y0 x1 y1 => Sys2Proof.Machine.execSetRegionHint vc x0 y0 x1 y1 s
  | .busTurnaround line => Sys2Proof.Machine.execBusTurnaround line s
  | .ulpsEntry => Sys2Proof.Machine.execUlpsEntry s
  | .ulpsExit => Sys2Proof.Machine.execUlpsExit s
  | .teRise => Sys2Proof.Machine.execTeRise s
  | .teFall => Sys2Proof.Machine.execTeFall s
  | .surfaceSet ring => Sys2Proof.Machine.execSurfaceSet ring s
  | .surfaceStop ring => Sys2Proof.Machine.execSurfaceStop ring s
  | .surfaceEnable port => Sys2Proof.Machine.execSurfaceEnable port s
  | .surfaceDisable port => Sys2Proof.Machine.execSurfaceDisable port s
  | .surfaceOpen ring => Sys2Proof.Machine.execSurfaceOpen ring s
  | .present ring => Sys2Proof.Machine.execPresent ring s
  | .openGo port => Sys2Proof.Machine.execOpenGo port s
  | .presentGo port => Sys2Proof.Machine.execPresentGo port s
  | .intakeDsi ring => Sys2Proof.Machine.execIntakeDsi ring s
  | .surfaceRead ring => Sys2Proof.Machine.execSurfaceRead ring s
  | .dsiCommitGo port => Sys2Proof.Machine.execDsiCommitGo port s
  | .copyForwardDone => Sys2Proof.Machine.execCopyForwardDone s
  | .frameStart late underrun => Sys2Proof.Machine.execFrameStart late underrun s
  | .statsPublish => Sys2Proof.Machine.execStatsPublish s
  | .transitionSetInForce => Sys2Proof.Machine.execTransitionSetInForce s
  | .transitionComplete late underrun => Sys2Proof.Machine.execTransitionComplete late underrun s
  | .srResume late underrun => Sys2Proof.Machine.execSrResume late underrun s
  | .scanReqWake port => Sys2Proof.Machine.execScanReqWake port s
  | .scanReqSrEnter port => Sys2Proof.Machine.execScanReqSrEnter port s
  | .scanCommitGo port => Sys2Proof.Machine.execScanCommitGo port s
  | .scanLoad ring => Sys2Proof.Machine.execScanLoad ring s
  | .scanSet ring => Sys2Proof.Machine.execScanSet ring s
  | .scanCommit ring => Sys2Proof.Machine.execScanCommit ring s
  | .scanRefresh ring => Sys2Proof.Machine.execScanRefresh ring s
  | .freezeClear ring => Sys2Proof.Machine.execFreezeClear ring s
  | .statsRead ring => Sys2Proof.Machine.execStatsRead ring s
  | .scanRead ring => Sys2Proof.Machine.execScanRead ring s
  | .pipeLoad ring => Sys2Proof.Machine.execPipeLoad ring s
  | .pipeSet ring => Sys2Proof.Machine.execPipeSet ring s
  | .pipeTable ring => Sys2Proof.Machine.execPipeTable ring s
  | .pipeCommit ring => Sys2Proof.Machine.execPipeCommit ring s
  | .brightSet ring => Sys2Proof.Machine.execBrightSet ring s
  | .pipeRead ring => Sys2Proof.Machine.execPipeRead ring s
  | .pipeCommitGo port => Sys2Proof.Machine.execPipeCommitGo port s
  | .bandExpansionStart => Sys2Proof.Machine.execBandExpansionStart s
  | .bandPassEnd desk errs => Sys2Proof.Machine.execBandPassEnd desk errs s
  | .trainingSuccess packets => Sys2Proof.Machine.execTrainingSuccess packets s
  | .trainingAttemptTimeout => Sys2Proof.Machine.execTrainingAttemptTimeout s
  | .lockLoss => Sys2Proof.Machine.execLockLoss s
  | .driverFault => Sys2Proof.Machine.execDriverFault s
  | .panelRailOn => Sys2Proof.Machine.execPanelRailOn s
  | .pnlPgRise => Sys2Proof.Machine.execPnlPgRise s
  | .pgTimeout => Sys2Proof.Machine.execPgTimeout s
  | .crackCheckEnd mv => Sys2Proof.Machine.execCrackCheckEnd mv s
  | .crackCheckDue => Sys2Proof.Machine.execCrackCheckDue s
  | .dischargeEnd => Sys2Proof.Machine.execDischargeEnd s
  | .panelRailOff => Sys2Proof.Machine.execPanelRailOff s
  | .panelSupplyLoss => Sys2Proof.Machine.execPanelSupplyLoss s
  | .staveIdlePacket lane => Sys2Proof.Machine.execStaveIdlePacket lane s
  | .staveReqRetrain port => Sys2Proof.Machine.execStaveReqRetrain port s
  | .staveReqCrackCheck port => Sys2Proof.Machine.execStaveReqCrackCheck port s
  | .staveReqRecover port => Sys2Proof.Machine.execStaveReqRecover port s
  | .staveLoad ring => Sys2Proof.Machine.execStaveLoad ring s
  | .staveSet ring => Sys2Proof.Machine.execStaveSet ring s
  | .staveCommit ring => Sys2Proof.Machine.execStaveCommit ring s
  | .staveCommitGo port => Sys2Proof.Machine.execStaveCommitGo port s
  | .panelCheck ring => Sys2Proof.Machine.execPanelCheck ring s
  | .panelRecover ring => Sys2Proof.Machine.execPanelRecover ring s
  | .wallSecondBoundary => Sys2Proof.Machine.execWallSecondBoundary s
  | .facePush => Sys2Proof.Machine.execFacePush s
  | .fullFrameStart => Sys2Proof.Machine.execFullFrameStart s
  | .facePushEnd => Sys2Proof.Machine.execFacePushEnd s
  | .wallHiWrite port => Sys2Proof.Machine.execWallHiWrite port s
  | .faceRepaintWrite port => Sys2Proof.Machine.execFaceRepaintWrite port s
  | .faceLoad ring => Sys2Proof.Machine.execFaceLoad ring s
  | .faceSet ring => Sys2Proof.Machine.execFaceSet ring s
  | .faceCommit ring => Sys2Proof.Machine.execFaceCommit ring s
  | .faceCommitGo port => Sys2Proof.Machine.execFaceCommitGo port s
  | .faceWall ring => Sys2Proof.Machine.execFaceWall ring s
  | .faceRead ring => Sys2Proof.Machine.execFaceRead ring s
  | .jobFetch ring => Sys2Proof.Machine.execJobFetch ring s
  | .jobStart => Sys2Proof.Machine.execJobStart s
  | .l2PanelLoaded slot => Sys2Proof.Machine.execL2PanelLoaded slot s
  | .tileEnd desk errs => Sys2Proof.Machine.execTileEnd desk errs s
  | .bistDue => Sys2Proof.Machine.execBistDue s
  | .bistEnd passes => Sys2Proof.Machine.execBistEnd passes s
  | .ensSet ring => Sys2Proof.Machine.execEnsSet ring s
  | .ensCommit ring => Sys2Proof.Machine.execEnsCommit ring s
  | .ensCommitGo port => Sys2Proof.Machine.execEnsCommitGo port s
  | .deskTest ring => Sys2Proof.Machine.execDeskTest ring s
  | .deskRetest ring => Sys2Proof.Machine.execDeskRetest ring s
  | .deskTestWrite port => Sys2Proof.Machine.execDeskTestWrite port s
  | .deskRetestWrite port => Sys2Proof.Machine.execDeskRetestWrite port s
  | .ensRead ring => Sys2Proof.Machine.execEnsRead ring s
  | .jobCancel ring => Sys2Proof.Machine.execJobCancel ring s
  | .issueGo port => Sys2Proof.Machine.execIssueGo port s
  | .badCommandSelect bytes => Sys2Proof.Machine.execBadCommandSelect bytes s
  | .dsiPacketError vc fault => Sys2Proof.Machine.execDsiPacketError vc fault s
  | .dcsUnknownCommand cmd => Sys2Proof.Machine.execDcsUnknownCommand cmd s
  | .tapTckEdge tms tdi levels => Sys2Proof.Machine.execTapTckEdge tms tdi levels s
  | .drainWaitExpiry => Sys2Proof.Machine.execDrainWaitExpiry s
  | .ascentBanksPowered => Sys2Proof.Machine.execAscentBanksPowered s
  | .confirmingCheck => Sys2Proof.Machine.execConfirmingCheck s

end Sys2Proof.Machine
end

