-- ==== Sys2Proof/Machine/Tick.lean ====
section
/-!
DEFINITION. What one tick of the AO clock does when no command waits: the Metronome, ALIVE, counters that count ticks, and
the commands that fall due at the tick.
-/

namespace Sys2Proof.Machine

/-- An AO clock edge passes: the count of edges is not corrected (R225), and host words come nearer to the AO domain (R12). -/
def State.edgeTick (s : State) : State := { s.crossTick with edge := s.edge + 1#48 }

/-- The Metronome's next value: it holds or jumps at a 1 s boundary (R2, R224). -/
def State.metroTick (s : State) : State :=
  match s.tune.hold with
  | some (n + 1) => { s with tune := { s.tune with hold := some n } }
  | some 0 => { s with metro := s.metro + 1#48, tune := { s.tune with hold := none } }
  | none => if s.atSecond then s.oneSecond else { s with metro := s.metro + 1#48 }

/-- The outputs' levels at the start of the tick, which a reset latches (R43). -/
def State.samplePins (s : State) : State :=
  { s with pins := { s.pins with pseqAt := s.pins.pseqEn, pnlAt := s.pins.pnlEn, chgAt := s.pins.chgEnLow } }

/-- ALIVE follows bit 14 of the Metronome, and is low in POR, in SYSTEM reset and in TACET (R44). -/
def State.driveAlive (s : State) : State :=
  { s with pins := { s.pins with
    alive := s.metro.getLsbD 14 && s.aoOn } }

/-- The watchdog counts the tick where it runs (R2, R90). -/
def State.wdogTick (s : State) : State := if s.wdogOn then s.bump Reg.DEV_WDOG_STATUS 23 0 else s

/-- The idle timer counts the tick, and restarts while a job is in progress (R59). -/
def State.idleTick (s : State) : State :=
  if s.boot.step == .released && s.flag Reg.DEV_IDLE 31 && decide (s.cur ≤ 1) && !s.moving then
    { s with ladder := { s.ladder with
      idleCount := if s.ens.jobs.any (·.phase == .running) then 0 else s.ladder.idleCount + 1 } }
  else s

/-- The pages whose switch to BASIC takes effect at the next tick (Table 1-7). -/
def tickPages : List Nat := [0, 1, 2, 3, 6, 7, 14]

/-- Switches to BASIC of these pages take effect (R33). -/
def State.basicTick (s : State) : State :=
  (s.commits.filter (fun q => q.toBasic && tickPages.contains q.page)).foldl (fun t q => t.applyBasic q.page) s

/-- The row of the command table that a word of this row is applied by. -/
def WordRow.command (r : WordRow) (p : Port) : Instr :=
  match r with
  | .plain => .registerWrite p
  | .doorbell => .doorbellWrite p
  | .modeExpert => .modeExpert p
  | .modeBasic => .modeBasic p
  | .leaseEnable => .leaseEnable p
  | .leaseDisable => .leaseDisable p
  | .ladderReqGo => .ladderReqGo p
  | .resetSystem => .resetReqSystem p
  | .resetCore => .resetReqCore p
  | .wdogKick => .wdogKickWrite p
  | .permLock => .permLockWrite p
  | .ringEnable => .ringEnable p
  | .ringDisable => .ringDisable p
  | .cueResume => .cueResumeWrite p
  | .scoreStart => .scoreStartWrite p
  | .scoreStop => .scoreStopWrite p
  | .keysPop => .keysPop p
  | .keysCommit => .keysCommitGo p
  | .senseCommit => .senseCommitGo p
  | .tuneReq => .tuneReqWrite p
  | .jrnlCmd => .jrnlCmdGo p
  | .surfaceEnable => .surfaceEnable p
  | .surfaceDisable => .surfaceDisable p
  | .openGo => .openGo p
  | .presentGo => .presentGo p
  | .dsiCommit => .dsiCommitGo p
  | .scanWake => .scanReqWake p
  | .scanSrEnter => .scanReqSrEnter p
  | .scanCommit => .scanCommitGo p
  | .pipeCommit => .pipeCommitGo p
  | .staveRetrain => .staveReqRetrain p
  | .staveCrack => .staveReqCrackCheck p
  | .staveRecover => .staveReqRecover p
  | .staveCommit => .staveCommitGo p
  | .wallHi => .wallHiWrite p
  | .faceRepaint => .faceRepaintWrite p
  | .faceCommit => .faceCommitGo p
  | .ensCommit => .ensCommitGo p
  | .deskTest => .deskTestWrite p
  | .deskRetest => .deskRetestWrite p
  | .issueGo => .issueGo p

/-- The host words that have crossed: they take effect at this edge, in order (R12, R102). -/
def State.crossedWords (s : State) : List Instr :=
  (s.crossing.filter (·.edges == 0)).map (fun c => (rowOf c.word).command c.port)

/-- The commands without data from outside that fall due at the tick. moved: the Metronome has a new value. -/
def State.dueCommands (s : State) (moved : Bool) : List Instr :=
  [(moved && s.alarmDue, Instr.alarmMatch), (moved && s.timebaseDue, .timebase), (s.refillDue, .tokenRefill),
    (s.wdogEarlyDue, .wdogEarly), (s.wdogExpired, .wdogExpiry), (s.idleDue, .idleTimer), (s.roundDue, .roundStart), (s.scanDue, .scanStart), (s.synthDue, .syntheticFrameBoundary)].filterMap
    (fun e => if e.1 then some e.2 else none)

/-- SENSE at the tick; desks that a lifted cap frees are at their DESK_IDLE and take tiles at once (R206, Table 9-5). -/
def State.capsTick (s : State) : State :=
  let t := s.senseTick
  if t.fld Reg.SENSE_CAPS 4 0 = s.fld Reg.SENSE_CAPS 4 0 then t else t.ensRun

/-- What one tick of the AO clock does beside the commands that fall due: raises are counted before any Score step (R143), and an
erase that VBAT or the state holds up is told (R258). -/
def State.tickEffects (s : State) : State :=
  s.samplePins.edgeTick.metroTick.driveAlive.tapTick.putTotals.countRaises.endBusSteps.wallTick.basicTick.capsTick.wdogTick.idleTick.crackTick.markDeferred

/-- One tick of the AO clock: the PULSE entries (R174), the slots' samples (R203), FACE's evaluations and EV_WAKE end the tick before (R60, R376), and the new one begins. -/
def State.aoTick (s : State) : State :=
  let s1 := s.writePulses.sampleSlots.evaluate.tellWake.tickEffects
  { s1 with pending := s1.pending ++ s1.crossedWords ++ s1.dueCommands (s1.metro != s.metro) }

end Sys2Proof.Machine
end

