-- ==== Sys2Proof/WellFormed.lean ====
section
/-!
DEFINITION. Well-formed commands: those whose operands the outside world of the spec can give. A meaning answers every
command; a command that is not well formed stands for nothing outside.
-/

namespace Sys2Proof

/-- The values that a measurement of tuning item n gives: counts, sums, readings, delays and codes (R226 to R232). Item 0 and
item 5 end no measurement of this kind. -/
def measured (n : Nat) : Option Nat :=
  match n with
  | 1 => some 1
  | 2 => some 2
  | 3 => some 8
  | 4 => some 4
  | 6 => some 3
  | 7 => some 1
  | _ => none

/-- The payload of a generic long write is a part command: its code, its length and its reserved bits (R277, Table 12-4). -/
def isPartCommand (bs : List Byte) : Bool :=
  match bs with
  | 0xA1#8 :: flags :: rest => rest.length == 10 && decide (flags.toNat < 4)
  | 0xA2#8 :: rest => rest.length == 2
  | 0xA3#8 :: rest => rest.length == 8
  | _ => false

/-- The components of a pixel fit the widths of its stream's format (Table 12-2). -/
def pixelFits (fmt : PixelStream) (p : Rgb) : Bool :=
  match fmt with
  | .rgb30 => true
  | .rgb24 => decide (p.r.toNat < 256) && decide (p.g.toNat < 256) && decide (p.b.toNat < 256)
  | .rgb16 => decide (p.r.toNat < 32) && decide (p.g.toNat < 64) && decide (p.b.toNat < 32)

/-- A command is well formed. -/
def Instr.wf (i : Instr) : Bool :=
  match i with
  | .bootBurst pulses => decide (1 ≤ pulses) && decide (pulses ≤ 16)
  | .modeExpertTakeEffect page => decide (page.toNat < 15)
  | .hostWrite _ _ _ _ tail => decide (tail < 4)
  | .busTransferEnd bus outcome recovered _ => decide (bus.toNat < 2) || (outcome == .ok && !recovered)
  | .pmCountEnd counts => counts.length == 4
  | .railClassChange rail _ => decide (rail.toNat < 6)
  | .tuneRunEnd item vals => measured item.toNat == some vals.length
  | .genericRead _ params => decide (params.length ≤ 2)
  | .genericLongWrite _ payload => !isPartCommand payload
  | .packedPixelStream fmt pixels => pixels.all (pixelFits fmt)
  | .dsiPacketError _ _ | .por | .startSequence _ _ _ _ | .supplyStartTimeout | .hostRelease | .bootRailStep | .bootRailPgTimeout
  | .crystalQualified | .crystalLost | .pllLock | .resetNLow | .systemResetEnd | .coreResetAfterMove | .coreResetEnd
  | .reset _ | .resetReqSystem _ | .resetReqCore _ | .wdogConfig _ | .wdogKick _ | .wdogKickWrite _ | .wdogEarly
  | .wdogExpiry | .powerKeyHold _ | .vbatRise _ | .ladderSet _ | .ladderReqGo _ | .ladderConfig _ | .ladderTune _
  | .alarmSet _ | .idleTimer | .descentJobsIdle | .descentFrameStep | .descentPanelStep | .descentCoreStop
  | .descentFermataEntry | .task1HaltedTacet | .task1Timeout | .hostSelectWake _ | .dsiLaneWake | .ascentCoreStart
  | .ascentPllSwitch | .burstStart | .burstEnd | .tokenRefill | .vcoreConfirmed _ | .vcoreTimeout | .alarmMatch
  | .hallLease _ | .leaseEnable _ | .leaseDisable _ | .padSet _ | .modeExpert _ | .modeBasic _ | .frameBoundary _
  | .syntheticFrameBoundary | .adcIdleBoundary | .linkIdleBoundary | .boundaryWaitTimeout _ | .hostRead _ _ _ _ _ _
  | .registerWrite _ | .readId _ _ | .readStatus _ | .writeEnable | .resetEnable | .portReset | .portConfig _
  | .permSet _ | .permLock _ | .permLockWrite _ | .permAutoLock | .errClear _ | .doorbellWrite _ | .ringEnable _
  | .ringFillDone _ | .ringDisable _ | .ringSetup _ | .ringStop _ | .nop _ | .echo _ | .fence _ | .fenceComplete _
  | .fenceTimeout _ | .resume _ | .cueResumeWrite _ | .eventRoute _ | .irqAck _ | .entryFetch _ | .entryWrite _
  | .messageSend _ | .coalTicksExpiry _ | .taskStart _ | .taskHalt _ | .scoreStartWrite _ | .scoreStopWrite _
  | .bufWrite _ | .bufRead _ | .busConfig _ | .scoreLoad _ | .haltStep _ | .setPin _ | .waitPin _ _ | .waitTicks _
  | .waitInput _ | .clearInput _ | .i2cWrite _ | .i2cRead _ | .i2cReadToRing _ | .spiXfer _ | .spiXferToRing _
  | .raiseEvent _ | .postCue _ | .branchIf _ _ | .callStep _ | .returnStep _ | .loopStep _ | .requestState _
  | .scoreWaitTimeout _ | .busStepTimeout _ | .sintEdge _ _ | .scanStart | .scanEnd _ | .leakMeasurement _
  | .encoderTransition _ _ _ | .pulseEdge _ _ | .pulseStopped _ | .timebase | .keysPop _ | .keyDrain | .keysLoad _
  | .keysSet _ | .keysRead _ | .keysDrain _ | .keysUnmask _ | .pulseTotalSet _ | .keysCommitGo _ | .roundStart
  | .conversion _ | .ibatSample _ | .supplyLoss | .chgStatChange _ | .senseRead _ | .senseSet _ | .slotSet _
  | .ntcTable _ | .ccSet _ | .chgSet _ | .senseCommitGo _ | .tuneRun _ | .tuneSet _ | .tuneRead _ | .tuneLoad _
  | .tuneRebase _ | .tuneReqWrite _ | .tunePeriodTrigger _ | .tuneTimeout _ | .oneSecondBoundary | .fuseStage _
  | .fuseProgram _ | .fuseProgramDone _ | .jrnlAppend _ | .jrnlRead _ | .jrnlFind _ | .jrnlDelete _ | .jrnlCompact _
  | .counterSetup _ | .counterAdd _ | .counterRead _ | .counterFlush _ | .jrnlCmdGo _ | .wordProgramDone _ _
  | .eraseStart | .erasePulseDone _ | .counterProgram _ | .counterFlushTimer | .counterRollover | .compaction
  | .vSyncStart | .hSyncStart | .syncEnd | .endOfTransmission | .nullBlanking _ | .colorModeOff _ | .colorModeOn _
  | .shutDown _ | .turnOnPeripheral _ | .genericShortWrite _ | .setMaximumReturnPacketSize _ _ | .dcsNop _
  | .softReset _ | .getPowerMode _ | .getPixelFormat _ | .enterSleepMode _ | .exitSleepMode _ | .setDisplayOff _
  | .setDisplayOn _ | .setColumnAddress _ _ _ | .setPageAddress _ _ _ | .writeMemoryStart _ _ | .writeMemoryContinue _ _
  | .setTearOff _ | .setTearOn _ | .setPixelFormat _ _ | .setTearScanline _ | .getScanline _
  | .dsiPresent _ _ _ _ _ _ _ _ | .dsiFence _ _ | .dsiFenceComplete | .setRegionHint _ _ _ _ _ | .busTurnaround _
  | .ulpsEntry | .ulpsExit | .teRise | .teFall | .surfaceSet _ | .surfaceStop _ | .surfaceEnable _ | .surfaceDisable _
  | .surfaceOpen _ | .present _ | .openGo _ | .presentGo _ | .intakeDsi _ | .surfaceRead _ | .dsiCommitGo _
  | .copyForwardDone | .frameStart _ _ | .statsPublish | .transitionSetInForce | .transitionComplete _ _ | .srResume _ _
  | .scanReqWake _ | .scanReqSrEnter _ | .scanCommitGo _ | .scanLoad _ | .scanSet _ | .scanCommit _ | .scanRefresh _
  | .freezeClear _ | .statsRead _ | .scanRead _ | .pipeLoad _ | .pipeSet _ | .pipeTable _ | .pipeCommit _ | .brightSet _
  | .pipeRead _ | .pipeCommitGo _ | .bandExpansionStart | .bandPassEnd _ _ | .trainingSuccess _
  | .trainingAttemptTimeout | .lockLoss | .driverFault | .panelRailOn | .pnlPgRise | .pgTimeout | .crackCheckEnd _
  | .crackCheckDue | .dischargeEnd | .panelRailOff | .panelSupplyLoss | .staveIdlePacket _ | .staveReqRetrain _
  | .staveReqCrackCheck _ | .staveReqRecover _ | .staveLoad _ | .staveSet _ | .staveCommit _ | .staveCommitGo _
  | .panelCheck _ | .panelRecover _ | .wallSecondBoundary | .facePush | .fullFrameStart | .facePushEnd | .wallHiWrite _
  | .faceRepaintWrite _ | .faceLoad _ | .faceSet _ | .faceCommit _ | .faceCommitGo _ | .faceWall _ | .faceRead _
  | .jobFetch _ | .jobStart | .l2PanelLoaded _ | .tileEnd _ _ | .bistDue | .bistEnd _ | .ensSet _ | .ensCommit _
  | .ensCommitGo _ | .deskTest _ | .deskRetest _ | .deskTestWrite _ | .deskRetestWrite _ | .ensRead _ | .jobCancel _
  | .issueGo _ | .badCommandSelect _ | .dcsUnknownCommand _ | .tapTckEdge _ _ _ | .drainWaitExpiry | .ascentBanksPowered
  | .confirmingCheck => true

end Sys2Proof
end

