-- ==== Sys2Proof/Safety.lean ====
section
/-!
DEFINITION. What counts as a sound state, and what a command must keep: the terms in which the claims about every command are
stated.
-/

namespace Sys2Proof.Machine

/-- The canonical form of every memory of the part: keys strictly rising, and in a memory with a default nothing listed
that an unlisted key reads as. -/
def Memory.wf (s : State) : Bool :=
  Cells.canon porWord s.regs && Cells.canon porWord s.force && Cells.rising s.hall && Cells.canon (fun _ => 0#32) s.ao &&
    Cells.canon shippedWord s.flash && Cells.canon madeFuse s.fuses

/-- The factory section of the fuses, words 0 to 47, is the same in both states (R233). -/
def sameFactory (s t : State) : Prop := ∀ i, i < 48 → t.fuseWord i = s.fuseWord i

/-- The command is answered: it ends in neither a fault nor a refusal. -/
def Answers (c : Instr) (s : State) : Prop := ∃ t, exec c s = .next t

/-- The registers that the raise of an event may write: EV_PEND (R136). -/
def raiseReg (a : Nat) : Bool := decide (Reg.CUE_EV_PEND ≤ a) && decide (a < Reg.CUE_EV_PEND + 16)

/-- Every register outside a list and outside what a raise may write reads as before. -/
def othersSame (l : List Nat) (s t : State) : Prop := ∀ a, raiseReg a = false → a ∉ l → t.reg a = s.reg a

/-- Hall, journal flash and fuses are untouched. -/
def storesSame (s t : State) : Prop := t.hall = s.hall ∧ t.banks = s.banks ∧ t.flash = s.flash ∧ t.fuses = s.fuses

/-! ### Verbs -/

/-- The ring holds v, a fetched entry of this verb code that has not begun; its owner may issue it, and its page took verbs at the
fetch (R32, R124, R130). -/
def admitted (s : State) (ring : BitVec 8) (code : Nat) (right : Right) (v : Verb) : Bool :=
  s.freshVerb ring.toNat code == some v && right s v && !v.busy

/-- The completion entry of a verb (Tables 6-3 and 6-4). -/
def Verb.entry (v : Verb) (st : Status) (res : List Word) (final : Bool) : OutEntry :=
  .completion v.tag v.code st.code v.index v.ring res final

/-- The verb has its final status: a SILENT verb that ends with OK is finished without a completion, any other has its completion
last in the outbox of its COMPLETION ring (R121, R129, Table 6-3). -/
def answered (t : State) (v : Verb) (st : Status) (res : List Word) : Bool :=
  if v.silent && st == .ok then (t.ring v.ring).cur.isNone
  else (t.ring (t.pairNow v.ring)).outbox.getLast? == some (v.entry st res true)

/-- The verb has begun and waits for w (R24). -/
def waitsFor (t : State) (v : Verb) (w : Wait) : Bool :=
  match (t.ring v.ring).cur with
  | some f => f.started && f.waiting == some w
  | none => false

/-- A verb as the verb lists give it (Table 6-9 and the chapters' lists): its ring, code, who may issue it, and the bits that its
argument words may set. -/
structure VerbRow where
  ring : BitVec 8
  code : Nat
  right : Right
  masks : Verb → List Word

/-- WDOG_KICK is for client 0 and for owners of the DEV page (R91). -/
def kickRight : Right := fun s v => v.owner == 0 || s.hasPage v.owner 0

/-- JOB_CANCEL is for client 0 and for the owner of the JOB ring it names. -/
def cancelRight : Right := fun s v =>
  s.hasPage v.owner 13 && (v.owner == 0 || s.ringOwner (field (v.arg 0) 7 0) == v.owner)

/-- The row of a verb in the verb lists; none for a command that is no verb. -/
def verbRow (c : Instr) : Option VerbRow :=
  match c with
  | .nop r => some ⟨r, 0x00, anyOwner, fun _ => []⟩
  | .echo r => some ⟨r, 0x01, anyOwner, fun _ => [0xFFFFFFFF#32, 0xFFFFFFFF#32, 0xFFFFFFFF#32, 0xFFFFFFFF#32]⟩
  | .fence r => some ⟨r, 0x02, anyOwner, fun _ => [0xFF#32, 0xFFFF#32]⟩
  | .ringSetup r => some ⟨r, 0x03, setupRight, fun _ => [0xFF#32, 0x7FFFFF#32, 0x83FF3FFF#32, 0xFFFFFFFF#32]⟩
  | .ringStop r => some ⟨r, 0x04, ringRight, fun _ => [0xFF#32]⟩
  | .resume r => some ⟨r, 0x05, ringRight, fun _ => [0x1FF#32]⟩
  | .eventRoute r => some ⟨r, 0x06, clientZero, fun _ => [0x7F7F#32, 0x7FF#32]⟩
  | .irqAck r => some ⟨r, 0x07, pageRight 2, fun _ => [0xFFFFFFFF#32, 0xFFFFFFFF#32, 0xFFFFFFFF#32, 0xFFFFFFFF#32]⟩
  | .ladderSet r => some ⟨r, 0x10, pageRight 0, fun _ => [0x7#32]⟩
  | .ladderConfig r => some ⟨r, 0x11, clientZero, fun _ => [0x377#32, 0x87FFFFFF#32, 0xFFFFFF#32, 0x0FF1FFFF#32]⟩
  | .ladderTune r => some ⟨r, 0x12, clientZero, fun _ => [0xF#32, 0x03FF03FF#32]⟩
  | .alarmSet r => some ⟨r, 0x13, clientZero, fun _ => [0xFFFFFFFF#32, 0x1#32]⟩
  | .reset r => some ⟨r, 0x14, clientZero, fun _ => [1#32]⟩
  | .wdogConfig r => some ⟨r, 0x15, clientZero, fun _ => [0xD0FFFFFF#32]⟩
  | .wdogKick r => some ⟨r, 0x16, kickRight, fun _ => []⟩
  | .permSet r => some ⟨r, 0x17, clientZero, fun _ => [0x3F#32, 0xF7FFF#32]⟩
  | .portConfig r => some ⟨r, 0x18, clientZero, fun _ => [0x13F#32, 0xF#32]⟩
  | .errClear r => some ⟨r, 0x19, clientZero, fun _ => []⟩
  | .permLock r => some ⟨r, 0x1A, clientZero, fun _ => []⟩
  | .hallLease r => some ⟨r, 0x1C, clientZero, fun _ => [0x1F#32, 0x07FF07FF#32, 0x0101133F#32]⟩
  | .padSet r => some ⟨r, 0x1D, clientZero, fun _ => [0x3FFFFFFF#32, 0xFFF#32]⟩
  | .scoreLoad r => some ⟨r, 0x20, pageRight 3, fun _ => [0xFF#32]⟩
  | .taskStart r => some ⟨r, 0x21, pageRight 3, fun _ => [0xFFFF#32]⟩
  | .taskHalt r => some ⟨r, 0x22, pageRight 3, fun _ => [0xFFFF#32]⟩
  | .bufWrite r => some ⟨r, 0x23, pageRight 3,
      fun v => 0x707FF#32 :: List.replicate (field (v.arg 0) 18 16) 0xFFFFFFFF#32⟩
  | .bufRead r => some ⟨r, 0x24, pageRight 3, fun _ => [0x7FF#32]⟩
  | .busConfig r => some ⟨r, 0x25, pageRight 14, fun _ => [0x7#32, 0xFFFFFFFF#32]⟩
  | .keysLoad r => some ⟨r, 0x30, pageRight 4, fun _ => [0xFF#32]⟩
  | .keysSet r => some ⟨r, 0x31, pageRight 4, fun _ => [0xFF#32, 0xFFFFFFFF#32]⟩
  | .keysRead r => some ⟨r, 0x32, pageRight 4, fun _ => [0x1#32]⟩
  | .keysDrain r => some ⟨r, 0x33, pageRight 4, fun _ => [0x1FF#32]⟩
  | .keysUnmask r => some ⟨r, 0x34, pageRight 4, fun _ => [0xFF#32]⟩
  | .pulseTotalSet r => some ⟨r, 0x35, pageRight 4, fun _ => [0x1#32, 0xFFFFFFFF#32, 0xFFFF#32]⟩
  | .senseRead r => some ⟨r, 0x40, pageRight 5, fun _ => [0x3#32]⟩
  | .senseSet r => some ⟨r, 0x41, pageRight 5, fun _ => [0xFF#32, 0xFFFFFFFF#32]⟩
  | .slotSet r => some ⟨r, 0x42, pageRight 5, fun _ => [0xF#32, 0x3FFFFFFF#32, 0x77F#32]⟩
  | .ntcTable r => some ⟨r, 0x43, pageRight 5, fun _ => 0x00073F01#32 :: List.replicate 6 0xFFFF#32⟩
  | .ccSet r => some ⟨r, 0x44, pageRight 5, fun _ => [0x1#32, 0xFFFFFFFF#32, 0xFFFF#32]⟩
  | .chgSet r => some ⟨r, 0x45, pageRight 5, fun _ => [0x7#32]⟩
  | .tuneRun r => some ⟨r, 0x50, pageRight 6, fun _ => [0x7#32]⟩
  | .tuneSet r => some ⟨r, 0x51, pageRight 6, fun _ => [0xF#32, 0xFFFFFFFF#32]⟩
  | .tuneRead r => some ⟨r, 0x52, pageRight 6, fun _ => [0x7#32]⟩
  | .tuneLoad r => some ⟨r, 0x53, pageRight 6, fun _ => [0xFF#32]⟩
  | .tuneRebase r => some ⟨r, 0x54, pageRight 6, fun _ => [0x7#32]⟩
  | .fuseStage r => some ⟨r, 0x55, clientZero, fun _ => [0xF#32, 0xFFFFFFFF#32, 0xFFFFFF#32]⟩
  | .fuseProgram r => some ⟨r, 0x56, clientZero, fun _ => [0xFFFF#32]⟩
  | .jrnlAppend r => some ⟨r, 0x60, journalRight, fun _ => [0x1FF#32, 0xFFFFFFFF#32, 0xFFF#32, 0xFFFFFFFF#32]⟩
  | .jrnlRead r => some ⟨r, 0x61, journalRight, fun _ => [0xFFFFFFFF#32, 0xFFFFFFFF#32, 0x1FFF#32]⟩
  | .jrnlFind r => some ⟨r, 0x62, journalRight, fun _ => [0xFF01FF#32, 0xFFFFFFFF#32]⟩
  | .jrnlDelete r => some ⟨r, 0x63, journalRight, fun _ => [0xFFFFFFFF#32]⟩
  | .jrnlCompact r => some ⟨r, 0x64, journalRight, fun _ => []⟩
  | .counterSetup r => some ⟨r, 0x65, journalRight, fun _ => [0xFF37#32, 0xFFFFFFFF#32, 0xFFFFFFFF#32, 0xFFFF#32]⟩
  | .counterAdd r => some ⟨r, 0x66, journalRight, fun _ => [0x7#32, 0xFFFF#32]⟩
  | .counterRead r => some ⟨r, 0x67, journalRight, fun _ => [0x7#32]⟩
  | .counterFlush r => some ⟨r, 0x68, journalRight, fun _ => [0xFF#32]⟩
  | .surfaceSet r => some ⟨r, 0x70, surfaceRight,
      fun _ => [0x7#32, 0x7FFFFF#32, 0x7FFFFF#32, 0x7FFFFF#32, 0x7FFFFF#32, 0xFFFFFFFF#32, 0xFFFF03FF#32]⟩
  | .surfaceStop r => some ⟨r, 0x71, surfaceRight, fun _ => [0x7#32]⟩
  | .present r => some ⟨r, 0x72, surfaceRight, fun _ => [0x107#32, 0x0FFF0FFF#32, 0x0FFF0FFF#32]⟩
  | .surfaceOpen r => some ⟨r, 0x73, surfaceRight, fun _ => [0x7#32]⟩
  | .intakeDsi r => some ⟨r, 0x74, pageRight 8, fun _ => [0x77F#32, 0xFFFFFF03#32]⟩
  | .surfaceRead r => some ⟨r, 0x75, pageRight 8, fun _ => [0x7#32]⟩
  | .scanLoad r => some ⟨r, 0x76, pageRight 9, fun _ => [0xFF#32]⟩
  | .scanSet r => some ⟨r, 0x77, pageRight 9, fun _ => [0xFFFFFF#32, 0xFFFFFFFF#32]⟩
  | .scanCommit r => some ⟨r, 0x78, pageRight 9, fun _ => []⟩
  | .scanRefresh r => some ⟨r, 0x79, pageRight 9, fun _ => [0x3#32]⟩
  | .freezeClear r => some ⟨r, 0x7A, pageRight 9, fun _ => [0x1F#32]⟩
  | .statsRead r => some ⟨r, 0x7B, pageRight 9, fun _ => [0xF#32]⟩
  | .scanRead r => some ⟨r, 0x7C, pageRight 9, fun _ => []⟩
  | .pipeLoad r => some ⟨r, 0x80, pageRight 10, fun _ => [0xFF#32]⟩
  | .pipeSet r => some ⟨r, 0x81, pageRight 10, fun _ => [0xFFFFFF#32, 0xFFFFFFFF#32]⟩
  | .pipeTable r => some ⟨r, 0x82, pageRight 10,
      fun v => 0xFFFFFF#32 :: 0x7#32 :: List.replicate (field (v.arg 1) 2 0) 0xFFFFFFFF#32⟩
  | .pipeCommit r => some ⟨r, 0x83, pageRight 10, fun _ => [0x1#32]⟩
  | .brightSet r => some ⟨r, 0x84, pageRight 10, fun _ => [0x11FFF#32]⟩
  | .pipeRead r => some ⟨r, 0x85, pageRight 10, fun _ => []⟩
  | .staveLoad r => some ⟨r, 0x86, pageRight 11, fun _ => [0xFF#32]⟩
  | .staveSet r => some ⟨r, 0x87, pageRight 11, fun _ => [0xFFFFFF#32, 0xFFFFFFFF#32]⟩
  | .staveCommit r => some ⟨r, 0x88, pageRight 11, fun _ => []⟩
  | .panelCheck r => some ⟨r, 0x89, pageRight 11, fun _ => []⟩
  | .panelRecover r => some ⟨r, 0x8A, pageRight 11, fun _ => []⟩
  | .faceLoad r => some ⟨r, 0x8B, pageRight 12, fun _ => [0xFF#32]⟩
  | .faceSet r => some ⟨r, 0x8C, pageRight 12, fun _ => [0xFFFFFF#32, 0xFFFFFFFF#32]⟩
  | .faceCommit r => some ⟨r, 0x8D, pageRight 12, fun _ => []⟩
  | .faceWall r => some ⟨r, 0x8E, pageRight 12, fun _ => [0xFFFFFFFF#32, 0xFFFF#32]⟩
  | .faceRead r => some ⟨r, 0x8F, pageRight 12, fun _ => [0xF#32]⟩
  | .ensSet r => some ⟨r, 0x90, pageRight 13, fun _ => [0x0001FF0F#32]⟩
  | .ensCommit r => some ⟨r, 0x91, pageRight 13, fun _ => []⟩
  | .deskTest r => some ⟨r, 0x92, pageRight 13, fun _ => [0xFFFF#32, 0xFFFF#32]⟩
  | .deskRetest r => some ⟨r, 0x93, pageRight 13, fun _ => [0xFFFF#32, 0xFFFF#32]⟩
  | .ensRead r => some ⟨r, 0x94, pageRight 13, fun _ => [0x1#32]⟩
  | .jobCancel r => some ⟨r, 0x95, cancelRight, fun _ => [0xFF#32]⟩
  | _ => none

/-! ### Buffered words -/

/-- w is the word of the port that the part applies next (R102), t is the state once it is taken, and no port RESET waits for it
(R103). -/
def fronted (s : State) (p : Port) (w : BufWord) (t : State) : Bool :=
  s.nextWord p (fun x => rowOf x == rowOf w) == some (w, t) && !t.resetting

/-! ### DSI packets -/

/-- The virtual channel of a packet command (Tables 12-2 to 12-4); none for a command that is no packet. -/
def packetChannel (c : Instr) : Option (BitVec 1) :=
  match c with
  | .vSyncStart => some 0#1
  | .hSyncStart => some 0#1
  | .syncEnd => some 0#1
  | .endOfTransmission => some 0#1
  | .nullBlanking vc => some vc
  | .colorModeOff vc => some vc
  | .colorModeOn vc => some vc
  | .shutDown vc => some vc
  | .turnOnPeripheral vc => some vc
  | .genericShortWrite vc => some vc
  | .genericRead vc _ => some vc
  | .setMaximumReturnPacketSize vc _ => some vc
  | .genericLongWrite vc _ => some vc
  | .packedPixelStream _ _ => some 0#1
  | .dcsNop vc => some vc
  | .softReset vc => some vc
  | .getPowerMode vc => some vc
  | .getPixelFormat vc => some vc
  | .enterSleepMode vc => some vc
  | .exitSleepMode vc => some vc
  | .setDisplayOff vc => some vc
  | .setDisplayOn vc => some vc
  | .setColumnAddress vc _ _ => some vc
  | .setPageAddress vc _ _ => some vc
  | .writeMemoryStart vc _ => some vc
  | .writeMemoryContinue vc _ => some vc
  | .setTearOff vc => some vc
  | .setTearOn vc => some vc
  | .setPixelFormat vc _ => some vc
  | .setTearScanline vc => some vc
  | .getScanline vc => some vc
  | .dsiPresent vc _ _ _ _ _ _ _ => some vc
  | .dsiFence vc _ => some vc
  | .setRegionHint vc _ _ _ _ => some vc
  | .dsiPacketError vc f => some (if f = .header ∨ 2 ≤ vc.toNat then 0#1 else vc.setWidth 1)
  | .dcsUnknownCommand cmd => some cmd.vc
  | _ => none

/-- The receiver takes packets, and accepts this virtual channel (R274, R275). -/
def channelOpen (s : State) (vc : BitVec 1) : Bool := s.dsiOn && (vc == 0#1 || s.fflag Reg.INTAKE_DSI_CFG 3)

/-- The state once a packet has arrived: HS data are received, and a read request that no turnaround followed is gone. -/
def received (s : State) : State :=
  let t := s.setFlag Reg.INTAKE_STATUS 0 true
  { t with intake := { t.intake with readReq := none } }

/-! ### Score steps -/

/-- The task is RUNNING, is not blocked in a bus step, has its turn at this tick, and stands at w, a step word of this opcode
(R143). -/
def atStep (s : State) (task : BitVec 4) (op : Nat) (w : Word) : Bool :=
  s.running task.toNat && s.fld (taskStat task.toNat) 12 11 != 3 && (s.task task.toNat).ranAt != some s.edge &&
    !s.turnOver task.toNat && s.stepWord task.toNat == w && field w 31 26 == op

/-- The state once the task's step of this tick is counted (R143). -/
def stepped (s : State) (task : BitVec 4) : State := s.countStep task.toNat

/-- A step of the opcode table (Table 7-2): its task, its opcode and the bits of a step word that it names. -/
def stepRow (c : Instr) : Option (BitVec 4 × Nat × Word) :=
  match c with
  | .haltStep t => some (t, 0x00, 0#32)
  | .setPin t => some (t, 0x01, 0x7F#32)
  | .waitPin t _ => some (t, 0x02, 0x03FFFC7F#32)
  | .waitTicks t => some (t, 0x03, 0x00FFFFFF#32)
  | .waitInput t => some (t, 0x04, 0x03FFFC7F#32)
  | .clearInput t => some (t, 0x05, 0x1F#32)
  | .i2cWrite t => some (t, 0x08, 0x1FFF#32)
  | .i2cRead t => some (t, 0x09, 0x1FFF#32)
  | .i2cReadToRing t => some (t, 0x0A, 0x1FFF#32)
  | .spiXfer t => some (t, 0x0C, 0x1FFF#32)
  | .spiXferToRing t => some (t, 0x0D, 0x1FFF#32)
  | .raiseEvent t => some (t, 0x10, 0x03FFFFFF#32)
  | .postCue t => some (t, 0x11, 0xFFFF#32)
  | .branchIf t _ => some (t, 0x18, 0x03FFFFFF#32)
  | .callStep t => some (t, 0x19, 0x7FF#32)
  | .returnStep t => some (t, 0x1A, 0#32)
  | .loopStep t => some (t, 0x1B, 0x7FFFF#32)
  | .requestState t => some (t, 0x20, 0x7#32)
  | _ => none

end Sys2Proof.Machine
end

