-- ==== Sys2Proof/Certificates/Slice0/Obligations.lean ====
section
/-!
DEFINITION. The statements about the model, for the provers.
-/

open Sys2Proof Sys2Proof.Machine

/-- A step takes the command at the front of the queue and executes it with the queue's rest. -/
def Obligations.StepRunsFrontCommand : Prop :=
  ∀ (c : Instr) (rest : List Instr) (s : State), step { s with pending := c :: rest } = exec c { s with pending := rest }

/-- Every command is answered with a next state in every state: none ends in a fault or a refusal. -/
def Obligations.EveryCommandAnswers : Prop :=
  ∀ (c : Instr) (s : State), Answers c s

/-- Every step keeps the canonical form of every memory. -/
def Obligations.StepKeepsMemoryForm : Prop :=
  ∀ (s t : State), Memory.wf s = true → step s = .next t → Memory.wf t = true

/-- The memories at reset have their canonical form. -/
def Obligations.ResetMemoryForm : Prop :=
  Memory.wf State.reset = true

/-- No command changes a factory fuse word or the queue of the commands that wait. -/
def Obligations.CommandsKeepFactoryAndQueue : Prop :=
  ∀ (c : Instr) (s t : State), Memory.wf s = true → exec c s = .next t → sameFactory s t ∧ t.pending = s.pending

/-- The checks of every verb, in their order: nothing happens without a fetched entry of the verb; then the owner's right, the
page's mode and the argument masks. A final completion: a SILENT verb that ends with OK is finished and writes nothing; any other
has its entry, with tag, verb, status, index and results, last in the outbox of PAIR. Registers, events and every memory stay. -/
def Obligations.VerbsAreCheckedAndCompleted : Prop :=
  (∀ (c : Instr) (row : VerbRow) (s : State), verbRow c = some row →
    (s.freshVerb row.ring.toNat row.code = none → exec c s = .next s) ∧
    (∀ v, s.freshVerb row.ring.toNat row.code = some v → row.right s v = false →
      exec c s = .next (s.complete v .noPermission)) ∧
    (∀ v, s.freshVerb row.ring.toNat row.code = some v → row.right s v = true → v.busy = true →
      exec c s = .next (s.complete v .busy)) ∧
    (∀ v, admitted s row.ring row.code row.right v = true → v.argsWithin (row.masks v) = false →
      exec c s = .next (s.complete v .badArg))) ∧
  (∀ (s : State) (v : Verb) (st : Status) (res : List Word),
    answered (s.complete v st res) v st res = true ∧
    (s.complete v st res).regs = s.regs ∧ (s.complete v st res).force = s.force ∧ (s.complete v st res).ao = s.ao ∧
    (s.complete v st res).flags = s.flags ∧ storesSame s (s.complete v st res))

/-- The general verbs: NOP completes, ECHO completes with its arguments, EVENT_ROUTE writes the route words of its range and
nothing else before the pending flags are delivered, IRQ_ACK clears the bits of EV_PEND that its arguments set, RESUME clears
HALTED and HALT_CAUSE, passes the halting entry of a submission ring under SKIP, and halts a ring again that no lease covers; a
FENCE that still waits for the ring ends first. A doorbell that is accepted sets TAIL, restarts the idle timer and, on a
part-to-host ring, clears RING_PEND, counts the unreleased entries, tests the count against COAL_COUNT and delivers the pending
flags; an ignored one leaves the doorbell and is logged once with EV_CUE_DOORBELL. -/
def Obligations.GeneralVerbsAndDoorbells : Prop :=
  (∀ (ring : BitVec 8) (s : State) (v : Verb), admitted s ring 0x00 anyOwner v = true → v.argsWithin [] = true →
    exec (.nop ring) s = .next (s.complete v .ok)) ∧
  (∀ (ring : BitVec 8) (s : State) (v : Verb), admitted s ring 0x01 anyOwner v = true →
    v.argsWithin [0xFFFFFFFF#32, 0xFFFFFFFF#32, 0xFFFFFFFF#32, 0xFFFFFFFF#32] = true →
    exec (.echo ring) s = .next (s.complete v .ok [v.arg 0, v.arg 1, v.arg 2, v.arg 3])) ∧
  (∀ (ring : BitVec 8) (s : State) (v : Verb), admitted s ring 0x06 clientZero v = true →
    v.argsWithin [0x7F7F#32, 0x7FF#32] = true → field (v.arg 0) 6 0 ≤ field (v.arg 0) 14 8 →
    ∃ t : State, exec (.eventRoute ring) s = .next (t.deliverFlags.complete v .ok) ∧ t = { s with regs := t.regs } ∧
      (∀ e, t.reg (Reg.CUE_ROUTE_0 + 4 * e) =
        if field (v.arg 0) 6 0 ≤ e ∧ e ≤ field (v.arg 0) 14 8 then v.arg 1 else s.reg (Reg.CUE_ROUTE_0 + 4 * e)) ∧
      (∀ a, (∀ e, a ≠ Reg.CUE_ROUTE_0 + 4 * e) → t.reg a = s.reg a)) ∧
  (∀ (ring : BitVec 8) (s : State) (v : Verb), admitted s ring 0x07 (pageRight 2) v = true →
    v.argsWithin [0xFFFFFFFF#32, 0xFFFFFFFF#32, 0xFFFFFFFF#32, 0xFFFFFFFF#32] = true →
    ∃ t : State, exec (.irqAck ring) s = .next (t.complete v .ok) ∧ t = { s with regs := t.regs } ∧
      (∀ i, i < 4 → t.reg (Reg.CUE_EV_PEND + 4 * i) = s.reg (Reg.CUE_EV_PEND + 4 * i) &&& ~~~(v.arg i)) ∧
      (∀ a, (∀ i, i < 4 → a ≠ Reg.CUE_EV_PEND + 4 * i) → t.reg a = s.reg a)) ∧
  (∀ (ring : BitVec 8) (s s0 s1 s2 : State) (v : Verb) (r : Nat), admitted s ring 0x05 ringRight v = true →
    v.argsWithin [0x1FF#32] = true → r = field (v.arg 0) 7 0 → s.ringHalted r = true → s0 = s.endFences r .halted →
    s1 = (s0.setFlag (ringWord r 3) 13 false).setFld (ringWord r 3) 19 16 0 →
    s2 = (if bit (v.arg 0) 8 && s.isSubmission r then
        (s1.setFld (ringWord r 3) 11 0 ((s.ringIndex r + 1) % s.ringSize r)).setRing r
          { s0.ring r with finished := (s0.ring r).finished + 1 }
      else s1) →
    ((s2.ringEn r = true ∧ s2.ringCovered r = false) →
      exec (.resume ring) s = .next ((s2.haltRing r 2).complete v .ok [word ((s2.haltRing r 2).ringIndex r)])) ∧
    (¬(s2.ringEn r = true ∧ s2.ringCovered r = false) →
      exec (.resume ring) s = .next (s2.deliverFlags.complete v .ok [word (s2.deliverFlags.ringIndex r)]))) ∧
  (∀ (ring : BitVec 8) (s : State) (v : Verb), admitted s ring 0x05 ringRight v = true → v.argsWithin [0x1FF#32] = true →
    s.ringHalted (field (v.arg 0) 7 0) = false → exec (.resume ring) s = .next (s.complete v .badArg)) ∧
  (∀ (p : Port) (s s0 u : State) (w : BufWord) (r : Nat), fronted s p w s0 = true →
    w.off = Reg.CUE_RESUME → bit w.val 31 = true → r = field w.val 7 0 →
    u = s0.hostSet Reg.CUE_RESUME w.val →
    (s.ringHalted r = true → exec (.cueResumeWrite p) s = .next (u.resumeRing r (bit w.val 8))) ∧
    (s.ringHalted r = false → exec (.cueResumeWrite p) s = .next u)) ∧
  (∀ (p : Port) (s s1 : State) (w : BufWord) (r : Nat), fronted s p w s1 = true → r < 256 →
    w.off = 0x10000 + 4 * r →
    (s.doorbellFault r w.val = 0 → s.isSubmission r = true →
      exec (.doorbellWrite p) s = .next { s1.setReg (Reg.CUE_DOORBELL + 4 * r) w.val with
        ladder := { s.ladder with idleCount := 0 } }) ∧
    (s.doorbellFault r w.val = 0 → s.isSubmission r = false →
      ∃ t : State, exec (.doorbellWrite p) s = .next (t.testCount r).deliverFlags ∧ t.ringTail r = field w.val 11 0 ∧
        t.flag (Reg.CUE_RING_PEND + 4 * (r / 32)) (r % 32) = false ∧ (t.ring r).unsignalled = t.ringUsed r ∧
        t.ladder.idleCount = 0) ∧
    (s.doorbellFault r w.val ≠ 0 → s.flag Reg.CUE_DB_LOG 31 = true → exec (.doorbellWrite p) s = .next s1) ∧
    (s.doorbellFault r w.val ≠ 0 → s.flag Reg.CUE_DB_LOG 31 = false →
      exec (.doorbellWrite p) s = .next ((s1.setReg Reg.CUE_DB_LOG
        (word (2 ^ 31 + 0x100000 * s.doorbellFault r w.val + 256 * field w.val 11 0 + r))).raise 11
        (word (r + 256 * s.doorbellFault r w.val))))) ∧
  (∀ (s : State) (r : Nat), s.testCount r =
    if max 1 (s.fld (ringWord r 2) 7 0) ≤ (s.ring r).unsignalled ∧ s.flag (ringWord r 1) 24 = true then
      (s.setFlag (Reg.CUE_RING_PEND + 4 * (r / 32)) (r % 32) true).setRing r { s.ring r with unsignalled := 0 }
    else s)

/-- FENCE: with no entry of the named ring unfinished it completes at once with the count of finished entries; on a halted ring
with HALTED; else it waits, and completes once the fenced entries have finished, with HALTED where their ring halts, with TIMEOUT
where its time passes first. The entries it waits for are those announced and not fetched and those fetched and not finished. A ring
that is no enabled submission ring, its own ring, and a ring that is disabled while it waits give BAD_ARG. -/
def Obligations.FencesWaitForTheirEntries : Prop :=
  (∀ (ring : BitVec 8) (s : State) (v : Verb) (f : Nat), admitted s ring 0x02 anyOwner v = true →
    v.argsWithin [0xFF#32, 0xFFFF#32] = true → f = field (v.arg 0) 7 0 →
    exec (.fence ring) s = .next (
      if f = v.ring ∨ !s.ringEn f ∨ !s.isSubmission f then s.complete v .badArg
      else if s.fenceLeft f = 0 then s.complete v .ok [word ((s.ring f).finished % s.ringSize f)]
      else if s.ringHalted f then s.complete v .halted
      else s.await v (.fence f ((s.ring f).finished + s.fenceLeft f)) (field (v.arg 1) 15 0))) ∧
  (∀ (ring : BitVec 8) (s : State) (v : Verb) (f : Fetched) (target mark : Nat), (s.ring ring.toNat).cur = some f →
    s.verbOf ring.toNat = some v → f.waiting = some (.fence target mark) →
    (mark ≤ (s.ring target).finished →
      exec (.fenceComplete ring) s = .next (s.complete v .ok [word ((s.ring target).finished % s.ringSize target)])) ∧
    ((s.ring target).finished < mark → s.ringHalted target = true →
      exec (.fenceComplete ring) s = .next (s.complete v .halted)) ∧
    ((s.ring target).finished < mark → s.ringHalted target = false → exec (.fenceComplete ring) s = .next s) ∧
    (0 < f.timeout → f.timeout ≤ s.elapsed f.since → (s.ring target).finished < mark →
      exec (.fenceTimeout ring) s = .next (s.complete v .timeout))) ∧
  (∀ (s : State) (f : Nat), s.fenceLeft f = (s.ringTail f + s.ringSize f - s.ringIndex f) % s.ringSize f +
    (if s.ringType f = 4 then (s.ens.jobs.filter (fun j => j.ring == some f && !j.orphan)).length
     else if ((s.ring f).cur.any (fun e => !e.orphan)) = true then 1 else 0)) ∧
  (∀ (s : State) (f q : Nat) (v : Verb), s.isSubmission f = true → (s.ring f).outbox = [] → (s.ring f).setupBy = none → q ≠ f →
    s.fencesOn f = [q] → s.verbOf q = some v →
    ∃ t : State, s.disableRing f = t.complete v .badArg ∧ t.ringEn f = false) ∧
  (∀ (ring : BitVec 8) (s : State), (s.ring ring.toNat).cur.isSome = true → s.ringType ring.toNat = 0 →
    exec (.entryFetch ring) s = .next s)

/-- An enable of a ring, its words stored with EN 0: a failed check sets ERR and changes nothing else; a submission ring is
enabled empty at once; a part-to-host ring starts its zero fill and stays disabled until it ends. The commands that set rings up
and stop them: writes of word 1 with EN 1 and EN 0, which test the count of a disabled ring anew, RING_SETUP, RING_STOP, and the
end of a zero fill. A disable of a part-to-host ring that holds events alone, and for which no FENCE waits: EN 0, no fill, its
events back in their pending flags in order, and its other words, its doorbell and every other register as they were, HALTED and
HALT_CAUSE among them (log entry 55). -/
def Obligations.RingsAreSetUpAndStopped : Prop :=
  (∀ (s : State) (r : Nat) (byZero : Bool),
    (s.ringCheck r byZero = false → s.enableRing r byZero = s.setFlag (ringWord r 3) 15 true) ∧
    (s.ringCheck r byZero = true → s.isSubmission r = true →
      (s.enableRing r byZero).ringEn r = true ∧ (s.enableRing r byZero).ringIndex r = 0 ∧
      (s.enableRing r byZero).ringTail r = 0 ∧ (s.enableRing r byZero).flag (ringWord r 3) 15 = false ∧
      (s.enableRing r byZero).ringHalted r = false ∧ ((s.enableRing r byZero).ring r).finished = 0) ∧
    (s.ringCheck r byZero = true → s.isSubmission r = false →
      (s.enableRing r byZero).ringEn r = s.ringEn r ∧ ((s.enableRing r byZero).ring r).enabling = true ∧
      (s.enableRing r byZero).ringIndex r = 0 ∧ (s.enableRing r byZero).flag (ringWord r 3) 12 = true ∧
      (s.enableRing r byZero).ringTail r = 0) ∧
    (∀ a, a ∉ [ringWord r 1, ringWord r 3, Reg.CUE_DOORBELL + 4 * r] → (s.enableRing r byZero).reg a = s.reg a) ∧
    storesSame s (s.enableRing r byZero)) ∧
  (∀ (p : Port) (s s1 : State) (w : BufWord) (r : Nat), fronted s p w s1 = true → r < 256 →
    w.off = ringWord r 1 →
    (bit w.val 31 = true → s.ringBusy r = true → exec (.ringEnable p) s = .next s1) ∧
    (bit w.val 31 = true → s.ringBusy r = false →
      exec (.ringEnable p) s =
        .next (((s1.hostSet (ringWord r 1) (withBit w.val 31 false)).testCount r).enableRing r (w.client == 0))) ∧
    (bit w.val 31 = false → s.ringBusy r = false →
      exec (.ringDisable p) s = .next ((s1.hostSet (ringWord r 1) w.val).testCount r)) ∧
    (bit w.val 31 = false → s.ringBusy r = true → s.ringType r = 1 → s.pairedBy r = true →
      exec (.ringDisable p) s = .next (s1.setFlag (ringWord r 3) 15 true)) ∧
    (bit w.val 31 = false → s.ringBusy r = true → ¬(s.ringType r = 1 ∧ s.pairedBy r = true) →
      exec (.ringDisable p) s = .next (s1.disableRing r))) ∧
  (∀ (ring : BitVec 8) (s s1 : State) (v : Verb) (r : Nat), admitted s ring 0x03 setupRight v = true →
    v.argsWithin [0xFF#32, 0x7FFFFF#32, 0x83FF3FFF#32, 0xFFFFFFFF#32] = true → r = field (v.arg 0) 7 0 →
    s1 = State.enableRing ((((s.hostSet (ringWord r 2) (v.arg 3)).hostSet (ringWord r 0) (v.arg 1)).hostSet (ringWord r 1)
      (withBit (v.arg 2) 31 false)).testCount r) r (v.owner == 0) →
    (s.ringBusy r = true → exec (.ringSetup ring) s = .next ((s.setFlag (ringWord r 3) 15 true).complete v .badArg)) ∧
    (s.ringBusy r = false → s1.flag (ringWord r 3) 15 = true → exec (.ringSetup ring) s = .next (s1.complete v .badArg)) ∧
    (s.ringBusy r = false → s1.flag (ringWord r 3) 15 = false → s1.ringEn r = true →
      exec (.ringSetup ring) s = .next (s1.complete v .ok)) ∧
    (s.ringBusy r = false → s1.flag (ringWord r 3) 15 = false → s1.ringEn r = false →
      exec (.ringSetup ring) s =
        .next ((s1.setRing r { s1.ring r with setupBy := some v.ring }).await v (.ringFill r) 0))) ∧
  (∀ (ring : BitVec 8) (s : State) (v : Verb) (r : Nat), admitted s ring 0x04 ringRight v = true →
    v.argsWithin [0xFF#32] = true → r = field (v.arg 0) 7 0 →
    (s.ringBusy r = false → exec (.ringStop ring) s = .next (s.complete v .badArg)) ∧
    (s.ringBusy r = true → s.ringType r = 1 → s.pairedBy r = true →
      exec (.ringStop ring) s = .next ((s.setFlag (ringWord r 3) 15 true).complete v .badArg)) ∧
    (s.ringBusy r = true → ¬(s.ringType r = 1 ∧ s.pairedBy r = true) →
      exec (.ringStop ring) s = .next ((s.disableRing r).complete v .ok))) ∧
  (∀ (ring : BitVec 8) (s s2 : State) (r : Nat), r = ring.toNat → (s.ring r).enabling = true →
    s2 = ((s.zeroHall (s.entryAddr r 0) (s.entryBytes r * s.ringSize r)).setRing r
      { s.ring r with enabling := false, setupBy := none }).setFlag (ringWord r 1) 31 true →
    ((s.ring r).setupBy = none → exec (.ringFillDone ring) s = .next s2.deliverFlags) ∧
    (∀ q, (s.ring r).setupBy = some q → exec (.ringFillDone ring) s = .next (s2.completeRing q .ok).deliverFlags)) ∧
  (∀ (s : State) (r : Nat), (s.ring r).setupBy = none → s.fencesOn r = [] →
    (∀ e ∈ (s.ring r).outbox, ∃ n c a t, e = .event n c a t) →
    (s.disableRing r).ringEn r = false ∧ ((s.disableRing r).ring r).enabling = false ∧
    ((s.disableRing r).ring r).outbox = [] ∧
    (s.disableRing r).flags = (s.ring r).outbox.foldl (fun fs e => match e with
      | .event n c a t => holdFlag fs { event := n, count := c, arg := a, tick := t, ringOnly := true }
      | _ => fs) s.flags ∧
    storesSame s (s.disableRing r) ∧ (∀ a, a ≠ ringWord r 1 → (s.disableRing r).reg a = s.reg a))

/-- The fetch of a ready COMMAND or MESSAGE SEND ring's next entry: nothing while PAIR has no room or another ring has its turn;
outside every lease the ring halts with cause 2; a malformed entry halts it with cause 1 and completes with BAD_VERB, a malformed
MESSAGE with VERB 0xFD and TAG 0 (log entry 55); any other entry is in execution, with the PEER and the page's mode of its fetch,
and INDEX has moved on. A MESSAGE entry: BAD_ARG where its PEER is no enabled RECV ring or has been disabled since its own ring was
enabled, held while that PEER is halted or full or an earlier message to it waits, else on its way to PEER with its sender's ring
and client; once its payload is written it is completed with OK unless it is silent. -/
def Obligations.EntriesAreFetchedAndSent : Prop :=
  (∀ (ring : BitVec 8) (s : State) (r i : Nat) (ws : List Word), r = ring.toNat → s.fetchReady r = true → s.ringType r ≠ 4 →
    i = s.ringIndex r → ws = s.hallWords (s.entryAddr r i) 8 →
    (s.pairHolds r = true → exec (.entryFetch ring) s = .next s) ∧
    (s.pairHolds r = false → s.fetchTurn r = false → exec (.entryFetch ring) s = .next s) ∧
    (s.pairHolds r = false → s.fetchTurn r = true → s.ringCovered r = false →
      exec (.entryFetch ring) s = .next { s.haltRing r 2 with fetched := r }) ∧
    (s.pairHolds r = false → s.fetchTurn r = true → s.ringCovered r = true → entryMalformed (s.ringType r) ws = true →
      exec (.entryFetch ring) s = .next { (s.haltRing r 1).post (s.ringPair r)
        (.completion (if s.ringType r = 5 then 0 else field (nth ws 0) 31 16)
          (if s.ringType r = 5 then 0xFD else field (nth ws 0) 7 0) Status.badVerb.code i r [] false) with fetched := r }) ∧
    (s.pairHolds r = false → s.fetchTurn r = true → s.ringCovered r = true → entryMalformed (s.ringType r) ws = false →
      exec (.entryFetch ring) s = .next { (s.setFld (ringWord r 3) 11 0
        ((i + 1) % s.ringSize r)).setRing r { s.ring r with
          cur := some { words := ws, index := i, seq := s.fetchSeq, peer := s.fld (ringWord r 2) 31 24
                        busy := s.ringType r == 0 && s.verbClosed (field (nth ws 0) 7 0) } } with fetched := r })) ∧
  (∀ (ring : BitVec 8) (s s1 : State) (r : Nat) (f : Fetched) (open_ : Bool), r = ring.toNat → (s.ring r).cur = some f →
    f.started = false → s.ringType r = 5 → s1 = s.setRing r { s.ring r with cur := some { f with started := true } } →
    open_ = (s.ringEn f.peer && s.ringType f.peer == 5 && s.flag (ringWord f.peer 1) 7 && !(s.ring f.peer).cutOff.contains r) →
    (open_ = false → exec (.messageSend ring) s =
      .next (s1.post (s.pairNow r) (.completion 0 0xFD Status.badArg.code f.index r [] true))) ∧
    (open_ = true → (s.ringHalted f.peer || !s.ringRoom f.peer || s.messageAhead f) = true →
      exec (.messageSend ring) s = .next s) ∧
    (open_ = true → (s.ringHalted f.peer || !s.ringRoom f.peer || s.messageAhead f) = false →
      exec (.messageSend ring) s =
        .next (s1.post f.peer (.message (f.words.take 7) r ((f.leftTo.map (·.1)).getD (s.ringOwner r)))))) ∧
  (∀ (s : State) (p : List Word) (src owner : Nat) (f : Fetched), (s.ring src).cur = some f →
    s.finishEntry (.message p src owner) =
      if bit (nth f.words 7) 0 = true then s.finish src
      else (s.setRing src { s.ring src with cur := some { f with started := true } }).post (s.pairNow src)
        (.completion 0 0xFD Status.ok.code f.index src [] true))

/-- An entry laid in a slot of a part-to-host ring: every byte of its 32 that a lease covers holds the entry's word, PHASE in bit
31 of the last one, and every other byte of the Hall reads as before; INDEX moves on, and PHASE toggles at the wrap alone. The
writer of a part-to-host ring: a ring outside every lease halts with cause 2, in a full ring the entry waits, else the oldest
entry of the ring's type is laid in the next slot, counted, and its submission entry finished. WAITING reads 1 while an enabled
part-to-host ring has no slot, while the PAIR of an enabled submission ring is full or halted, and while the enabled PEER of an
enabled MESSAGE SEND ring is. -/
def Obligations.EntriesAreWrittenInOrder : Prop :=
  (∀ (s : State) (r : Nat) (e : OutEntry) (ws : List Word),
    ws = (s.entryWords e).take 7 ++ [withBit (nth (s.entryWords e) 7) 31 (s.flag (ringWord r 3) 12)] →
    (∀ a, (s.layEntry r e).hallRaw a =
      if s.entryAddr r (s.ringIndex r) ≤ a ∧ a < s.entryAddr r (s.ringIndex r) + 32 ∧ s.leased a = true
      then (wordsBytes ws).getD (a - s.entryAddr r (s.ringIndex r)) 0#8 else s.hallRaw a) ∧
    (s.layEntry r e).ringIndex r = (s.ringIndex r + 1) % s.ringSize r % 4096 ∧
    (s.layEntry r e).flag (ringWord r 3) 12 =
      (if s.ringIndex r + 1 = s.ringSize r then !s.flag (ringWord r 3) 12 else s.flag (ringWord r 3) 12) ∧
    (∀ a, a ≠ ringWord r 3 → (s.layEntry r e).reg a = s.reg a) ∧
    (s.layEntry r e).flash = s.flash ∧ (s.layEntry r e).fuses = s.fuses ∧ (s.layEntry r e).ao = s.ao) ∧
  (∀ (ring : BitVec 8) (s : State) (r : Nat) (e : OutEntry) (rest : List OutEntry), r = ring.toNat → s.hallOn = true →
    s.ringEn r = true → s.ringHalted r = false → s.queued r = e :: rest →
    (s.ringCovered r = false → exec (.entryWrite ring) s = .next (s.haltRing r 2)) ∧
    (s.ringCovered r = true → s.ringSize r - 1 ≤ s.ringUsed r →
      exec (.entryWrite ring) s = .next s) ∧
    (s.ringCovered r = true → s.ringUsed r < s.ringSize r - 1 →
      exec (.entryWrite ring) s =
        .next ((((s.setRing r { s.ring r with outbox := (s.ring r).outbox.erase e }).layEntry r e).countEntry r).finishEntry e))) ∧
  (∀ (ring : BitVec 8) (s : State) (r : Nat), r = ring.toNat → s.coalDue r = true → s.flag (ringWord r 1) 24 = true →
    exec (.coalTicksExpiry ring) s = .next ((s.setFlag (Reg.CUE_RING_PEND + 4 * (r / 32)) (r % 32) true).setRing r
      { s.ring r with unsignalled := 0 })) ∧
  (∀ (s : State) (r pair peer : Nat), r < 256 → s.ringEn r = true → pair = s.ringPair r → peer = s.fld (ringWord r 2) 31 24 →
    (s.isSubmission r = false → bit (s.view (ringWord r 3)) 14 = decide (s.ringSize r - 1 ≤ s.ringUsed r)) ∧
    (s.isSubmission r = true → bit (s.view (ringWord r 3)) 14 =
      (s.ringHalted pair || decide (s.ringSize pair - 1 ≤ s.ringUsed pair + (s.queued pair).length) ||
        (s.ringType r == 5 && s.ringEn peer &&
          (s.ringHalted peer || decide (s.ringSize peer - 1 ≤ s.ringUsed peer + (s.queued peer).length))))))

/-- The start sequence: after POR or a SYSTEM reset the fuses are loaded; a cold start whose battery stands below the threshold
goes to TACET, any other waits for the supplies, for at most 65 536 ticks, and in TACET CORE and the Hall are off; then the boot
burst runs on FAST_RC over cleared AO memory and ends in power-up tuning. Host release: once items 1, 2, 3 and 5 have ended, or 256
ticks after B6, the part is released with its ticks and phase in BOOT_STATUS, on its PLL frequency where the PLL has locked, and
with EV_BOOT_DONE; task 0 starts, or without a valid configuration the PSEQ_EN outside BOOT_RAIL_MASK are driven low, the rails
inside it are raised one by one, the next after each power-good or its 4096 ticks, and PIANO is requested beside the first rail
(log entry 22). The AO clock and the PLL: a qualified crystal is selected with EV_AO_CLK 1 and items 0 and 1 triggered; a lost one
is left with LOST, QUAL and EV_AO_CLK 0; a PLL that locks lets a part on FAST_RC in TUTTI or MEZZO take its frequency. -/
def Obligations.ThePartStartsAndIsReleased : Prop :=
  (∀ (vbat : Nat) (corrected factBad custBad : Bool) (s s1 : State), (s.boot.step = .por ∨ s.boot.step = .reset) →
    s.boot.sysHeld = false → s1 = (s.startClock.setReg Reg.DEV_BOOT_STATUS 0#32).fuseLoad corrected factBad custBad →
    ((s1.boot.cold = true ∧ vbat < s1.tacetMv) → exec (.startSequence vbat corrected factBad custBad) s = .next s1.enterTacet) ∧
    (¬(s1.boot.cold = true ∧ vbat < s1.tacetMv) → exec (.startSequence vbat corrected factBad custBad) s =
      .next { s1 with boot := { s1.boot with step := .supplies, b3At := s1.edge } })) ∧
  (∀ s : State, s.enterTacet.boot.step = .tacet ∧ s.enterTacet.cur = 5 ∧ s.enterTacet.tgt = 5 ∧ s.enterTacet.banks = 0#48 ∧
    s.enterTacet.ladder.core = .stopped) ∧
  (∀ s : State, s.boot.step = .supplies → s.suppliesOk = false → 65536 ≤ s.elapsed s.boot.b3At →
    exec .supplyStartTimeout s = .next s.enterTacet) ∧
  (∀ (pulses : Nat) (s s1 s2 : State), s.boot.step = .supplies → s.suppliesOk = true → s.jrnl.busy = none →
    s1 = ((s.setFld Reg.DEV_BOOT_STATUS 2 0 1).setCore .fastRc).bootHall →
    s2 = State.bootProfiles { s1.bootJournal pulses with ao := [] } →
    exec (.bootBurst pulses) s = .next s2.takePanel.powerUpTuning) ∧
  (∀ s : State, s.powerUpTuning = (List.range 8).foldl (fun t n => t.tuneTrigger n 0)
    { s.setFld Reg.DEV_BOOT_STATUS 2 0 2 with boot := { s.boot with step := .tuning, b6At := s.edge } }) ∧
  (∀ s s1 s2 u : State, s.releaseDue = true →
    s1 = State.setFld { s with boot := { s.boot with step := .released, releasedAt := s.edge } } Reg.DEV_BOOT_STATUS 31 16
      (min 0xFFFF (s.elapsed s.boot.startAt)) →
    s2 = s1.setFld Reg.DEV_BOOT_STATUS 2 0 (if s.flag Reg.DEV_BOOT_STATUS 12 then 4 else 3) →
    u = (if s2.ladder.core = .fastRc ∧ s2.ladder.pllLocked = true then s2.goFreq (s2.freqFor s2.cur) else s2) →
    (s.flag Reg.DEV_BOOT_STATUS 12 = false → exec .hostRelease s = .next ((u.raise 4 (s2.bootArg false)).startTask 0)) ∧
    (s.flag Reg.DEV_BOOT_STATUS 12 = true → ∀ s3 s4 : State, s3 = u.raise 4 (s2.bootArg true) →
      s4 = ((List.range 12).filter (fun n => !s3.bootMask.testBit n)).foldl (fun s n => s.drivePseq n false) s3 →
      exec .hostRelease s = .next ((State.nextRail { s4 with
        boot := { s4.boot with railsLeft := maskBits 12 s3.bootMask } }).request 2 .boot none))) ∧
  (∀ s : State, s.releaseDue = false → exec .hostRelease s = .next s) ∧
  (∀ s : State, s.boot.step = .released → s.boot.railWait = true →
    exec .bootRailStep s = .next (State.nextRail { s with pins := { s.pins with
      pg := BitVec.ofNat 13 (numWithBit s.pins.pg.toNat s.boot.railLast true) } }) ∧
    (4096 ≤ s.elapsed s.boot.railAt →
      exec .bootRailPgTimeout s = .next (s.setFlag Reg.DEV_BOOT_STATUS 13 true).nextRail) ∧
    (s.elapsed s.boot.railAt < 4096 → exec .bootRailPgTimeout s = .next s)) ∧
  (∀ (s s1 : State) (n : Nat) (rest : List Nat), s.boot.railsLeft = n :: rest →
    s1 = { s.drivePseq n true with
      boot := { s.boot with railsLeft := rest, railWait := true, railLast := n, railAt := s.edge } } →
    s.nextRail = s1) ∧
  (∀ s : State, s.aoRuns = true → s.flag Reg.DEV_AO_CLK 0 = false →
    exec .crystalQualified s = .next (((((s.setFlag Reg.DEV_AO_CLK 0 true).setFlag Reg.DEV_AO_CLK 2 false).raise 6 1#32).tuneTrigger
      0 4).tuneTrigger 1 4)) ∧
  (∀ s : State, s.aoRuns = true → s.flag Reg.DEV_AO_CLK 0 = true →
    ∃ t, exec .crystalLost s = .next t ∧ t.flag Reg.DEV_AO_CLK 0 = false ∧ t.flag Reg.DEV_AO_CLK 1 = true ∧
      t.flag Reg.DEV_AO_CLK 2 = true ∧ othersSame [Reg.DEV_AO_CLK] s t ∧ storesSame s t) ∧
  (∀ s s1 : State, s1 = { s with ladder := { s.ladder with pllLocked := true } } →
    (s.boot.step = .released → s.ladder.core = .fastRc → s.cur ≤ 1 → s.boot.coreHeld = false →
      exec .pllLock s = .next (s1.goFreq (s.freqFor s.cur))) ∧
    (¬(s.boot.step = .released ∧ s.ladder.core = .fastRc ∧ s.cur ≤ 1 ∧ s.boot.coreHeld = false) →
      exec .pllLock s = .next s1))

/-- POR: the Metronome is 0, the start is cold, nothing waits and nothing runs, the Hall and AO memory are empty, LADDER_STATE
shows TUTTI with CORE stopped, every register without an undefined field has its POR value, and the commands that wait are kept.
-/
def Obligations.PorLeavesPorValues : Prop :=
  ∀ s : State, ∃ t, exec .por s = .next t ∧ t.metro = 0#48 ∧ t.boot = {} ∧ t.rings = [] ∧ t.flags = [] ∧ t.commits = [] ∧
    t.hall = [] ∧ t.ao = [] ∧ t.portA = {} ∧ t.portB = {} ∧ t.cur = 0 ∧ t.ladder.core = .stopped ∧ t.pending = s.pending ∧
    (∀ a, a ≠ Reg.DEV_LADDER_STATE → (∀ r, regSpec a = some r → r.undef = 0#32) → t.reg a = porWord a)

/-- A SYSTEM reset that is applied: EPOCH rises, the cause is recorded, rings, boundary requests and port buffers are dropped, the
pads are latched at the levels of the tick's start, CORE stops and the start sequence begins anew, not from cold. Who asks for a
SYSTEM reset: RESET_N, RESET with SYSTEM, RESET_REQ with SYSTEM and the watchdog under ACTION 1; none in POR and in TACET, where
RESET_N is ignored; it ends once its causes are gone, and the start sequence then begins at that tick. A CORE reset: dropped while a
reset is applied or another one waits, and outside TUTTI and MEZZO with no move running; it waits while a move runs; else it is
applied for 2 ticks, and at its end CORE has the clock it had, with what came meanwhile, and EV_BOOT_DONE is raised with CFG_NONE
as the last start left it. -/
def Obligations.ResetsAreAskedForAndApplied : Prop :=
  (∀ (s : State) (cause : Nat), s.boot.sysHeld = false → cause < 16 →
    ∃ t, s.applySystem cause = t ∧ t.fld Reg.DEV_EPOCH 15 0 = (s.fld Reg.DEV_EPOCH 15 0 + 1) % 65536 ∧
      t.fld Reg.DEV_RESET_CAUSE 3 0 = cause ∧ t.rings = [] ∧ t.commits = [] ∧
      t.expertWait = [] ∧ t.portA = {} ∧ t.portB = {} ∧ t.tap = {} ∧ t.ladder.core = .stopped ∧ t.cur = 0 ∧
      t.pins.pseqEn = s.pins.pseqAt ∧ t.pins.pnlEn = s.pins.pnlAt ∧ t.pins.chgEnLow = s.pins.chgAt ∧
      t.pins.pseqLatched = 0xFFF#12 ∧ t.pins.pnlLatched = 0xF#4 ∧ t.pins.chgLatched = true ∧
      t.pending = s.pending ∧ t.metro = s.metro ∧
      t.boot = { step := .reset, cold := false, sysHeld := true, startAt := s.edge
                 sysUntil := if cause = 1 then s.edge else s.edge + 2#48 }) ∧
  (∀ (s : State) (cause : Nat), (s.boot.step = .por ∨ s.boot.step = .tacet) → s.systemReset cause = s) ∧
  (∀ (s : State) (cause : Nat), ¬(s.boot.step = .por ∨ s.boot.step = .tacet) → s.systemReset cause = s.applySystem cause) ∧
  (∀ s : State,
    ((s.boot.step = .por ∨ s.boot.step = .tacet) → exec .resetNLow s = .next s) ∧
    (¬(s.boot.step = .por ∨ s.boot.step = .tacet) →
      exec .resetNLow s = .next (State.applySystem { s with pins := { s.pins with resetN := false } } 1))) ∧
  (∀ s : State, s.boot.sysHeld = true → s.elapsed s.boot.sysUntil < 2 ^ 47 →
    exec .systemResetEnd s = .next { s with
      pins := { s.pins with resetN := true }, boot := { s.boot with sysHeld := false, startAt := s.edge } }) ∧
  (∀ (p : Port) (s s0 : State) (w : BufWord), fronted s p w s0 = true → w.off = Reg.DEV_RESET_REQ →
    field w.val 31 16 = 0x7740 → bit w.val 1 = true →
    exec (.resetReqSystem p) s = .next (s0.systemReset 3)) ∧
  (∀ (ring : BitVec 8) (s : State) (v : Verb) (f : Fetched), admitted s ring 0x14 clientZero v = true →
    v.argsWithin [1#32] = true → bit (v.arg 0) 0 = true → (s.ring v.ring).cur = some f →
    exec (.reset ring) s = .next ((s.setRing v.ring { s.ring v.ring with cur := some { f with started := true } }).systemReset 3)) ∧
  (∀ (s : State) (cause : Nat),
    (s.boot.step ≠ .released ∨ s.boot.sysHeld = true ∨ s.boot.coreHeld = true ∨ s.boot.coreWaiting.isSome = true) →
    s.coreReset cause = s) ∧
  (∀ (s : State) (cause : Nat), s.boot.step = .released → s.boot.sysHeld = false → s.boot.coreHeld = false →
    s.boot.coreWaiting = none →
    (s.moving = true → s.coreReset cause = { s with boot := { s.boot with coreWaiting := some cause } }) ∧
    (s.moving = false → 2 ≤ s.cur → s.coreReset cause = s) ∧
    (s.moving = false → s.cur ≤ 1 → s.coreReset cause = s.applyCore cause)) ∧
  (∀ (s : State) (cause : Nat), cause < 16 →
    (s.applyCore cause).fld Reg.DEV_RESET_CAUSE 3 0 = cause ∧ (s.applyCore cause).boot.coreHeld = true ∧
    (s.applyCore cause).boot.coreUntil = s.edge + 2#48 ∧ (s.applyCore cause).boot.coreWas = s.ladder.core ∧
    (s.applyCore cause).boot.coreWaiting = none ∧ (s.applyCore cause).boot.step = s.boot.step) ∧
  (∀ (p : Port) (s s0 : State) (w : BufWord), fronted s p w s0 = true → w.off = Reg.DEV_RESET_REQ →
    field w.val 31 16 = 0x7740 → bit w.val 1 = false → bit w.val 0 = true →
    exec (.resetReqCore p) s = .next (s0.coreReset 6)) ∧
  (∀ (s : State) (cause : Nat), s.boot.coreWaiting = some cause →
    (s.moving = true → exec .coreResetAfterMove s = .next s) ∧
    (s.moving = false → s.cur ≤ 1 →
      exec .coreResetAfterMove s = .next (State.applyCore { s with boot := { s.boot with coreWaiting := none } } cause)) ∧
    (s.moving = false → 2 ≤ s.cur →
      exec .coreResetAfterMove s = .next (State.dropResetVerbs { s with boot := { s.boot with coreWaiting := none } }))) ∧
  (∀ s s1 s2 : State, s.boot.coreHeld = true → s.elapsed s.boot.coreUntil < 2 ^ 47 →
    s1 = State.setCore { s with boot := { s.boot with coreHeld := false } } s.boot.coreWas →
    s2 = (if s1.ladder.core = .fastRc ∧ s1.ladder.pllLocked = true ∧ s1.cur ≤ 1 then s1.goFreq (s1.freqFor s1.cur) else s1) →
    exec .coreResetEnd s = .next ((s2.repairJournal.restartScan.deliverFlags).raise 4
      (s.bootArg (s.flag Reg.DEV_BOOT_STATUS 12))))

/-- The watchdog: WDOG_CONFIG and a write of its register take effect unless LOCK is 1; a kick by verb or by the write of its code
restarts the count, a wrong code sets BAD_KICK; the warning comes once, at half of PERIOD; the reset of ACTION at PERIOD. The ways
out of TACET: the power key, once it has been held for HOLD ticks with the battery at or above the threshold, and a rise of the
battery above it where that is allowed; the start counts as one from cold with cause 4; WAKE_SRC, WAKE_TICK and TACET_CFG keep their values, the Metronome goes
on, and rings, Hall and AO memory are empty. -/
def Obligations.WatchdogAndTacetExits : Prop :=
  (∀ (ring : BitVec 8) (s : State) (v : Verb), admitted s ring 0x15 clientZero v = true → v.argsWithin [0xD0FFFFFF#32] = true →
    (s.flag Reg.DEV_WDOG_CFG 30 = true → exec (.wdogConfig ring) s = .next (s.complete v .halted)) ∧
    (s.flag Reg.DEV_WDOG_CFG 30 = false →
      exec (.wdogConfig ring) s = .next ((s.hostSet Reg.DEV_WDOG_CFG (v.arg 0)).complete v .ok))) ∧
  (∀ (ring : BitVec 8) (s : State) (v : Verb), admitted s ring 0x16 kickRight v = true → v.argsWithin [] = true →
    exec (.wdogKick ring) s = .next (State.complete (State.setFld { s with boot := { s.boot with wdogEarlyDone := false } }
      Reg.DEV_WDOG_STATUS 23 0 0) v .ok)) ∧
  (∀ (p : Port) (s s1 : State) (w : BufWord), fronted s p w s1 = true → w.off = Reg.DEV_WDOG_KICK →
    (field w.val 15 0 = 0xA5C3 → exec (.wdogKickWrite p) s = .next (State.setFld { s1 with
      boot := { s1.boot with wdogEarlyDone := false } } Reg.DEV_WDOG_STATUS 23 0 0)) ∧
    (field w.val 15 0 ≠ 0xA5C3 → exec (.wdogKickWrite p) s = .next (s1.setFlag Reg.DEV_WDOG_STATUS 25 true))) ∧
  (∀ s : State, s.wdogEarlyDue = true → exec .wdogEarly s = .next ((State.setFlag { s with
    boot := { s.boot with wdogEarlyDone := true } } Reg.DEV_WDOG_STATUS 24 true).raise 5 (word (s.fld Reg.DEV_WDOG_CFG 23 0)))) ∧
  (∀ s : State, s.wdogExpired = true →
    (s.flag Reg.DEV_WDOG_CFG 28 = true → exec .wdogExpiry s = .next (s.wdogWarn.systemReset 2)) ∧
    (s.flag Reg.DEV_WDOG_CFG 28 = false → exec .wdogExpiry s = .next (s.wdogWarn.coreReset 5))) ∧
  (∀ (mv : List Nat) (s : State), s.boot.step = .tacet →
    (max 1 (s.fld Reg.DEV_TACET_CFG 15 0) ≤ (mv.reverse.takeWhile (fun v => decide (s.tacetMv ≤ v))).length →
      exec (.powerKeyHold mv) s = .next s.leaveTacet) ∧
    ((mv.reverse.takeWhile (fun v => decide (s.tacetMv ≤ v))).length < max 1 (s.fld Reg.DEV_TACET_CFG 15 0) →
      exec (.powerKeyHold mv) s = .next s)) ∧
  (∀ (vbat : Nat) (s : State), s.boot.step = .tacet →
    (s.flag Reg.DEV_TACET_CFG 16 = true → s.tacetMv < vbat → exec (.vbatRise vbat) s = .next s.leaveTacet) ∧
    (s.flag Reg.DEV_TACET_CFG 16 = false → exec (.vbatRise vbat) s = .next s)) ∧
  (∀ s : State,
    s.leaveTacet.fld Reg.DEV_RESET_CAUSE 3 0 = 4 ∧ s.leaveTacet.reg Reg.DEV_WAKE_SRC = s.reg Reg.DEV_WAKE_SRC ∧
    s.leaveTacet.reg Reg.DEV_WAKE_TICK = s.reg Reg.DEV_WAKE_TICK ∧
    s.leaveTacet.reg Reg.DEV_TACET_CFG = s.reg Reg.DEV_TACET_CFG ∧ s.leaveTacet.metro = s.metro ∧
    s.leaveTacet.boot = { step := .reset, cold := true, startAt := s.edge } ∧ s.leaveTacet.rings = [] ∧
    s.leaveTacet.hall = [] ∧ s.leaveTacet.ao = [])

/-- A ladder request with no move running: the ceiling reduces it; the state in force is answered at once, with OK_DEGRADED where
the ceiling reduced it; any other state begins a move that starts at the state in force. The commands that ask the ladder for a
state or set it up; a write of LADDER_REQ with GO while a move runs is ignored, TARGET too (the model's reading, log entry 59). -/
def Obligations.LadderRequestsBeginMoves : Prop :=
  (∀ (s : State) (target : Nat) (cause : MoveCause) (t : Nat), s.moving = false → t = max target s.ceil → target < 8 →
    (t = s.cur → s.request target cause none = s.setTgt t) ∧
    (t = s.cur → ∀ r, s.request target cause (some r) =
      (s.setTgt t).completeRing r (if t = target then .ok else .okDegraded) [word t]) ∧
    (t ≠ s.cur → ∀ ring : Option Nat,
      (s.request target cause ring).moving = true ∧ (s.request target cause ring).tgt = t ∧
      (s.request target cause ring).cur = s.cur ∧ (s.request target cause ring).ladder.step = firstStep s.cur t ∧
      (s.request target cause ring).ladder.start = s.cur ∧ (s.request target cause ring).ladder.cause = cause ∧
      (s.request target cause ring).ladder.byRing = ring ∧
      (∀ a, a ≠ Reg.DEV_LADDER_STATE → (s.request target cause ring).reg a = s.reg a) ∧
      storesSame s (s.request target cause ring))) ∧
  (∀ (ring : BitVec 8) (s : State) (v : Verb), admitted s ring 0x10 (pageRight 0) v = true → v.argsWithin [0x7#32] = true →
    field (v.arg 0) 2 0 ≤ 5 →
    exec (.ladderSet ring) s = .next ((s.request (field (v.arg 0) 2 0) .verb (some v.ring)).repeatVcore)) ∧
  (∀ (p : Port) (s s0 s1 : State) (w : BufWord), fronted s p w s0 = true → w.off = Reg.DEV_LADDER_REQ →
    bit w.val 31 = true → s1 = s0.hostSet Reg.DEV_LADDER_REQ w.val →
    (s.moving = false → field w.val 2 0 ≤ 5 →
      exec (.ladderReqGo p) s = .next (s1.request (field w.val 2 0) .register none)) ∧
    (s.moving = false → 5 < field w.val 2 0 → exec (.ladderReqGo p) s = .next s1) ∧
    (s.moving = true → exec (.ladderReqGo p) s = .next s0)) ∧
  (∀ (ring : BitVec 8) (s : State) (v : Verb), admitted s ring 0x11 clientZero v = true →
    v.argsWithin [0x377#32, 0x87FFFFFF#32, 0xFFFFFF#32, 0x0FF1FFFF#32] = true →
    exec (.ladderConfig ring) s = .next (((((s.applyLadderCfg (v.arg 0)).hostSet Reg.DEV_IDLE (v.arg 1)).hostSet Reg.DEV_WAKE_TGT
      (v.arg 2)).hostSet Reg.DEV_TACET_CFG (v.arg 3)).complete v .ok)) ∧
  (∀ (ring : BitVec 8) (s s1 : State) (v : Verb), admitted s ring 0x12 clientZero v = true →
    v.argsWithin [0xF#32, 0x03FF03FF#32] = true →
    s1 = (s.setReg Reg.DEV_BURST_CFG (v.arg 0)).setReg Reg.DEV_VCORE_CFG (v.arg 1) →
    exec (.ladderTune ring) s = .next (State.complete { s1 with
      ladder := { s.ladder with tokens := min s.ladder.tokens (max 1 (field (v.arg 0) 3 0)) } } v .ok)) ∧
  (∀ (ring : BitVec 8) (s : State) (v : Verb), admitted s ring 0x13 clientZero v = true →
    v.argsWithin [0xFFFFFFFF#32, 0x1#32] = true →
    exec (.alarmSet ring) s = .next (((s.setReg Reg.DEV_ALARM (v.arg 0)).setFlag Reg.DEV_ALARM_CTL 0 (bit (v.arg 1) 0)).complete v .ok))

/-- What wakes or moves the ladder by itself: the alarm, a host select and a lane wake while CORE is stopped, and the idle timer,
which restarts and requests its target unless that is 0 or no state. A wake source that is recognised: it is watched in the state
in force, its target lies above that state, no ascent as far runs and none was recognised at this tick; WAKE_SRC and WAKE_TICK
record it and the target is requested, and EV_WAKE is raised at the end of the tick with every source recorded in it (the model's
reading, log entry 25). -/
def Obligations.TheLadderWakesAndIdles : Prop :=
  (∀ s : State, s.alarmDue = true →
    exec .alarmMatch s = .next (((s.setFlag Reg.DEV_ALARM_CTL 1 true).raise 7 (word (s.metro.toNat / 2 ^ 32))).wake 8)) ∧
  (∀ s : State, s.alarmDue = false → exec .alarmMatch s = .next s) ∧
  (∀ (p : Port) (s : State), 2 ≤ s.cur → s.cur ≤ 4 → exec (.hostSelectWake p) s = .next (s.wake 5)) ∧
  (∀ (p : Port) (s : State), ¬(2 ≤ s.cur ∧ s.cur ≤ 4) → exec (.hostSelectWake p) s = .next s) ∧
  (∀ s : State, s.lanesSeen = true → 2 ≤ s.cur → exec .dsiLaneWake s = .next (s.wake 6)) ∧
  (∀ s s1 : State, s.idleDue = true → s1 = { s with ladder := { s.ladder with idleCount := 0 } } →
    (s.fld Reg.DEV_IDLE 26 24 = 0 ∨ 6 ≤ s.fld Reg.DEV_IDLE 26 24 → exec .idleTimer s = .next s1) ∧
    (s.fld Reg.DEV_IDLE 26 24 ≠ 0 → s.fld Reg.DEV_IDLE 26 24 < 6 →
      exec .idleTimer s = .next (s1.request (s.fld Reg.DEV_IDLE 26 24) .idle none))) ∧
  (∀ s : State, s.idleDue = false → exec .idleTimer s = .next s) ∧
  (∀ (s s1 s2 : State) (b t : Nat), b < 12 → t = max (s.fld Reg.DEV_WAKE_TGT (2 * b + 1) (2 * b)) s.ceil →
    s.boot.step = .released → wakeWatched b s.cur = true → s.fld Reg.DEV_WAKE_TGT (2 * b + 1) (2 * b) ≠ 3 → t < s.cur →
    s.ladder.wokeAt ≠ some s.edge → ¬(s.moving = true ∧ s.tgt < s.cur ∧ s.tgt ≤ t) →
    s1 = s.endBurst →
    s2 = { (s1.setReg Reg.DEV_WAKE_SRC (word (2 ^ b))).setReg Reg.DEV_WAKE_TICK s.now with
      ladder := { s1.ladder with wokeAt := some s.edge, wakeDue := true } } →
    s.wake b = s2.request t .wake none) ∧
  (∀ s : State, (s.ladder.wakeDue = false → s.tellWake = s) ∧
    (s.ladder.wakeDue = true → s.tellWake =
      State.raise { s with ladder := { s.ladder with wakeDue := false } } 1 (s.reg Reg.DEV_WAKE_SRC)))

/-- Bursts and their tokens, and VDD_CORE: a burst takes a token in FERMATA unless it is free, and ends with its counts once
nothing asks for it and no power step of the panel is under way (log entry 60); a token comes back every 32 768 ticks up to TOKENS; a confirmed VDD_CORE lets CORE take 400 MHz, an
unconfirmed one sets VCORE_LOW. -/
def Obligations.BurstsAndVcoreAreServed : Prop :=
  (∀ s : State, s.burstReady = true →
    exec .burstStart s = .next ((State.setCore { s with ladder := { s.ladder with
      burstOn := true, burstFrom := s.edge, tokens := if s.tokenFree then s.ladder.tokens else s.ladder.tokens - 1 } }
      .burst).deliverFlags.kick)) ∧
  (∀ s : State, s.burstReady = false → exec .burstStart s = .next s) ∧
  (∀ s s1 : State, s.ladder.burstOn = true → s.burstWanted = false → s.stave.step = .none →
    s1 = (s.setReg Reg.DEV_BURST_COUNT (s.reg Reg.DEV_BURST_COUNT + 1#32)).setReg Reg.DEV_BURST_TICKS
      (s.reg Reg.DEV_BURST_TICKS + word (s.elapsed s.ladder.burstFrom + 1)) →
    exec .burstEnd s = .next ((State.setCore { s1 with ladder := { s.ladder with burstOn := false } } .stopped).linkOff)) ∧
  (∀ s : State, s.refillDue = true → exec .tokenRefill s = .next { s with ladder := { s.ladder with
    tokens := min (max 1 (s.fld Reg.DEV_BURST_CFG 3 0)) (s.ladder.tokens + 1)
    refillFrom := s.ladder.refillFrom + 32768#48 } }) ∧
  (∀ (mv : Nat) (s : State) (t : BitVec 48), s.ladder.vcoreAt = some t →
    (s.boot.step ≠ .por → s.boot.step ≠ .tacet → s.boot.sysHeld = false →
      ((s.fld Reg.DEV_VCORE_CFG 9 0 + 9) / 10 * 10 ≤ mv →
        exec (.vcoreConfirmed mv) s = .next ((State.setFlag (State.setFlag { s with
          sense := { s.sense with coreMv := some mv }, ladder := { s.ladder with vcoreAt := none } }
          Reg.SENSE_RAIL_STATUS 16 true) Reg.DEV_LADDER_STATE 11 false).setFreq 0)) ∧
      (mv < (s.fld Reg.DEV_VCORE_CFG 9 0 + 9) / 10 * 10 →
        exec (.vcoreConfirmed mv) s = .next (State.setFlag { s with
          sense := { s.sense with coreMv := some mv } } Reg.SENSE_RAIL_STATUS 16 false))) ∧
    (max 1 (s.fld Reg.DEV_VCORE_CFG 25 16) ≤ s.elapsed t →
      exec .vcoreTimeout s = .next (State.setFlag { s with ladder := { s.ladder with vcoreAt := none } }
        Reg.DEV_LADDER_STATE 11 true)) ∧
    (s.elapsed t < max 1 (s.fld Reg.DEV_VCORE_CFG 25 16) → exec .vcoreTimeout s = .next s))

/-- The steps of a descent down to MEZZO and PIANO: D2 once the part is released (log entry 57) and the jobs allow it, D3 and D4 at
a FRAME boundary with MEZZO's frequency, D6 at a FRAME boundary, D7 once no verb, desk or host word is left, D8 below PIANO. The
steps of a descent to FERMATA and TACET: D9 once bursts, a FACE push and the panel's power steps have ended, D10 toward TACET
alone, each after the power-off of a panel that it darkens (log entry 60), D11 once task 1 has halted, or 65 536 ticks after D10
with a halt of cause 4; in TACET CORE is stopped, the rails are low and the Hall is off. -/
def Obligations.DescentsFollowTheirSteps : Prop :=
  (∀ s : State, s.ladder.step = .jobsIdle → s.boot.step ≠ .released → exec .descentJobsIdle s = .next s) ∧
  (∀ s s1 : State, s.ladder.step = .jobsIdle → s.boot.step = .released → s1 = s.jobsAtD2 s.tgt s.forced →
    (s1.forced = true ∨ s1.jobsDone s1.tgt = true →
      exec .descentJobsIdle s = .next { s1 with ladder := { s1.ladder with step := .frame } }) ∧
    (s1.forced = false → s1.jobsDone s1.tgt = false → exec .descentJobsIdle s = .next s1)) ∧
  (∀ s s2 : State, s.ladder.step = .frame → s.atFrame = true →
    s2 = (if (s.setFld Reg.DEV_LADDER_STATE 2 0 1).pllCode.isSome then
        (s.setFld Reg.DEV_LADDER_STATE 2 0 1).goFreq ((s.setFld Reg.DEV_LADDER_STATE 2 0 1).freqFor 1)
      else s.setFld Reg.DEV_LADDER_STATE 2 0 1) →
    (s2.tgt = 1 → exec .descentFrameStep s = .next s2.reachTarget) ∧
    (s2.tgt ≠ 1 → exec .descentFrameStep s = .next s2.panelStep)) ∧
  (∀ s : State, s.ladder.step = .panel →
    (s.atFrame = true → exec .descentPanelStep s = .next s.panelStep) ∧
    (s.atFrame = false → exec .descentPanelStep s = .next s)) ∧
  (∀ s s1 : State, s.ladder.step = .coreStop → s.cur ≤ 1 →
    s.ens.jobs.any (fun j => j.phase == .checked || (j.phase == .running && j.ending.isNone)) = false → s.d7Ready = true →
    s1 = s.stepD7 →
    (s1.tgt = 2 → exec .descentCoreStop s = .next s1.reachTarget) ∧
    (s1.tgt ≠ 2 → s1.stepD8.tgt = 3 → exec .descentCoreStop s = .next s1.stepD8.reachTarget) ∧
    (s1.tgt ≠ 2 → s1.stepD8.tgt ≠ 3 →
      exec .descentCoreStop s = .next { s1.stepD8 with ladder := { s1.stepD8.ladder with step := .fermata } })) ∧
  (∀ s : State, s.ladder.step = .coreStop → 2 ≤ s.cur →
    (s.ladder.burstOn = true → exec .descentCoreStop s = .next s) ∧
    (s.ladder.burstOn = false → s.stepD8.tgt = 3 → exec .descentCoreStop s = .next s.stepD8.reachTarget) ∧
    (s.ladder.burstOn = false → s.stepD8.tgt ≠ 3 →
      exec .descentCoreStop s = .next { s.stepD8 with ladder := { s.stepD8.ladder with step := .fermata } })) ∧
  (∀ s s1 : State, s.ladder.step = .fermata → s.ladder.burstOn = false → s.face.pushing = none → s.stave.step = .none →
    s1 = (if s.cur = 4 then s else s.stepD9) →
    ((s.cur ≠ 4 ∧ s.lit = true ∧ s.flag Reg.FACE_STATUS 8 = true) →
      exec .descentFermataEntry s = .next ((s.setCore .burst).powerOff 2 false)) ∧
    (¬(s.cur ≠ 4 ∧ s.lit = true ∧ s.flag Reg.FACE_STATUS 8 = true) →
      (s1.tgt = 4 → exec .descentFermataEntry s = .next s1.reachTarget) ∧
      (s1.tgt ≠ 4 → s1.lit = true → exec .descentFermataEntry s = .next ((s1.setCore .burst).powerOff 2 false)) ∧
      (s1.tgt ≠ 4 → s1.lit = false → exec .descentFermataEntry s = .next s1.stepD10))) ∧
  (∀ s : State, s.ladder.step = .task1 → s.running 1 = false → exec .task1HaltedTacet s = .next s.stepD11) ∧
  (∀ s : State, s.ladder.step = .task1 → s.running 1 = true → exec .task1HaltedTacet s = .next s) ∧
  (∀ s : State, s.ladder.step = .task1 → 65536 ≤ s.elapsed s.ladder.d10At →
    exec .task1Timeout s = .next (if s.running 1 then s.haltTask 1 4 else s).stepD11) ∧
  (∀ s : State, s.tgt = 5 → s.stepD11 = s.enterTacet.endMove) ∧
  (∀ s : State, s.enterTacet.cur = 5 ∧ s.enterTacet.tgt = 5 ∧ s.enterTacet.boot.step = .tacet ∧
    s.enterTacet.ladder.core = .stopped ∧ s.enterTacet.pins.pseqEn = 0#12 ∧ s.enterTacet.pins.pnlEn = 0#4 ∧
    s.enterTacet.pins.supReq = false ∧ s.enterTacet.pins.alive = false ∧ s.enterTacet.banks = 0#48 ∧ s.enterTacet.hall = [])

/-- D8: the Hall loses its power and its contents, entries announced and not fetched are lost with LOST set, events go back to
their flags, SAMPLE and LOG entries that wait are dropped while completions and messages wait on, no job is left, and CUR shows
PIANISSIMO. -/
def Obligations.HallIsLostBelowPiano : Prop :=
  ∀ s : State, s.stepD8.banks = 0#48 ∧ s.stepD8.hall = [] ∧ s.stepD8.cur = 3 ∧ s.stepD8.ens.jobs = [] ∧
    s.stepD8.ladder.refillRings = true ∧ s.stepD8.flash = s.flash ∧ s.stepD8.fuses = s.fuses ∧ s.stepD8.ao = s.ao ∧
    (s.coreOn = false → ∀ r, (s.stepD8.ring r).outbox = (s.ring r).outbox.filter (fun e => match e with
      | .event .. => false
      | .sample .. => false
      | .log .. => false
      | _ => true)) ∧
    ((∃ r, r < 256 ∧ s.ringEn r = true ∧ s.isSubmission r = true ∧ s.announced r = true) →
      s.stepD8.flag Reg.DEV_LADDER_STATE 12 = true)

/-- The steps of an ascent: CORE starts on FAST_RC and the banks that leases touch are powered; toward PIANO CORE runs for the
refill, for what waits and for FACE's mode, and the target is reached, and so toward PIANISSIMO with the Hall unpowered (log entry
25); toward MEZZO and TUTTI the PLL step refills, restarts the watchdog and lets work
go on. The end of a move: the rung is settled, MOVING falls, MOVES counts it and EV_LADDER_STATE tells the new state, the state it
started in and its cause. -/
def Obligations.AscentsFollowTheirSteps : Prop :=
  (∀ s s1 s2 : State, s.ladder.step = .coreStart → s1 = s.endBurst.setCore .fastRc →
    s2 = (if 3 ≤ s1.cur ∧ s1.tgt ≤ 2 then s1.setBanks s1.touchedBanks else s1) →
    exec .ascentCoreStart s = .next { s2 with ladder := { s2.ladder with step := if s2.tgt ≤ 1 then .pllSwitch else .banks } }) ∧
  (∀ s : State, s.ladder.step = .banks →
    (s.tgt ≤ 2 → exec .ascentBanksPowered s =
      .next (((s.setBanks s.touchedBanks).setFld Reg.DEV_LADDER_STATE 2 0 2).refill.resumeWork.writeAll.faceMode).reachTarget) ∧
    (3 ≤ s.tgt → exec .ascentBanksPowered s =
      .next ((s.setFld Reg.DEV_LADDER_STATE 2 0 3).deliverFlags.kick.faceMode).reachTarget)) ∧
  (∀ s : State, s.ladder.step = .pllSwitch → exec .ascentPllSwitch s = .next s.stepU4) ∧
  (∀ s : State, s.ladder.step ≠ .pllSwitch → exec .ascentPllSwitch s = .next s) ∧
  (∀ s s2 : State, s2 = ((if 2 ≤ s.cur then s.setBanks s.touchedBanks else s).setFld Reg.DEV_LADDER_STATE 2 0 s.tgt).refill →
    ∃ s3 : State, s3 = (State.wdogRestart { s2 with ladder := { s2.ladder with idleCount := 0 } }).resumeWork ∧
      (s.cur ≤ 1 → s.stepU4 = (if s3.pllCode.isSome then s3.goFreq (s3.freqFor s3.cur) else s3).reachTarget) ∧
      (2 ≤ s.cur → s.stepU4 = ((if s3.pllCode.isSome ∨ s3.ladder.pllLocked then s3.goFreq (s3.freqFor s3.cur)
        else s3).tuneHeld.faceMode).reachTarget)) ∧
  (∀ s : State, (s.endMove).moving = false ∧ s.endMove.ladder.step = .none ∧
    s.endMove.fld Reg.DEV_LADDER_STATE 31 16 = (s.fld Reg.DEV_LADDER_STATE 31 16 + 1) % 65536 ∧
    s.endMove.cur = s.cur ∧ s.endMove.flash = s.flash ∧ s.endMove.fuses = s.fuses ∧
    (s.endMove = State.raise { (s.settleRung.setFlag Reg.DEV_LADDER_STATE 7 false).bump Reg.DEV_LADDER_STATE 31 16 with
      ladder := { s.settleRung.ladder with step := .none } } 0
      (word (s.cur + 16 * s.ladder.start + 256 * s.ladder.cause.code))))

/-- Page modes: CTRL 1 makes the page EXPERT with the writer as OWNER and cancels a pending switch; CTRL 0 on an EXPERT page sets
PEND and queues the switch behind the requests that wait; a switch to EXPERT that a verb held takes effect once no verb of the
page executes. A commit that takes effect puts every RW/S word of its page in force as the host reads it, and leaves the words in
force of every other page alone. A host write of an RW/S word while its page's commit is pending is dropped with WRITE_DROPPED
set; otherwise it changes the shadow alone, and what is in force stays. -/
def Obligations.ModesSwitchAndCommitsApply : Prop :=
  (∀ (p : Port) (s s0 : State) (w : BufWord) (pg : Nat), fronted s p w s0 = true → pg < 15 →
    w.off = modeReg pg → bit w.val 0 = true →
    ∃ t, exec (.modeExpert p) s = .next t ∧ t.reg (modeReg pg) = word (1 + 256 * w.client) ∧
      (∀ a, a ≠ modeReg pg → t.reg a = s.reg a) ∧
      t.commits = s.commits.filter (fun q => !(q.page == pg && q.toBasic)) ∧
      t.expertWait.contains pg = s.verbExecuting pg ∧ storesSame s t ∧ t.ao = s.ao ∧ t.portA = s0.portA ∧ t.portB = s0.portB) ∧
  (∀ (p : Port) (s s0 : State) (w : BufWord) (pg : Nat), fronted s p w s0 = true → pg < 15 → pg ≠ 13 →
    w.off = modeReg pg → bit w.val 0 = false →
    (s.flag (modeReg pg) 0 = false → exec (.modeBasic p) s = .next s0) ∧
    (s.flag (modeReg pg) 0 = true → ∃ t, exec (.modeBasic p) s = .next t ∧ t.flag (modeReg pg) 0 = false ∧
      t.flag (modeReg pg) 16 = true ∧ t.fld (modeReg pg) 13 8 = s.fld (modeReg pg) 13 8 ∧
      t.commits = s.commits ++ [{ page := pg, toBasic := true, ring := none }] ∧
      (∀ a, a ≠ modeReg pg → t.reg a = s.reg a) ∧ storesSame s t)) ∧
  (∀ (p : Port) (s s0 : State) (w : BufWord), fronted s p w s0 = true → w.off = modeReg 13 →
    bit w.val 0 = false → exec (.modeBasic p) s = .next (s0.modeBasic 13).ensRun) ∧
  (∀ (page : BitVec 4) (s : State), s.verbExecuting page.toNat = false →
    exec (.modeExpertTakeEffect page) s = .next { s with expertWait := s.expertWait.filter (· != page.toNat) }) ∧
  (∀ (page : BitVec 4) (s : State), s.verbExecuting page.toNat = true → exec (.modeExpertTakeEffect page) s = .next s) ∧
  (∀ (s : State) (page : Nat), Memory.wf s = true →
    (∀ a, pageOf a = page → isShadow a = true → (s.applyShadow page).inForce a = s.reg a) ∧
    (∀ a, pageOf a ≠ page → (s.applyShadow page).inForce a = s.inForce a) ∧
    (s.applyShadow page).regs = s.regs ∧ storesSame s (s.applyShadow page) ∧ (s.applyShadow page).rings = s.rings) ∧
  (∀ (s : State) (a : Nat) (v : Word),
    (s.pendingOn (pageOf a) = true →
      s.writeShadow a v = s.setFlag (pendBit (pageOf a)).1 (dropBit (pageOf a)) true) ∧
    (s.pendingOn (pageOf a) = false → (s.writeShadow a v).reg a = hostWord a (s.reg a) v ∧
      (∀ b, b ≠ a → (s.writeShadow a v).reg b = s.reg b)) ∧
    (s.writeShadow a v).force = s.force)

/-- The boundaries serve what waits for them: a FRAME boundary at the end of a frame with its cycle count, a synthetic one when it
is due (log entry 59), ADC_IDLE and LINK_IDLE their page's commits and mode switches and then the tuning items they serve; nothing
happens where there is no such boundary. A verb that finds no boundary within its timeout: a commit that no other request shares is
withdrawn with PENDING cleared, a queued present is withdrawn with its buffer, and the verb completes with TIMEOUT; before that
nothing happens, nor to a present that has been applied. -/
def Obligations.BoundariesServeTheirPages : Prop :=
  (∀ (cycles : Nat) (s : State), s.coreOn = true → s.scan.running = true → s.scan.frameOn = true →
    s.sinceReal s.scan.endUs = true → exec (.frameBoundary cycles) s =
      .next ((s.setReg Reg.SCAN_FRAME_CYC (word (min 0xFFFFFFFF (s.scan.cycles.getD cycles)))).realBoundary true)) ∧
  (∀ (cycles : Nat) (s : State),
    ¬(s.coreOn = true ∧ s.scan.running = true ∧ s.scan.frameOn = true ∧ s.sinceReal s.scan.endUs = true) →
    exec (.frameBoundary cycles) s = .next s) ∧
  (∀ s s1 : State, s.synthDue = true → s1 = { s with scan := { s.scan with
      lastSynth := some (s.synthFrom + BitVec.ofNat 48 (32768 * (s.elapsed s.synthFrom / 32768))) } } →
    exec .syntheticFrameBoundary s =
      .next ((((s1.frameCommits false).freqBoundary.frameTune false).crackBoundary).ensBoundary none)) ∧
  (∀ s : State, s.synthDue = false → exec .syntheticFrameBoundary s = .next s) ∧
  (∀ s s1 : State, s.adcIdle = true → s1 = { s with sense := { s.sense with idleAt := some s.edge } } →
    exec .adcIdleBoundary s = .next ((s1.serveCommits [5] (fun t _ => t.applySense)).tunePlace [1, 2, 3] [0, 1, 2, 3])) ∧
  (∀ s : State, s.coreOn = true → exec .linkIdleBoundary s =
    .next (((s.setFlag Reg.INTAKE_STATUS 0 false).serveCommits [8] (fun t _ => t.applyIntake)).tunePlace [6] [6])) ∧
  (∀ (ring : BitVec 8) (s : State) (f : Fetched) (w : Wait), (s.ring ring.toNat).cur = some f → f.waiting = some w →
    (f.timeout = 0 ∨ s.elapsed f.since < f.timeout → exec (.boundaryWaitTimeout ring) s = .next s) ∧
    (0 < f.timeout → f.timeout ≤ s.elapsed f.since → ∀ (p : Nat) (x : Option Nat) (left : List BoundaryReq), w = .commit p x →
      left = s.commits.filter (fun q => !(q.page == p && !q.toBasic && q.ring == some ring.toNat)) →
      left.any (fun q => q.page == p && !q.toBasic) = true →
      exec (.boundaryWaitTimeout ring) s = .next (State.completeRing { s with commits := left } ring.toNat .timeout)) ∧
    (0 < f.timeout → f.timeout ≤ s.elapsed f.since → ∀ (p : Nat) (x : Option Nat) (left : List BoundaryReq) (u : State),
      w = .commit p x → left = s.commits.filter (fun q => !(q.page == p && !q.toBasic && q.ring == some ring.toNat)) →
      left.any (fun q => q.page == p && !q.toBasic) = false →
      u = State.serveStaging (State.setPending { s with commits := left } p false) p →
      exec (.boundaryWaitTimeout ring) s = .next ((if p = 10 then u.serveLoads else u).completeRing ring.toNat .timeout)) ∧
    (0 < f.timeout → f.timeout ≤ s.elapsed f.since → ∀ n : Nat, w = .present n →
      (s.presentQueued n ring.toNat = true →
        exec (.boundaryWaitTimeout ring) s = .next ((s.withdrawPresent n).completeRing ring.toNat .timeout)) ∧
      (s.presentQueued n ring.toNat = false → exec (.boundaryWaitTimeout ring) s = .next s)) ∧
    (0 < f.timeout → f.timeout ≤ s.elapsed f.since → (w = .ladder ∨ w = .crackCheck ∨ w = .fuse ∨ (∃ p, w = .staging p)) →
      exec (.boundaryWaitTimeout ring) s = .next (s.completeRing ring.toNat .timeout))) ∧
  (∀ (s t : State) (n : Nat) (q : Present), (s.surf n).queued = some q →
    t = State.setSurf { s with commits := s.commits.filter (fun c => c.page != presentPage n) } n
      { s.surf n with queued := none } →
    s.withdrawPresent n = if (s.surf n).openBuf = some q.buf then t else t.freeBuf n q.buf)

/-- Hall leases: an enable whose range is empty, too long or overlaps an enabled lease sets ERR and nothing else; one that passes
is enabled with ERR clear and its banks powered; RETAIN alone of an enabled lease changes; a disable powers off the banks that no
lease touches. PAD_SET writes both pad registers. -/
def Obligations.LeasesAreCheckedAndPowered : Prop :=
  (∀ (s : State) (l : Nat), l < 32 → (s.leaseCheck l = false → s.enableLease l = s.setFlag (leaseWord l 1) 24 true) ∧
    (s.leaseCheck l = true → (s.enableLease l).leaseEn l = true ∧ (s.enableLease l).flag (leaseWord l 1) 24 = false ∧
      (∀ a, a ≠ leaseWord l 1 → (s.enableLease l).reg a = s.reg a) ∧
      (s.cur ≤ 2 → (s.enableLease l).banks = (s.enableLease l).touchedBanks))) ∧
  (∀ (p : Port) (s s1 : State) (w : BufWord) (l : Nat), fronted s p w s1 = true → l < 32 →
    w.off = leaseWord l 1 →
    (bit w.val 16 = true → s.leaseEn l = true →
      exec (.leaseEnable p) s = .next (s1.setFlag (leaseWord l 1) 12 (bit w.val 12))) ∧
    (bit w.val 16 = true → s.leaseEn l = false →
      exec (.leaseEnable p) s = .next ((s1.hostSet (leaseWord l 1) (withBit w.val 16 false)).enableLease l)) ∧
    (bit w.val 16 = false → exec (.leaseDisable p) s = .next (s1.hostSet (leaseWord l 1) w.val).powerBanks)) ∧
  (∀ (ring : BitVec 8) (s : State) (v : Verb) (l : Nat), admitted s ring 0x1C clientZero v = true →
    v.argsWithin [0x1F#32, 0x07FF07FF#32, 0x0101133F#32] = true → l = field (v.arg 0) 4 0 →
    (s.leaseEn l = true → bit (v.arg 2) 16 = false →
      exec (.hallLease ring) s = .next ((s.hostSet (leaseWord l 1) (v.arg 2)).powerBanks.complete v .ok)) ∧
    (s.leaseEn l = true → bit (v.arg 2) 16 = true →
      ¬(v.arg 1 = s.reg (leaseWord l 0) ∧ field (v.arg 2) 5 0 = s.leaseOwner l ∧ field (v.arg 2) 9 8 = s.leaseType l) →
      exec (.hallLease ring) s = .next (s.complete v .badArg)) ∧
    (s.leaseEn l = false → bit (v.arg 2) 16 = true → ∀ s2 : State,
      s2 = ((s.hostSet (leaseWord l 0) (v.arg 1)).hostSet (leaseWord l 1) (withBit (v.arg 2) 16 false)).enableLease l →
      exec (.hallLease ring) s = .next (s2.complete v (if s2.leaseEn l then .ok else .badArg)))) ∧
  (∀ (ring : BitVec 8) (s : State) (v : Verb), admitted s ring 0x1D clientZero v = true →
    v.argsWithin [0x3FFFFFFF#32, 0xFFF#32] = true → (∀ g, g < 15 → field (v.arg 0) (2 * g + 1) (2 * g) ≠ 3) →
    exec (.padSet ring) s =
      .next (((s.setReg Reg.DEV_PAD_PULL (v.arg 0)).setReg Reg.DEV_PAD_DRIVE (v.arg 1)).complete v .ok))

/-- A refused access: ERR_COUNT rises and its cause bit is set; the first one is recorded in ERR_LOG, ERR_ADDR and ERR_TICK with
EV_HPORT_ERR, a later one adds to MORE and leaves the record. Selects on the host ports: unanswered ones change nothing; READ_ID
and READ_STATUS send their bytes, WRITE_ENABLE does nothing, RESET_ENABLE arms RESET for the next select, RESET then returns A_CFG
to its reset value once the buffer is empty, a select whose bytes spell no command, or on port A are not each other's complement,
is logged with cause BAD_CMD. -/
def Obligations.PortSelectsAreAnsweredOrLogged : Prop :=
  (∀ (s : State) (p : Port) (write : Bool) (client off cause : Nat), cause < 12 → client < 256 →
    (s.refuse p write client off cause).reg Reg.HPORT_ERR_COUNT = s.reg Reg.HPORT_ERR_COUNT + 1#32 ∧
    (s.refuse p write client off cause).flag Reg.HPORT_ERR_CAUSES cause = true ∧
    (s.flag Reg.HPORT_ERR_LOG 31 = false →
      (s.refuse p write client off cause).reg Reg.HPORT_ERR_LOG = word (2 ^ 31 + (cause + (if p == .b then 16 else 0) +
        (if write then 32 else 0) + 256 * (client % 64))) ∧
      (s.refuse p write client off cause).reg Reg.HPORT_ERR_ADDR = word (off + 2 ^ 24 * client) ∧
      (s.refuse p write client off cause).reg Reg.HPORT_ERR_TICK = s.now) ∧
    (s.flag Reg.HPORT_ERR_LOG 31 = true →
      (s.refuse p write client off cause).fld Reg.HPORT_ERR_LOG 23 16 = min 255 (s.fld Reg.HPORT_ERR_LOG 23 16 + 1) ∧
      (s.refuse p write client off cause).reg Reg.HPORT_ERR_ADDR = s.reg Reg.HPORT_ERR_ADDR) ∧
    othersSame [Reg.HPORT_ERR_COUNT, Reg.HPORT_ERR_CAUSES, Reg.HPORT_ERR_LOG, Reg.HPORT_ERR_ADDR, Reg.HPORT_ERR_TICK] s
      (s.refuse p write client off cause) ∧
    storesSame s (s.refuse p write client off cause)) ∧
  (∀ (p : Port) (s : State), s.portsAnswer = false →
    (∀ n, exec (.readId p n) s = .next s ∧ exec (.readStatus n) s = .next s) ∧ exec .writeEnable s = .next s ∧
    exec .resetEnable s = .next s ∧ exec .portReset s = .next s ∧
    (∀ code second, exec (.badCommandSelect ⟨p, code, second⟩) s = .next s) ∧
    (∀ c off n f late, exec (.hostRead p c off n f late) s = .next s) ∧
    (∀ c off ws k, exec (.hostWrite p c off ws k) s = .next s)) ∧
  (∀ (p : Port) (s s1 : State), s.portsAnswer = true →
    s1 = State.setPort { s with ladder := { s.ladder with idleCount := 0 } } p { s.port p with armed := false } →
    (∀ n, exec (.readId p n) s = .next (s1.setPort p { s1.port p with sent := idBytes n })) ∧
    (∀ code second, (selectOf p code second = none →
        exec (.badCommandSelect ⟨p, code, second⟩) s = .next (s1.refuse p false 0 0 8)) ∧
      ((selectOf p code second).isSome = true → exec (.badCommandSelect ⟨p, code, second⟩) s = .next s)) ∧
    (p = .a → (∀ n, exec (.readStatus n) s = .next (s1.setPort .a { s1.portA with
        sent := List.replicate n (if s.portA.wbuf.isEmpty then 2#8 else 3#8) })) ∧
      exec .writeEnable s = .next s1 ∧
      exec .resetEnable s = .next (s1.setPort .a { s1.portA with armed := true }) ∧
      (s.portA.armed = false → exec .portReset s = .next s1) ∧
      (s.portA.armed = true → s.portA.wbuf = [] →
        ∃ t, exec .portReset s = .next t ∧ t.reg Reg.HPORT_A_CFG = porWord Reg.HPORT_A_CFG) ∧
      (s.portA.armed = true → s.portA.wbuf ≠ [] →
        exec .portReset s = .next (s1.setPort .a { s1.portA with resetDue := true })))) ∧
  (∀ code : Byte, (selectB code = none ↔ code ∉ [0x02#8, 0x0B#8, 0x9F#8]) ∧
    (∀ second : Byte, selectA code second = none ↔
      (second ≠ ~~~code ∨ code ∉ [0xEE#8, 0x12#8, 0x9F#8, 0x05#8, 0x06#8, 0x66#8, 0x99#8])))

/-- Reads and writes through the client alias: an accepted word is sent or put behind those on their way, a refused one is sent as
all ones or dropped and logged with its cause; a full buffer applies its front word where that has a CORE target (log entry 62),
and refuses with OVERRUN where it has an AO target; a read that is not aligned is refused whole, and a register with no word on its
way reads as the host sees it. A buffered word without a row of its own: atlas words keep 30 bits, Score words are stored whole, Hall bytes are stored where a
lease covers them, and a plain register takes its RW bits and clears its W1C bits. -/
def Obligations.AliasWordsAreReadAndStored : Prop :=
  (∀ (s : State) (p : Port) (client a f k : Nat) (late : Bool),
    (s.accessCause p client a false 0#32 ≠ 0 → s.readOne p client a f k late =
      (0xFFFFFFFF#32, s.refuse p false client a (s.accessCause p client a false 0#32))) ∧
    (s.accessCause p client a false 0#32 = 0 → late = false → regionOf a ≠ .journal →
      s.readOne p client a f k late = (s.readWord p a, s)) ∧
    (s.accessCause p client a false 0#32 = 0 → regionOf a = .journal → s.jrnl.busy.isSome = true →
      s.readOne p client a f k late = (0xFFFFFFFF#32, s.refuse p false client a 11)) ∧
    (s.accessCause p client a false 0#32 = 0 → regionOf a ≠ .journal → late = true → s.covered_ p f k (regionOf a) = false →
      s.readOne p client a f k late = (0xFFFFFFFF#32, s.refuse p false client a 9)) ∧
    (s.onTheWay p = [] → (regionOf a = .page ∨ regionOf a = .table ∨ regionOf a = .doorbell) → s.readWord p a = s.view a)) ∧
  (∀ (s : State) (p : Port) (client a : Nat) (v : Word) (e : BufWord), e = { client := client % 64, off := a, val := v } →
    (s.accessCause p client a true v ≠ 0 → s.writeOne p client a v =
      s.refuse p true client a (s.accessCause p client a true v)) ∧
    (s.accessCause p client a true v = 0 → regionOf a = .page → regSpec a = none → s.writeOne p client a v = s) ∧
    (s.accessCause p client a true v = 0 → ¬(regionOf a = .page ∧ regSpec a = none) → (s.port p).wbuf.length < 64 →
      (s.writeOne p client a v).onTheWay p = s.onTheWay p ++ [e] ∧
      (∀ q, q ≠ p → (s.writeOne p client a v).onTheWay q = s.onTheWay q) ∧ (s.writeOne p client a v).regs = s.regs) ∧
    (s.accessCause p client a true v = 0 → ¬(regionOf a = .page ∧ regSpec a = none) → 64 ≤ (s.port p).wbuf.length →
      (s.frontWord p (fun _ => true) = none → s.writeOne p client a v = s.refuse p true (client % 64) a 10) ∧
      (∀ w t, s.frontWord p (fun _ => true) = some (w, t) → s.writeOne p client a v = (t.applyWord w).buffer p e))) ∧
  (∀ (p : Port) (client : BitVec 8) (off : BitVec 24) (count f : Nat) (late : List Nat) (s : State), s.portsAnswer = true →
    (off.toNat % 4 = 0 → ∃ r : List Word × State,
      r = (s.selected p).readBurst p client.toNat off.toNat f late ((count + 3) / 4) ∧
      exec (.hostRead p client off count f late) s = .next (r.2.send p ((wordsBytes r.1).take count))) ∧
    (off.toNat % 4 ≠ 0 → exec (.hostRead p client off count f late) s =
      .next (((s.selected p).refuse p false client.toNat off.toNat
        ((s.selected p).accessCause p client.toNat off.toNat false 0#32)).send p (List.replicate count 0xFF#8)))) ∧
  (∀ (p : Port) (client : BitVec 8) (off : BitVec 24) (v : Word) (s : State), s.portsAnswer = true → off.toNat % 4 = 0 →
    exec (.hostWrite p client off [v] 0) s = .next ((s.selected p).writeOne p client.toNat off.toNat v)) ∧
  (∀ (p : Port) (s s1 : State) (w : BufWord), fronted s p w s1 = true →
    (regionOf w.off = .atlas →
      exec (.registerWrite p) s = .next (s1.setAo ((w.off - 0xA00000) / 4) (w.val &&& 0x3FFFFFFF#32))) ∧
    (regionOf w.off = .steps ∨ regionOf w.off = .bufs →
      exec (.registerWrite p) s = .next (s1.setAo ((w.off - 0xA00000) / 4) w.val)) ∧
    (regionOf w.off = .hall → ∃ t, exec (.registerWrite p) s = .next t ∧ t.regs = s.regs ∧ t.ao = s.ao ∧ t.flash = s.flash ∧
      t.fuses = s.fuses ∧ (∀ a, t.hallRaw a =
        if w.off - 0x200000 ≤ a ∧ a < w.off - 0x200000 + 4 ∧ s.leased a = true
        then (wordBytes w.val).getD (a - (w.off - 0x200000)) 0#8 else s.hallRaw a)) ∧
    (w.off ∈ [Reg.DEV_IDLE, Reg.DEV_WAKE_TGT, Reg.DEV_ALARM, Reg.DEV_ALARM_CTL, Reg.DEV_TACET_CFG, Reg.DEV_PAD_DRIVE,
        Reg.DEV_VCORE_CFG] →
      exec (.registerWrite p) s = .next (s1.setReg w.off (hostWord w.off (s.reg w.off) w.val))))

/-- HPORT's verbs and the lock of the permission words: PORT_CONFIG stores both words, PERM_SET a client's word unless LOCK is 1,
LOCK is set once with EV_PERM_LOCKED by verb, by write or 65 536 ticks after release, ERR_CLEAR returns the record and clears it.
-/
def Obligations.PermissionsAreSetAndLocked : Prop :=
  (∀ (ring : BitVec 8) (s : State) (v : Verb), admitted s ring 0x18 clientZero v = true → v.argsWithin [0x13F#32, 0xF#32] = true →
    exec (.portConfig ring) s = .next (((s.setReg Reg.HPORT_A_CFG (v.arg 0)).setReg Reg.HPORT_B_CFG (v.arg 1)).complete v .ok)) ∧
  (∀ (ring : BitVec 8) (s : State) (v : Verb) (c : Nat), admitted s ring 0x17 clientZero v = true →
    v.argsWithin [0x3F#32, 0xF7FFF#32] = true → c = field (v.arg 0) 5 0 → c ≠ 0 →
    (s.flag Reg.HPORT_PERM_LOCK 0 = true → exec (.permSet ring) s = .next (s.complete v .halted)) ∧
    (s.flag Reg.HPORT_PERM_LOCK 0 = false →
      exec (.permSet ring) s = .next ((s.setReg (Reg.HPORT_PERM_0 + 4 * c) (v.arg 1)).complete v .ok))) ∧
  (∀ (s : State) (auto : Bool), (s.flag Reg.HPORT_PERM_LOCK 0 = true → s.lockPerms auto = s) ∧
    (s.flag Reg.HPORT_PERM_LOCK 0 = false →
      s.lockPerms auto = (s.setFlag Reg.HPORT_PERM_LOCK 0 true).raise 9 (word auto.toNat))) ∧
  (∀ (ring : BitVec 8) (s : State) (v : Verb), admitted s ring 0x1A clientZero v = true → v.argsWithin [] = true →
    exec (.permLock ring) s = .next ((s.lockPerms false).complete v .ok)) ∧
  (∀ (p : Port) (s s0 : State) (w : BufWord), fronted s p w s0 = true → w.off = Reg.HPORT_PERM_LOCK →
    bit w.val 0 = true → exec (.permLockWrite p) s = .next (s0.lockPerms false)) ∧
  (∀ s : State, s.boot.step = .released → s.flag Reg.HPORT_PERM_LOCK 1 = true → 65536 ≤ s.elapsed s.boot.releasedAt →
    exec .permAutoLock s = .next (s.lockPerms true)) ∧
  (∀ s : State, s.flag Reg.HPORT_PERM_LOCK 1 = false → exec .permAutoLock s = .next s) ∧
  (∀ (ring : BitVec 8) (s : State) (v : Verb), admitted s ring 0x19 clientZero v = true → v.argsWithin [] = true →
    exec (.errClear ring) s = .next ((((s.setFlag Reg.HPORT_ERR_LOG 31 false).setFld Reg.HPORT_ERR_LOG 23 16 0).setReg
      Reg.HPORT_ERR_CAUSES 0#32).complete v .ok [s.reg Reg.HPORT_ERR_LOG, s.reg Reg.HPORT_ERR_ADDR]))

/-- A Score step with a bit set that its opcode does not name halts its task as MALFORMED, and so does a reserved opcode; nothing
happens unless the task is RUNNING, not in a bus step and has not stepped at this tick, nor a higher-numbered task. -/
def Obligations.MalformedStepsHaltTheirTask : Prop :=
  (∀ (c : Instr) (s : State) (t : BitVec 4) (op : Nat) (named w : Word), stepRow c = some (t, op, named) →
    atStep s t op w = true → within w (named ||| 0xFC000000#32) = false →
    exec c s = .next ((stepped s t).malformed t.toNat)) ∧
  (∀ (c : Instr) (s : State) (t : BitVec 4) (op : Nat) (named : Word), stepRow c = some (t, op, named) →
    (s.running t.toNat = false ∨ s.fld (taskStat t.toNat) 12 11 = 3 ∨ (s.task t.toNat).ranAt = some s.edge ∨
      s.turnOver t.toNat = true) → exec c s = .next s) ∧
  (∀ (c : Instr) (s : State) (t : BitVec 4) (op : Nat) (named : Word), stepRow c = some (t, op, named) →
    s.running t.toNat = true → s.fld (taskStat t.toNat) 12 11 ≠ 3 → (s.task t.toNat).ranAt ≠ some s.edge →
    s.turnOver t.toNat = false → stepKnown (field (s.stepWord t.toNat) 31 26) = false → exec c s = .next (s.malformed t.toNat)) ∧
  (∀ (s : State) (t : Nat), t < 16 → (s.malformed t).running t = false ∧ (s.malformed t).flash = s.flash ∧
    (s.malformed t).hall = s.hall ∧ (s.malformed t).fuses = s.fuses)

/-- The steps on pins, inputs and time: HALT, SET_PIN, WAIT_PIN, WAIT_TICKS, WAIT_INPUT and CLEAR_INPUT; a wait whose TIMEOUT ticks
have passed is done where its condition holds in that very tick, and faults else. The steps of control and
of events: BRANCH_IF, CALL, RETURN, LOOP, RAISE_EVENT, POST_CUE and REQUEST_STATE. -/
def Obligations.ScoreStepsComplete : Prop :=
  (∀ (t : BitVec 4) (s s1 : State) (w : Word) (n : Nat), n = t.toNat → s1 = stepped s t →
    (atStep s t 0x00 w = true → within w 0xFC000000#32 = true → exec (.haltStep t) s = .next (s1.haltTask n 0)) ∧
    (atStep s t 0x01 w = true → within w 0xFC00007F#32 = true → field w 5 0 ≤ 11 →
      exec (.setPin t) s = .next ((s1.drivePseq (field w 5 0) (bit w 6)).stepOn n)) ∧
    (atStep s t 0x02 w = true → within w 0xFFFFFC7F#32 = true → pinKnown (field w 5 0) = true → ∀ (level : Bool) (s2 : State),
      s2 = s1.samplePin (field w 5 0) level →
      ((s2.pinReads (field w 5 0) level = bit w 6 ∧ (field w 25 10 = 0 ∨ s2.waited n ≤ field w 25 10)) →
        exec (.waitPin t level) s = .next (s2.stepOn n)) ∧
      (¬(s2.pinReads (field w 5 0) level = bit w 6 ∧ (field w 25 10 = 0 ∨ s2.waited n ≤ field w 25 10)) →
        (field w 25 10 = 0 ∨ s2.waited n < field w 25 10) → exec (.waitPin t level) s = .next (s2.waitStep n)) ∧
      (¬(s2.pinReads (field w 5 0) level = bit w 6 ∧ (field w 25 10 = 0 ∨ s2.waited n ≤ field w 25 10)) →
        0 < field w 25 10 → field w 25 10 ≤ s2.waited n → exec (.waitPin t level) s = .next (s2.taskFault n 1))) ∧
    (atStep s t 0x03 w = true → within w 0xFCFFFFFF#32 = true →
      exec (.waitTicks t) s = .next (if max 1 (field w 23 0) ≤ s.elapsed ((s.task n).waitFrom.getD s.edge) + 1
        then s1.stepOn n else s1.waitStep n)) ∧
    (atStep s t 0x04 w = true → within w 0xFFFFFC7F#32 = true → ∀ k : Nat, k = max 1 (field w 5 2) →
      ((k ≤ s.inputCount n (field w 1 0) ∧ (field w 25 10 = 0 ∨ s1.waited n ≤ field w 25 10)) → exec (.waitInput t) s =
        .next ((if bit w 6 then s1.setFld (taskCnt n) (4 * field w 1 0 + 3) (4 * field w 1 0)
          (s.inputCount n (field w 1 0) - k) else s1).stepOn n)) ∧
      (¬(k ≤ s.inputCount n (field w 1 0) ∧ (field w 25 10 = 0 ∨ s1.waited n ≤ field w 25 10)) →
        (field w 25 10 = 0 ∨ s1.waited n < field w 25 10) → exec (.waitInput t) s = .next (s1.waitStep n)) ∧
      (¬(k ≤ s.inputCount n (field w 1 0) ∧ (field w 25 10 = 0 ∨ s1.waited n ≤ field w 25 10)) →
        0 < field w 25 10 → field w 25 10 ≤ s1.waited n → exec (.waitInput t) s = .next (s1.taskFault n 1))) ∧
    (atStep s t 0x05 w = true → within w 0xFC00001F#32 = true → ∀ s2 : State,
      s2 = (maskBits 4 (field w 3 0)).foldl (fun u i => u.setFld (taskCnt n) (4 * i + 3) (4 * i) 0) s1 →
      exec (.clearInput t) s = .next ((if bit w 4 then (s2.setFlag (taskStat n) 13 false).setFlag Reg.SCORE_OVF n false
        else s2).stepOn n))) ∧
  (∀ (t : BitVec 4) (s s1 : State) (w : Word) (n : Nat), n = t.toNat → s1 = stepped s t →
    (atStep s t 0x18 w = true → branchBad w = false → field w 12 11 ≠ 1 → ∀ level : Bool,
      (s1.branchHolds n w level = false → exec (.branchIf t level) s = .next (s1.stepOn n)) ∧
      (s1.branchHolds n w level = true → (field w 12 11 ≠ 0 ∨ bit w 19 = false) →
        exec (.branchIf t level) s = .next (s1.stepTo n (field w 10 0))) ∧
      (s1.branchHolds n w level = true → field w 12 11 = 0 → bit w 19 = true →
        exec (.branchIf t level) s = .next ((s1.setInput n (field w 14 13)
          (s1.inputCount n (field w 14 13) - field w 18 15)).stepTo n (field w 10 0)))) ∧
    (atStep s t 0x18 w = true → branchBad w = false → field w 12 11 = 1 → ∀ (level : Bool) (s2 : State),
      s2 = s1.samplePin (field w 18 13) level →
      exec (.branchIf t level) s =
        .next (if s2.pinReads (field w 18 13) level = bit w 19 then s2.stepTo n (field w 10 0) else s2.stepOn n)) ∧
    (atStep s t 0x19 w = true → within w 0xFC0007FF#32 = true → s.flag (taskStat n) 14 = false →
      exec (.callStep t) s = .next (((s1.setTask n { s1.task n with callRet := (s.pc n + 1) % 2048 }).setFlag (taskStat n) 14
        true).stepTo n (field w 10 0))) ∧
    (atStep s t 0x19 w = true → s.flag (taskStat n) 14 = true → exec (.callStep t) s = .next (s1.malformed n)) ∧
    (atStep s t 0x1A w = true → within w 0xFC000000#32 = true → s.flag (taskStat n) 14 = true →
      exec (.returnStep t) s = .next ((s1.setFlag (taskStat n) 14 false).stepTo n (s.task n).callRet)) ∧
    (atStep s t 0x1B w = true → within w 0xFC07FFFF#32 = true → s.flag (taskStat n) 15 = false → ∀ l : Nat,
      l = max 1 (field w 18 11) - 1 → ∀ s2 : State,
      s2 = (s1.setTask n { s1.task n with loopAt := s.pc n }).setFld (taskCnt n) 23 16 l →
      exec (.loopStep t) s = .next (if 0 < l then (s2.setFlag (taskStat n) 15 true).stepTo n (field w 10 0)
        else (s2.setFlag (taskStat n) 15 false).stepOn n)) ∧
    (atStep s t 0x10 w = true → bit w 3 = false →
      exec (.raiseEvent t) s = .next ((s1.stepOn n).raise (24 + field w 2 0) (word (field w 25 4)))) ∧
    (atStep s t 0x10 w = true → bit w 3 = true → field w 25 15 = 0 →
      exec (.raiseEvent t) s = .next ((s1.stepOn n).raise (24 + field w 2 0) (s.buf (field w 14 4)))) ∧
    (atStep s t 0x11 w = true → within w 0xFC00FFFF#32 = true → field w 15 11 ≤ 20 →
      field w 10 0 + (field w 15 11 + 3) / 4 ≤ 2048 →
      exec (.postCue t) s = .next ((s1.postSample n (s.pc n) (s.bufBytes (field w 10 0) (field w 15 11))).stepOn n)) ∧
    (atStep s t 0x20 w = true → within w 0xFC000007#32 = true → field w 2 0 ≤ 5 →
      exec (.requestState t) s = .next (((s1.stepOn n).request (field w 2 0) .score none).repeatVcore)))

/-- The bus steps queue their transfer, whose task then is in a bus step, or fault with DISABLED; a transfer ends with its symbols
as the bus carried them and its data sampled, with a missing acknowledge or a stuck bus logged, or at its timeout; the next tick
stores the data read and moves the task on, halts it where it is being stopped, or takes the fault. A wait step in the tick of its
TIMEOUT is its step, and faults where the condition does not hold. An edge that the SINT detector sees raises its event where it is
of the configured kind. -/
def Obligations.BusStepsAndTransfersEnd : Prop :=
  (∀ (t : BitVec 4) (s s1 : State) (w : Word) (n : Nat), n = t.toNat → s1 = stepped s t → within w 0xFC001FFF#32 = true →
    (atStep s t 0x08 w = true → s.busBad false false w = false → exec (.i2cWrite t) s = .next (s1.queueBus n w false false)) ∧
    (atStep s t 0x09 w = true → s.busBad false true w = false → exec (.i2cRead t) s = .next (s1.queueBus n w true false)) ∧
    (atStep s t 0x0A w = true → s.busBad false true w = false → exec (.i2cReadToRing t) s = .next (s1.queueBus n w true true)) ∧
    (atStep s t 0x0C w = true → s.busBad true false w = false → exec (.spiXfer t) s = .next (s1.queueBus n w true false)) ∧
    (atStep s t 0x0D w = true → s.busBad true false w = false → exec (.spiXferToRing t) s = .next (s1.queueBus n w true true))) ∧
  (∀ (s : State) (t : Nat) (w : Word) (read toRing : Bool), t < 16 →
    (s.busEn (field w 12 11) = false → s.queueBus t w read toRing =
      (s.logBus (field w 12 11) t (field (s.buf (field w 10 0)) 6 0) 5).taskFault t 5) ∧
    (s.busEn (field w 12 11) = true → (s.queueBus t w read toRing).fld (taskStat t) 12 11 = 3 ∧
      ∃ x : BusXfer, (s.queueBus t w read toRing).bus (field w 12 11) = s.bus (field w 12 11) ++ [x] ∧ x.task = t ∧
        x.target = field (s.buf (field w 10 0)) 6 0 ∧ x.wlen = field (s.buf (field w 10 0)) 12 8 ∧
        x.rlen = field (s.buf (field w 10 0)) 17 13 ∧ x.queued = s.edge ∧ x.read = read ∧ x.toRing = toRing)) ∧
  (∀ (bus : BitVec 2) (outcome : BusOutcome) (recovered : Bool) (data bytes : List Byte) (s s1 : State) (x : BusXfer)
    (q : List BusXfer) (b : Nat), b = bus.toNat → s.bus b = x :: q → s.coreOn = true →
    bytes = (data ++ List.replicate x.rlen 0#8).take x.rlen →
    s1 = (if recovered then (s.recordBus b x bytes outcome true).raise 113 (word b) else s.recordBus b x bytes outcome false) →
    (x.timeout ≤ s.elapsed x.queued → exec (.busTransferEnd bus outcome recovered data) s = .next (s.busFault b x 1)) ∧
    (s.elapsed x.queued < x.timeout →
      (b < 2 → outcome = .ok → exec (.busTransferEnd bus outcome recovered data) s = .next (s1.busDone b x bytes)) ∧
      (b < 2 → ∀ n, outcome = .nack n → exec (.busTransferEnd bus outcome recovered data) s =
        .next ((s1.busEnded b x { cause := 2 }).logBus b x.task x.target 2)) ∧
      (b < 2 → outcome = .stuck → exec (.busTransferEnd bus outcome recovered data) s =
        .next (((s.recordBus b x bytes .stuck true).busEnded b x { cause := 3 }).logBus b x.task x.target 3)) ∧
      (2 ≤ b → exec (.busTransferEnd bus outcome recovered data) s =
        .next ((s.recordBus b x bytes .ok false).busDone b x bytes)))) ∧
  (∀ (s : State) (b : Nat) (x : BusXfer) (data : List Byte) (outcome : BusOutcome) (pulses : Bool),
    Cells.get (fun _ => none) (s.recordBus b x data outcome pulses).score.records b = some (
      if b < 2 then { mode := 0, rate := i2cKHz (field x.cfg 1 0)
                      symbols := (if pulses then [.pulses, .stop] else []) ++ (match outcome with
                        | .ok => i2cSymbols x data (x.wlen + 3)
                        | .nack n => i2cSymbols x data n
                        | .stuck => []) }
      else { mode := field x.cfg 1 0, rate := spiDivisor s.coreMHz (field x.cfg 12 8)
             symbols := .select (x.target % 2) :: (x.sending.map (fun y => .frame y none) ++
               data.map (fun y => .frame 0#8 (some y)) ++ [.deselect (x.target % 2)]) })) ∧
  (∀ (s : State) (b : Nat) (x : BusXfer) (e : BusEnd) (bytes : List Byte), x.task < 16 →
    ((s.busEnded b x e).task x.task).busEnd = some e ∧ (s.busEnded b x e).ao = s.ao ∧
    (s.busEnded b x e).flag Reg.BUS_STATUS (4 + b) = (e.cause == 3) ∧
    ((s.busDone b x bytes).task x.task).busEnd =
      some { cause := 0, rbuf := x.rbuf, words := if x.read then bytesWords bytes else [] }) ∧
  (∀ (s s1 : State) (t : Nat) (e : BusEnd), (s.task t).busEnd = some e →
    s1 = s.setTask t { s.task t with ranAt := some s.edge, busEnd := none } →
    (e.cause ≠ 0 → s.endBusStep t = s1.taskFault t e.cause) ∧
    (e.cause = 0 → (s.task t).stopping = true → s.endBusStep t = (s1.setAoWords (aoBufs + e.rbuf) e.words).haltTask t 3) ∧
    (e.cause = 0 → (s.task t).stopping = false → s.endBusStep t = (s1.setAoWords (aoBufs + e.rbuf) e.words).stepOn t)) ∧
  (∀ (t : BitVec 4) (s : State) (b : Nat) (x : BusXfer), s.xferOf t.toNat = some (b, x) →
    (x.timeout ≤ s.elapsed x.queued → exec (.busStepTimeout t) s = .next (s.busFault b x 1)) ∧
    (s.elapsed x.queued < x.timeout → exec (.busStepTimeout t) s = .next s)) ∧
  (∀ (t : BitVec 4) (level : Bool) (s s1 : State) (w : Word), s1 = stepped s t →
    (s.waitExpired t.toNat = false → exec (.scoreWaitTimeout ⟨t, level⟩) s = .next s) ∧
    (s.waitExpired t.toNat = true → atStep s t 0x02 w = true → within w 0xFFFFFC7F#32 = true → pinKnown (field w 5 0) = true →
      (s1.samplePin (field w 5 0) level).pinReads (field w 5 0) level ≠ bit w 6 →
      exec (.scoreWaitTimeout ⟨t, level⟩) s = .next ((s1.samplePin (field w 5 0) level).taskFault t.toNat 1)) ∧
    (s.waitExpired t.toNat = true → atStep s t 0x02 w = true →
      exec (.scoreWaitTimeout ⟨t, level⟩) s = exec (.waitPin t level) s) ∧
    (s.waitExpired t.toNat = true → atStep s t 0x04 w = true → within w 0xFFFFFC7F#32 = true →
      s.inputCount t.toNat (field w 1 0) < max 1 (field w 5 2) →
      exec (.scoreWaitTimeout ⟨t, level⟩) s = .next (s1.taskFault t.toNat 1)) ∧
    (s.waitExpired t.toNat = true → atStep s t 0x04 w = true →
      exec (.scoreWaitTimeout ⟨t, level⟩) s = exec (.waitInput t) s)) ∧
  (∀ (input : BitVec 2) (rising : Bool) (s s1 : State) (n kind : Nat), n = input.toNat →
    kind = s.fld Reg.BUS_SINT_CFG (2 * n + 1) (2 * n) →
    s1 = { s with score := { s.score with
      sint := Cells.put (fun _ => none) s.score.sint n (some { level := rising, at_ := s.edge }) } } →
    (s.sintSees n rising = true → exec (.sintEdge input rising) s =
      .next (if kind = 3 ∨ kind = (if rising then 1 else 2) then (s1.raise (114 + n) (word rising.toNat)).wake 4 else s1)) ∧
    (s.sintSees n rising = false → exec (.sintEdge input rising) s = .next s))

/-- The Score's verbs and writes: TASK_START starts the halted tasks of its mask and names those that ran, TASK_HALT stops its
tasks and waits for them, writes of START and STOP do the same without an answer, buffers are written and read, a bus register is
set. -/
def Obligations.ScoreVerbsComplete : Prop :=
  (∀ (ring : BitVec 8) (s : State) (v : Verb) (p : Nat), admitted s ring 0x20 (pageRight 3) v = true →
    v.argsWithin [0xFF#32] = true → p = field (v.arg 0) 7 0 →
    exec (.scoreLoad ring) s = .next (match s.configRecs 0 p scorePayloadOk with
      | (recs, s1) =>
        let busy := (maskBits 16 (s.fld Reg.SCORE_RUN 15 0)).filter (recs.flatMap (fun e => (scoreRec e.2).tasks)).contains
        let ladder := recs.any (fun e => !(scoreRec e.2).ladder.isEmpty)
        if recs.isEmpty then s1.complete v .badArg
        else if ladder && v.owner != 0 then s1.complete v .noPermission
        else if ladder && s.pageBusy 0 then s1.complete v .busy
        else if !busy.isEmpty then s1.complete v .badArg [0#32, word (busy.foldl (fun m t => m + 2 ^ t) 0)]
        else ((recs.foldl (fun u e => u.applyScoreRec e.2) s1).setFld Reg.SCORE_PROFILE 7 0 p).complete v .ok
          [word recs.length])) ∧
  (∀ (ring : BitVec 8) (s : State) (v : Verb) (m : Nat), admitted s ring 0x21 (pageRight 3) v = true →
    v.argsWithin [0xFFFF#32] = true → m = field (v.arg 0) 15 0 →
    exec (.taskStart ring) s = .next (((maskBits 16 m).foldl State.startTask s).complete v
      (if m &&& s.fld Reg.SCORE_RUN 15 0 = 0 then .ok else .okDegraded) [word (m &&& s.fld Reg.SCORE_RUN 15 0)])) ∧
  (∀ (s : State) (t : Nat), t < 16 → (s.running t = true → s.startTask t = s) ∧
    (s.running t = false → (s.startTask t).running t = true ∧
      (s.startTask t).pc t = s.fld (Reg.SCORE_TASK_CFG + 32 * t) 10 0 ∧ (s.startTask t).fld (taskStat t) 12 11 = 1)) ∧
  (∀ (ring : BitVec 8) (s : State) (v : Verb) (m : Nat), admitted s ring 0x22 (pageRight 3) v = true →
    v.argsWithin [0xFFFF#32] = true → m = field (v.arg 0) 15 0 →
    exec (.taskHalt ring) s = .next (((maskBits 16 m).foldl State.stopTask (s.await v (.taskHalt m) 0)).answerHalts)) ∧
  (∀ (p : Port) (s s0 : State) (w : BufWord), fronted s p w s0 = true →
    (w.off = Reg.SCORE_START → exec (.scoreStartWrite p) s =
      .next ((maskBits 16 (field w.val 15 0)).foldl State.startTask s0)) ∧
    (w.off = Reg.SCORE_STOP → exec (.scoreStopWrite p) s =
      .next ((maskBits 16 (field w.val 15 0)).foldl State.stopTask s0))) ∧
  (∀ (ring : BitVec 8) (s : State) (v : Verb) (i n : Nat), admitted s ring 0x23 (pageRight 3) v = true →
    i = field (v.arg 0) 10 0 → n = field (v.arg 0) 18 16 →
    v.argsWithin (0x707FF#32 :: List.replicate n 0xFFFFFFFF#32) = true → 1 ≤ n → n ≤ 5 → i + n ≤ 2048 →
    ∃ t : State, exec (.bufWrite ring) s = .next (t.complete v .ok) ∧ t = { s with ao := t.ao } ∧
      (∀ k, k < n → t.buf (i + k) = v.arg (k + 1)) ∧ (∀ j, (j < i ∨ i + n ≤ j) → t.buf j = s.buf j)) ∧
  (∀ (ring : BitVec 8) (s : State) (v : Verb) (i : Nat), admitted s ring 0x24 (pageRight 3) v = true →
    v.argsWithin [0x7FF#32] = true → i = field (v.arg 0) 10 0 → i + 3 ≤ 2047 →
    exec (.bufRead ring) s = .next (s.complete v .ok [s.buf i, s.buf (i + 1), s.buf (i + 2), s.buf (i + 3)])) ∧
  (∀ (ring : BitVec 8) (s : State) (v : Verb) (n : Nat), admitted s ring 0x25 (pageRight 14) v = true →
    v.argsWithin [0x7#32, 0xFFFFFFFF#32] = true → n = field (v.arg 0) 2 0 → n ≤ 4 → within (v.arg 1) (busMask n) = true →
    ¬(n < 2 ∧ field (v.arg 1) 1 0 = 3) →
    exec (.busConfig ring) s = .next ((s.setReg (Reg.BUS_I2C_CFG + 4 * n) (v.arg 1)).complete v .ok))

/-- Scans of keys and encoders: a due scan starts; its end reads every source against its debounce, writes the encoders' entries
and is the SCAN_GAP boundary. The commits that wait for the boundary come first; then the sources in ascending code: one that is
not enabled loses what it holds with its entry, one that was enabled before and after is read, one enabled by the commit waits for
the next scan. One reading: a change short of its debounce is counted, one that reaches it is recognised with its entry and event,
a key held past STUCK is masked. A leakage measurement is judged, or ends its run without one where no column qualifies. Encoders,
pulses and time marks: an accepted encoder transition moves its count, an accepted pulse edge counts in TOTAL and FRAC and raises
its events, a pulse that stops for STOP × 1024 ticks is told once, and the TIMEBASE entry is written once for each wrap. -/
def Obligations.ScansAndCountsOfTheKeys : Prop :=
  (∀ s : State, s.scanDue = true →
    exec .scanStart s = .next { s with keys := { s.keys with scanAt := some s.edge, scanLast := some s.edge } }) ∧
  (∀ s : State, s.scanDue = false → exec .scanStart s = .next s) ∧
  (∀ (vddio : Nat) (cols : List Nat) (btns : BitVec 8) (s s1 : State) (t : BitVec 48), s.keys.scanAt = some t →
    s1 = (List.range 72).foldl (fun u k => u.scanKey t (s.pressedKeys vddio cols btns) s.keyOn k)
      (State.keysCommits { s with keys := { s.keys with scanAt := none, gapAt := s.edge } }) →
    (s.keysOn = true → max s.scanRows 1 ≤ s.elapsed t →
      exec (.scanEnd ⟨vddio, cols, btns⟩) s = .next ((s1.encEntry 0).encEntry 1).scanGap) ∧
    (s.keysOn = false ∨ s.elapsed t < max s.scanRows 1 → exec (.scanEnd ⟨vddio, cols, btns⟩) s = .next s)) ∧
  (∀ (vddio : Nat) (cols : List Nat) (btns : BitVec 8) (s : State), s.keys.scanAt = none →
    exec (.scanEnd ⟨vddio, cols, btns⟩) s = .next s) ∧
  (∀ (vddio : Nat) (cols : List Nat) (btns : BitVec 8) (s : State) (k : Nat), k < 72 →
    ((s.pressedKeys vddio cols btns).getLsbD k = true ↔
      if k < 64 then s.vddioUp = true ∧ vddio * (45 + 4 * s.fld Reg.KEYS_THRESH 3 0) < 150 * cols.getD k 0
      else (k = 64 ∨ s.vddioUp = true) ∧ btns.getLsbD (k - 64) = true)) ∧
  (∀ (s : State) (t : BitVec 48) (pressed : BitVec 72) (sampled : Nat → Bool) (k : Nat), k < 72 →
    (s.keyOn k = true → sampled k = true → s.scanKey t pressed sampled k = s.readKey t k (pressed.getLsbD k)) ∧
    (s.keyOn k = true → sampled k = false → s.scanKey t pressed sampled k = s) ∧
    (s.keyOn k = false → s.isMasked k = false → s.isHeld k = false → s.scanKey t pressed sampled k = s.setKey k {}) ∧
    (s.keyOn k = false → s.isMasked k = false → s.isHeld k = true →
      ∀ (s1 : State) (d : Nat), s1 = (s.setHeld k false).setKey k {} → d = min 4095 (s.elapsed (s.key k).since / 256) →
      s.scanKey t pressed sampled k = (s1.keyEntry k 1 (s1.heldCount + 256 * d)).raise 33 (word (k + 256 * d))) ∧
    (s.keyOn k = false → s.isMasked k = true → ∀ (s1 : State) (n : Nat),
      n = min 0xFFFFF (s.elapsed (s.key k).since / 32768) → s1 = ((s.setMasked k false).setHeld k false).setKey k {} →
      s.scanKey t pressed sampled k = (s1.keyEntry k 5 n).raise 39 (word (k + 256)))) ∧
  (∀ (s : State) (t : BitVec 48) (k : Nat) (pressed : Bool) (need : Nat), k < 72 →
    need = max 1 (if pressed then s.ffld Reg.KEYS_SCAN_CFG 19 16 else s.ffld Reg.KEYS_SCAN_CFG 23 20) →
    (s.keyOn k = false → s.readKey t k pressed = s) ∧
    (s.keyOn k = true → s.isMasked k = false → s.isHeld k = !pressed → (s.key k).count + 1 < need →
      s.readKey t k pressed = s.setKey k { s.key k with count := (s.key k).count + 1 }) ∧
    (s.keyOn k = true → s.isMasked k = false → s.isHeld k = false → pressed = true → need ≤ (s.key k).count + 1 →
      ∀ s1 : State, s1 = (s.setHeld k true).setKey k { s.key k with count := 0, since := s.edge } →
      s.readKey t k pressed = ((s1.keyEntry k 0 s1.heldCount).raise 32 (word (k + 256 * s1.heldCount))).wake
        (if k = 64 then 0 else 1)) ∧
    (s.keyOn k = true → s.isMasked k = false → s.isHeld k = true → pressed = false → need ≤ (s.key k).count + 1 →
      ∀ (s1 : State) (d : Nat), s1 = (s.setHeld k false).setKey k {} → d = min 4095 (s.elapsed (s.key k).since / 256) →
      s.readKey t k pressed = (s1.keyEntry k 1 (s1.heldCount + 256 * d)).raise 33 (word (k + 256 * d))) ∧
    (s.keyOn k = true → s.isMasked k = false → s.isHeld k = true → pressed = true → s.ffld Reg.KEYS_SCAN_CFG 31 24 ≠ 0 →
      s.ffld Reg.KEYS_SCAN_CFG 31 24 * 32768 ≤ s.elapsed (s.key k).since → ∀ s1 : State,
      s1 = (((s.setKey k { s.key k with count := 0 }).setHeld k false).setMasked k true).setKey k { since := s.edge } →
      s.readKey t k pressed = (s1.keyEntry k 4 0).raise 39 (word k))) ∧
  (∀ (vddio : Nat) (cols : List Nat) (btns : BitVec 8) (s : State), s.tuning 5 = true → (s.item 5).measuring = true →
    4 ≤ s.elapsed s.keys.gapAt →
    exec (.leakMeasurement ⟨vddio, cols, btns⟩) s = .next (if s.matrixOn && (List.range 8).any s.columnQualifies then
      s.judgeLeak (s.leakOf vddio cols) else s.noLeak)) ∧
  (∀ (levels : KeyLevels) (s : State),
    s.tuning 5 = false ∨ (s.item 5).measuring = false ∨ s.elapsed s.keys.gapAt < 4 →
    exec (.leakMeasurement levels) s = .next s) ∧
  (∀ vddio level k : Nat, k ≤ 15 → (k ≤ columnTap vddio level ↔
    k = 0 ∨ vddio * (45 + 4 * k) < 150 * level)) ∧
  (∀ (enc : BitVec 1) (pa pb a b : Bool) (aSeen bSeen : Nat) (s : State) (n filt d : Nat), n = enc.toNat →
    s.keysOn = true → s.vddioUp = true → s.fflag Reg.KEYS_CFG (24 + n) = true →
    filt = s.ffld Reg.KEYS_ENC_CFG (8 * n + 3) (8 * n + 2) →
    a = (if filt + 1 ≤ aSeen then pa else (s.enc n).a) → b = (if filt + 1 ≤ bSeen then pb else (s.enc n).b) →
    d = (encPlace a b + 4 - encPlace (s.enc n).a (s.enc n).b) % 4 →
    (d = 0 → exec (.encoderTransition enc ⟨pa, aSeen⟩ ⟨pb, bSeen⟩) s = .next s) ∧
    (d = 2 → exec (.encoderTransition enc ⟨pa, aSeen⟩ ⟨pb, bSeen⟩) s =
      .next ((s.setEnc n { s.enc n with a := a, b := b }).bumpSat Reg.KEYS_ERRORS (8 * n + 7) (8 * n))) ∧
    (d = 1 ∨ d = 3 → ∀ need q step out : Int, need = encNeed (s.ffld Reg.KEYS_ENC_CFG (8 * n + 1) (8 * n)) →
      q = (s.enc n).q + (if d = 1 then 1 else -1) → step = encStep need q →
      out = (if s.fflag Reg.KEYS_ENC_CFG (8 * n + 4) then -step else step) →
      exec (.encoderTransition enc ⟨pa, aSeen⟩ ⟨pb, bSeen⟩) s =
        .next ((s.setEnc n { a := a, b := b, q := q - need * step, steps := (s.enc n).steps + out }).setReg
          (Reg.KEYS_ENC_POS + 4 * n) (s.reg (Reg.KEYS_ENC_POS + 4 * n) + BitVec.ofInt 32 out)))) ∧
  (∀ (enc : BitVec 1) (a b : PadRun) (s : State),
    s.keysOn = false ∨ s.vddioUp = false ∨ s.fflag Reg.KEYS_CFG (24 + enc.toNat) = false →
    exec (.encoderTransition enc a b) s = .next s) ∧
  (∀ (input : BitVec 1) (rising : Bool) (s : State) (n kind : Nat), n = input.toNat →
    kind = s.ffld (pulseCfg n) 17 16 →
    (s.keysOn = false ∨ s.vddioUp = false ∨ s.fflag Reg.KEYS_CFG (26 + n) = false ∨
      ¬(kind = 2 ∨ (rising = true ∧ kind ≠ 1) ∨ (rising = false ∧ kind = 1)) →
      exec (.pulseEdge input rising) s = .next s) ∧
    (s.keysOn = true → s.vddioUp = true → s.fflag Reg.KEYS_CFG (26 + n) = true → (kind = 2 ∨ (rising = true ∧ kind ≠ 1) ∨ (rising = false ∧ kind = 1)) →
      (∀ t, (s.pulse n).last = some t → s.elapsed t < s.ffld (pulseCfg n) 15 0 → exec (.pulseEdge input rising) s =
        .next (s.bumpSat Reg.KEYS_ERRORS (23 + 8 * n) (16 + 8 * n))) ∧
      (∀ i : Nat, ((s.pulse n).last = none ∧ i = 0xFFFFF ∨ ∃ t, (s.pulse n).last = some t ∧
          s.ffld (pulseCfg n) 15 0 ≤ s.elapsed t ∧ i = min 0xFFFFF (s.elapsed t)) →
        ∃ t : State, exec (.pulseEdge input rising) s = .next (t.wake 3) ∧
          t.reg (Reg.KEYS_PULSE_TOTAL + 4 * n) = s.reg (Reg.KEYS_PULSE_TOTAL + 4 * n) + 1#32 ∧
          t.reg (Reg.KEYS_PULSE_FRAC + 4 * n) =
            word ((s.fld (Reg.KEYS_PULSE_FRAC + 4 * n) 15 0 + s.ffld (Reg.KEYS_PULSE_STEP + 4 * n) 23 0) % 65536) ∧
          t.reg (Reg.KEYS_PULSE_LAST + 4 * n) = s.now ∧ (t.pulse n).last = some s.edge ∧ t.keys.fifo = s.keys.fifo ∧
          t.keys.late = s.keys.late ++ (if s.fflag (pulseCfg n) 18 then [(0x4A + n, i)] else []) ∧ storesSame s t))) ∧
  (∀ (s : State) (i j : Nat), s.keys.late = [(0x4B, i), (0x4A, j)] → s.writePulses =
    (State.keyEntry { s with keys := { s.keys with late := [] } } 0x4A 3 j).keyEntry 0x4B 3 i) ∧
  (∀ (input : BitVec 1) (s : State) (n : Nat), n = input.toNat →
    (s.pulseStopped n = true → exec (.pulseStopped input) s =
      .next ((s.setPulse n { s.pulse n with stopped := true }).raise 39 (word (0x4A + n + 1024)))) ∧
    (s.pulseStopped n = false → exec (.pulseStopped input) s = .next s)) ∧
  (∀ s : State, (s.timebaseDue = true → exec .timebase s =
      .next (State.pushKey { s with keys := { s.keys with timebase := s.metro.toNat / 2 ^ 32 } }
        (keyWord 0#32 0xFF 7 (16 * (s.metro.toNat / 2 ^ 32))))) ∧
    (s.timebaseDue = false → exec .timebase s = .next s))

/-- The key FIFO: an entry is appended while fewer than 63 stand in it, an OVERFLOW entry takes the last slot, and further entries
only count in it; STATUS.COUNT and the head registers follow; entries removed from the head close an open OVERFLOW entry. -/
def Obligations.KeyFifoKeepsItsOrder : Prop :=
  ∀ (s : State) (w : BitVec 64), s.keys.fifo.length ≤ 64 →
    (s.keys.fifo.length ≤ 62 → (s.pushKey w).keys.fifo = s.keys.fifo ++ [w]) ∧
    (s.keys.fifo.length = 63 → ∃ o : BitVec 64, (s.pushKey w).keys.fifo = s.keys.fifo ++ [o] ∧
      (o.toNat / 2 ^ 32) % 256 = 0xFE ∧ (o.toNat / 2 ^ 40) % 16 = 6 ∧ (o.toNat / 2 ^ 44) % 65536 = 1 ∧
      o.toNat % 2 ^ 32 = w.toNat % 2 ^ 32 ∧ (s.pushKey w).flag Reg.KEYS_STATUS 18 = true) ∧
    (s.keys.fifo.length = 64 → (s.pushKey w).keys.fifo.take 63 = s.keys.fifo.take 63 ∧
      (s.pushKey w).keys.fifo.length = 64) ∧
    (s.keys.fifo.length < 64 → (s.pushKey w).fld Reg.KEYS_STATUS 6 0 = s.keys.fifo.length + 1) ∧
    (s.keys.fifo = [] → (s.pushKey w).reg Reg.KEYS_HEAD_LO = w.setWidth 32 ∧
      (s.pushKey w).reg Reg.KEYS_HEAD_HI = (w >>> 32).setWidth 32) ∧
    (∀ n, (s.popKeys n).keys.fifo = s.keys.fifo.drop n) ∧
    (∀ n, 0 < n → s.keys.fifo ≠ [] → (s.popKeys n).flag Reg.KEYS_STATUS 18 = false ∧
      (s.popKeys n).fld Reg.KEYS_STATUS 6 0 = s.keys.fifo.length - n) ∧
    storesSame s (s.pushKey w) ∧ (s.pushKey w).keys.keys = s.keys.keys

/-- How the host and the drain take keys: POP, the drain's entries and the KEYS verbs. -/
def Obligations.KeysAreReadAndSet : Prop :=
  (∀ (p : Port) (s s0 : State) (w : BufWord), fronted s p w s0 = true → w.off = Reg.KEYS_POP →
    (s.fflag Reg.KEYS_FIFO_CFG 16 = true → exec (.keysPop p) s = .next s0) ∧
    (s.fflag Reg.KEYS_FIFO_CFG 16 = false →
      exec (.keysPop p) s = .next ((s0.popKeys (field w.val 6 0)).bump Reg.KEYS_STATUS 15 8))) ∧
  (∀ (s : State) (r : Nat) (s1 : State), r = s.ffld Reg.KEYS_FIFO_CFG 15 8 → s.drainOpen = true → (s.ring r).outbox = [] →
    (s.ringCovered r = false → exec .keyDrain s = .next (s.haltRing r 2)) ∧
    (s.ringCovered r = true → s1 = ((s.post r (.keys (s.keys.fifo.take 3))).writeEntry r).popKeys (s.keys.fifo.take 3).length →
      exec .keyDrain s = .next { s1 with keys := { s1.keys with
        drainDue := decide (s.cur = 2) && !s1.keys.fifo.isEmpty } })) ∧
  (∀ s : State, s.drainOpen = false → exec .keyDrain s = .next s) ∧
  (∀ s : State, s.drainWaited = true → exec .drainWaitExpiry s = .next { s with keys := { s.keys with drainDue := true } }) ∧
  (∀ s : State, s.drainWaited = false → exec .drainWaitExpiry s = .next s) ∧
  (∀ (ring : BitVec 8) (s : State) (v : Verb), admitted s ring 0x30 (pageRight 4) v = true → v.argsWithin [0xFF#32] = true →
    exec (.keysLoad ring) s = .next (match s.configRecs 2 (field (v.arg 0) 7 0) keysPayloadOk with
      | (recs, s1) => match recs.getLast? with
        | none => s1.complete v .badArg
        | some (q, bs) => (keysProfileRegs.zipIdx.foldl
          (fun u e => u.stage e.1 (nth (bytesWords bs) (e.2 + 1))) s1).verbCommit v 4 (some q))) ∧
  (∀ (ring : BitVec 8) (s : State) (v : Verb), admitted s ring 0x31 (pageRight 4) v = true →
    v.argsWithin [0xFF#32, 0xFFFFFFFF#32] = true → stageable 4 (field (v.arg 0) 7 0) (v.arg 1) = true →
    exec (.keysSet ring) s = .next ((s.hostSet (0x4000 + field (v.arg 0) 7 0) (v.arg 1)).verbCommit v 4)) ∧
  (∀ (ring : BitVec 8) (s : State) (v : Verb), admitted s ring 0x32 (pageRight 4) v = true → v.argsWithin [0x1#32] = true →
    (bit (v.arg 0) 0 = false → exec (.keysRead ring) s = .next (s.complete v .ok [s.reg Reg.KEYS_HEAD_LO,
      s.reg Reg.KEYS_HEAD_HI, word s.keys.fifo.length, word (s.fld Reg.KEYS_STATUS 15 8)])) ∧
    (bit (v.arg 0) 0 = true → s.fflag Reg.KEYS_FIFO_CFG 16 = true → exec (.keysRead ring) s = .next (s.complete v .busy)) ∧
    (bit (v.arg 0) 0 = true → s.fflag Reg.KEYS_FIFO_CFG 16 = false → ∀ s1 : State,
      s1 = (s.popKeys 1).bump Reg.KEYS_STATUS 15 8 →
      exec (.keysRead ring) s = .next (s1.complete v .ok [s.reg Reg.KEYS_HEAD_LO, s.reg Reg.KEYS_HEAD_HI,
        word s.keys.fifo.length, word (s1.fld Reg.KEYS_STATUS 15 8)]))) ∧
  (∀ (ring : BitVec 8) (s : State) (v : Verb), admitted s ring 0x33 (pageRight 4) v = true → v.argsWithin [0x1FF#32] = true →
    exec (.keysDrain ring) s = .next ((s.hostSet Reg.KEYS_FIFO_CFG (withBit (withField (s.reg Reg.KEYS_FIFO_CFG) 15 8
      (field (v.arg 0) 7 0)) 16 (bit (v.arg 0) 8))).verbCommit v 4)) ∧
  (∀ (ring : BitVec 8) (s : State) (v : Verb) (c : Nat), admitted s ring 0x34 (pageRight 4) v = true →
    v.argsWithin [0xFF#32] = true → c = field (v.arg 0) 7 0 → (c ≤ 0x47 ∨ c = 0xFF) →
    ∃ t : State, exec (.keysUnmask ring) s = .next (t.complete v .ok) ∧ t = { s with keys := t.keys } ∧
      t.keys.fifo = s.keys.fifo ∧ (∀ k, k < 72 →
        (t.key k) = if (c = k ∨ c = 0xFF) ∧ s.isMasked k then { s.key k with unmask := true } else s.key k)) ∧
  (∀ (ring : BitVec 8) (s : State) (v : Verb) (n : Nat), admitted s ring 0x35 (pageRight 4) v = true →
    v.argsWithin [0x1#32, 0xFFFFFFFF#32, 0xFFFF#32] = true → n = field (v.arg 0) 0 0 →
    exec (.pulseTotalSet ring) s = .next (s.await v (.pulseTotal n (v.arg 1) (v.arg 2)) 0)) ∧
  (∀ (s : State) (r : Nat) (f : Fetched) (n : Nat) (total frac : Word), (s.ring r).cur = some f →
    f.waiting = some (.pulseTotal n total frac) → s.putTotal r = ((s.setReg (Reg.KEYS_PULSE_TOTAL + 4 * n) total).setReg
      (Reg.KEYS_PULSE_FRAC + 4 * n) frac).completeRing r .ok)

/-- Rounds and results: a due round starts with the enabled channels in their order, a conversion publishes the next of them, a
publication shows its value with SEQ one higher, READY, FAULT and STALE; the coulomb counter adds each sample to CHARGE or counts
it as missed, and the process counts are published from their window. Rails, guards and the charger, and the SENSE verbs: a rail's
class is shown with its event, a guarded VBAT that becomes LOW and a supply that stays LOW set the ceiling TACET, a change of
CHG_STAT raises its event and wakes; the verbs read results and stage, and CC_SET answers the charge that it replaces. -/
def Obligations.SenseResultsAndVerbs : Prop :=
  (∀ (s : State) (n : Nat) (pm : Bool), s.roundDue = true → n = s.sense.rounds + 1 →
    pm = decide (0 < s.ffld Reg.SENSE_CFG 15 12 ∧ s.ffld Reg.SENSE_CFG 15 12 ≤ n) →
    exec .roundStart s = .next { s with sense := { s.sense with
      roundAt := some s.metro, left := 0 :: (maskBits 7 (s.ffld Reg.SENSE_CFG 6 0)).filter (fun c => c != 0), published := false
      rounds := if pm then 0 else n, pmFrom := if pm then some s.edge else s.sense.pmFrom } }) ∧
  (∀ s : State, s.roundDue = false → exec .roundStart s = .next s) ∧
  (∀ (raw : Int) (s s1 : State) (ch : Nat) (rest : List Nat), s.senseOn = true → s.sense.left = ch :: rest →
    s.sense.convAt ≠ some s.edge →
    s1 = State.convert { s with sense := { s.sense with left := rest, convAt := some s.edge, convCh := ch } } ch raw →
    exec (.conversion raw) s = .next (if rest.isEmpty then s1.publishMax else s1)) ∧
  (∀ (raw : Int) (s : State), s.senseOn = false ∨ s.sense.left = [] ∨ s.sense.convAt = some s.edge →
    exec (.conversion raw) s = .next s) ∧
  (∀ (s : State) (ch value : Nat) (fault stale : Bool) (t : State), ch < 13 → t = s.publish ch value fault stale →
    t.fld (resultReg ch) 15 0 = value % 65536 ∧ t.fld (resultReg ch) 23 16 = (s.fld (resultReg ch) 23 16 + 1) % 256 ∧
    t.flag (resultReg ch) 28 = fault ∧ t.flag (resultReg ch) 30 = stale ∧ t.flag (resultReg ch) 31 = true ∧
    (∀ c, c < 13 → c ≠ ch → t.reg (resultReg c) = s.reg (resultReg c)) ∧ t.sense.fresh = ch :: s.sense.fresh ∧
    storesSame s t) ∧
  (∀ (raw : Int) (s : State), s.convert 0 raw = if (s.item 2).measuring then s.setFlag (resultReg 0) 30 true
    else s.publish 0 (unsigned 16 (roundDiv ((s.sarCode raw : Int) * 5) 16))) ∧
  (∀ (total : Int) (s s1 : State) (v c : Int), s.metro.toNat % 4096 = 0 → s.sense.ibatAt ≠ some s.metro →
    s.boot.step ≠ .por → s.boot.step ≠ .tacet → s1 = { s with sense := { s.sense with ibatAt := some s.metro } } →
    (s.canSample = false → exec (.ibatSample total) s = .next (s1.setReg Reg.SENSE_CC_MISSED (s.reg Reg.SENSE_CC_MISSED + 1#32))) ∧
    (s.canSample = true → v = roundDiv total 4096 - signed 16 (s.ffld Reg.SENSE_CC_CFG 15 0) → c = clampInt (-32768) 32767 v →
      ∃ t, exec (.ibatSample total) s = .next t ∧ t.fld Reg.SENSE_IBAT 15 0 = unsigned 16 c ∧
        t.flag Reg.SENSE_IBAT 28 = decide (c ≠ v) ∧ t.charge = s.charge + BitVec.ofInt 48 c ∧
        t.fld Reg.SENSE_CHG_HI 31 24 = t.fld Reg.SENSE_IBAT 23 16 ∧ t.metro = s.metro ∧ storesSame s t)) ∧
  (∀ (counts : List Nat) (s : State), s.pmDue = true → exec (.pmCountEnd counts) s =
    .next ((List.range 4).foldl (fun u n => u.publish (9 + n) (min 32767 (counts.getD n 0 / 64)))
      { s with sense := { s.sense with pmFrom := none } })) ∧
  (∀ (counts : List Nat) (s : State), s.pmDue = false → exec (.pmCountEnd counts) s = .next s) ∧
  (∀ (s : State) (r mv : Nat),
    (s.railClass r mv = 2 ↔ mv < 10 * s.ffld (Reg.SENSE_RAIL_VBAT + 4 * r) 8 0) ∧
    (s.railClass r mv = 1 ↔ 10 * s.ffld (Reg.SENSE_RAIL_VBAT + 4 * r) 8 0 ≤ mv ∧
      mv ≤ 10 * s.ffld (Reg.SENSE_RAIL_VBAT + 4 * r) 24 16)) ∧
  (∀ (s : State) (r dwell c : Nat) (mv : List Nat), dwell = max 1 (s.ffld Reg.SENSE_SUPPLY_CFG 7 0) →
    (s.dwellClass r mv = some c ↔ dwell ≤ mv.length ∧ ∀ m ∈ mv.reverse.take dwell, s.railClass r m = c)) ∧
  (∀ (rail : BitVec 3) (mv : List Nat) (c old : Nat) (s s0 s1 s2 : State), rail.toNat < 6 → s.senseOn = true →
    old = Cells.get (fun _ => 0) s.sense.rails rail.toNat → c = (s.dwellClass rail.toNat mv).getD old →
    s0 = (if rail = 2#3 then State.setFlag { s with sense := { s.sense with coreMv := some (mv.getLastD 0) } }
      Reg.SENSE_RAIL_STATUS 16 (decide (s.confirmMv ≤ mv.getLastD 0)) else s) →
    s1 = s0.setRail rail.toNat c →
    s2 = (if old = 0 then s1 else s1.raise 44 (s1.reg Reg.SENSE_RAIL_STATUS &&& 0x3FFF#32)) →
    (old = c → exec (.railClassChange rail mv) s = .next s0) ∧
    (old ≠ c → ¬(rail = 0#3 ∧ c = 2 ∧ s2.guarded = true) → exec (.railClassChange rail mv) s = .next s2) ∧
    (old ≠ c → rail = 0#3 → c = 2 → s2.guarded = true → exec (.railClassChange rail mv) s =
      .next (((s2.setFlag Reg.SENSE_STATUS 8 true).raise 46 (word (s2.fld (resultReg 0) 15 0))).guardCeil))) ∧
  (∀ (rail : BitVec 3) (mv : List Nat) (s : State), 6 ≤ rail.toNat ∨ s.senseOn = false →
    exec (.railClassChange rail mv) s = .next s) ∧
  (∀ s : State, s.ladder.ceilThermal ≤ 5 → s.ladder.ceilBattery ≤ 5 →
    s.guardCeil.ceil = 5 ∧ s.guardCeil.ladder.ceilSupply = 5) ∧
  (∀ s : State, s.senseOn = true → s.guarded = true → s.suppliesAwaited = false → s.lostRails ≠ [] →
    exec .supplyLoss s = .next ((State.setFlag { s with sense := { s.sense with
      lowSince := s.sense.lowSince.filter (fun e => !s.lostRails.contains e.1) } } Reg.SENSE_STATUS 9 true).guardCeil)) ∧
  (∀ s : State, s.senseOn = false ∨ s.guarded = false ∨ s.suppliesAwaited = true ∨ s.lostRails = [] →
    exec .supplyLoss s = .next s) ∧
  (∀ (level : Bool) (s s1 : State), s.senseOn = true → level ≠ s.pins.chgStat →
    s1 = { s with pins := { s.pins with chgStat := level } } →
    exec (.chgStatChange level) s = .next (((s1.raise 43 (word ((if level then 1 else 0) +
      (if s.pins.chgEnLow then 2 else 0)))).wake 9).showCharger)) ∧
  (∀ (level : Bool) (s : State), s.senseOn = false ∨ level = s.pins.chgStat →
    exec (.chgStatChange level) s = .next { s with pins := { s.pins with chgStat := level } }) ∧
  (∀ (ring : BitVec 8) (s : State) (v : Verb), admitted s ring 0x40 (pageRight 5) v = true → v.argsWithin [0x3#32] = true →
    exec (.senseRead ring) s = .next (s.complete v .ok ((senseGroup (field (v.arg 0) 1 0)).map s.reg))) ∧
  (∀ (ring : BitVec 8) (s : State) (v : Verb), admitted s ring 0x41 (pageRight 5) v = true →
    v.argsWithin [0xFF#32, 0xFFFFFFFF#32] = true → stageable 5 (field (v.arg 0) 7 0) (v.arg 1) = true →
    exec (.senseSet ring) s = .next ((s.hostSet (0x5000 + field (v.arg 0) 7 0) (v.arg 1)).verbCommit v 5)) ∧
  (∀ (ring : BitVec 8) (s : State) (v : Verb) (n : Nat), admitted s ring 0x42 (pageRight 5) v = true →
    v.argsWithin [0xF#32, 0x3FFFFFFF#32, 0x77F#32] = true → n = field (v.arg 0) 3 0 →
    exec (.slotSet ring) s =
      .next (((s.hostSet (slotWord n 0) (v.arg 1)).hostSet (slotWord n 1) (v.arg 2)).verbCommit v 5)) ∧
  (∀ (ring : BitVec 8) (s : State) (v : Verb) (n a : Nat), admitted s ring 0x43 (pageRight 5) v = true →
    v.argsWithin (0x00073F01#32 :: List.replicate 6 0xFFFF#32) = true → n = field (v.arg 0) 18 16 → 1 ≤ n → n ≤ 6 →
    field (v.arg 0) 13 8 + n ≤ 33 → a = Reg.SENSE_NTC0_PT + 0x100 * field (v.arg 0) 0 0 + 4 * field (v.arg 0) 13 8 →
    exec (.ntcTable ring) s = .next
      (((List.range n).foldl (fun u i => u.hostSet (a + 4 * i) (v.arg (1 + i))) s).verbCommit v 5)) ∧
  (∀ (ring : BitVec 8) (s t : State) (v : Verb) (new : BitVec 48), admitted s ring 0x44 (pageRight 5) v = true →
    v.argsWithin [0x1#32, 0xFFFFFFFF#32, 0xFFFF#32] = true →
    new = (if bit (v.arg 0) 0 then (v.arg 2).setWidth 16 ++ v.arg 1 else 0#48) → t = s.setCharge new →
    exec (.ccSet ring) s = .next (t.complete v .ok [s.reg Reg.SENSE_CHG_LO, word (s.fld Reg.SENSE_CHG_HI 15 0)]) ∧
      t.charge = new) ∧
  (∀ (ring : BitVec 8) (s : State) (v : Verb), admitted s ring 0x45 (pageRight 5) v = true → v.argsWithin [0x7#32] = true →
    exec (.chgSet ring) s = .next ((s.setReg Reg.SENSE_CHG_CFG (v.arg 0)).complete v .ok))

/-- A threshold slot and its samples: a sample that does not cross returns its COUNT to 0, one that crosses short of the debounce
counts, one that reaches it changes ASSERTED with EV_SENSE_ASSERT or EV_SENSE_CLEAR; a slot asserts above LEVEL, or below it with
DIR 1, and clears only past its hysteresis. At the end of a tick the slots whose channels published in it sample, in ascending
slot number. -/
def Obligations.SlotsDebounceTheirSamples : Prop :=
  ∀ (s : State) (n value : Nat), n < 16 →
    (s.slotCrosses n (signed 16 value) = false →
      s.slotSample n value = s.setFld (slotWord n 1) 23 20 0) ∧
    (s.slotCrosses n (signed 16 value) = true →
      s.fld (slotWord n 1) 23 20 + 1 < max 1 (s.ffld (slotWord n 0) 29 26) →
      s.slotSample n value = s.setFld (slotWord n 1) 23 20 (s.fld (slotWord n 1) 23 20 + 1)) ∧
    (s.slotCrosses n (signed 16 value) = true →
      max 1 (s.ffld (slotWord n 0) 29 26) ≤ s.fld (slotWord n 1) 23 20 + 1 →
      (s.slotSample n value).slotAsserted n = !s.slotAsserted n ∧ (s.slotSample n value).fld (slotWord n 1) 23 20 = 0 ∧
      (s.slotSample n value).sense.slotsDirty = true ∧ storesSame s (s.slotSample n value) ∧
      (∀ m, m < 16 → m ≠ n → (s.slotSample n value).slotAsserted m = s.slotAsserted m) ∧
      (∀ s1 s2 : State, s1 = (s.setFld (slotWord n 1) 23 20 0).setFlag (slotWord n 1) 16 (!s.slotAsserted n) →
        s2 = (s1.setSense { s.sense with slotsDirty := true }).raise (if s.slotAsserted n then 41 else 40) (s1.slotArg n value) →
        s.slotSample n value = if !s.slotAsserted n && s.fflag (slotWord n 1) 6 then s2.wake 7 else s2)) ∧
    (∀ (level hyst v : Int), level = signed 16 (s.ffld (slotWord n 0) 15 0) →
      hyst = (if s.ffld (slotWord n 0) 25 16 = 0 then defaultHyst (s.ffld (slotWord n 1) 3 0) else s.ffld (slotWord n 0) 25 16) →
      (s.fflag (slotWord n 1) 4 = false → s.slotAsserted n = false → (s.slotCrosses n v = true ↔ level < v)) ∧
      (s.fflag (slotWord n 1) 4 = false → s.slotAsserted n = true → (s.slotCrosses n v = true ↔ v < level - hyst)) ∧
      (s.fflag (slotWord n 1) 4 = true → s.slotAsserted n = false → (s.slotCrosses n v = true ↔ v < level)) ∧
      (s.fflag (slotWord n 1) 4 = true → s.slotAsserted n = true → (s.slotCrosses n v = true ↔ level + hyst < v))) ∧
    (s.slotHears n = true ↔ s.slotOn n = true ∧ s.ffld (slotWord n 1) 3 0 ∈ s.sense.fresh ∧
      s.channelGood (s.ffld (slotWord n 1) 3 0) = true) ∧
    (s.sense.fresh = [] → s.sampleSlots = s) ∧
    (s.slotHears n = true → (∀ m, m < 16 → m ≠ n → s.slotHears m = false) → s.sampleSlots =
      { s.slotSample n (s.fld (resultReg (s.ffld (slotWord n 1) 3 0)) 15 0) with
        sense := { (s.slotSample n (s.fld (resultReg (s.ffld (slotWord n 1) 3 0)) 15 0)).sense with fresh := [] } }) ∧
    (∀ (m : Nat) (t : State), m < n → s.slotHears m = true → s.slotHears n = true →
      (∀ k, k < 16 → k ≠ m → k ≠ n → s.slotHears k = false) →
      t = (s.slotSample m (s.fld (resultReg (s.ffld (slotWord m 1) 3 0)) 15 0)).slotSample n
        (s.fld (resultReg (s.ffld (slotWord n 1) 3 0)) 15 0) →
      s.sampleSlots = t.setSense { t.sense with fresh := [] })

/-- Runs of tuning items: a trigger of a disabled item does nothing, one of an idle item starts its run, one while it measures is
queued; a run that starts shows RUNNING with its TIMEOUT; a finished measurement is judged, shown, and becomes the target where it
is plausible; a run past its TIMEOUT ends with TIMEOUT; the end of a run counts it with its status and raises its events. -/
def Obligations.TuningRunsStartAndEnd : Prop :=
  (∀ (s : State) (n trig : Nat), n < 8 → (s.flag (itemCfg n) 0 = false → s.tuneTrigger n trig = s) ∧
    (s.flag (itemCfg n) 0 = true → s.tuning n = true → (s.item n).measuring = false → s.tuneTrigger n trig = s) ∧
    (s.flag (itemCfg n) 0 = true → s.tuning n = true → (s.item n).measuring = true → s.tuneTrigger n trig =
      (s.setItem n { s.item n with queued := some ((s.item n).queued.getD trig) }).setFlag (itemStat n) 6 true) ∧
    (s.flag (itemCfg n) 0 = true → s.tuning n = false → ((n = 4 ∨ n = 6) ∧ 2 ≤ s.cur ∧ (trig = 1 ∨ trig = 3 ∨ trig = 4)) →
      s.tuneTrigger n trig =
        s.setItem n { s.item n with held := some ((s.item n).held.getD trig), periodUsed := true }) ∧
    (s.flag (itemCfg n) 0 = true → s.tuning n = false → ¬((n = 4 ∨ n = 6) ∧ 2 ≤ s.cur ∧ (trig = 1 ∨ trig = 3 ∨ trig = 4)) →
      (s.tuneTrigger n trig).tuning n = true ∧ ((s.tuneTrigger n trig).item n).trig = trig ∧
      ((s.tuneTrigger n trig).item n).measuring = false ∧ ((s.tuneTrigger n trig).item n).from_ = s.edge ∧
      ((s.tuneTrigger n trig).item n).timeout =
        (if trig = 0 ∧ (n = 0 ∨ n = 4 ∨ n = 6 ∨ n = 7) then 0 else max 1 (s.fld (itemCfg n) 31 16)))) ∧
  (∀ (item : BitVec 3) (vals : List Int) (s : State) (n : Nat) (f : List Int) (w : Word) (ok : Bool), n = item.toNat → n ≠ 0 →
    n ≠ 5 → s.aoOn = true → s.tuning n = true → (s.item n).measuring = true →
    measureTicks n ≤ s.elapsed (s.item n).measureAt → s.judge n vals = (f, w, ok) → ∀ s1 : State,
    s1 = s.setReg (Reg.TUNE_ITEM_RESULT + 4 * n) w →
    (ok = false → exec (.tuneRunEnd item vals) s = .next (s1.tuneEnd n .implausible)) ∧
    (ok = true → s.applyAtOnce n = false → exec (.tuneRunEnd item vals) s = .next ((s1.setTarget n f).tuneEnd n .ok)) ∧
    (ok = true → s.applyAtOnce n = true →
      exec (.tuneRunEnd item vals) s = .next (((s1.setApplied n f).setTarget n f).tuneEnd n .ok))) ∧
  (∀ (item : BitVec 3) (vals : List Int) (s : State),
    item = 0#3 ∨ item = 5#3 ∨ s.aoOn = false ∨ s.tuning item.toNat = false ∨ (s.item item.toNat).measuring = false ∨
      s.elapsed (s.item item.toNat).measureAt < measureTicks item.toNat →
    exec (.tuneRunEnd item vals) s = .next s) ∧
  (∀ (item : BitVec 3) (s : State) (n : Nat), n = item.toNat →
    (s.aoOn = true → s.tuning n = true → 0 < (s.item n).timeout → (s.item n).timeout ≤ s.elapsed (s.item n).from_ →
      exec (.tuneTimeout item) s = .next (s.tuneEnd n .timeout)) ∧
    (s.aoOn = false ∨ s.tuning n = false ∨ (s.item n).timeout = 0 ∨ s.elapsed (s.item n).from_ < (s.item n).timeout →
      exec (.tuneTimeout item) s = .next s)) ∧
  (∀ (s : State) (n : Nat) (st : Status) (t : State), n < 8 → t = s.endRun n st → t.tuning n = false ∧
    (t.item n).measuring = false ∧ t.fld (itemStat n) 15 8 = st.code ∧ t.fld (itemStat n) 2 0 = (s.item n).trig % 8 ∧
    t.fld (itemStat n) 31 16 = min 65535 (s.fld (itemStat n) 31 16 + 1) ∧ t.reg (Reg.TUNE_ITEM_TICK + 4 * n) = s.now ∧
    t.flag (itemStat n) 5 = false ∧ (t.item n).target = (s.item n).target ∧ (t.item n).applied = (s.item n).applied ∧
    (t.item n).endAt = some s.edge ∧ storesSame s t) ∧
  (∀ (item : BitVec 3) (s : State), (s.periodDue item.toNat = true →
      exec (.tunePeriodTrigger item) s = .next (s.tuneTrigger item.toNat 3)) ∧
    (s.periodDue item.toNat = false → exec (.tunePeriodTrigger item) s = .next s))

/-- A tap step moves each field of an item toward its target by at most one tap, 32 for item 0, and nothing while the item
measures or, for the link and the lanes, below MEZZO; at a 1 s boundary the crystal correction makes the Metronome advance by 1,
by 1 + k, or hold for k ticks, k limited to 4. -/
def Obligations.TapsAndSecondsStep : Prop :=
  (∀ (d a b : Int), 0 ≤ d → (tapMove d a b = b ∨ (tapMove d a b - a = d ∧ a < b) ∨ (tapMove d a b - a = -d ∧ b < a)) ∧
    (tapMove d a b - a ≤ d ∧ -d ≤ tapMove d a b - a) ∧ (tapMove d a b - b).natAbs ≤ (a - b).natAbs) ∧
  (∀ (s : State) (n : Nat), n < 8 →
    ((s.item n).measuring = true ∨ (s.item n).applied = (s.item n).target ∨ s.itemBoundary n = false → s.tapStep n = s) ∧
    ((s.item n).measuring = false → (s.item n).applied ≠ (s.item n).target → s.itemBoundary n = true →
      ((s.tapStep n).item n).applied =
        List.zipWith (tapMove (if n = 0 then 32 else 1)) (s.item n).applied (s.item n).target ∧
      ((s.tapStep n).item n).target = (s.item n).target ∧
      (s.tapStep n).reg (Reg.TUNE_ITEM_APPLIED + 4 * n) = packItem n ((s.tapStep n).item n).applied)) ∧
  (∀ s : State, ∀ n, n < 8 → (s.itemBoundary n = true ↔ s.aoOn = true ∧
    ((n = 4 ∨ n = 6) → s.cur ≤ 1) ∧ (n = 6 → s.flag Reg.INTAKE_DSI_CFG 0 = true ∧ s.fflag Reg.INTAKE_DSI_CFG 0 = true) ∧
    (n = 7 → s.pins.pg.getLsbD 12 = true))) ∧
  (∀ s s1 : State, s.atSecond = true → s1 = State.tapStep { s with edge := s.edge + 1#48 } 0 → ∀ (acc k : Int),
    acc = s.tune.acc + (s1.item 0).applied.getD 0 0 → k = clampInt (-4) 4 (acc.tdiv 1024) →
    (s.flag Reg.DEV_AO_CLK 0 = false ∨ s.aoOn = false → exec .oneSecondBoundary s =
      .next { s1 with metro := s.metro + 1#48, tune := { s1.tune with hold := none } }) ∧
    (s.flag Reg.DEV_AO_CLK 0 = true → s.aoOn = true → k < 0 → ∃ t : State, exec .oneSecondBoundary s = .next t ∧ t.metro = s.metro ∧
      t.tune.hold = some (k.natAbs - 1) ∧ t.tune.acc = acc - 1024 * k) ∧
    (s.flag Reg.DEV_AO_CLK 0 = true → s.aoOn = true → 0 ≤ k → ∃ t : State, exec .oneSecondBoundary s = .next t ∧
      t.metro = s.metro + 1#48 + BitVec.ofNat 48 k.toNat ∧ t.tune.hold = none ∧ t.tune.acc = acc - 1024 * k)) ∧
  (∀ s : State, s.atSecond = false → exec .oneSecondBoundary s = .next s) ∧
  (∀ s : State, s.atSecond = true ↔ s.metro.toNat % 32768 = 0x2000 ∧ s.tune.hold = none) ∧
  (∀ (s : State) (n : Nat), s.tune.hold = some (n + 1) → s.metroTick.metro = s.metro ∧ s.metroTick.tune.hold = some n) ∧
  (∀ s : State, s.tune.hold = some 0 → s.metroTick.metro = s.metro + 1#48 ∧ s.metroTick.tune.hold = none) ∧
  (∀ s : State, ∃ t, exec .por s = .next t ∧ t.tune.acc = 0)

/-- The TUNE verbs and writes complete. Fuses: FUSE_STAGE puts a word in the stage, FUSE_PROGRAM with its key programs where the
section is virgin, the part is in TUTTI with enough battery and the stage is clean, and answers HALTED otherwise; programming ORs
the plan into the customer words, and every factory word stays. -/
def Obligations.TuneVerbsAndFuses : Prop :=
  (∀ (ring : BitVec 8) (s : State) (v : Verb) (n : Nat), admitted s ring 0x50 (pageRight 6) v = true →
    v.argsWithin [0x7#32] = true → n = field (v.arg 0) 2 0 →
    (s.flag (itemCfg n) 0 = false → exec (.tuneRun ring) s = .next (s.complete v .halted)) ∧
    (s.flag (itemCfg n) 0 = true → exec (.tuneRun ring) s = .next ((s.tuneTrigger n 2).defer v
      (if s.tuning n && (s.item n).measuring then .tuneQueued n else .tuneRun n) 0))) ∧
  (∀ (ring : BitVec 8) (s : State) (v : Verb) (n : Nat), admitted s ring 0x51 (pageRight 6) v = true →
    v.argsWithin [0xF#32, 0xFFFFFFFF#32] = true → n = field (v.arg 0) 3 0 → n ≤ 9 → within (v.arg 1) (tuneMask n) = true →
    (n ≤ 7 → (bit (v.arg 1) 0 = true ∨ s.tuning n = false ∨ (s.item n).measuring = true) →
      exec (.tuneSet ring) s = .next ((s.hostSet (itemCfg n) (v.arg 1)).complete v .ok)) ∧
    (n ≤ 7 → bit (v.arg 1) 0 = false → s.tuning n = true → (s.item n).measuring = false →
      exec (.tuneSet ring) s = .next (((s.hostSet (itemCfg n) (v.arg 1)).tuneEnd n .halted).complete v .ok)) ∧
    (n = 8 → exec (.tuneSet ring) s = .next ((s.hostSet Reg.TUNE_DELTA (v.arg 1)).complete v .ok)) ∧
    (n = 9 → exec (.tuneSet ring) s = .next ((s.hostSet Reg.TUNE_XT_ADJ (v.arg 1)).complete v .ok))) ∧
  (∀ (ring : BitVec 8) (s : State) (v : Verb) (n : Nat), admitted s ring 0x52 (pageRight 6) v = true →
    v.argsWithin [0x7#32] = true → n = field (v.arg 0) 2 0 →
    exec (.tuneRead ring) s = .next (s.complete v .ok [s.reg (itemStat n), s.reg (Reg.TUNE_ITEM_TICK + 4 * n),
      s.reg (Reg.TUNE_ITEM_RESULT + 4 * n), s.reg (Reg.TUNE_ITEM_APPLIED + 4 * n)])) ∧
  (∀ (ring : BitVec 8) (s : State) (v : Verb), admitted s ring 0x53 (pageRight 6) v = true → v.argsWithin [0xFF#32] = true →
    exec (.tuneLoad ring) s = .next (match s.configRecs 3 (field (v.arg 0) 7 0) tunePayloadOk with
      | (recs, s1) => match recs.getLast? with
        | none => s1.complete v .badArg
        | some (q, bs) => (s1.applyTune bs).complete v .ok [word q])) ∧
  (∀ (ring : BitVec 8) (s : State) (v : Verb) (n : Nat), admitted s ring 0x54 (pageRight 6) v = true →
    v.argsWithin [0x7#32] = true → n = field (v.arg 0) 2 0 →
    exec (.tuneRebase ring) s = .next ((s.setTarget n (s.tuneBase n)).complete v .ok)) ∧
  (∀ (p : Port) (s s0 : State) (w : BufWord), fronted s p w s0 = true → w.off = Reg.TUNE_REQ →
    exec (.tuneReqWrite p) s = .next ((maskBits 8 (field w.val 7 0)).foldl
      (fun u n => if u.tuning n then u else u.tuneTrigger n 2) s0)) ∧
  (∀ (ring : BitVec 8) (s : State) (v : Verb) (c : Nat), admitted s ring 0x55 clientZero v = true →
    v.argsWithin [0xF#32, 0xFFFFFFFF#32, 0xFFFFFF#32] = true → c = field (v.arg 0) 3 0 → c ≤ 13 →
    ∃ t : State, exec (.fuseStage ring) s = .next (t.complete v .ok) ∧ t = { s with regs := t.regs } ∧
      t.staged c = (v.arg 2).setWidth 24 ++ v.arg 1 ∧ (∀ d, d < 14 → d ≠ c → t.staged d = s.staged d)) ∧
  (∀ (ring : BitVec 8) (s s1 : State) (v : Verb), admitted s ring 0x56 clientZero v = true →
    v.argsWithin [0xFFFF#32] = true → field (v.arg 0) 15 0 = 0xF05E → s1 = s.setFlag Reg.TUNE_FUSE_STATUS 4 true →
    (s.fuseReady = true → exec (.fuseProgram ring) s = .next (State.await { s1 with tune := { s.tune with
      fuseBits := s.fusePlan.foldl (fun n e => n + fuseBits e) 0, plan := s.fusePlan } } v .fuse 0)) ∧
    (s.fuseReady = false → exec (.fuseProgram ring) s = .next (s.complete v .halted))) ∧
  (∀ s : State, s.fusePlan.length = 16 ∧ (∀ c, c < 14 → s.fusePlan[c]? = some (s.staged c)) ∧ s.fusePlan[15]? = some 1#56) ∧
  (∀ (failed : Nat) (s : State), s.flag Reg.TUNE_FUSE_STATUS 4 = true → s.tune.plan.length = 16 →
    ∃ t : State, exec (.fuseProgramDone failed) s = .next t ∧ t.flag Reg.TUNE_FUSE_STATUS 4 = false ∧
      (∀ i, i < 48 → t.fuseWord i = s.fuseWord i) ∧
      (∀ c, c < 16 → t.fuseWord (48 + c) = s.fuseWord (48 + c) ||| s.tune.plan.getD c 0#56) ∧
      t.fld Reg.TUNE_FUSE_STATUS 15 8 = min 255 failed ∧ (failed ≠ 0 → t.fld Reg.TUNE_FUSE_STATUS 1 0 = 2) ∧
      t.hall = s.hall ∧ t.flash = s.flash) ∧
  (∀ (failed : Nat) (s : State), s.flag Reg.TUNE_FUSE_STATUS 4 = false → exec (.fuseProgramDone failed) s = .next s)

/-- The cells of the journal flash: programming only turns bits to 0, in its own word; a word programmed to completion reads what
it held AND the value at every reference; a blank sector reads all ones; the bits of words elsewhere stay. -/
def Obligations.FlashWordsOnlyLoseBits : Prop :=
  (∀ (s : State) (a : Nat) (v weak : Word), (∀ b, b ≠ a → (s.chargeWord a v weak).flashWord b = s.flashWord b) ∧
    (s.chargeWord a v weak).flashRaw a = s.flashRaw a &&& v) ∧
  (∀ (s : State) (a : Nat) (v : Word), (s.programWord a v).flashRaw a = s.flashRaw a &&& v ∧
    (s.programWord a v).flashWord a &&& ~~~v = 0#32 ∧ storesSame s { s.programWord a v with flash := s.flash }) ∧
  (∀ (s : State) (p w : Nat), w < 1024 → (s.blankSector p).jw p w = erasedWord ∧ (s.blankSector p).jev p w = erasedWord ∧
    (∀ q x, q ≠ p → x < 1024 → (s.blankSector p).jw q x = s.jw q x)) ∧
  (∀ (s : State) (p : Nat), (s.tearSector p).flash = s.flash ∧
    (∀ q x, q ≠ p → x < 1024 → (s.tearSector p).jw q x = s.jw q x))

/-- What the array does: a word program ends verified or failed, counter bits begin and end, an erase starts with its intent and
its pulses end blank or not; the controller then takes its next work. The journal's own work begins: counters ask for a burst, a
full strip rolls over, compaction starts by itself. -/
def Obligations.TheJournalDoesItsWork : Prop :=
  (∀ (begun : Word) (verified : Bool) (s s1 s2 : State) (id a : Nat) (v : Word) (i : JItem),
    s.jrnl.busy = some (.word id a v) →
    s1 = State.endWord { s with jrnl := { s.jrnl with busy := none } } a v verified begun →
    s2 = (if verified then s1 else s1.verifyFailure (a / 1024)) →
    s2.jrnl.items.find? (fun j => j.id == id) = some i →
    (∀ a' v' rest, i.ops = .program a' v' :: rest → exec (.wordProgramDone verified begun) s = .next (s2.setOps i rest).kick) ∧
    (∀ w ws r why p off rest, i.ops = .write (w :: ws) r why p off :: rest →
      exec (.wordProgramDone verified begun) s = .next (if verified then s2.setOps i (.write ws r why p off :: rest)
        else (s2.setOps i (.append r why :: rest)).addItem 0 [.program (1024 * p + 3) 0xFFFFFFFD#32]).kick)) ∧
  (∀ (begun : Word) (verified : Bool) (s s1 s2 : State) (c a : Nat) (v : Word), s.jrnl.busy = some (.bits c a v) →
    s1 = State.endWord { s with jrnl := { s.jrnl with busy := none } } a v verified begun →
    s2 = s1.bitsBegun c (popCount (s.flashRaw a &&& ~~~(s1.flashRaw a))) →
    exec (.wordProgramDone verified begun) s = .next (if verified then s2 else s2.verifyFailure (a / 1024)).kick) ∧
  (∀ (begun : Word) (verified : Bool) (s : State), s.jrnl.busy = none → exec (.wordProgramDone verified begun) s = .next s) ∧
  (∀ (s : State) (a : Nat) (v begun : Word), s.endWord a v true begun = s.programWord a v ∧
    s.endWord a v false begun = s.chargeWord a (v ||| ~~~begun) begun) ∧
  (∀ (begun : Word) (s s1 : State) (c a : Nat) (erased target : Word), s.arrayFree = true → s.nextBits = some c →
    s.stripWord c = some (a, erased) → target = lowBits (s.unsaved c) erased →
    s1 = (s.chargeWord a (~~~(target &&& begun)) (target &&& begun)).bitsBegun c (popCount (target &&& begun)) →
    exec (.counterProgram begun) s = .next { s1 with jrnl := { s1.jrnl with busy := some (.bits c a (~~~target)) } }) ∧
  (∀ (begun : Word) (s : State), s.arrayFree = false ∨ s.nextBits = none → exec (.counterProgram begun) s = .next s) ∧
  (∀ (s : State) (i : JItem) (p : Nat) (rest : List JOp), s.arrayFree = true → s.nextBits = none → s.nextItem = some i →
    i.ops = .erase p :: rest → exec .eraseStart s = .next (s.beginErase i p rest).kick) ∧
  (∀ s : State, s.arrayFree = false ∨ s.nextBits ≠ none ∨ s.nextItem = none → exec .eraseStart s = .next s) ∧
  (∀ (s s1 s3 : State) (id p q : Nat) (i : JItem) (count k : Nat) (rest : List JOp),
    s.jrnl.busy = some (.pulse id p) → s1 = { s with jrnl := { s.jrnl with busy := none } } →
    s.jrnl.items.find? (fun j => j.id == id) = some i → i.ops = .pulse q count k :: rest →
    (16 ≤ k + 1 → exec (.erasePulseDone false) s =
      .next ((s1.putItem { i with ops := rest, begun := false, deferred := false }).retire p 0).kick) ∧
    (k + 1 < 16 → exec (.erasePulseDone false) s = .next (s1.setOps i (.pulse p count (k + 1) :: rest)).kick) ∧
    (4 < k + 1 → s3 = (s1.blankSector p).raise 64 (word (p + 256 * ((k + 1) % 16) + 0x1000 * min count (2 ^ 20 - 1))) →
      exec (.erasePulseDone true) s = .next (s3.setOps i ([.program (1024 * p) sectorMagic,
        .program (1024 * p + 1) (word (count % 2 ^ 24)), .program (1024 * p + 3) 0xFFFFFEFF#32,
        .program (1024 * p + 2) (~~~(word (count % 2 ^ 24)))] ++ s3.doneWords p ++ .erased p :: rest)).kick) ∧
    (k + 1 ≤ 4 → exec (.erasePulseDone true) s = .next ((s1.blankSector p).setOps i ([.program (1024 * p) sectorMagic,
        .program (1024 * p + 1) (word (count % 2 ^ 24)), .program (1024 * p + 2) (~~~(word (count % 2 ^ 24)))] ++
        (s1.blankSector p).doneWords p ++ .erased p :: rest)).kick)) ∧
  (∀ (blank : Bool) (s : State), s.jrnl.busy = none → exec (.erasePulseDone blank) s = .next s) ∧
  (∀ s : State, s.cur = 3 ∨ s.cur = 4 → exec .counterFlushTimer s = .next { s with jrnl := { s.jrnl with
    due := s.jrnl.due ++ (List.range 8).filter (fun c => s.batchDue c && !s.jrnl.due.contains c) } }) ∧
  (∀ s : State, s.cur ≠ 3 → s.cur ≠ 4 → exec .counterFlushTimer s = .next s) ∧
  (∀ (s : State) (c : Nat), (List.range 8).find? s.rollDue = some c →
    exec .counterRollover s = .next (s.addItem 1 [.roll c]).kick) ∧
  (∀ s : State, (∀ c, c < 8 → s.rollDue c = false) → exec .counterRollover s = .next s) ∧
  (∀ s : State, s.cmdCompactLate = none → s.compactDue = true →
    exec .compaction s = .next (s.addItem 4 [.victim false]).kick) ∧
  (∀ s : State, s.cmdCompactLate = none → s.compactDue = false → exec .compaction s = .next s) ∧
  (∀ (s s1 : State) (i : JItem), s.cmdCompactLate = some i →
    s1 = (s.putItem { i with origin := .part }).publishCmd .timeout [] →
    exec .compaction s = .next (if s1.compactDue then (s1.addItem 4 [.victim false]).kick else s1)) ∧
  (∀ (s : State) (c n : Nat), c < 8 → n ≤ s.unsaved c → s.unsaved c < 2 ^ 32 → s.durable c + n < 2 ^ 48 →
    (s.bitsBegun c n).durable c = s.durable c + n ∧ (s.bitsBegun c n).unsaved c = s.unsaved c - n ∧
    (∀ d, d < 8 → d ≠ c → (s.bitsBegun c n).durable d = s.durable d ∧ (s.bitsBegun c n).unsaved d = s.unsaved d))

/-- The journal verbs and JRNL.CMD: an admitted verb in order is queued and waits, or completes with NV_READONLY; a write of CMD
with GO runs the same operation with CMD_ARG, or reports why not, and while one runs it is ignored as a whole (log entry 59). -/
def Obligations.JournalVerbsAreQueued : Prop :=
  (∀ (c : Instr) (ring : BitVec 8) (s : State) (v : Verb) (code : Nat),
    (c, code) ∈ [(.jrnlAppend ring, 0x60), (.jrnlRead ring, 0x61), (.jrnlFind ring, 0x62), (.jrnlDelete ring, 0x63),
      (.jrnlCompact ring, 0x64), (.counterSetup ring, 0x65), (.counterAdd ring, 0x66), (.counterRead ring, 0x67),
      (.counterFlush ring, 0x68)] →
    admitted s ring code journalRight v = true → journalArgs s v = true →
    (s.jrnl.readonly = true → exec c s = .next (s.complete v .nvReadonly)) ∧
    (s.jrnl.readonly = false → code ≠ 0x60 → exec c s =
      .next ((s.await v .journal (if code = 0x64 then 65536 else 0)).addItem (if code = 0x65 then 1 else 3)
        [.verb code ((List.range 7).map v.arg) v.owner []] (.ring v.ring)).kick) ∧
    (s.jrnl.readonly = false → code = 0x60 → exec c s =
      .next (((s.await v .journal 0).touchHall (v.arg 1).toNat (appendBytes v)).addItem 3
        [.verb code ((List.range 7).map v.arg) v.owner ((s.await v .journal 0).appendBody v)] (.ring v.ring)).kick)) ∧
  (∀ (s : State) (i : JItem) (args : List Word) (owner c : Nat), c = field (nth args 0) 2 0 →
    s.verbStep i 0x66 args owner [] = (s.countUp c (field (nth args 1) 15 0)).finishItem i .ok [] ∧
    s.verbStep i 0x67 args owner [] = s.finishItem i .ok [s.reg (Reg.JRNL_CTR_LO + 8 * c), s.reg (Reg.JRNL_CTR_HI + 8 * c),
      s.reg (Reg.JRNL_CTR_UNSAVED + 4 * c), s.ctrTab c] ∧
    s.verbStep i 0x62 args owner [] = s.finishItem i .ok (match s.findRec args with
      | some r => [word r.seq, r.w0, r.w1, s.recPlace r.p r.off]
      | none => [0#32, 0#32, 0#32, 0#32]) ∧
    s.verbStep i 0x63 args owner [] = (match s.findSeq (nth args 0).toNat with
      | some r => if r.type = 5 ∨ (r.type ≤ 4 ∧ owner ≠ 0) then
          s.finishItem i (if r.type = 5 then .badArg else .noPermission) []
        else s.setOps i (s.deleteOps r.seq ++ [.answer 0 []])
      | none => s.finishItem i .badArg [])) ∧
  (∀ (p : Port) (s s1 s2 : State) (w : BufWord) (v : Verb), fronted s p w s1 = true →
    w.off = Reg.JRNL_CMD → bit w.val 31 = true →
    s2 = State.setFlag { s1.hostSet Reg.JRNL_CMD w.val with jrnl := { s1.jrnl with cmdOp := field w.val 7 0 } }
      Reg.JRNL_CMD_STATUS 31 false →
    v = { ring := 256, owner := s2.fld Reg.JRNL_MODE 13 8, index := 0,
          words := word (field w.val 7 0) :: (List.range 4).map (fun k => s2.reg (Reg.JRNL_CMD_ARG + 4 * k)) } →
    (s.cmdBusy = true → exec (.jrnlCmdGo p) s = .next s1) ∧
    (s.cmdBusy = false → exec (.jrnlCmdGo p) s = .next (
      if field w.val 7 0 < 0x60 ∨ 0x68 < field w.val 7 0 then s2.publishCmd .badVerb []
      else if journalRight s2 v = false then s2.publishCmd .noPermission []
      else if journalArgs s2 v = false then s2.publishCmd .badArg []
      else if s2.jrnl.readonly then s2.publishCmd .nvReadonly []
      else s2.queueVerb v .cmd)))

/-- A packet while the receiver takes none does nothing; one on a virtual channel that is not accepted sets bit 12 of DSI_ERR (the
model's choice, log entry 41); the packets that Table 12-2 accepts without effect do no more than arrive. The packets that set the
receiver up or ask for an answer, and the DCS commands of Table 12-3. -/
def Obligations.PacketsSetTheReceiver : Prop :=
  (∀ (c : Instr) (vc : BitVec 1) (s : State), packetChannel c = some vc →
    (s.dsiOn = false → exec c s = .next s) ∧
    (s.dsiOn = true → channelOpen s vc = false → exec c s = .next ((received s).dsiFault 12))) ∧
  (∀ (c : Instr) (vc : BitVec 1) (s : State), packetChannel c = some vc → channelOpen s vc = true →
    c ∈ [.endOfTransmission, .nullBlanking vc, .colorModeOff vc, .colorModeOn vc, .shutDown vc, .turnOnPeripheral vc,
      .genericShortWrite vc, .dcsNop vc, .setTearScanline vc] → exec c s = .next (received s)) ∧
  (∀ (s : State) (b : Nat), b < 16 → (s.dsiFault b).flag Reg.INTAKE_DSI_ERR b = true ∧
    (s.dsiFault b).reg Reg.INTAKE_DSI_ERR_COUNT = s.reg Reg.INTAKE_DSI_ERR_COUNT + 1#32 ∧
    (s.dsiFault b).intake.reportBits.testBit b = true ∧ storesSame s (s.dsiFault b) ∧
    (∀ i, i < 32 → i ≠ b → (s.dsiFault b).flag Reg.INTAKE_DSI_ERR i = s.flag Reg.INTAKE_DSI_ERR i)) ∧
  (∀ (s u : State), channelOpen s 0#1 = true → u = received s →
    exec .syncEnd s = .next { u with intake := { u.intake with syncEnds := s.intake.syncEnds + 1 } } ∧
    (∀ vc : BitVec 2, exec (.dsiPacketError vc .header) s = .next (u.packetDropped 0 9)) ∧
    (∀ (vc : BitVec 2) (f : DsiFault), 2 ≤ vc.toNat → f ≠ .header →
      exec (.dsiPacketError vc f) s = .next ((if f = .corrected then u.dsiFault 8 else u).dsiFault 12))) ∧
  (∀ (s : State) (vc b : Nat), (vc ≠ 0 ∨ s.intake.video = none → s.packetDropped vc b = s.dsiFault b) ∧
    (∀ f : VideoFrame, vc = 0 → s.intake.video = some f → s.packetDropped vc b = (s.dsiFault b).videoDrop f.surf 2)) ∧
  (∀ (s u : State) (vc : BitVec 1) (n : Nat), channelOpen s vc = true → u = received s → n = vc.toNat →
    (∀ lo hi, exec (.genericRead vc [lo, hi]) s =
      .next { u with intake := { u.intake with readReq := some (.register (lo.toNat + 256 * hi.toNat)) } }) ∧
    (∀ bs : List Byte, bs.length ≠ 2 →
      exec (.genericRead vc bs) s = .next { u with intake := { u.intake with readReq := some .bad } }) ∧
    (∀ size, exec (.setMaximumReturnPacketSize vc size) s =
      .next { u with intake := { u.intake with maxReturn := size.toNat } }) ∧
    (∀ x : BitVec 2, x.toNat = n → exec (.dsiPacketError x .corrected) s = .next (u.dsiFault 8) ∧
      exec (.dsiPacketError x .channel) s = .next u ∧
      exec (.dsiPacketError x .checksum) s = .next (u.packetDropped n 10) ∧
      (∀ code, exec (.dsiPacketError x (.dataType code)) s =
        .next (if code.toNat ∈ dataTypes then u else u.packetDropped n 11)) ∧
      exec (.dsiPacketError x .overrun) s = .next (u.packetDropped n Config.overrunBit.toNat)) ∧
    (∀ bs : List Byte, (bs.getD 0 0#8, bs.length) ∉ [(0xA1#8, 12), (0xA2#8, 3), (0xA3#8, 9)] ∨
        (bs.getD 0 0#8 = 0xA1#8 ∧ bs.getD 1 0#8 &&& 0xFC#8 ≠ 0#8) →
      exec (.genericLongWrite vc bs) s = .next (u.dsiFault 13)) ∧
    (∀ lo hi : Byte, exec (.genericLongWrite vc [0xA2#8, lo, hi]) s = exec (.dsiFence vc (hi ++ lo)) s) ∧
    (∀ a b c d e f g h : Byte, exec (.genericLongWrite vc [0xA3#8, a, b, c, d, e, f, g, h]) s =
      exec (.setRegionHint vc (b ++ a) (d ++ c) (f ++ e) (h ++ g)) s) ∧
    (∀ (full auto : Bool) (a b c d e f g h tl th : Byte),
      exec (.genericLongWrite vc [0xA1#8, (if full then 1#8 else 0#8) + (if auto then 2#8 else 0#8), a, b, c, d, e, f, g, h,
        tl, th]) s = exec (.dsiPresent vc full auto (b ++ a) (d ++ c) (f ++ e) (h ++ g) (th ++ tl)) s) ∧
    (∀ code : BitVec 8, exec (.dcsUnknownCommand ⟨vc, code⟩) s =
      .next (if code.toNat ∈ dcsCodes then u else u.dsiFault 11)) ∧
    exec (.getPowerMode vc) s = .next { u with intake := { u.intake with readReq := some .powerMode } } ∧
    exec (.getPixelFormat vc) s = .next { u with intake := { u.intake with readReq := some (.pixelFormat n) } } ∧
    exec (.getScanline vc) s = .next { u with intake := { u.intake with readReq := some .scanline } } ∧
    exec (.enterSleepMode vc) s = .next (u.dcsFlag 4 0x10 n false) ∧
    exec (.exitSleepMode vc) s = .next (u.dcsFlag 4 0x11 n true) ∧
    exec (.setDisplayOff vc) s = .next (u.dcsFlag 3 0x28 n false) ∧
    exec (.setDisplayOn vc) s = .next (u.dcsFlag 3 0x29 n true) ∧
    (∃ t, exec (.setTearOff vc) s = .next t ∧ t.flag Reg.INTAKE_STATUS 2 = false ∧ t.pins.dsiTe = false ∧
      (∀ a, a ≠ Reg.INTAKE_STATUS → t.reg a = s.reg a)) ∧
    exec (.setTearOn vc) s = .next (u.setFlag Reg.INTAKE_STATUS 2 true) ∧
    (∀ code, exec (.setPixelFormat vc code) s = .next { u with intake := { u.intake with pixelFormat := code.toNat } }) ∧
    (∀ tag : BitVec 16, exec (.dsiFence vc tag) s =
      .next { u with intake := { u.intake with fences := s.intake.fences ++ [(tag.toNat, n)] } })) ∧
  (∀ (s : State) (b code vc : Nat) (x : Bool), b < 32 → s.dcsFlag b code vc x =
    if s.flag Reg.INTAKE_STATUS b = x then s else (s.setFlag Reg.INTAKE_STATUS b x).raise 77 (word (code + 256 * vc))) ∧
  (∀ (vc : BitVec 1) (s : State), channelOpen s vc = true →
    ∃ t, exec (.softReset vc) s = .next t ∧ t.flag Reg.INTAKE_STATUS 2 = true ∧ t.flag Reg.INTAKE_STATUS 3 = false ∧
      t.flag Reg.INTAKE_STATUS 4 = false ∧ t.intake.maxReturn = 1 ∧ t.chan vc.toNat = {} ∧
      (t.surf (s.chanSurf vc.toNat)).openBy ≠ some vc.toNat ∧ storesSame s t)

/-- Pixels reach their buffer: in video mode a frame starts at V Sync Start on the bound surface, its lines follow in order and
its last pixel presents it; in command mode the addresses set the window, memory writes fill it from its start, and PRESENT ends
the update. A pixel is stored at its place in the open buffer, and none outside the surface. -/
def Obligations.PixelsReachTheirBuffer : Prop :=
  (∀ (s u : State) (n : Nat), channelOpen s 0#1 = true → u = received s → n = s.chanSurf 0 → s.video = true →
    s.intake.video = none →
    (s.surfEn n = true → s.flag (surfWord n 4) 30 = true → s.surfFmt n < 3 →
      (∀ b, (s.surf n).openBuf = some b →
        exec .vSyncStart s = .next { u with intake := { u.intake with video := some { surf := n, buf := b } } }) ∧
      (∀ b, (s.surf n).openBuf = none → s.openable n = some b → ∀ u2 : State, u2 = u.openUpdate n b (some 0) →
        exec .vSyncStart s = .next { u2 with intake := { u2.intake with video := some { surf := n, buf := b } } }) ∧
      ((s.surf n).openBuf = none → s.openable n = none → exec .vSyncStart s = .next (u.videoDrop n 5))) ∧
    (s.surfEn n = false ∨ s.flag (surfWord n 4) 30 = false ∨ 3 ≤ s.surfFmt n →
      exec .vSyncStart s = .next (u.videoDrop n 4))) ∧
  (∀ s u : State, channelOpen s 0#1 = true → u = received s →
    (s.video = false → exec .vSyncStart s = .next u) ∧
    (∀ f : VideoFrame, s.video = true → s.intake.video = some f →
      exec .vSyncStart s = .next (u.videoDrop f.surf 3).videoStart) ∧
    (s.intake.video = none → exec .hSyncStart s = .next u ∧
      ∀ (fmt : PixelStream) (pixels : List Rgb), exec (.packedPixelStream fmt pixels) s = .next u)) ∧
  (∀ (s u : State) (f : VideoFrame), channelOpen s 0#1 = true → u = received s → s.intake.video = some f →
    (f.full = true → exec .hSyncStart s =
      .next { u with intake := { u.intake with video := some { f with full := false, px := 0 } } }) ∧
    (f.full = false → 0 < f.px → exec .hSyncStart s = .next (u.videoDrop f.surf 1)) ∧
    (f.full = false → f.px = 0 → exec .hSyncStart s = .next u) ∧
    (∀ (fmt : PixelStream) (pixels : List Rgb) (u2 : State) (n : Nat), n = f.surf → (s.surf n).openBuf = some f.buf →
      streamFormat fmt = s.surfFmt n → f.full = false → f.px + pixels.length ≤ s.surfW n →
      u2 = pixels.zipIdx.foldl (fun x e => x.putPixel n f.buf (f.px + e.2) f.line
        (storedPixel (streamFormat fmt) (s.flag (surfWord n 4) 28) e.1)) u →
      (f.px + pixels.length < s.surfW n → exec (.packedPixelStream fmt pixels) s =
        .next { u2 with intake := { u2.intake with video := some { f with px := f.px + pixels.length } } }) ∧
      (f.px + pixels.length = s.surfW n → f.line + 1 < s.surfH n → exec (.packedPixelStream fmt pixels) s =
        .next { u2 with intake := { u2.intake with video := some { f with line := f.line + 1, px := 0, full := true } } }) ∧
      (f.px + pixels.length = s.surfW n → s.surfH n ≤ f.line + 1 → exec (.packedPixelStream fmt pixels) s =
        .next (State.presentOn { u2 with intake := { u2.intake with video := none } } n true (wholeRect 1 1)
          { buf := 0, rect := none, source := .video })))) ∧
  (∀ (s : State) (n b x y a : Nat) (bs : List Byte), a = s.bufBase n b + y * s.stride0 n + x * pixelBytes (s.surfFmt n) →
    (s.surfW n ≤ x ∨ s.surfH n ≤ y → s.putPixel n b x y bs = s) ∧
    (x < s.surfW n → y < s.surfH n → s.putPixel n b x y bs = (s.touchHall a bs.length).putHallBytes a bs)) ∧
  (∀ (s u : State) (vc : BitVec 1) (n : Nat), channelOpen s vc = true → u = received s → n = s.chanSurf vc.toNat →
    (∀ (h l h' l' : Byte) (sc ec : Nat), sc = 256 * h.toNat + l.toNat → ec = 256 * h'.toNat + l'.toNat →
      exec (.setColumnAddress vc ⟨h, l⟩ ⟨h', l'⟩) s = .next (
        if ec < sc ∨ s.surfW n ≤ ec then u.dsiFault 13
        else u.setChan vc.toNat { s.chan vc.toNat with cols := some (sc, ec) })) ∧
    (∀ (h l h' l' : Byte) (sp ep : Nat), sp = 256 * h.toNat + l.toNat → ep = 256 * h'.toNat + l'.toNat →
      exec (.setPageAddress vc ⟨h, l⟩ ⟨h', l'⟩) s = .next (
        if ep < sp ∨ s.surfH n ≤ ep then u.dsiFault 13
        else u.setChan vc.toNat { s.chan vc.toNat with rows := some (sp, ep) })) ∧
    (∀ x0 y0 x1 y1 : BitVec 16, exec (.setRegionHint vc x0 y0 x1 y1) s = .next (
      if x1 < x0 ∨ s.surfW n ≤ x1.toNat ∨ y1 < y0 ∨ s.surfH n ≤ y1.toNat then u.dsiFault 13
      else u.setChan vc.toNat { s.chan vc.toNat with
        cols := some (x0.toNat, x1.toNat), rows := some (y0.toNat, y1.toNat) })) ∧
    (∀ (data : List Byte) (b k : Nat) (w : Rect) (u0 u1 u2 u3 : State), ¬(vc = 0#1 ∧ s.video = true) →
      (s.chan vc.toNat).dropping = false → s.surfEn n = true → s.surfFmt n < 3 →
      ((s.surf n).openBuf = some b ∧ u0 = u ∨ (s.surf n).openBuf = none ∧ s.openable n = some b ∧
        u0 = u.openUpdate n b (some vc.toNat)) →
      w = s.window vc.toNat → k = pixelBytes (s.surfFmt n) →
      u1 = u0.setChan vc.toNat { s.chan vc.toNat with x := w.x0, y := w.y0 } →
      u2 = (u1.setSurf n { u0.surf n with written := hullOf (u0.surf n).written (some w) }).writePixels vc.toNat n b w
        (pieces k data.length data) →
      u3 = (u0.setSurf n { u0.surf n with written := hullOf (u0.surf n).written (some w) }).writePixels vc.toNat n b w
        (pieces k data.length data) →
      exec (.writeMemoryStart vc data) s = .next (if data.length % k = 0 then u2 else u2.dsiFault 13) ∧
      exec (.writeMemoryContinue vc data) s = .next (if data.length % k = 0 then u3 else u3.dsiFault 13)) ∧
    (∀ (c : Instr) (data : List Byte) (u1 : State), c ∈ [.writeMemoryStart vc data, .writeMemoryContinue vc data] →
      u1 = u.setChan vc.toNat { s.chan vc.toNat with dropping := true } →
      ((vc = 0#1 ∧ s.video = true) ∨ (s.chan vc.toNat).dropping = true → exec c s = .next u) ∧
      (¬(vc = 0#1 ∧ s.video = true) → (s.chan vc.toNat).dropping = false →
        (s.surfEn n = false ∨ 3 ≤ s.surfFmt n → exec c s = .next (u1.inputDrop n 4)) ∧
        (s.surfEn n = true → s.surfFmt n < 3 → (s.surf n).openBuf = none → s.openable n = none →
          exec c s = .next (u1.inputDrop n 5)))) ∧
    (∀ (full auto : Bool) (x0 y0 x1 y1 tag : BitVec 16) (u1 : State),
      u1 = u.setChan vc.toNat { s.chan vc.toNat with dropping := false } →
      (s.surfEn n = true → (s.surf n).openBuf.isSome = true → (full = true ∨ auto = true ∨ (x0 ≤ x1 ∧ y0 ≤ y1)) →
        exec (.dsiPresent vc full auto x0 y0 x1 y1 tag) s = .next (u1.presentOn n full
          (if auto then (s.surf n).written.getD { x0 := x0.toNat, y0 := y0.toNat, x1 := x1.toNat, y1 := y1.toNat }
            else { x0 := x0.toNat, y0 := y0.toNat, x1 := x1.toNat, y1 := y1.toNat })
          { buf := 0, rect := none, source := .dsi, tag := tag.toNat })) ∧
      (s.surfEn n = false ∨ (s.surf n).openBuf = none ∨ (full = false ∧ auto = false ∧ (x1 < x0 ∨ y1 < y0)) →
        exec (.dsiPresent vc full auto x0 y0 x1 y1 tag) s = .next (u1.dsiFault 13))))

/-- What the link answers and shows: a bus turnaround sends the read asked for or the report, ULPS is entered and left with its
event, fences complete in order, DSI_TE rises and falls. -/
def Obligations.TheDsiLinkAnswers : Prop :=
  (∀ (line : Nat) (s : State), s.dsiOn = false → exec (.busTurnaround line) s = .next s) ∧
  (∀ (line : Nat) (s : State), s.dsiOn = true →
    (s.intake.readReq = none → exec (.busTurnaround line) s = .next s.sendReport) ∧
    (s.intake.readReq = some .powerMode → exec (.busTurnaround line) s = .next (s.sendData false [s.powerMode])) ∧
    (∀ vc, s.intake.readReq = some (.pixelFormat vc) →
      exec (.busTurnaround line) s = .next (s.sendData false [s.formatByte vc])) ∧
    (∀ off, s.intake.readReq = some (.register off) → off % 4 = 0 → off < 0xF000 → (regSpec off).isSome = true →
      exec (.busTurnaround line) s = .next (s.sendData true (wordBytes (s.view off)))) ∧
    (∀ off, s.intake.readReq = some (.register off) → off % 4 ≠ 0 ∨ 0xF000 ≤ off ∨ (regSpec off).isSome = false →
      exec (.busTurnaround line) s = .next (s.dsiFault 13).sendReport) ∧
    (s.intake.readReq = some .bad → exec (.busTurnaround line) s = .next (s.dsiFault 13).sendReport) ∧
    (∀ n, s.intake.readReq = some .scanline → n = (if s.scan.running && s.scan.frameOn then min 0xFFFF (min line s.vActive) else 0) →
      exec (.busTurnaround line) s = .next (s.sendData false [BitVec.ofNat 8 (n / 256), BitVec.ofNat 8 n]))) ∧
  (∀ s : State, s.sendReport = { s with intake := { s.intake with
    reply := if s.intake.reportBits = 0 then .acknowledge else .report s.intake.reportBits, reportBits := 0, readReq := none } }) ∧
  (∀ (s : State) (g : Bool) (bs : List Byte), s.sendData g bs = { s with intake := { s.intake with
    reply := .data g (bs.take s.intake.maxReturn), readReq := none } }) ∧
  (∀ s : State, s.lanesSeen = true → s.flag Reg.INTAKE_STATUS 1 = false →
    exec .ulpsEntry s = .next (((s.setFlag Reg.INTAKE_STATUS 0 false).setFlag Reg.INTAKE_STATUS 1 true).raise 78 1#32)) ∧
  (∀ s : State, s.lanesSeen = true → s.flag Reg.INTAKE_STATUS 1 = true →
    exec .ulpsExit s = .next ((s.setFlag Reg.INTAKE_STATUS 1 false).raise 78 0#32)) ∧
  (∀ s : State, s.lanesSeen = false → exec .ulpsEntry s = .next s ∧ exec .ulpsExit s = .next s) ∧
  (∀ s : State, (s.flag Reg.INTAKE_STATUS 1 = true → exec .ulpsEntry s = .next s) ∧
    (s.flag Reg.INTAKE_STATUS 1 = false → exec .ulpsExit s = .next s)) ∧
  (∀ (s s1 : State) (tag vc : Nat) (rest : List (Nat × Nat)), s.intake.fences = (tag, vc) :: rest →
    s1 = { s with intake := { s.intake with fences := rest } } →
    exec .dsiFenceComplete s = .next ((s1.setReg Reg.INTAKE_FENCE_TAG (word (tag + 0x10000 * vc +
      2 ^ 24 * ((s.fld Reg.INTAKE_FENCE_TAG 31 24 + 1) % 256)))).raise 76 (word (tag + 0x10000 * vc)))) ∧
  (∀ s : State, s.intake.fences = [] → exec .dsiFenceComplete s = .next s) ∧
  (∀ s : State, s.teReady = true → s.pins.dsiTe = false → ∃ t, exec .teRise s = .next t ∧ t.pins.dsiTe = true ∧
    t.intake.teFrom = s.edge ∧ t.intake.teWidth = max 1 (s.fld Reg.INTAKE_TE_CFG 15 8) ∧
    t.intake.teArmed = none ∧ t.regs = s.regs) ∧
  (∀ s : State, s.teReady = true → s.pins.dsiTe = true →
    exec .teRise s = .next { s with intake := { s.intake with teArmed := none } }) ∧
  (∀ s : State, s.teReady = false → exec .teRise s = .next s) ∧
  (∀ s : State, s.pins.dsiTe = true → s.usPassed s.intake.teFrom s.intake.teWidth = true →
    exec .teFall s = .next { s with pins := { s.pins with dsiTe := false } }) ∧
  (∀ s : State, s.pins.dsiTe = false ∨ s.usPassed s.intake.teFrom s.intake.teWidth = false → exec .teFall s = .next s)

/-- Surfaces: an enable is checked, a disable ends the queued present with HALTED and closes the update, an open takes a free
buffer or waits for one, a present queues the buffer for the next FRAME boundary, and a finished copy frees its buffer. -/
def Obligations.SurfacesAreOpenedAndPresented : Prop :=
  (∀ (s : State) (n : Nat), n < 8 → (s.surfCheck n = true →
      ∃ t : State, t = ((s.setFlag (surfWord n 6) 8 false).setFlag (surfWord n 4) 31 true).setSurf n {} ∧
        s.enableSurf n = t.serveOpens n ∧ t.surfEn n = true ∧ t.flag (surfWord n 6) 8 = false ∧ t.surf n = {}) ∧
    (s.surfCheck n = false → s.enableSurf n = s.setFlag (surfWord n 6) 8 true) ∧
    ((s.disableSurf n).surfEn n = false ∧ ((s.disableSurf n).surf n).queued = none ∧
      ((s.disableSurf n).surf n).openBuf = none ∧ storesSame s (s.disableSurf n))) ∧
  (∀ (p : Port) (s s1 : State) (w : BufWord) (n : Nat), fronted s p w s1 = true → n < 8 →
    w.off = surfWord n 4 →
    (bit w.val 31 = true → s.surfEn n = true → exec (.surfaceEnable p) s = .next s1) ∧
    (bit w.val 31 = true → s.surfEn n = false →
      exec (.surfaceEnable p) s = .next ((s1.hostSet (surfWord n 4) (withBit w.val 31 false)).enableSurf n)) ∧
    (bit w.val 31 = false → exec (.surfaceDisable p) s =
      .next (if s.surfEn n then s1.disableSurf n else s1.hostSet (surfWord n 4) w.val))) ∧
  (∀ (ring : BitVec 8) (s s1 s2 : State) (v : Verb) (n : Nat), admitted s ring 0x70 surfaceRight v = true →
    v.argsWithin [0x7#32, 0x7FFFFF#32, 0x7FFFFF#32, 0x7FFFFF#32, 0x7FFFFF#32, 0xFFFFFFFF#32, 0xFFFF03FF#32] = true →
    n = field (v.arg 0) 2 0 →
    s1 = ((((s.hostSet (surfWord n 0) (v.arg 1)).hostSet (surfWord n 1) (v.arg 2)).hostSet (surfWord n 2)
      (v.arg 3)).hostSet (surfWord n 3) (v.arg 4)).hostSet (surfWord n 5) (v.arg 6) →
    s2 = s1.writeSurfOn n (withBit (v.arg 5) 31 true) →
    (s.surfEn n = false → exec (.surfaceSet ring) s = .next (s2.complete v (if s2.surfEn n then .ok else .badArg))) ∧
    (s.surfEn n = true → exec (.surfaceSet ring) s = .next ((s.setFlag (surfWord n 6) 8 true).complete v .badArg))) ∧
  (∀ (ring : BitVec 8) (s : State) (v : Verb) (n : Nat), admitted s ring 0x71 surfaceRight v = true →
    v.argsWithin [0x7#32] = true → n = field (v.arg 0) 2 0 →
    exec (.surfaceStop ring) s = .next ((s.disableSurf n).complete v .ok)) ∧
  (∀ (ring : BitVec 8) (s : State) (v : Verb) (n : Nat), admitted s ring 0x73 surfaceRight v = true →
    v.argsWithin [0x7#32] = true → n = field (v.arg 0) 2 0 →
    (s.surfEn n = false → exec (.surfaceOpen ring) s = .next (s.complete v .badArg)) ∧
    (∀ b, s.surfEn n = true → (s.surf n).openBuf = some b →
      exec (.surfaceOpen ring) s = .next (s.complete v .ok [word b, word (s.bufBase n b)])) ∧
    (∀ b, s.surfEn n = true → (s.surf n).openBuf = none → s.openable n = some b →
      exec (.surfaceOpen ring) s = .next ((s.openUpdate n b none).complete v .ok [word b, word (s.bufBase n b)])) ∧
    (s.surfEn n = true → (s.surf n).openBuf = none → s.openable n = none →
      exec (.surfaceOpen ring) s = .next (s.defer v (.surface n) 0))) ∧
  (∀ (ring : BitVec 8) (s : State) (v : Verb) (n : Nat) (r : Rect), admitted s ring 0x72 surfaceRight v = true →
    v.argsWithin [0x107#32, 0x0FFF0FFF#32, 0x0FFF0FFF#32] = true → n = field (v.arg 0) 2 0 →
    r = rectOf (v.arg 1) (v.arg 2) → r.x0 ≤ r.x1 → r.y0 ≤ r.y1 →
    (s.surfEn n = true → (s.surf n).openBuf.isSome = true → exec (.present ring) s =
      .next ((s.defer v (.present n) 2097152).presentOn n (bit (v.arg 0) 8) r
        { buf := 0, rect := none, source := .verb, ring := some v.ring })) ∧
    (s.surfEn n = false ∨ (s.surf n).openBuf = none → exec (.present ring) s = .next (s.complete v .badArg))) ∧
  (∀ (ring : BitVec 8) (s : State) (v : Verb) (n : Nat), admitted s ring 0x75 (pageRight 8) v = true →
    v.argsWithin [0x7#32] = true → n = field (v.arg 0) 2 0 →
    exec (.surfaceRead ring) s = .next (s.complete v .ok [s.reg (surfWord n 6), s.reg (surfWord n 7),
      s.reg (Reg.INTAKE_SURF_FRAME + 4 * n), s.reg (surfWord n 4)])) ∧
  (∀ (ring : BitVec 8) (s s1 : State) (v : Verb), admitted s ring 0x74 (pageRight 8) v = true →
    v.argsWithin [0x77F#32, 0xFFFFFF03#32] = true → s1 = s.hostSet Reg.INTAKE_DSI_CFG (v.arg 0) →
    exec (.intakeDsi ring) s =
      .next (State.verbCommit { s1 with intake := { s.intake with teStaged := some (v.arg 1) } } v 8)) ∧
  (∀ (p : Port) (s s1 s2 : State) (w : BufWord) (n : Nat), fronted s p w s1 = true →
    bit w.val 31 = true → n = field w.val 2 0 →
    (w.off = Reg.INTAKE_OPEN → s2 = s1.setFlag Reg.INTAKE_OPEN_RESULT 31 false →
      (s.intake.openReg.isSome = true → exec (.openGo p) s = .next s1) ∧
      (s.intake.openReg = none → s.surfEn n = false →
        exec (.openGo p) s = .next (s2.intakeResult Reg.INTAKE_OPEN_RESULT .badArg n 0)) ∧
      (s.intake.openReg = none → s.surfEn n = true → exec (.openGo p) s =
        .next (State.serveOpens { s2 with intake := { s.intake with openReg := some n } } n))) ∧
    (w.off = Reg.INTAKE_PRESENT → s2 = s1.setFlag Reg.INTAKE_PRESENT_RESULT 31 false → ∀ r : Rect,
      r = rectOf (s.reg Reg.INTAKE_PRES_RECT0) (s.reg Reg.INTAKE_PRES_RECT1) →
      (s.presentBusy = true → exec (.presentGo p) s = .next s1) ∧
      (s.presentBusy = false → s.surfEn n = true → (s.surf n).openBuf.isSome = true → r.x0 ≤ r.x1 → r.y0 ≤ r.y1 →
        exec (.presentGo p) s = .next (s2.presentOn n (bit w.val 8) r { buf := 0, rect := none, source := .register })))) ∧
  (∀ (s s1 s2 s3 : State) (c : CopyJob) (rest : List CopyJob), s.intake.copies = c :: rest → s1 = s.copyRegion c →
    s2 = { s1 with intake := { s1.intake with copies := rest } } →
    s3 = (s2.setSurf c.surf { s2.surf c.surf with behind := Cells.erase (s2.surf c.surf).behind c.dst }).raise 74
      (word (c.surf + 16 * c.dst)) →
    ((s3.surf c.surf).answer = none → exec .copyForwardDone s = .next (s3.serveOpens c.surf)) ∧
    (∀ q, (s3.surf c.surf).answer = some q → exec .copyForwardDone s = .next (((s3.setSurf c.surf
      { s3.surf c.surf with answer := none }).answerPresent c.surf q .ok).serveOpens c.surf))) ∧
  (∀ s : State, s.intake.copies = [] → exec .copyForwardDone s = .next s)

/-- Frames: one starts between frames while scan-out runs, and counts in FRAME; its statistics are published once, with SEQ one
higher and EV_SCAN_STATS; a resume from self-refresh starts the next frame once the link stands; nothing happens otherwise. -/
def Obligations.FramesStartAndAreCounted : Prop :=
  (∀ (late : Option Nat) (under : List (Nat × Nat)) (s : State), s.coreOn = true → s.scan.running = true →
    s.scan.frameOn = false → s.ladderWaits = false → s.sinceReal s.scan.startUs = true →
    ∃ t, exec (.frameStart late under) s = .next t ∧ t.reg Reg.SCAN_FRAME = s.reg Reg.SCAN_FRAME + 1#32 ∧
      t.scan.frameOn = true ∧ t.scan.fullPush = false ∧ t.scan.dirty = none ∧ t.flash = s.flash ∧ t.fuses = s.fuses ∧
      t.force = s.force) ∧
  (∀ (late : Option Nat) (under : List (Nat × Nat)) (s : State), s.coreOn = false ∨ s.scan.running = false ∨
    s.scan.frameOn = true ∨ s.ladderWaits = true ∨ s.sinceReal s.scan.startUs = false →
    exec (.frameStart late under) s = .next s) ∧
  (∀ (s : State) (st : StatSet), s.sinceReal s.scan.statsUs = true → s.scan.ready = some st → st.sigs.length = 5 →
    st.hist.length = 32 →
    ∃ t, exec .statsPublish s = .next t ∧ t.reg Reg.SCAN_ST_FRAME = word st.frame ∧
      t.reg Reg.SCAN_ST_LUMA = word (st.apl + 0x10000 * st.max) ∧ t.reg Reg.SCAN_ST_COUNT = word st.count ∧
      t.reg Reg.SCAN_ST_INFO = word (2 ^ 31 + 0x10000 * ((s.fld Reg.SCAN_ST_INFO 23 16 + 1) % 256) + st.gen) ∧
      t.scan.ready = none ∧ storesSame s t) ∧
  (∀ s : State, s.scan.ready = none ∨ s.sinceReal s.scan.statsUs = false → exec .statsPublish s = .next s) ∧
  (∀ (late : Option Nat) (under : List (Nat × Nat)) (s s1 s2 : State), s.resumable = true → s.scan.wake = true →
    s.scan.trans = .none → s.coreOn = true → s.cur ≤ 1 → s.face.pushing = none →
    s1 = s.startScan.leaveSr.faceMode → s2 = s1.realBoundary false →
    (s.panel ≠ 5 → s.link ≠ 4 → s.stave.step ≠ .none ∨ s.link = 1 → exec (.srResume late under) s = .next s) ∧
    (s.panel = 0 → s.link ≠ 4 → s.link ≠ 1 → s.stave.step = .none → exec (.srResume late under) s = .next s.powerOn) ∧
    (s.panel ≠ 0 → s.panel ≠ 5 → s.link = 0 → s.stave.step = .none →
      exec (.srResume late under) s = .next (s.startTraining 0)) ∧
    (s.panel = 5 ∨ s.link = 4 ∨ (s.panel ≠ 0 ∧ s.stave.step = .none ∧ 2 ≤ s.link) →
      exec (.srResume late under) s =
        .next (if s2.scan.running && !s2.ladderWaits then s2.frameStart late under else s2))) ∧
  (∀ (late : Option Nat) (under : List (Nat × Nat)) (s : State), s.resumable = false ∨ s.scan.wake = false ∨
    s.face.pushing.isSome = true ∨ 2 ≤ s.cur ∨ s.coreOn = false ∨ s.scan.trans ≠ .none →
    exec (.srResume late under) s = .next s)

/-- Commits of SCAN and PIPE at their boundary: a set that fails a check is kept out of force, with its code shown and told; a
seamless SCAN set is in force at once and completes with the next frame's number; any other begins the guided transition, whose
set is in force 1 µs later and which ends one frame period after that; a PIPE set that passes is a new generation. -/
def Obligations.ScanSetsAreCheckedAndGuided : Prop :=
  (∀ s : State, s.scanCode s.reg ≠ 0 → s.commitScan =
    (((s.setFlag Reg.SCAN_STATUS 18 true).setFld Reg.SCAN_STATUS 3 0 (s.scanCode s.reg)).endCommit 9 .badArg).raise 85
      (word (s.scanCode s.reg))) ∧
  (∀ s : State, s.scanCode s.reg = 0 → s.scan.trans = .none → seamless s.reg s.inForce = true →
    s.commitScan = (s.applyShadow 9).endCommit 9 .ok [s.reg Reg.SCAN_FRAME + 1#32]) ∧
  (∀ s : State, s.scanCode s.reg = 0 → s.scan.trans = .none → seamless s.reg s.inForce = false →
    s.commitScan.scan.trans = .g1 ∧ s.commitScan.scan.running = false ∧ s.commitScan.scan.transPages = [9] ∧
    s.commitScan.flag Reg.SCAN_STATE 10 = true ∧ s.commitScan.flag Reg.SCAN_STATE 11 = true ∧ s.commitScan.force = s.force) ∧
  (∀ s : State, field (s.reg Reg.SCAN_CLASS) 1 0 = 0 → s.scanCode s.reg = 0) ∧
  (∀ s : State, field (s.reg Reg.SCAN_CLASS) 1 0 = 3 → s.scanCode s.reg = 1) ∧
  (∀ s : State, s.scan.trans = .g1 → s.poweringOff = false → s.usPassed s.scan.transAt 1 = true →
    ∃ s1 : State, s1 = (s.scan.transPages.foldl State.applyShadow s).setDelays ∧
      exec .transitionSetInForce s = .next (State.panelG2 { s1 with
        pipe := { s1.pipe with odValid := false }
        scan := { s1.scan with resized := s.scan.resized || s1.hActive != s.hActive || s1.vActive != s.vActive } })) ∧
  (∀ s : State, s.scan.trans ≠ .g1 ∨ s.poweringOff = true ∨ s.usPassed s.scan.transAt 1 = false →
    exec .transitionSetInForce s = .next s) ∧
  (∀ (late : Option Nat) (under : List (Nat × Nat)) (s : State), s.scan.trans = .g4 → s.coreOn = true → s.g4Over = true →
    s.commits = [] → ∃ t, exec (.transitionComplete late under) s = .next t ∧ t.scan.trans = .none ∧ t.stave.gao = false ∧
      t.fuses = s.fuses) ∧
  (∀ (late : Option Nat) (under : List (Nat × Nat)) (s : State), s.scan.trans ≠ .g4 ∨ s.coreOn = false ∨ s.g4Over = false →
    exec (.transitionComplete late under) s = .next s) ∧
  (∀ (s : State) (code : Nat), code = s.pipeCode s.reg (field (s.scanSet Reg.SCAN_ACTIVE) 11 0)
      (field (s.scanSet Reg.SCAN_ACTIVE) 27 16) → code ≠ 0 → s.commitPipe =
    ((((s.setFlag Reg.PIPE_STATUS 10 true).setFld Reg.PIPE_STATUS 3 0 code).endCommit 10 .badArg).raise 91 (word code)).serveLoads) ∧
  (∀ s : State, s.pipe.applied = false → s.stepGen.fld Reg.PIPE_GEN 15 0 = (s.fld Reg.PIPE_GEN 15 0 + 1) % 65536 ∧
    s.stepGen.reg Reg.PIPE_GEN_FRAME = s.reg Reg.SCAN_FRAME + 1#32 ∧ s.stepGen.pipe.applied = true) ∧
  (∀ s : State, s.pipe.applied = true → s.stepGen = s.setReg Reg.PIPE_GAIN_EFF (word s.gainNow))

/-- The SCAN verbs and writes complete. The PIPE verbs and writes complete, and a commit's GO of any page waits for the page's
boundary. -/
def Obligations.ScanAndPipeVerbsComplete : Prop :=
  (∀ (ring : BitVec 8) (s : State) (v : Verb), admitted s ring 0x76 (pageRight 9) v = true → v.argsWithin [0xFF#32] = true →
    exec (.scanLoad ring) s = .next (match s.stagePanel 9 (field (v.arg 0) 7 0) with
      | (none, s1) => s1.complete v .badArg
      | (some n, s1) => (s1.verbCommit v 9 (some n)).wakeSr)) ∧
  (∀ (ring : BitVec 8) (s : State) (v : Verb), admitted s ring 0x77 (pageRight 9) v = true →
    v.argsWithin [0xFFFFFF#32, 0xFFFFFFFF#32] = true → scanOffset (v.arg 0).toNat = true →
    aliasOk (v.arg 0).toNat (v.arg 1) = true →
    exec (.scanSet ring) s = .next (if s.pendingOn 9 then s.defer v (.staging 9)
      else (s.hostSet (v.arg 0).toNat (v.arg 1)).complete v .ok)) ∧
  (∀ (ring : BitVec 8) (s : State) (v : Verb), admitted s ring 0x78 (pageRight 9) v = true → v.argsWithin [] = true →
    exec (.scanCommit ring) s = .next (s.verbCommit v 9).wakeSr) ∧
  (∀ (ring : BitVec 8) (s s1 : State) (v : Verb), admitted s ring 0x79 (pageRight 9) v = true → v.argsWithin [0x3#32] = true →
    s1 = (if bit (v.arg 0) 0 then s.wakeSr else s) →
    (bit (v.arg 0) 1 = false → exec (.scanRefresh ring) s = .next (s1.complete v .ok)) ∧
    (bit (v.arg 0) 1 = true → s1.srAllowed = true → s1.scan.running = true →
      exec (.scanRefresh ring) s = .next (s1.enterSr.complete v .ok)) ∧
    (bit (v.arg 0) 1 = true → s1.srAllowed = false → exec (.scanRefresh ring) s = .next (s1.complete v .okDegraded))) ∧
  (∀ (ring : BitVec 8) (s : State) (v : Verb), admitted s ring 0x7A (pageRight 9) v = true → v.argsWithin [0x1F#32] = true →
    ∃ t : State, exec (.freezeClear ring) s = .next (t.complete v .ok [t.reg Reg.SCAN_FRZ_STATUS]) ∧
      t.fld Reg.SCAN_FRZ_STATUS 4 0 = field (s.reg Reg.SCAN_FRZ_STATUS &&& ~~~(v.arg 0)) 4 0 ∧
      (t.fld Reg.SCAN_FRZ_STATUS 4 0 = 0 → t.flag Reg.SCAN_FRZ_STATUS 8 = false) ∧
      (∀ a, a ≠ Reg.SCAN_FRZ_STATUS → t.reg a = s.reg a)) ∧
  (∀ (ring : BitVec 8) (s : State) (v : Verb), admitted s ring 0x7B (pageRight 9) v = true → v.argsWithin [0xF#32] = true →
    field (v.arg 0) 3 0 ≤ 8 →
    exec (.statsRead ring) s = .next (s.complete v .ok ((statsGroup (field (v.arg 0) 3 0)).map s.reg))) ∧
  (∀ (ring : BitVec 8) (s : State) (v : Verb), admitted s ring 0x7C (pageRight 9) v = true → v.argsWithin [] = true →
    exec (.scanRead ring) s = .next (s.complete v .ok [s.reg Reg.SCAN_FRAME, s.reg Reg.SCAN_STATE, s.reg Reg.SCAN_FRAME_CYC,
      s.reg Reg.SCAN_STATUS])) ∧
  (∀ (p : Port) (s s1 : State) (w : BufWord), fronted s p w s1 = true →
    (w.off = Reg.SCAN_COMMIT → bit w.val 0 = true → exec (.scanCommitGo p) s = .next (s1.goCommit 9).wakeSr) ∧
    (w.off = Reg.SCAN_REQ → bit w.val 0 = true → bit w.val 1 = false → exec (.scanReqWake p) s = .next s1.wakeSr) ∧
    (w.off = Reg.SCAN_REQ → bit w.val 0 = false → bit w.val 1 = true →
      exec (.scanReqSrEnter p) s = .next (if s1.scan.running && s1.srAllowed then s1.enterSr else s1))) ∧
  (∀ s : State, s.inSr = true → s.wakeSr.scan.wake = true) ∧
  (∀ s : State, s.inSr = false → s.wakeSr = s) ∧
  (∀ s : State, s.scan.running = true → s.enterSr.scan.running = false ∧ s.enterSr.inSr = true ∧
    s.enterSr.flag Reg.SCAN_STATE 11 = true ∧ storesSame s s.enterSr) ∧
  (∀ (ring : BitVec 8) (s : State) (v : Verb), admitted s ring 0x80 (pageRight 10) v = true → v.argsWithin [0xFF#32] = true →
    exec (.pipeLoad ring) s = .next (if s.pendingOn 10 then s.defer v (.staging 10)
      else match s.stagePanel 10 (field (v.arg 0) 7 0) with
        | (none, s1) => s1.complete v .badArg
        | (some n, s1) => s1.verbCommit v 10 (some n))) ∧
  (∀ (ring : BitVec 8) (s : State) (v : Verb), admitted s ring 0x81 (pageRight 10) v = true →
    v.argsWithin [0xFFFFFF#32, 0xFFFFFFFF#32] = true → 0xA000 ≤ (v.arg 0).toNat → (v.arg 0).toNat ≤ 0xA044 →
    aliasOk (v.arg 0).toNat (v.arg 1) = true →
    exec (.pipeSet ring) s = .next (if s.pendingOn 10 then s.defer v (.staging 10)
      else (s.hostSet (v.arg 0).toNat (v.arg 1)).complete v .ok)) ∧
  (∀ (ring : BitVec 8) (s : State) (v : Verb) (a n : Nat), admitted s ring 0x82 (pageRight 10) v = true →
    a = (v.arg 0).toNat → n = field (v.arg 1) 2 0 → within (v.arg 0) 0xFFFFFF#32 = true → within (v.arg 1) 7#32 = true →
    1 ≤ n → n ≤ 5 → 0x1A0000 ≤ a → a ≤ 0x1ADFFC →
    (∀ i, i < 5 → if i < n then aliasOk (a + 4 * i) (v.arg (2 + i)) = true else v.arg (2 + i) = 0#32) →
    exec (.pipeTable ring) s = .next (if s.pendingOn 10 then s.defer v (.staging 10)
      else ((List.range n).foldl (fun u i => u.hostSet (a + 4 * i) (v.arg (2 + i))) s).complete v .ok)) ∧
  (∀ (ring : BitVec 8) (s : State) (v : Verb), admitted s ring 0x83 (pageRight 10) v = true → v.argsWithin [0x1#32] = true →
    exec (.pipeCommit ring) s = .next (if bit (v.arg 0) 0 then (s.verbCommit v 10).wakeSr else s.verbCommit v 10)) ∧
  (∀ (ring : BitVec 8) (s s1 : State) (v : Verb), admitted s ring 0x84 (pageRight 10) v = true →
    v.argsWithin [0x11FFF#32] = true → s1 = (s.hostSet Reg.PIPE_BRIGHT (v.arg 0 &&& 0x1FFF#32)).verbCommit v 10 →
    exec (.brightSet ring) s = .next (if s.pendingOn 10 then s.defer v (.staging 10)
      else if bit (v.arg 0) 16 then s1.wakeSr else s1)) ∧
  (∀ s : State, s.waiters (.staging 10) = [] → s.serveLoads = s) ∧
  (∀ (s s1 : State) (r : Nat) (v : Verb), s.waiters (.staging 10) = [r] → s.verbOf r = some v → v.code = 0x84 →
    s1 = ((s.hostSet Reg.PIPE_BRIGHT (v.arg 0 &&& 0x1FFF#32)).addCommit 10 (some v.ring)).await v (.commit 10 none) 2097152 →
    s.serveLoads = (if bit (v.arg 0) 16 then s1.wakeSr else s1)) ∧
  (∀ (ring : BitVec 8) (s : State) (v : Verb), admitted s ring 0x85 (pageRight 10) v = true → v.argsWithin [] = true →
    exec (.pipeRead ring) s = .next (s.complete v .ok [s.reg Reg.PIPE_STATUS, s.reg Reg.PIPE_GEN, s.reg Reg.PIPE_GEN_FRAME,
      s.reg Reg.PIPE_GAIN_EFF])) ∧
  (∀ (p : Port) (s s1 : State) (w : BufWord), fronted s p w s1 = true →
    bit w.val 0 = true →
    (w.off = Reg.PIPE_COMMIT → exec (.pipeCommitGo p) s =
      .next (if bit w.val 1 then (s1.goCommit 10).wakeSr else s1.goCommit 10)) ∧
    (w.off = Reg.KEYS_COMMIT → exec (.keysCommitGo p) s = .next (s1.goCommit 4)) ∧
    (w.off = Reg.SENSE_COMMIT → exec (.senseCommitGo p) s = .next (s1.goCommit 5)) ∧
    (w.off = Reg.INTAKE_COMMIT → exec (.dsiCommitGo p) s = .next (s1.goCommit 8)) ∧
    (w.off = Reg.STAVE_COMMIT → exec (.staveCommitGo p) s = .next (s1.goCommit 11)) ∧
    (w.off = Reg.FACE_COMMIT → exec (.faceCommitGo p) s = .next (s1.goCommit 12))) ∧
  (∀ (s : State) (page : Nat), page ∈ [4, 5, 8, 9, 10, 11, 12] →
    (s.pendingOn page = true → s.goCommit page = s) ∧
    (s.pendingOn page = false → (s.goCommit page).pendingOn page = true ∧
      (s.goCommit page).commits = s.commits ++ [{ page := page, toBasic := false, ring := none }] ∧
      (s.goCommit page).force = s.force)) ∧
  (∀ (s : State) (v : Verb) (f : Fetched) (page : Nat) (x : Option Nat), page ∈ [4, 5, 8, 9, 10, 11, 12] →
    (s.ring v.ring).cur = some f → (s.verbCommit v page x).pendingOn page = true ∧
      waitsFor (s.verbCommit v page x) v (.commit page x) = true ∧
      (s.verbCommit v page x).commits = s.commits ++ [{ page := page, toBasic := false, ring := some v.ring }] ∧
      (s.verbCommit v page x).force = s.force)

/-- The Stave link trains, runs and recovers: training that succeeds puts it in RUN while scan-out runs and in IDLE otherwise, and
ends the power-on and the panel step of a transition; an attempt that times out is repeated RETRIES times, then the link FAILED
and the panel goes off with cause 7; a loss of lock trains again; a driver fault is latched and acts where it is told to. -/
def Obligations.TheStaveLinkTrainsAndRecovers : Prop :=
  (∀ (n : Nat) (s : State), s.coreOn = true → s.link = 1 → 16 ≤ n → s.ffld Reg.STAVE_TRAIN_CFG 7 0 ≤ n →
    ∃ t, exec (.trainingSuccess n) s = .next t ∧ t.link = (if s.scan.running then 2 else 3) ∧
      t.flag Reg.STAVE_STATUS 4 = true ∧ (s.stave.step = .training → t.panel = 2 ∧ t.stave.step = .none) ∧
      (s.stave.step ≠ .training → t.panel = s.panel ∧ t.stave.step = s.stave.step) ∧ t.pins = s.pins ∧ storesSame s t) ∧
  (∀ (n : Nat) (s : State), s.coreOn = false ∨ s.link ≠ 1 ∨ n < 16 ∨ n < s.ffld Reg.STAVE_TRAIN_CFG 7 0 →
    exec (.trainingSuccess n) s = .next s) ∧
  (∀ s : State, s.coreOn = true → s.link = 1 → s.stave.tries < s.ffld Reg.STAVE_TRAIN_CFG 27 24 →
    exec .trainingAttemptTimeout s = .next (s.setStave { s.stave with tries := s.stave.tries + 1, seq := [] })) ∧
  (∀ s : State, s.coreOn = true → s.link = 1 → s.ffld Reg.STAVE_TRAIN_CFG 27 24 ≤ s.stave.tries →
    ∃ t, exec .trainingAttemptTimeout s = .next t ∧ t.link = 4 ∧ t.panel = 4 ∧ t.fld Reg.STAVE_PWR_STATE 7 4 = 7 ∧
      t.stave.step = .discharge ∧ t.stave.offFault = true ∧ t.stave.gao = true ∧ t.pins = s.pins ∧ storesSame s t) ∧
  (∀ s : State, s.coreOn = false ∨ s.link ≠ 1 → exec .trainingAttemptTimeout s = .next s) ∧
  (∀ s : State, s.link = 2 ∨ s.link = 3 → s.cur ≤ 1 → s.coreOn = true →
    ∃ t, exec .lockLoss s = .next t ∧ t.link = 1 ∧ t.flag Reg.STAVE_STATUS 4 = false ∧ t.stave.tries = 0 ∧
      t.fld Reg.STAVE_LINK_STAT 31 16 = (s.fld Reg.STAVE_LINK_STAT 31 16 + 1) % 65536 ∧
      t.fld Reg.STAVE_LINK_STAT 15 0 = (s.fld Reg.STAVE_LINK_STAT 15 0 + 1) % 65536 ∧ t.panel = s.panel ∧ storesSame s t) ∧
  (∀ s : State, (s.link ≠ 2 ∧ s.link ≠ 3) ∨ 2 ≤ s.cur ∨ s.coreOn = false → exec .lockLoss s = .next s) ∧
  (∀ (k : BitVec 2) (l : Lane) (s : State), s.lanes.find? (fun l => l.lane == k.toNat) = some l → s.link = 2 ∨ s.link = 3 →
    exec (.staveIdlePacket k) s = .next (s.sendPacket none 5 l 0 0 0 [])) ∧
  (∀ (k : BitVec 2) (s : State), (∀ l ∈ s.lanes, l.lane ≠ k.toNat) ∨ (s.link ≠ 2 ∧ s.link ≠ 3) →
    exec (.staveIdlePacket k) s = .next s) ∧
  (∀ s : State, s.coreOn = false ∨ s.panel = 0 ∨ s.panel = 4 ∨ s.lowering = true → exec .driverFault s = .next s) ∧
  (∀ s : State, s.coreOn = true → s.panel ≠ 0 → s.panel ≠ 4 → s.lowering = false →
    ∃ t, exec .driverFault s = .next t ∧ t.flag Reg.STAVE_STATUS 5 = true ∧ t.pins = s.pins ∧ storesSame s t ∧
      (s.fflag Reg.STAVE_FAULT_CFG 8 = false ∨ 5 ≤ s.panel → t.panel = s.panel ∧ t.stave = s.stave) ∧
      (s.fflag Reg.STAVE_FAULT_CFG 8 = true → s.panel ≤ 3 → t.panel = 4 ∧ t.fld Reg.STAVE_PWR_STATE 7 4 = 6 ∧
        t.stave.step = .discharge ∧ t.stave.offFault = true))

/-- Panel power: rails rise in ascending order, each after its delay; a good PNL_PG leads to the crack check where it is enabled
and to training otherwise; a PNL_PG that does not come, or that falls, lowers the rails one tick apart with its cause; a power-off
discharges for its frames and lowers the rails in descending order, and after the last one the panel is OFF, or FAULT. -/
def Obligations.PanelRailsFollowTheirOrder : Prop :=
  (∀ (s : State) (n wait : Nat) (rest : List (Nat × Nat)), s.stave.step = .raising ((n, wait) :: rest) →
    (s.coreOn = false ∨ s.elapsed s.stave.stepFrom < wait → exec .panelRailOn s = .next s) ∧
    (s.coreOn = true → wait ≤ s.elapsed s.stave.stepFrom →
      ∃ t, exec .panelRailOn s = .next t ∧ t.pins.pnlEn = s.pins.pnlEn ||| BitVec.ofNat 4 (2 ^ n) ∧ storesSame s t ∧
        (rest ≠ [] → t.stave.step = .raising rest ∧ t.stave.stepFrom = s.edge) ∧
        (rest = [] → s.pnlPg = false → t.stave.step = .waitPg ∧ t.stave.stepFrom = s.edge) ∧
        (rest = [] → s.pnlPg = true → s.fflag Reg.STAVE_CRACK_CFG 31 = true → t.stave.step = .crack ∧
          t.stave.checking = if (s.item 7).measuring then none else some s.edge) ∧
        (rest = [] → s.pnlPg = true → s.fflag Reg.STAVE_CRACK_CFG 31 = false → t.stave.step = .training ∧ t.link = 1))) ∧
  (∀ s : State, (∀ l, s.stave.step ≠ .raising l) → exec .panelRailOn s = .next s) ∧
  (∀ s : State, ∃ t, exec .pnlPgRise s = .next t ∧ t.pnlPg = true ∧ t.pins.pnlEn = s.pins.pnlEn ∧ storesSame s t ∧
    (s.coreOn = false ∨ s.stave.step ≠ .waitPg → t.stave = s.stave ∧ t.regs = s.regs) ∧
    (s.coreOn = true → s.stave.step = .waitPg → s.fflag Reg.STAVE_CRACK_CFG 31 = true → t.stave.step = .crack) ∧
    (s.coreOn = true → s.stave.step = .waitPg → s.fflag Reg.STAVE_CRACK_CFG 31 = false →
      t.stave.step = .training ∧ t.link = 1)) ∧
  (∀ s : State, s.coreOn = true → s.stave.step = .waitPg → s.ffld Reg.STAVE_PWR_CFG 31 16 ≤ s.elapsed s.stave.stepFrom →
    exec .pgTimeout s = .next (s.faultOff 3)) ∧
  (∀ s : State, s.coreOn = false ∨ s.stave.step ≠ .waitPg ∨ s.elapsed s.stave.stepFrom < s.ffld Reg.STAVE_PWR_CFG 31 16 →
    exec .pgTimeout s = .next s) ∧
  (∀ s u : State, u = { s with pins := { s.pins with pg := s.pins.pg &&& 0xFFF#13 } } →
    (s.coreOn = true → s.stave.step = .crack ∨ s.stave.step = .training ∨
        (s.stave.step = .none ∧ (s.panel = 2 ∨ s.panel = 3)) → exec .panelSupplyLoss s = .next (u.faultOff 4)) ∧
    (s.coreOn = false ∨ (s.stave.step ≠ .crack ∧ s.stave.step ≠ .training ∧
        (s.stave.step ≠ .none ∨ (s.panel ≠ 2 ∧ s.panel ≠ 3))) →
      exec .panelSupplyLoss s = .next u)) ∧
  (∀ (s : State) (c : Nat), s.usedRails ≠ [] → c < 16 →
    (s.faultOff c).stave.step = .lowering (s.usedRails.reverse.map (fun n => (n, 1))) ∧ (s.faultOff c).stave.offFault = true ∧ (s.faultOff c).stave.gao = false ∧
    (s.faultOff c).fld Reg.STAVE_PWR_STATE 7 4 = c ∧ (s.faultOff c).link = (if s.link = 4 then 4 else 0) ∧
    (s.faultOff c).pins = s.pins ∧ storesSame s (s.faultOff c)) ∧
  (∀ s : State, s.coreOn = true → s.stave.step = .discharge →
    s.usPassed s.stave.stepFrom (s.ffld Reg.SCAN_SR_CFG 23 16 * s.baseUs) = true →
    s.usedRails ≠ [] → ∃ t, exec .dischargeEnd s = .next t ∧ t.stave.step = .lowering
        (s.usedRails.reverse.map (fun n => (n, s.ffld Reg.STAVE_PWR_OFF (8 * n + 7) (8 * n)))) ∧
      t.stave.gao = false ∧ t.stave.stepFrom = s.edge ∧ t.link = (if s.link = 4 then 4 else 0) ∧
      t.pins = s.pins ∧ storesSame s t) ∧
  (∀ s : State, s.coreOn = false ∨ s.stave.step ≠ .discharge ∨
    s.usPassed s.stave.stepFrom (s.ffld Reg.SCAN_SR_CFG 23 16 * s.baseUs) = false → exec .dischargeEnd s = .next s) ∧
  (∀ (s : State) (n wait : Nat) (rest : List (Nat × Nat)), s.stave.step = .lowering ((n, wait) :: rest) →
    (s.coreOn = false ∨ s.elapsed s.stave.stepFrom < wait → exec .panelRailOff s = .next s) ∧
    (s.coreOn = true → wait ≤ s.elapsed s.stave.stepFrom → rest ≠ [] →
      ∃ t, exec .panelRailOff s = .next t ∧ t.pins.pnlEn = s.pins.pnlEn &&& ~~~(BitVec.ofNat 4 (2 ^ n)) ∧
        t.stave.step = .lowering rest ∧ t.stave.stepFrom = s.edge ∧ t.panel = s.panel ∧ storesSame s t) ∧
    (s.coreOn = true → wait ≤ s.elapsed s.stave.stepFrom → rest = [] → s.scan.trans ≠ .off →
      ∃ t, exec .panelRailOff s = .next t ∧ t.pins.pnlEn = s.pins.pnlEn &&& ~~~(BitVec.ofNat 4 (2 ^ n)) ∧
        t.stave.step = .none ∧ t.panel = (if s.stave.offFault then 5 else 0) ∧ storesSame s t) ∧
    (s.coreOn = true → wait ≤ s.elapsed s.stave.stepFrom → rest = [] → s.scan.trans = .off →
      ∃ t, exec .panelRailOff s = .next t ∧ t.pins.pnlEn = s.pins.pnlEn &&& ~~~(BitVec.ofNat 4 (2 ^ n)) ∧
        t.stave.step = .none ∧ t.scan.trans = .none ∧ t.scan.running = false)) ∧
  (∀ s : State, s.lowering = false → exec .panelRailOff s = .next s)

/-- The crack loop: a check ends 128 µs after its start with its result; a good one at power-on leads to training; a first bad one
is confirmed by a second 1 ms later, and a confirmed one is a crack fault. A check falls due PERIOD minutes after the last one.
The STAVE verbs and writes complete. -/
def Obligations.CrackChecksAndStaveVerbs : Prop :=
  (∀ (mv : Nat) (s : State) (from_ : BitVec 48) (bad : Bool), s.coreOn = true → s.stave.checking = some from_ → s.usPassed from_ 128 = true →
    bad = (decide (1200 < mv) || decide (s.ffld Reg.STAVE_CRACK_CFG 11 0 < mv)) →
    ∃ t, exec (.crackCheckEnd mv) s = .next t ∧ t.stave.checking = none ∧ t.stave.lastCheck = some s.edge ∧
      t.reg Reg.STAVE_CRACK_RESULT = word (2 ^ 31 + 0x10000 * ((s.fld Reg.STAVE_CRACK_RESULT 23 16 + 1) % 256) +
        (if 1200 < mv then 2 else if s.ffld Reg.STAVE_CRACK_CFG 11 0 < mv then 1 else 0)) ∧
      (bad = false → t.stave.failedAt = none ∧ t.panel = s.panel ∧ (s.stave.checkAtP4 = true → t.stave.step = .training ∧ t.link = 1)) ∧
      (bad = true → s.stave.failedAt = none → t.stave.failedAt = some s.edge ∧ t.stave.step = s.stave.step ∧
        t.stave.checkDue = !s.stave.checkAtP4 ∧ t.panel = s.panel) ∧
      (bad = true → s.stave.failedAt ≠ none → t.flag Reg.STAVE_STATUS 9 = true ∧ t.stave.failedAt = none ∧
        (s.stave.checkAtP4 = false → s.fflag Reg.STAVE_FAULT_CFG 9 = true → t.panel = 4 ∧
          t.fld Reg.STAVE_PWR_STATE 7 4 = 5) ∧
        (s.stave.checkAtP4 = false → s.fflag Reg.STAVE_FAULT_CFG 9 = false → t.panel = s.panel ∧
          t.stave.step = s.stave.step) ∧
        (s.stave.checkAtP4 = true → s.usedRails ≠ [] → t.stave.step = .lowering (s.usedRails.reverse.map (fun n => (n, 1))) ∧
          t.fld Reg.STAVE_PWR_STATE 7 4 = 5))) ∧
  (∀ (mv : Nat) (s : State), s.stave.checking = none → exec (.crackCheckEnd mv) s = .next s) ∧
  (∀ (mv : Nat) (s : State) (from_ : BitVec 48), s.stave.checking = some from_ →
    s.coreOn = false ∨ s.usPassed from_ 128 = false →
    exec (.crackCheckEnd mv) s = .next s) ∧
  (∀ (s : State) (p : Nat) (at_ : BitVec 48), p = s.ffld Reg.STAVE_CRACK_CFG 23 16 → s.stave.lastCheck = some at_ →
    (s.fflag Reg.STAVE_CRACK_CFG 31 = true → 0 < p → p * 60 * 32768 ≤ s.elapsed at_ →
      exec .crackCheckDue s = .next (s.setStave { s.stave with checkDue := true })) ∧
    (s.fflag Reg.STAVE_CRACK_CFG 31 = false ∨ p = 0 ∨ s.elapsed at_ < p * 60 * 32768 → exec .crackCheckDue s = .next s)) ∧
  (∀ s : State, s.stave.lastCheck = none → exec .crackCheckDue s = .next s) ∧
  (∀ (s : State) (at_ : BitVec 48), s.stave.failedAt = some at_ → s.stave.step = .crack → s.stave.checking = none →
    (s.coreOn = true → (s.item 7).measuring = false → s.usPassed at_ 1000 = true →
      exec .confirmingCheck s = .next (s.setStave { s.stave with checking := some s.edge })) ∧
    (s.coreOn = false ∨ (s.item 7).measuring = true ∨ s.usPassed at_ 1000 = false → exec .confirmingCheck s = .next s)) ∧
  (∀ s : State, s.stave.failedAt = none ∨ s.stave.step ≠ .crack ∨ s.stave.checking.isSome = true →
    exec .confirmingCheck s = .next s) ∧
  (∀ (p : Port) (s s1 : State) (w : BufWord), fronted s p w s1 = true →
    w.off = Reg.STAVE_REQ →
    (bit w.val 0 = true → bit w.val 1 = false → bit w.val 2 = false →
      exec (.staveReqRetrain p) s =
        .next (if s1.coreOn && s1.link != 1 && (s1.panel == 2 || s1.panel == 3) && s1.stave.step == .none then s1.startTraining 0 else s1)) ∧
    (bit w.val 0 = false → bit w.val 1 = true → bit w.val 2 = false →
      exec (.staveReqCrackCheck p) s = .next (s1.setStave { s1.stave with checkDue := true })) ∧
    (bit w.val 0 = false → bit w.val 1 = false → bit w.val 2 = true →
      exec (.staveReqRecover p) s =
        .next (if (s1.panel == 5 || s1.link == 4) && s1.stave.step == .none then s1.powerOn else s1))) ∧
  (∀ s : State, (s.startTraining 0).link = 1 ∧ (s.startTraining 0).stave.tries = 0 ∧
    (s.startTraining 0).fld Reg.STAVE_LINK_STAT 15 0 = (s.fld Reg.STAVE_LINK_STAT 15 0 + 1) % 65536) ∧
  (∀ s : State, s.usedRails ≠ [] → s.powerOn.panel = 1 ∧ s.powerOn.link = 0 ∧ s.powerOn.stave.step = .raising
      (s.usedRails.map (fun n => (n, s.ffld Reg.STAVE_PWR_ON (8 * n + 7) (8 * n)))) ∧ s.powerOn.stave.stepFrom = s.edge ∧ s.powerOn.pins = s.pins) ∧
  (∀ (ring : BitVec 8) (s : State) (v : Verb), admitted s ring 0x86 (pageRight 11) v = true → v.argsWithin [0xFF#32] = true →
    exec (.staveLoad ring) s = .next (match s.stagePanel 11 (field (v.arg 0) 7 0) with
      | (none, s1) => s1.complete v .badArg
      | (some n, s1) => s1.verbCommit v 11 (some n))) ∧
  (∀ (ring : BitVec 8) (s : State) (v : Verb), admitted s ring 0x87 (pageRight 11) v = true →
    v.argsWithin [0xFFFFFF#32, 0xFFFFFFFF#32] = true → staveOffset (v.arg 0).toNat = true →
    aliasOk (v.arg 0).toNat (v.arg 1) = true →
    exec (.staveSet ring) s = .next (if s.pendingOn 11 then s.defer v (.staging 11)
      else (s.hostSet (v.arg 0).toNat (v.arg 1)).complete v .ok)) ∧
  (∀ (ring : BitVec 8) (s : State) (v : Verb), admitted s ring 0x88 (pageRight 11) v = true → v.argsWithin [] = true →
    exec (.staveCommit ring) s = .next (s.verbCommit v 11)) ∧
  (∀ (ring : BitVec 8) (s : State) (v : Verb), admitted s ring 0x89 (pageRight 11) v = true → v.argsWithin [] = true →
    (s.panel = 2 ∨ s.panel = 3 → exec (.panelCheck ring) s =
      .next ((s.setStave { s.stave with checkDue := true }).defer v .crackCheck 65536)) ∧
    (s.panel ≠ 2 → s.panel ≠ 3 → exec (.panelCheck ring) s = .next (s.complete v .halted))) ∧
  (∀ (ring : BitVec 8) (s : State) (v : Verb), admitted s ring 0x8A (pageRight 11) v = true → v.argsWithin [] = true →
    (s.panel = 5 ∨ s.link = 4 → s.stave.step = .none →
      exec (.panelRecover ring) s = .next (s.await v .panelOn 0).powerOn) ∧
    ((s.panel ≠ 5 ∧ s.link ≠ 4) ∨ s.stave.step ≠ .none → exec (.panelRecover ring) s = .next (s.complete v .badArg)))

/-- FACE evaluates: at each wall second the enabled fields whose CADENCE divides it; a field whose value differs from the shown
one, and every field in a repaint, becomes DUE with the new value; a counted raise marks the fields that its event evaluates; a
new WALL waits for the next tick, which marks every field. FACE shows its fields: a push sends the DUE fields, a full-frame frame
every field that fits; neither begins before the link is trained, and it ends no earlier than its pixel periods allow (a lower
bound of the model, log entry 48); at its end each field shown is VALID with the value shown, PUSHES counts and LAST_SIG holds the
signature. -/
def Obligations.FaceEvaluatesAndShows : Prop :=
  (∀ s : State, s.secondDue = false → exec .wallSecondBoundary s = .next s) ∧
  (∀ s u : State, s.secondDue = true → u = s.setFace { s.face with second := s.wallSec, evals := [] } →
    exec .wallSecondBoundary s = .next
      (((List.range 12).filter (fun f => s.wallSec % s.cadence f == 0 || s.face.evals.contains f)).foldl (State.evalField false) u)) ∧
  (∀ (s : State) (r : Raise) (f : Nat), f < 12 → s.fflag (faceField f 2) 23 = true → s.ffld (faceField f 2) 22 16 = r.event →
    f ∈ (s.countRaise r).face.evals) ∧
  (∀ (s : State) (f : Nat) (forced : Bool), s.faceEn f = false → s.evalField forced f = s) ∧
  (∀ (s : State) (f : Nat), f < 12 → s.faceEn f = true → s.fld (faceVal f) 26 0 = s.faceValue f → s.faceDue f = false →
    s.evalField false f = s) ∧
  (∀ (s : State) (f : Nat) (forced : Bool), f < 12 → s.faceEn f = true →
    forced = true ∨ s.fld (faceVal f) 26 0 ≠ s.faceValue f ∨ s.faceDue f = true →
    (s.evalField forced f).faceDue f = true ∧ (s.evalField forced f).faceShown f = s.faceValue f ∧
      (s.evalField forced f).force = s.force ∧ storesSame s (s.evalField forced f)) ∧
  (∀ (s : State) (f : Nat), s.ffld (faceField f 1) 3 0 = 1 → s.faceValue f = s.wallSec % 60) ∧
  (∀ (s : State) (f : Nat), s.ffld (faceField f 1) 3 0 = 2 → s.faceValue f = s.wallSec / 60 % 60) ∧
  (∀ (s : State) (f : Nat), s.ffld (faceField f 1) 3 0 = 3 → s.faceValue f = s.wallSec / 3600 % 24) ∧
  (∀ (p : Port) (s s1 : State) (w : BufWord), fronted s p w s1 = true →
    (w.off = Reg.FACE_WALL_HI → ∃ t, exec (.wallHiWrite p) s = .next t ∧
      t.face.wallNext = some (w.val.setWidth 16 ++ s.reg Reg.FACE_WALL_LO) ∧ t.face.wall = s.face.wall ∧
      t.reg Reg.FACE_WALL_HI = w.val &&& 0xFFFF#32 ∧ (∀ a, a ≠ Reg.FACE_WALL_HI → t.reg a = s.reg a)) ∧
    (w.off = Reg.FACE_REQ → bit w.val 0 = true →
      exec (.faceRepaintWrite p) s = .next ((List.range 12).foldl (State.evalField true) s1))) ∧
  (∀ (s : State) (w : BitVec 48), s.face.wallNext = some w → s.wallTick.face.wall = w ∧ s.wallTick.face.wallNext = none ∧
    (∀ f, f < 12 → f ∈ s.wallTick.face.evals) ∧ s.wallTick.regs = s.regs) ∧
  (∀ s : State, s.face.wallNext = none → s.wallTick = s) ∧
  (∀ s : State, s.coreOn = false ∨ s.pushDue = false → exec .facePush s = .next s) ∧
  (∀ s : State, s.coreOn = true → s.pushDue = true → s.linkSends = false → exec .facePush s = .next s.wakeLink) ∧
  (∀ s : State, s.coreOn = true → s.pushDue = true → s.linkSends = true →
    ∃ (t : State) (p : FacePush), exec .facePush s = .next t ∧ t.face.pushing = some p ∧
      p.shown = s.dueFields.map (fun f => (f, s.faceShown f)) ∧ p.full = false ∧ p.at_ = s.edge ∧
      (s.panelClass = 2 → p.us = s.pushUs (s.boxPeriods (s.face.bgBoxes ++ s.dueFields.map s.faceBox))) ∧
      t.face.bgBoxes = [] ∧ t.pipe.odValid = false ∧ (∀ f ∈ s.dueFields, t.faceDue f = false) ∧ t.force = s.force ∧
      t.flash = s.flash ∧ t.fuses = s.fuses) ∧
  (∀ s : State, s.coreOn = false ∨ s.fullDue = false → exec .fullFrameStart s = .next s) ∧
  (∀ s : State, s.coreOn = true → s.fullDue = true → s.linkSends = false → exec .fullFrameStart s = .next s.wakeLink) ∧
  (∀ s : State, s.coreOn = true → s.fullDue = true → s.linkSends = true →
    ∃ (t : State) (p : FacePush), exec .fullFrameStart s = .next t ∧ t.face.pushing = some p ∧
      p.shown = ((List.range 12).filter s.faceFits).map (fun f => (f, s.faceShown f)) ∧ p.full = true ∧ p.at_ = s.edge ∧
      p.us = s.pushUs (hTotal s.inForce * (s.firstActive + s.vActive)) ∧
      t.face.lastFull = some s.edge ∧ t.face.bgBoxes = [] ∧ t.pipe.odValid = false ∧ t.force = s.force ∧ t.flash = s.flash ∧
      t.fuses = s.fuses) ∧
  (∀ s : State, s.stave.step = .none → s.panel = 0 → s.wakeLink = s.powerOn) ∧
  (∀ s : State, s.stave.step = .none → s.panel = 2 ∨ s.panel = 3 → s.link = 0 → s.wakeLink = s.startTraining 0) ∧
  (∀ s : State, s.stave.step ≠ .none → s.wakeLink = s) ∧
  (∀ (s : State) (p : FacePush), s.face.pushing = some p → s.usPassed p.at_ p.us = true →
    (∀ e ∈ p.shown, e.1 < 12 ∧ e.2 < 2 ^ 27) →
    (p.shown.map (·.1)).Nodup →
    ∃ t, exec .facePushEnd s = .next t ∧ t.face.pushing = none ∧ t.reg Reg.FACE_LAST_SIG = p.sig ∧
      t.reg Reg.FACE_PUSHES = s.reg Reg.FACE_PUSHES + 1#32 ∧ t.force = s.force ∧ storesSame s t ∧
      (∀ e ∈ p.shown, t.fld (faceVal e.1) 26 0 = e.2 ∧ t.flag (faceVal e.1) 31 = true)) ∧
  (∀ s : State, s.face.pushing = none → exec .facePushEnd s = .next s) ∧
  (∀ (s : State) (p : FacePush), s.face.pushing = some p → s.usPassed p.at_ p.us = false → exec .facePushEnd s = .next s)

/-- The FACE verbs complete, and a FACE set that fails a check is kept out of force with its code shown and told. -/
def Obligations.FaceVerbsComplete : Prop :=
  (∀ (ring : BitVec 8) (s : State) (v : Verb), admitted s ring 0x8B (pageRight 12) v = true → v.argsWithin [0xFF#32] = true →
    exec (.faceLoad ring) s = .next (match s.stageFace (field (v.arg 0) 7 0) with
      | (0, s1) => s1.complete v .badArg
      | (n + 1, s1) => s1.verbCommit v 12 (some (n + 1)))) ∧
  (∀ (ring : BitVec 8) (s : State) (v : Verb), admitted s ring 0x8C (pageRight 12) v = true →
    v.argsWithin [0xFFFFFF#32, 0xFFFFFFFF#32] = true →
    (s.pendingOn 12 = true → faceOffset (v.arg 0).toNat = true →
      aliasOk (v.arg 0).toNat (v.arg 1) = true ∨ ((v.arg 0).toNat = Reg.FACE_REQ ∧ within (v.arg 1) 1#32 = true) →
      exec (.faceSet ring) s = .next (s.defer v (.staging 12))) ∧
    (s.pendingOn 12 = false → faceOffset (v.arg 0).toNat = true → aliasOk (v.arg 0).toNat (v.arg 1) = true →
      exec (.faceSet ring) s = .next ((s.hostSet (v.arg 0).toNat (v.arg 1)).complete v .ok)) ∧
    (s.pendingOn 12 = false → (v.arg 0).toNat = Reg.FACE_REQ → v.arg 1 = 1#32 →
      exec (.faceSet ring) s = .next (s.repaint.complete v .ok)) ∧
    (s.pendingOn 12 = false → (v.arg 0).toNat = Reg.FACE_REQ → v.arg 1 = 0#32 →
      exec (.faceSet ring) s = .next (s.complete v .ok))) ∧
  (∀ (ring : BitVec 8) (s : State) (v : Verb), admitted s ring 0x8D (pageRight 12) v = true → v.argsWithin [] = true →
    exec (.faceCommit ring) s = .next (s.verbCommit v 12)) ∧
  (∀ (ring : BitVec 8) (s : State) (v : Verb), admitted s ring 0x8E (pageRight 12) v = true →
    v.argsWithin [0xFFFFFFFF#32, 0xFFFF#32] = true →
    ∃ t : State, exec (.faceWall ring) s =
        .next (t.complete v .ok [s.reg Reg.FACE_WALL_LO, word (field (s.reg Reg.FACE_WALL_HI) 15 0)]) ∧
      t.face.wallNext = some ((v.arg 1).setWidth 16 ++ v.arg 0) ∧ t.face.wall = s.face.wall ∧
      t.reg Reg.FACE_WALL_LO = v.arg 0 ∧ t.reg Reg.FACE_WALL_HI = v.arg 1 ∧
      (∀ a, a ≠ Reg.FACE_WALL_LO → a ≠ Reg.FACE_WALL_HI → t.reg a = s.reg a)) ∧
  (∀ (ring : BitVec 8) (s : State) (v : Verb), admitted s ring 0x8F (pageRight 12) v = true → v.argsWithin [0xF#32] = true →
    field (v.arg 0) 3 0 ≤ 11 → exec (.faceRead ring) s = .next (s.complete v .ok [s.reg Reg.FACE_STATUS, word s.wallSec,
      s.reg (Reg.FACE_FIELD_VAL + 4 * field (v.arg 0) 3 0), s.reg Reg.FACE_PUSHES])) ∧
  (∀ (s u : State), s.faceCode s.reg ≠ 0 →
    u = (s.setFld Reg.FACE_STATUS 7 4 (s.faceCode s.reg)).setFlag Reg.FACE_STATUS 2 true →
    s.commitFace = (u.endCommit 12 .badArg [u.reg Reg.FACE_STATUS &&& 0xFFFFFFFE#32]).raise 101 (word (s.faceCode s.reg))) ∧
  (∀ (s : State) (fc : Nat → Word) (f : Nat), f < 12 → bit (fc (faceField f 0)) 31 = true →
    field (fc (faceField f 1)) 3 0 = 0 ∨ 11 ≤ field (fc (faceField f 1)) 3 0 ∨ s.boxFits (boxOf fc f) = false →
    s.faceCode fc = 1) ∧
  (∀ (s : State) (fc : Nat → Word) (f g : Nat), f < 12 → g < 12 → f ≠ g → bit (fc (faceField f 0)) 31 = true →
    bit (fc (faceField g 0)) 31 = true → (boxOf fc f).meets (boxOf fc g) = true → s.faceCode fc = 1 ∨ s.faceCode fc = 2)

/-- Jobs: a JOB ring that is ready is fetched in its turn and its entry enters a slot, checked; a malformed entry halts its ring,
and its BAD_VERB waits behind the jobs of the ring before it (log entry 55); jobs start in fetch order in TUTTI alone, with the
lowest free Stage banks; panels are loaded for a running job; whatever else a command changes, the Ensemble then goes on. -/
def Obligations.JobsEnterAndStart : Prop :=
  (∀ (ring : BitVec 8) (s : State) (r i : Nat) (ws : List Word), r = ring.toNat → s.jobReady r = true → i = s.ringIndex r →
    ws = s.hallWords (s.entryAddr r i) 16 →
    (s.pairHolds r = true → exec (.jobFetch ring) s = .next s) ∧
    (s.pairHolds r = false → s.fetchTurn r = false → exec (.jobFetch ring) s = .next s) ∧
    (s.pairHolds r = false → s.fetchTurn r = true → s.ringCovered r = false →
      exec (.jobFetch ring) s = .next { s.haltRing r 2 with fetched := r }) ∧
    (s.pairHolds r = false → s.fetchTurn r = true → s.ringCovered r = true → jobMalformed ws = true →
      ∃ t, t = (s.haltRing r 1).setEns { (s.haltRing r 1).ens with badJobs := (s.haltRing r 1).ens.badJobs ++
          [{ ring := r, before := (s.haltRing r 1).ens.nextId, index := i, tag := field (nth ws 0) 31 16
             pair := (s.haltRing r 1).ringPair r }] } ∧
        exec (.jobFetch ring) s = .next { t.giveCompletions with fetched := r }) ∧
    (s.pairHolds r = false → s.fetchTurn r = true → s.ringCovered r = true → jobMalformed ws = false →
      exec (.jobFetch ring) s = .next { ((s.setFld (ringWord r 3) 11 0
        ((i + 1) % s.ringSize r)).addJob (some r) i (s.ringOwner r) ws).ensRun with fetched := r })) ∧
  (∀ (s : State) (b : BadJob), s.ens.jobs = [] → s.ens.badJobs = [b] → s.giveCompletions =
    (s.setEns { s.ens with badJobs := [] }).post b.pair
      (.completion b.tag 0xFE Status.badVerb.code b.index b.ring [] false)) ∧
  (∀ (s : State) (b : BadJob), s.ens.badJobs = [b] → s.jobsGiven (some b.ring) b.before = false → s.giveBad = s) ∧
  (∀ (s : State) (ring : Option Nat) (i owner : Nat) (ws : List Word), s.ens.jobs.length < 8 →
    ∃ j : Job, (s.addJob ring i owner ws).ens.jobs = s.ens.jobs ++ [j] ∧ j.ring = ring ∧ j.index = i ∧ j.owner = owner ∧
      j.words = ws ∧ j.slot < 8 ∧ (∀ k ∈ s.ens.jobs, k.slot ≠ j.slot) ∧
      (s.hasPage owner 13 = false → j.phase = .ended 0x12 [0#32, 0#32, 0#32, nth ws 3]) ∧
      (s.hasPage owner 13 = true → jobBanks ws = 0 ∨ 16 < jobBanks ws ∨ jobBlock ws % 16 ≠ 0 →
        j.phase = .ended 0x11 [8#32, 0#32, 0#32, nth ws 3]) ∧
      (s.hasPage owner 13 = true → 1 ≤ jobBanks ws → jobBanks ws ≤ 16 → jobBlock ws % 16 = 0 →
        s.jobCheck owner ws j.block = none → j.phase = .checked)) ∧
  (∀ s : State, s.jobToStart = none → exec .jobStart s = .next s) ∧
  (∀ (s u : State) (j : Job), s.jobToStart = some j →
    u = s.setJob { j with phase := .running, banks := (s.stageFree.take (jobBanks j.words)).foldl (fun m b => m + 2 ^ b) 0 } →
    exec .jobStart s =
      .next (u.setEns { u.ens with started := u.ens.started ++ [j.id], stageGen := u.ens.stageGen + 1 }).ensRun) ∧
  (∀ (s : State) (j : Job), s.jobToStart = some j → s.coreOn = true ∧ s.cur = 0 ∧ j ∈ s.ens.jobs ∧ j.phase = .checked ∧
    jobBanks j.words ≤ s.stageFree.length ∧
    (bit (nth j.words 2) 16 = true → ∀ k ∈ s.ens.jobs, k.ring = j.ring → k.id < j.id → k.phase ≠ .running)) ∧
  (∀ (slot : BitVec 3) (s : State), s.loadable slot.toNat = none → exec (.l2PanelLoaded slot) s = .next s) ∧
  (∀ (slot : BitVec 3) (s : State) (j : Job), s.loadable slot.toNat = some j →
    exec (.l2PanelLoaded slot) s = .next (s.loadPanels j) ∧ j.slot = slot.toNat ∧ j.phase = .running ∧ j.flight.length < 2) ∧
  (∀ (s : State) (d : Nat), s.deskOpen d = false → s.giveDesk d = s) ∧
  (∀ (s : State) (d : Nat) (t : Tile) (f : Nat) (rest : List (Tile × Nat)), s.deskOpen d = true → s.ens.redo = (t, f) :: rest →
    (s.giveDesk d).desk d = .tile t (some f) ∧ (s.giveDesk d).ens.redo = rest) ∧
  (∀ (s : State) (d : Nat) (t : Tile), s.deskOpen d = true → s.ens.redo = [] → s.nextWork = some t →
    (s.giveDesk d).desk d = .tile t none) ∧
  (∀ s : State, s.jobsRun = false → s.dispatch = s)

/-- Desk tiles and cancels: a tile ends no earlier than its cycles allow, with what the desk got wrong (errs, log entry 48); a
tile that passes is stored; a first failure waits for another desk, a repeat that passes retires the
first desk, and a repeat that fails ends the job with DATA_FAULT and marks both desks suspect; a cancel ends jobs that have not
started at once and lets the tiles of started ones end; a register issue takes a slot, and is answered in ISSUE_RESULT. -/
def Obligations.TilesEndOrAreRepeated : Prop :=
  (∀ (desk : BitVec 4) (errs : List DeskErr) (s : State), (∀ t f, s.desk desk.toNat ≠ .tile t f) →
    exec (.tileEnd desk errs) s = .next s) ∧
  (∀ (desk : BitVec 4) (errs : List DeskErr) (s : State) (t : Tile) (first : Option Nat), s.desk desk.toNat = .tile t first →
    s.deskDone desk.toNat (s.tileCycles t) = false → exec (.tileEnd desk errs) s = .next s) ∧
  (∀ (desk : BitVec 4) (errs : List DeskErr) (s s1 : State) (t : Tile) (first : Option Nat),
    s.desk desk.toNat = .tile t first → s.deskDone desk.toNat (s.tileCycles t) = true →
    s1 = s.deskIdle desk.toNat → s1.runningJob t.job = none → exec (.tileEnd desk errs) s = .next s1.ensRun) ∧
  (∀ (desk : BitVec 4) (errs : List DeskErr) (s s1 : State) (t : Tile) (first : Option Nat) (j k : Job),
    s.desk desk.toNat = .tile t first → s.deskDone desk.toNat (s.tileCycles t) = true →
    s1 = s.deskIdle desk.toNat → s1.runningJob t.job = some j → k = { j with run := satAdd 0xFFFFFFFF j.run 1 } →
    (k.passes t errs = true → exec (.tileEnd desk errs) s = .next ((s1.setJob k).tilePassed k t first errs).ensRun) ∧
    (k.passes t errs = false →
      exec (.tileEnd desk errs) s = .next ((s1.setJob k).tileFailed k desk.toNat t first).sortRedo.ensRun)) ∧
  (∀ (s : State) (j : Job) (d : Nat) (t : Tile), j.ending = none →
    s.tileFailed j d t none = s.setEns { s.ens with redo := s.ens.redo ++ [(t, d)] }) ∧
  (∀ (s : State) (j : Job) (d : Nat) (t : Tile), j.ending.isSome = true → s.tileFailed j d t none = s) ∧
  (∀ (s : State) (j : Job) (d f : Nat) (t : Tile), d < 16 → f < 16 → j.ending = none → s.runningJob j.id = some j →
    (s.tileFailed j d t (some f)).flag Reg.ENS_SUSPECT f = true ∧ (s.tileFailed j d t (some f)).flag Reg.ENS_SUSPECT d = true ∧
    ∃ k, k ∈ (s.tileFailed j d t (some f)).ens.jobs ∧ k.id = j.id ∧
      k.ending = some (0x1C, 16 * t.op + 0x10000 * (2 ^ f + 2 ^ d))) ∧
  (∀ (s : State) (j : Job) (f : Nat) (t : Tile) (errs : List DeskErr), f < 16 → s.runningJob t.job = none →
    (s.tilePassed j t (some f) errs).flag Reg.ENS_RETIRED f = true ∧
    (s.tilePassed j t (some f) errs).reg Reg.ENS_RETIRE_LOG = word (f + 16 + 0x10000 * j.ringField) ∧
    storesSame s (s.tilePassed j t (some f) errs)) ∧
  (∀ (ring : BitVec 8) (s : State) (v : Verb) (n : Nat), admitted s ring 0x95 cancelRight v = true →
    v.argsWithin [0xFF#32] = true → n = field (v.arg 0) 7 0 → s.ringEn n = true → s.ringType n = 4 →
    ∃ mine : Job → Bool, (∀ j, mine j = (j.ring == some n && (j.phase == .checked || j.phase == .running))) ∧
      exec (.jobCancel ring) s =
        .next (((s.cancelJobs mine).ensRun).complete v .ok [word (s.ens.jobs.filter mine).length])) ∧
  (∀ (s : State) (j : Job) (which : Job → Bool), s.ens.jobs = [j] → which j = true → j.phase = .checked →
    (s.cancelJobs which).ens.jobs = [{ j with phase := .ended 0x1A (j.results 0), flight := [], held := [] }]) ∧
  (∀ (s : State) (j : Job) (which : Job → Bool), s.ens.jobs = [j] → which j = true → j.phase = .running → j.ending = none →
    (s.cancelJobs which).ens.jobs = [{ j with ending := some (0x1A, 0) }]) ∧
  (∀ (p : Port) (s s1 : State) (w : BufWord) (ws : List Word), fronted s p w s1 = true → w.off = Reg.ENS_ISSUE → bit w.val 31 = true →
    ws = (List.range 4).map (fun k => s.reg (Reg.ENS_ISSUE_W + 4 * k)) →
    (s.ens.issue.isSome = true ∨ (∃ j ∈ s.ens.jobs, j.ring = none) → exec (.issueGo p) s = .next s1) ∧
    (s.ens.issue = none → (∀ j ∈ s.ens.jobs, j.ring ≠ none) → jobMalformed ws = true →
      ∃ t, exec (.issueGo p) s = .next t ∧ t.reg Reg.ENS_ISSUE_RESULT =
        word (2 ^ 31 + 0x10000 * ((s.fld Reg.ENS_ISSUE_RESULT 23 16 + 1) % 256) + 256 * Status.badVerb.code) ∧
        t.ens = s.ens ∧ storesSame s t) ∧
    (s.ens.issue = none → (∀ j ∈ s.ens.jobs, j.ring ≠ none) → jobMalformed ws = false →
      exec (.issueGo p) s = .next ((s1.setFlag Reg.ENS_ISSUE_RESULT 31 false).setEns
        { s.ens with issue := some (ws, s.fld Reg.ENS_MODE 13 8) }).ensRun))

/-- Self-tests: one falls due each PERIOD for the next desk in turn; a verb or a register write asks for more; the end of one is
shown in BIST_RESULT, retires a desk that fails and reinstates a retired one that passes. The display lease and the ENS verbs:
bands start in order; a pass ends as a tile does, a desk whose pass fails being retired at once; the ENS verbs, COMMIT.GO and
reads complete. A write of DESK_TEST or DESK_RETEST while the tests that it asked for run is ignored (R10), and work ends no
earlier than its cycles allow (log entry 48). -/
def Obligations.DesksAreTestedAndLeased : Prop :=
  (∀ (s : State) (p : Nat), p = s.ffld Reg.ENS_CFG 15 8 →
    s.coreOn = false ∨ s.fflag Reg.ENS_CFG 16 = false ∨ p = 0 ∨ s.elapsed s.ens.dueFrom < p * 60 * 32768 →
    exec .bistDue s = .next s) ∧
  (∀ (s u : State) (p d : Nat), p = s.ffld Reg.ENS_CFG 15 8 → s.coreOn = true → s.fflag Reg.ENS_CFG 16 = true → 0 < p →
    p * 60 * 32768 ≤ s.elapsed s.ens.dueFrom → u = s.setEns { s.ens with dueFrom := s.edge } →
    (((List.range 16).map (fun k => (s.ens.lastTested + 1 + k) % 16)).find? (fun d => !s.deskRetired d) = some d →
      exec .bistDue s = .next (u.setEns { u.ens with due := s.ens.due.filter (· != d) ++ [d] }).ensRun) ∧
    ((∀ d, d < 16 → s.deskRetired d = true) → exec .bistDue s = .next u)) ∧
  (∀ (passes : Bool) (s : State), s.testing = none → exec (.bistEnd passes) s = .next s) ∧
  (∀ (passes : Bool) (s : State) (d : Nat), s.testing = some d → s.deskDone d 8192 = false →
    exec (.bistEnd passes) s = .next s) ∧
  (∀ (passes : Bool) (s : State) (d : Nat), s.testing = some d → s.deskDone d 8192 = true →
    ∃ u : State, exec (.bistEnd passes) s = .next u.ensRun ∧ u.ens.lastTested = d ∧ d ∉ u.ens.due ∧ u.desk d = .idle ∧
      u.reg Reg.ENS_BIST_RESULT =
        word (2 ^ 31 + 0x10000 * ((s.fld Reg.ENS_BIST_RESULT 23 16 + 1) % 256) + 256 * passes.toNat + d) ∧
      u.deskRetired d = !passes ∧
      (∀ e, e < 16 → e ≠ d → u.deskRetired e = s.deskRetired e) ∧
      (s.deskRetired d = false → passes = false → u.reg Reg.ENS_RETIRE_LOG = word (d + 16 * 3 + 0x10000 * 0xFF)) ∧
      storesSame s u) ∧
  (∀ (ring : BitVec 8) (s : State) (v : Verb) (u : Bool → State), v.argsWithin [0xFFFF#32, 0xFFFF#32] = true →
    (∀ retest, u retest = (s.askTests v.ring (field (v.arg 0) 15 0) retest).defer v (.deskTest 0)
      (if field (v.arg 1) 15 0 = 0 then 65536 else field (v.arg 1) 15 0)) →
    (admitted s ring 0x92 (pageRight 13) v = true → exec (.deskTest ring) s = .next (u false).ensRun) ∧
    (admitted s ring 0x93 (pageRight 13) v = true → exec (.deskRetest ring) s = .next (u true).ensRun)) ∧
  (∀ (p : Port) (s s1 : State) (w : BufWord), fronted s p w s1 = true →
    (w.off = Reg.ENS_DESK_TEST → exec (.deskTestWrite p) s = .next (if (Cells.find s1.ens.asks 256).isSome then s1
      else (s1.askTests 256 (field w.val 15 0) false).ensRun)) ∧
    (w.off = Reg.ENS_DESK_RETEST → exec (.deskRetestWrite p) s = .next (if (Cells.find s1.ens.asks 257).isSome then s1
      else (s1.askTests 257 (field w.val 15 0) true).ensRun))) ∧
  (∀ (s : State) (key mask : Nat) (retest : Bool), key < 256 →
    Cells.find (s.askTests key mask retest).ens.asks key = some { left := mask, retest := retest }) ∧
  (∀ (s : State) (d : Nat), s.testAllowed d = true → s.desk d = .idle ∧ s.deskLeased d = false) ∧
  (∀ s : State, s.bandDue = false → exec .bandExpansionStart s = .next s) ∧
  (∀ s : State, s.bandDue = true → exec .bandExpansionStart s =
    .next (s.setEns { s.ens with band := some { band := s.ens.nextBand }, nextBand := s.ens.nextBand + 1 }).givePasses) ∧
  (∀ (desk : BitVec 4) (errs : List Int) (s : State), s.ens.band = none ∨ (∀ p f, s.desk desk.toNat ≠ .pass p f) ∨
    s.deskDone desk.toNat (s.dmRank + 8) = false → exec (.bandPassEnd desk errs) s = .next s) ∧
  (∀ errs : List Int, passOk errs = true ↔ ∀ e ∈ errs, e % 3 = 0) ∧
  (∀ (desk : BitVec 4) (good bad : List Int) (s s1 s2 : State) (b : BandSt) (p : Nat), s.ens.band = some b →
    s.deskDone desk.toNat (s.dmRank + 8) = true → passOk good = true → passOk bad = false →
    s1 = s.setDesk desk.toNat .idle →
    (s.desk desk.toNat = .pass p none →
      s2 = ((s1.writePass b.band p good).setEns { s1.ens with band := some { b with ran := b.ran + 1 } }).settleBand →
      exec (.bandPassEnd desk good) s = .next s2.givePasses) ∧
    (s.desk desk.toNat = .pass p none → s2 = s1.retireDesk desk.toNat 2 0xFE →
      exec (.bandPassEnd desk bad) s =
        .next (s2.setEns { s2.ens with band := some { b with redo := b.redo ++ [(p, desk.toNat)] } }).givePasses) ∧
    (∀ f, s.desk desk.toNat = .pass p (some f) →
      s2 = ((s1.writePass b.band p good).setEns { s1.ens with band := some { b with ran := b.ran + 1 } }).settleBand →
      exec (.bandPassEnd desk good) s = .next (((s2.retiredEvent f 2 0xFE).startMove f).joinDesks).givePasses) ∧
    (∀ f, s.desk desk.toNat = .pass p (some f) →
      s2 = (s1.setFlag Reg.ENS_SUSPECT f true).setFlag Reg.ENS_SUSPECT desk.toNat true →
      exec (.bandPassEnd desk bad) s = .next (s2.raise 106 (word (f + 16 * desk.toNat + 256 * 0xFE))).givePasses)) ∧
  (∀ s : State, s.bandPasses = 6 * ((s.hActive + 31) / 32)) ∧
  (∀ (s : State) (b : BandSt), s.ens.band = some b → s.bandPasses ≤ b.ran → s.settleBand.ens.band = none) ∧
  (∀ (s : State) (d c r : Nat), d < 16 → (s.retireDesk d c r).deskRetired d = true ∧
    (s.retireDesk d c r).reg Reg.ENS_RETIRE_LOG = word (d + 16 * c + 0x10000 * r) ∧
    (∀ a, a ≠ Reg.ENS_RETIRED → a ≠ Reg.ENS_RETIRE_LOG → (s.retireDesk d c r).reg a = s.reg a)) ∧
  (∀ (ring : BitVec 8) (s : State) (v : Verb), admitted s ring 0x90 (pageRight 13) v = true →
    v.argsWithin [0x0001FF0F#32] = true → exec (.ensSet ring) s = .next (if s.pendingOn 13 then s.defer v (.staging 13)
      else (s.hostSet Reg.ENS_CFG (v.arg 0)).complete v .ok)) ∧
  (∀ (ring : BitVec 8) (s : State) (v : Verb), admitted s ring 0x91 (pageRight 13) v = true → v.argsWithin [] = true →
    exec (.ensCommit ring) s = .next (s.verbCommit v 13).ensRun) ∧
  (∀ (p : Port) (s s1 : State) (w : BufWord), fronted s p w s1 = true →
    w.off = Reg.ENS_COMMIT → bit w.val 0 = true → exec (.ensCommitGo p) s = .next (s1.goCommit 13).ensRun) ∧
  (∀ (ring : BitVec 8) (s : State) (v : Verb), admitted s ring 0x94 (pageRight 13) v = true → v.argsWithin [1#32] = true →
    exec (.ensRead ring) s = .next (s.complete v .ok (if bit (v.arg 0) 0
      then [s.leaseWordNow, s.reg Reg.ENS_LEASE_STAT, s.reg Reg.ENS_JOB_STAT, s.reg Reg.ENS_RETIRE_LOG]
      else [s.reg Reg.ENS_RETIRED, s.reg Reg.ENS_LEASED, s.reg Reg.ENS_SUSPECT, s.ensStatus])))

/-- Events: a raise writes only the registers that events own and keeps what is in force and every store; while CORE is stopped it
is held in its flag, whose COUNT saturates; else its route sends it to its line, to its ring where that takes it, or holds it for
the ring; an event that is routed nowhere is gone. Each raise joins those to be counted, at the next tick or, from CORE, at the
second edge. Counted on a task input it adds 1 up to 15, its argument goes to the buffer word of ARG_EN, and the first overflow
sets OVF and raises EV_SCORE_OVF. -/
def Obligations.EventsAreRoutedOrHeld : Prop :=
  (∀ (s : State) (e : Nat) (arg : Word), e < 128 → storesSame s (s.raise e arg) ∧ (s.raise e arg).force = s.force ∧
    (∀ a, raiseReg a = false → (s.raise e arg).reg a = s.reg a) ∧ (s.raise e arg).pins = s.pins ∧
    (s.raise e arg).boot = s.boot ∧ (s.raise e arg).ladder = s.ladder ∧ (s.raise e arg).pending = s.pending ∧
    (s.raise e arg).counting = s.counting ++ [⟨e, arg, if coreEvent e then 2 else 1⟩]) ∧
  (∀ (s : State) (e : Nat) (arg : Word), s.coreOn = false → s.routeRaise e arg =
    { s with flags := holdFlag s.flags { event := e, count := 1, arg := arg, tick := s.metro, ringOnly := false } }) ∧
  (∀ (s : State) (e : Nat) (arg w : Word), s.coreOn = true → (∀ g ∈ s.flags, g.event ≠ e) →
    w = s.reg (Reg.CUE_ROUTE_0 + 4 * e) →
    (bit w 8 = false → bit w 9 = false → s.routeRaise e arg = s) ∧
    (bit w 8 = false → bit w 9 = true → s.routeRaise e arg = s.setFlag (Reg.CUE_EV_PEND + 4 * (e / 32)) (e % 32) true) ∧
    (bit w 8 = true → bit w 9 = false → s.takesEvents (field w 7 0) = true →
      s.routeRaise e arg = s.post (field w 7 0) (.event e 1 arg s.metro)) ∧
    (bit w 8 = true → bit w 9 = false → s.takesEvents (field w 7 0) = false → s.routeRaise e arg =
      { s with flags := holdFlag s.flags { event := e, count := 1, arg := arg, tick := s.metro, ringOnly := true } })) ∧
  (∀ (fs : List EvFlag) (f g : EvFlag), g ∈ fs → g.event = f.event → (fs.map (·.event)).Nodup →
    (holdFlag fs f).map (·.event) = fs.map (·.event) ∧
    { g with count := satAdd 15 g.count f.count, ringOnly := g.ringOnly && f.ringOnly } ∈ holdFlag fs f) ∧
  (∀ (fs : List EvFlag) (f : EvFlag), (∀ g ∈ fs, g.event ≠ f.event) → (holdFlag fs f).length = fs.length + 1 ∧ f ∈ holdFlag fs f) ∧
  (∀ (s : State) (e t i : Nat) (arg : Word), t < 16 → i < 4 →
    (s.inputTakes t i e = false → s.countInput e arg (4 * t + i) = s) ∧
    (∀ n s1, s.inputTakes t i e = true → n = s.fld (taskCnt t) (4 * i + 3) (4 * i) →
      s1 = (if s.flag (taskInput t i) 19 then
          (s.setFld (taskCnt t) (4 * i + 3) (4 * i) (min 15 (n + 1))).setBuf (s.fld (taskInput t i) 18 8) arg
        else s.setFld (taskCnt t) (4 * i + 3) (4 * i) (min 15 (n + 1))) →
      (n < 15 → s.countInput e arg (4 * t + i) = s1) ∧
      (n = 15 → s.flag (taskStat t) 13 = false → s.countInput e arg (4 * t + i) =
        ((s1.setFlag (taskStat t) 13 true).setFlag Reg.SCORE_OVF t true).raise 18 (word t)) ∧
      (n = 15 → s.flag (taskStat t) 13 = true → s.countInput e arg (4 * t + i) = s1)))

/-- The TAP: with the debug lock blown or VDDIO low an edge does nothing; where boundary scan does not work the TAP is in
Test-Logic-Reset with BYPASS; else TMS walks the controller and five edges with TMS high reach Test-Logic-Reset from every state.
Update-IR takes the shifted instruction, BYPASS is one bit, and SAMPLE captures the levels of the bumps by their cells. A pad
without its supply is high-impedance, and outside EXTEST a pad does what its logic says. -/
def Obligations.TheTapFollowsItsClock : Prop :=
  (∀ (tms tdi : Bool) (levels : BitVec 243) (s : State), s.dbgLock = true ∨ s.vddioUp = false → exec (.tapTckEdge tms tdi levels) s = .next s) ∧
  (∀ (tms tdi : Bool) (levels : BitVec 243) (s : State), s.dbgLock = false → s.vddioUp = true → s.tapWorks = false →
    ∃ t, exec (.tapTckEdge tms tdi levels) s = .next t ∧ t.tap.state = .testLogicReset ∧ t.tap.ir = 0xF#4 ∧ t.regs = s.regs) ∧
  (∀ (tms tdi : Bool) (levels : BitVec 243) (s : State), s.dbgLock = false → s.vddioUp = true → s.tapWorks = true →
    ∃ t, exec (.tapTckEdge tms tdi levels) s = .next t ∧ t.tap.state = s.tap.state.next tms ∧ t.regs = s.regs ∧
      t.pins = s.pins ∧ storesSame s t ∧
      (s.tap.state = .shiftDr → tms = false → boundarySelected s.tap.ir = false → t.tap.tdo = some tdi) ∧
      (s.tap.state.next tms = .updateIr → t.tap.ir = s.tap.irShift) ∧
      (s.tap.state.next tms = .testLogicReset → t.tap.ir = 0xF#4) ∧
      (s.tap.state.next tms ≠ .updateIr → s.tap.state.next tms ≠ .testLogicReset → t.tap.ir = s.tap.ir) ∧
      (s.tap.state = .captureDr → s.tap.ir = 0#4 → t.tap.shift = s.captured levels)) ∧
  (∀ (s : State) (p : Pad), s.padPowered p.supply = false → s.padState p = .z) ∧
  (∀ (s : State) (p : Pad), s.padPowered p.supply = true → s.extest = false → s.padState p = s.logicPad p.signal) ∧
  (∀ s : State, s.tapWorks = false → s.tapTick.tap.state = .testLogicReset ∧ s.tapTick.tap.ir = 0xF#4) ∧
  (∀ t : TapState, ((((t.next true).next true).next true).next true).next true = .testLogicReset)

/-- With no command waiting a step is one tick of the AO clock: the count of edges and, outside the 1 s boundaries that R224 holds
or jumps at, the Metronome move on by one, the watchdog's COUNT wraps where it runs, raises whose edge has come are counted and the
others come one edge nearer, and the host words that have crossed and what falls due join the queue. That a tick comes on an empty
queue is the model's choice (log entry 5). -/
def Obligations.AnEmptyQueueIsOneTick : Prop :=
  (∀ s s1 : State, s.pending = [] → s1 = s.writePulses.sampleSlots.evaluate.tellWake.tickEffects →
    step s = .next { s1 with pending := s1.pending ++ s1.crossedWords ++ s1.dueCommands (s1.metro != s.metro) }) ∧
  (∀ s : State, s.edgeTick.edge = s.edge + 1#48 ∧ s.edgeTick.metro = s.metro) ∧
  (∀ s : State, s.tune.hold = none → s.atSecond = false → s.face.wallNext = none → s.commits = [] →
    s.tickEffects.metro = s.metro + 1#48 ∧ storesSame s s.tickEffects ∧
    (s.wdogOn = true → s.wdogTick.fld Reg.DEV_WDOG_STATUS 23 0 = (s.fld Reg.DEV_WDOG_STATUS 23 0 + 1) % 2 ^ 24) ∧
    (s.wdogOn = false → s.wdogTick = s)) ∧
  (∀ (s : State) (n : Nat), s.tune.hold = some (n + 1) → s.metroTick.metro = s.metro) ∧
  (∀ s : State, s.boot.step = .por ∨ s.boot.step = .tacet ∨ s.boot.sysHeld = true → s.driveAlive.pins.alive = false) ∧
  (∀ s : State, s.boot.step ≠ .por → s.boot.step ≠ .tacet → s.boot.sysHeld = false →
    s.driveAlive.pins.alive = s.metro.getLsbD 14) ∧
  (∀ (s : State) (moved : Bool), s.wdogExpired = true → .wdogExpiry ∈ s.dueCommands moved) ∧
  (∀ s : State, s.secondDue = false → s.face.evals = [] → s.evaluate = s) ∧
  (∀ s : State, s.counting = [] → s.countRaises = s) ∧
  (∀ (s : State) (r : Raise), s.counting = [r] → r.edges ≤ 1 → s.countRaises = { s with counting := [] }.countRaise r) ∧
  (∀ (s : State) (r : Raise), s.counting = [r] → 1 < r.edges →
    s.countRaises = { s with counting := [{ r with edges := r.edges - 1 }] })
end

