-- ==== Sys2Proof/Laws/Bits.lean ====
section
/-!
SUPPORT. Bit fields: what a field reads after a field of the same word is written.
-/

namespace Sys2Proof.Machine

/-- Bit i of a word with field [hi:lo] replaced. -/
theorem getLsbD_withField (w : Word) (hi lo v i : Nat) (hb : hi < 32) (hl : lo ≤ hi) :
    (withField w hi lo v).getLsbD i =
      if lo ≤ i ∧ i ≤ hi then v.testBit (i - lo) else w.getLsbD i := by
  unfold withField
  by_cases hi32 : i < 32
  · simp only [BitVec.getLsbD_or, BitVec.getLsbD_and, BitVec.getLsbD_not, BitVec.getLsbD_ofNat, hi32,
      Nat.testBit_shiftLeft, Nat.testBit_two_pow_sub_one, decide_true, Bool.true_and]
    by_cases h1 : lo ≤ i
    · by_cases h2 : i ≤ hi
      · have : i - lo < hi + 1 - lo := by omega
        simp [h1, h2, this]
      · have : ¬ i - lo < hi + 1 - lo := by omega
        simp [h1, h2, this]
    · simp [h1]
  · have h2 : ¬ i ≤ hi := by omega
    simp [h2, BitVec.getLsbD_of_ge _ i (Nat.le_of_not_lt hi32)]

theorem testBit_field (w : Word) (hi lo j : Nat) :
    (field w hi lo).testBit j = (decide (j < hi + 1 - lo) && w.getLsbD (lo + j)) := by
  unfold field
  rw [Nat.testBit_mod_two_pow, Nat.testBit_shiftRight]
  rfl

theorem bit_eq (w : Word) (n : Nat) : bit w n = w.getLsbD n := by
  unfold bit
  show _ = w.toNat.testBit n
  rw [Nat.testBit_eq_decide_div_mod_eq, Nat.shiftRight_eq_div_pow]
  rfl

/-- A field reads what was written to it, modulo its width. -/
@[simp] theorem field_withField (w : Word) (hi lo v : Nat) (hb : hi < 32) (hl : lo ≤ hi) :
    field (withField w hi lo v) hi lo = v % 2 ^ (hi + 1 - lo) := by
  apply Nat.eq_of_testBit_eq
  intro j
  rw [testBit_field, getLsbD_withField w hi lo v _ hb hl, Nat.testBit_mod_two_pow]
  by_cases h : j < hi + 1 - lo
  · have h1 : lo ≤ lo + j ∧ lo + j ≤ hi := by omega
    simp [h, h1]
  · simp [h]

/-- A field apart from the one written reads as before. -/
theorem field_withField_other (w : Word) (hi lo v hi' lo' : Nat) (hb : hi < 32) (hl : lo ≤ hi)
    (h : hi < lo' ∨ hi' < lo) : field (withField w hi lo v) hi' lo' = field w hi' lo' := by
  apply Nat.eq_of_testBit_eq
  intro j
  rw [testBit_field, testBit_field, getLsbD_withField w hi lo v _ hb hl]
  by_cases hj : j < hi' + 1 - lo'
  · have : ¬ (lo ≤ lo' + j ∧ lo' + j ≤ hi) := by omega
    simp [this]
  · simp [hj]

/-- A bit reads what was written to it. -/
@[simp] theorem bit_withBit (w : Word) (n : Nat) (b : Bool) (hn : n < 32) : bit (withBit w n b) n = b := by
  rw [bit_eq, withBit, getLsbD_withField w n n _ _ hn (Nat.le_refl n)]
  cases b <;> simp

/-- A bit apart from the field written reads as before. -/
theorem bit_withField_other (w : Word) (hi lo v n : Nat) (hb : hi < 32) (hl : lo ≤ hi) (h : n < lo ∨ hi < n) :
    bit (withField w hi lo v) n = bit w n := by
  rw [bit_eq, bit_eq, getLsbD_withField w hi lo v _ hb hl]
  have : ¬ (lo ≤ n ∧ n ≤ hi) := by omega
  simp [this]

/-- A bit apart from the one written reads as before. -/
theorem bit_withBit_other (w : Word) (n m : Nat) (b : Bool) (hn : n < 32) (h : m ≠ n) :
    bit (withBit w n b) m = bit w m :=
  bit_withField_other w n n _ m hn (Nat.le_refl n) (by omega)

/-- A field apart from the bit written reads as before. -/
theorem field_withBit_other (w : Word) (n hi lo : Nat) (b : Bool) (hn : n < 32) (h : n < lo ∨ hi < n) :
    field (withBit w n b) hi lo = field w hi lo :=
  field_withField_other w n n _ hi lo hn (Nat.le_refl n) h

theorem field_lt (w : Word) (hi lo : Nat) : field w hi lo < 2 ^ (hi + 1 - lo) :=
  Nat.mod_lt _ (Nat.two_pow_pos _)

end Sys2Proof.Machine
end

