-- ==== Sys2Proof/Laws/Cells.lean ====
section
/-!
SUPPORT. Sparse memories: read after write, writes leave every other key alone, and every operation keeps the canonical
form.
-/

namespace Sys2Proof.Machine

/-- Keys strictly rising, said over pairs. -/
theorem Cells.rising_iff {α : Type} (m : Cells α) :
    Cells.rising m = true ↔ List.Pairwise (fun a b => a.1 < b.1) m := by
  induction m with
  | nil => simp [Cells.rising]
  | cons e r ih =>
    cases r with
    | nil => simp [Cells.rising]
    | cons f t =>
      rw [Cells.rising, Bool.and_eq_true, ih, decide_eq_true_iff, List.pairwise_cons (a := e)]
      constructor
      · rintro ⟨h, p⟩
        refine ⟨fun b hb => ?_, p⟩
        rcases List.mem_cons.1 hb with rfl | hb
        · exact h
        · exact Nat.lt_trans h ((List.pairwise_cons.1 p).1 b hb)
      · rintro ⟨h, p⟩
        exact ⟨h f (by simp), p⟩

theorem Cells.rising_filter {α : Type} (m : Cells α) (p : Nat × α → Bool) (h : Cells.rising m = true) :
    Cells.rising (m.filter p) = true :=
  (Cells.rising_iff _).2 (((Cells.rising_iff m).1 h).filter p)

theorem Cells.rising_erase {α : Type} (m : Cells α) (k : Nat) (h : Cells.rising m = true) :
    Cells.rising (Cells.erase m k) = true := Cells.rising_filter m _ h

theorem Cells.mem_place {α : Type} (m : Cells α) (k : Nat) (v : α) (e : Nat × α) :
    e ∈ Cells.place m k v ↔ e = (k, v) ∨ e ∈ m := by
  induction m with
  | nil => simp [Cells.place]
  | cons f r ih =>
    unfold Cells.place
    split
    · simp
    · simp only [List.mem_cons, ih]
      exact or_left_comm

theorem Cells.rising_place {α : Type} (m : Cells α) (k : Nat) (v : α) (h : Cells.rising m = true)
    (hk : ∀ e ∈ m, e.1 ≠ k) : Cells.rising (Cells.place m k v) = true := by
  rw [Cells.rising_iff] at *
  induction m with
  | nil => simp [Cells.place]
  | cons f r ih =>
    unfold Cells.place
    have hp := List.pairwise_cons.1 h
    split
    · rename_i hlt
      refine List.pairwise_cons.2 ⟨fun b hb => ?_, h⟩
      rcases List.mem_cons.1 hb with rfl | hb
      · exact hlt
      · exact Nat.lt_trans hlt (hp.1 b hb)
    · rename_i hge
      have hf : f.1 ≠ k := hk f (by simp)
      refine List.pairwise_cons.2 ⟨fun b hb => ?_, ih hp.2 (fun e he => hk e (by simp [he]))⟩
      rcases (Cells.mem_place r k v b).1 hb with rfl | hb
      · simp only; omega
      · exact hp.1 b hb

theorem Cells.rising_insert {α : Type} (m : Cells α) (k : Nat) (v : α) (h : Cells.rising m = true) :
    Cells.rising (Cells.insert m k v) = true :=
  Cells.rising_place _ k v (Cells.rising_erase m k h) (fun e he => by
    simp only [Cells.erase, List.mem_filter, decide_eq_true_eq] at he
    exact he.2)

/-- A memory operation that keeps keys rising and lists no default keeps the canonical form. -/
theorem Cells.canon_iff {α : Type} [DecidableEq α] (d : Nat → α) (m : Cells α) :
    Cells.canon d m = true ↔ Cells.rising m = true ∧ ∀ e ∈ m, e.2 ≠ d e.1 := by
  simp [Cells.canon, List.all_eq_true]

theorem Cells.canon_put {α : Type} [DecidableEq α] (d : Nat → α) (m : Cells α) (k : Nat) (v : α)
    (h : Cells.canon d m = true) : Cells.canon d (Cells.put d m k v) = true := by
  rw [Cells.canon_iff] at *
  unfold Cells.put
  split
  · exact ⟨Cells.rising_erase m k h.1, fun e he => h.2 e (List.mem_filter.1 he).1⟩
  · rename_i hv
    refine ⟨Cells.rising_insert m k v h.1, fun e he => ?_⟩
    rcases (Cells.mem_place _ k v e).1 he with rfl | he
    · exact hv
    · exact h.2 e (List.mem_filter.1 he).1

theorem Cells.canon_filter {α : Type} [DecidableEq α] (d : Nat → α) (m : Cells α) (p : Nat × α → Bool)
    (h : Cells.canon d m = true) : Cells.canon d (m.filter p) = true := by
  rw [Cells.canon_iff] at *
  exact ⟨Cells.rising_filter m p h.1, fun e he => h.2 e (List.mem_filter.1 he).1⟩

theorem Cells.rising_fillRange {α : Type} (m : Cells α) (lo len : Nat) (v : α) (h : Cells.rising m = true) :
    Cells.rising (Cells.fillRange m lo len v) = true := by
  rw [Cells.rising_iff] at *
  unfold Cells.fillRange
  have hr : List.Pairwise (fun a b : Nat × α => a.1 < b.1) ((List.range len).map (fun i => (lo + i, v))) := by
    rw [List.pairwise_map]
    exact List.Pairwise.imp (fun hab => by simpa using hab) List.pairwise_lt_range
  refine List.pairwise_append.2 ⟨List.pairwise_append.2 ⟨h.filter _, hr, ?_⟩, h.filter _, ?_⟩
  · intro a ha b hb
    simp only [List.mem_filter, decide_eq_true_eq, List.mem_map, List.mem_range] at ha hb
    obtain ⟨i, _, rfl⟩ := hb
    simp only; omega
  · intro a ha b hb
    simp only [List.mem_append, List.mem_filter, decide_eq_true_eq, List.mem_map, List.mem_range] at ha hb
    rcases ha with ha | ⟨i, _, rfl⟩
    · omega
    · simp only; omega

/-! ### Reads -/

theorem Cells.find_place_self {α : Type} (m : Cells α) (k : Nat) (v : α) (hk : ∀ e ∈ m, e.1 ≠ k) :
    Cells.find (Cells.place m k v) k = some v := by
  induction m with
  | nil => simp [Cells.place, Cells.find]
  | cons f r ih =>
    unfold Cells.place
    split
    · simp [Cells.find]
    · have hf : f.1 ≠ k := hk f (by simp)
      simp [Cells.find, hf, ih (fun e he => hk e (by simp [he]))]

theorem Cells.find_place_other {α : Type} (m : Cells α) (k j : Nat) (v : α) (h : k ≠ j) :
    Cells.find (Cells.place m k v) j = Cells.find m j := by
  induction m with
  | nil => simp [Cells.place, Cells.find, h]
  | cons f r ih =>
    unfold Cells.place
    split
    · simp [Cells.find, h]
    · simp [Cells.find, ih]

theorem Cells.find_filter {α : Type} (m : Cells α) (p : Nat → Bool) (j : Nat) :
    Cells.find (m.filter (fun e => p e.1)) j = if p j then Cells.find m j else none := by
  induction m with
  | nil => simp [Cells.find]
  | cons f r ih =>
    obtain ⟨a, w⟩ := f
    by_cases hp : p a = true
    · by_cases ha : a = j
      · subst ha; simp [Cells.find, hp]
      · simp [Cells.find, hp, ha, ih]
    · by_cases ha : a = j
      · subst ha
        simpa [hp] using ih
      · simp [Cells.find, hp, ha, ih]

theorem Cells.find_erase {α : Type} (m : Cells α) (k j : Nat) :
    Cells.find (Cells.erase m k) j = if j = k then none else Cells.find m j := by
  unfold Cells.erase
  rw [Cells.find_filter m (fun a => decide (a ≠ k)) j]
  by_cases h : j = k <;> simp [h]

theorem Cells.find_insert {α : Type} (m : Cells α) (k j : Nat) (v : α) :
    Cells.find (Cells.insert m k v) j = if j = k then some v else Cells.find m j := by
  unfold Cells.insert
  by_cases h : j = k
  · subst h
    rw [Cells.find_place_self, if_pos rfl]
    intro e he
    simp only [Cells.erase, List.mem_filter, decide_eq_true_eq] at he
    exact he.2
  · rw [Cells.find_place_other _ _ _ _ (Ne.symm h), Cells.find_erase, if_neg h, if_neg h]

/-- A read after a write of the key gives the value written, and every other key reads as before. -/
theorem Cells.get_put {α : Type} [DecidableEq α] (d : Nat → α) (m : Cells α) (k j : Nat) (v : α) :
    Cells.get d (Cells.put d m k v) j = if j = k then v else Cells.get d m j := by
  unfold Cells.get Cells.put
  split
  · rename_i hv
    rw [Cells.find_erase]
    by_cases h : j = k
    · subst h; simp [hv]
    · simp [h]
  · rw [Cells.find_insert]
    by_cases h : j = k <;> simp [h]

@[simp] theorem Cells.get_put_self {α : Type} [DecidableEq α] (d : Nat → α) (m : Cells α) (k : Nat) (v : α) :
    Cells.get d (Cells.put d m k v) k = v := by simp [Cells.get_put]

theorem Cells.get_put_other {α : Type} [DecidableEq α] (d : Nat → α) (m : Cells α) (k j : Nat) (v : α) (h : j ≠ k) :
    Cells.get d (Cells.put d m k v) j = Cells.get d m j := by simp [Cells.get_put, h]

theorem Cells.get_insert {α : Type} (d : Nat → α) (m : Cells α) (k j : Nat) (v : α) :
    Cells.get d (Cells.insert m k v) j = if j = k then v else Cells.get d m j := by
  unfold Cells.get
  rw [Cells.find_insert]
  by_cases h : j = k <;> simp [h]

theorem Cells.get_filter {α : Type} (d : Nat → α) (m : Cells α) (p : Nat → Bool) (j : Nat) :
    Cells.get d (m.filter (fun e => p e.1)) j = if p j then Cells.get d m j else d j := by
  unfold Cells.get
  rw [Cells.find_filter]
  by_cases h : p j = true <;> simp [h]

@[simp] theorem Cells.get_nil {α : Type} (d : Nat → α) (k : Nat) : Cells.get d [] k = d k := rfl

end Sys2Proof.Machine
end

