-- ==== Sys2Proof/Laws/Keeps.lean ====
section
/-!
SUPPORT. What every operation keeps: the canonical form of every memory, the factory fuse words and the queue of commands.
Keeps s0 s says that s has them as s0 has; each operation's lemma says that it keeps them.
-/

namespace Sys2Proof.Machine

/-- The kept parts over the fields that hold them. -/
structure KeepParts (s0 : State) (regs force : Cells Word) (hall : Cells Byte) (ao flash : Cells Word)
    (fuses : Cells (BitVec 64)) (pending : List Instr) : Prop where
  regsOk : Cells.canon porWord regs = true
  forceOk : Cells.canon porWord force = true
  hallOk : Cells.rising hall = true
  aoOk : Cells.canon (fun _ => 0#32) ao = true
  flashOk : Cells.canon shippedWord flash = true
  fusesOk : Cells.canon madeFuse fuses = true
  factory : ∀ i, i < 48 → Cells.get madeFuse fuses i = Cells.get madeFuse s0.fuses i
  queue : pending = s0.pending

/-- s has canonical memories, and the factory fuse words and the queue of s0. -/
def Keeps (s0 s : State) : Prop := KeepParts s0 s.regs s.force s.hall s.ao s.flash s.fuses s.pending

theorem Keeps.refl {s : State} (h : Memory.wf s = true) : Keeps s s := by
  simp only [Memory.wf, Bool.and_eq_true] at h
  exact ⟨h.1.1.1.1.1, h.1.1.1.1.2, h.1.1.1.2, h.1.1.2, h.1.2, h.2, fun _ _ => rfl, rfl⟩

theorem Keeps.wf {s0 s : State} (h : Keeps s0 s) : Memory.wf s = true := by
  simp only [Memory.wf, Bool.and_eq_true]
  exact ⟨⟨⟨⟨⟨h.regsOk, h.forceOk⟩, h.hallOk⟩, h.aoOk⟩, h.flashOk⟩, h.fusesOk⟩

theorem Keeps.sameFactory {s0 s : State} (h : Keeps s0 s) : sameFactory s0 s := fun i hi => by
  simp [State.fuseWord, h.factory i hi]

theorem Keeps.samePending {s0 s : State} (h : Keeps s0 s) : s.pending = s0.pending := h.queue

/-- A state with the kept fields of s keeps what s keeps. -/
@[simp] theorem keeps_parts (s0 s : State) :
    KeepParts s0 s.regs s.force s.hall s.ao s.flash s.fuses s.pending = Keeps s0 s := propext Iff.rfl

@[simp] theorem keeps_mk (s0 : State) (regs force metro edge hall banks hallGen ao flash fuses free pins tap flags counting ladder boot
    portA portB crossing rings fetched commits expertWait score keys sense tune jrnl intake scan pipe stave face ens pending) :
    Keeps s0 ⟨regs, force, metro, edge, hall, banks, hallGen, ao, flash, fuses, free, pins, tap, flags, counting, ladder, boot, portA, portB,
      crossing, rings, fetched, commits, expertWait, score, keys, sense, tune, jrnl, intake, scan, pipe, stave, face, ens, pending⟩ =
    KeepParts s0 regs force hall ao flash fuses pending := propext Iff.rfl

/-- A conditional keeps what both of its branches keep. -/
@[simp] theorem keeps_ite {s0 a b : State} {c : Prop} [Decidable c] (ha : Keeps s0 a) (hb : Keeps s0 b) :
    Keeps s0 (if c then a else b) := by split <;> assumption

/-- A fold of an operation that keeps keeps. -/
@[simp] theorem keeps_foldl {s0 : State} {α : Type} {f : State → α → State} (hf : ∀ s x, Keeps s0 s → Keeps s0 (f s x)) :
    ∀ (l : List α) (s : State), Keeps s0 s → Keeps s0 (l.foldl f s)
  | [], _, h => h
  | x :: l, s, h => keeps_foldl hf l (f s x) (hf s x h)

/-- A conditional pair keeps what both of its branches keep. -/
@[simp] theorem keeps_ite_snd {s0 : State} {α : Type} {a b : α × State} {c : Prop} [Decidable c] (ha : Keeps s0 a.2)
    (hb : Keeps s0 b.2) : Keeps s0 (if c then a else b).2 := by split <;> assumption

/-- A fold that carries a value beside the state keeps. -/
@[simp] theorem keeps_foldl_snd {s0 : State} {α β : Type} {f : β × State → α → β × State}
    (hf : ∀ p x, Keeps s0 p.2 → Keeps s0 (f p x).2) :
    ∀ (l : List α) (p : β × State), Keeps s0 p.2 → Keeps s0 (l.foldl f p).2
  | [], _, h => h
  | x :: l, p, h => keeps_foldl_snd hf l (f p x) (hf p x h)

/-- A fold keeps where each of its steps does, over the elements of the list. -/
theorem keeps_foldl_mem {s0 : State} {α : Type} {f : State → α → State} : ∀ (l : List α),
    (∀ s x, x ∈ l → Keeps s0 s → Keeps s0 (f s x)) → ∀ s, Keeps s0 s → Keeps s0 (l.foldl f s)
  | [], _, _, h => h
  | x :: l, hf, s, h => keeps_foldl_mem l (fun s y hy => hf s y (List.mem_cons_of_mem x hy)) (f s x)
      (hf s x List.mem_cons_self h)

end Sys2Proof.Machine
end

