-- ==== Sys2Proof/Laws/KeepsOps.lean ====
section
/-!
SUPPORT. What the operations of Machine/Ops.lean keep.
-/

namespace Sys2Proof.Machine

@[simp] theorem State.setReg_keeps {s0 s : State} (h : Keeps s0 s) (a : Nat) (v : Word) : Keeps s0 (s.setReg a v) :=
  { h with regsOk := Cells.canon_put porWord s.regs a v h.regsOk }

@[simp] theorem State.setFld_keeps {s0 s : State} (h : Keeps s0 s) (a : Nat) (hi : Nat) (lo : Nat) (v : Nat) :
    Keeps s0 (State.setFld s a hi lo v) := by
  simp (maxDischargeDepth := 40) [State.setFld, *]

@[simp] theorem State.setFlag_keeps {s0 s : State} (h : Keeps s0 s) (a : Nat) (n : Nat) (b : Bool) :
    Keeps s0 (State.setFlag s a n b) := by
  simp (maxDischargeDepth := 40) [State.setFlag, *]

@[simp] theorem State.bump_keeps {s0 s : State} (h : Keeps s0 s) (a : Nat) (hi : Nat) (lo : Nat) :
    Keeps s0 (State.bump s a hi lo) := by
  simp (maxDischargeDepth := 40) [State.bump, *]

@[simp] theorem State.bumpSat_keeps {s0 s : State} (h : Keeps s0 s) (a : Nat) (hi : Nat) (lo : Nat) :
    Keeps s0 (State.bumpSat s a hi lo) := by
  simp (maxDischargeDepth := 40) [State.bumpSat, *]

@[simp] theorem State.setForce_keeps {s0 s : State} (h : Keeps s0 s) (a : Nat) (v : Word) : Keeps s0 (s.setForce a v) :=
  { h with forceOk := Cells.canon_put porWord s.force a v h.forceOk }

@[simp] theorem State.hostSet_keeps {s0 s : State} (h : Keeps s0 s) (a : Nat) (v : Word) :
    Keeps s0 (State.hostSet s a v) := by
  simp (maxDischargeDepth := 40) [State.hostSet, *]

@[simp] theorem State.setDesk_keeps {s0 s : State} (h : Keeps s0 s) (d : Nat) (u : DeskUse) :
    Keeps s0 (State.setDesk s d u) := by
  simp (maxDischargeDepth := 40) [State.setDesk, *]

@[simp] theorem State.takeFree_keeps {s0 s : State} (h : Keeps s0 s)  :
    Keeps s0 (State.takeFree s).2 := by
  simp (maxDischargeDepth := 40) [State.takeFree, *]

@[simp] theorem State.setCore_keeps {s0 s : State} (h : Keeps s0 s) (c : CoreClock) :
    Keeps s0 (State.setCore s c) := by
  simp (maxDischargeDepth := 40) [State.setCore, *]

@[simp] theorem State.setRing_keeps {s0 s : State} (h : Keeps s0 s) (r : Nat) (v : RingSt) :
    Keeps s0 (State.setRing s r v) := by
  simp (maxDischargeDepth := 40) [State.setRing, *]

@[simp] theorem State.post_keeps {s0 s : State} (h : Keeps s0 s) (r : Nat) (e : OutEntry) :
    Keeps s0 (State.post s r e) := by
  simp (maxDischargeDepth := 40) [State.post, *]

@[simp] theorem State.setBanks_keeps {s0 s : State} (h : Keeps s0 s) (on : BitVec 48) : Keeps s0 (s.setBanks on) :=
  { h with hallOk := Cells.rising_filter s.hall _ h.hallOk }

@[simp] theorem State.powerBanks_keeps {s0 s : State} (h : Keeps s0 s)  :
    Keeps s0 (State.powerBanks s) := by
  simp (maxDischargeDepth := 40) [State.powerBanks, *]

@[simp] theorem State.putHall_keeps {s0 s : State} (h : Keeps s0 s) (a : Nat) (b : Byte) : Keeps s0 (s.putHall a b) := by
  unfold State.putHall
  split
  · exact { h with hallOk := Cells.rising_insert s.hall a b h.hallOk }
  · exact h

@[simp] theorem State.putHallBytes_keeps {s0 : State} : ∀ (bs : List Byte) {s : State}, Keeps s0 s → ∀ (a : Nat),
    Keeps s0 (s.putHallBytes a bs)
  | [], _, h, _ => h
  | b :: bs, _, h, a => State.putHallBytes_keeps bs (State.putHall_keeps h a b) (a + 1)

@[simp] theorem State.putHallWords_keeps {s0 s : State} (h : Keeps s0 s) (a : Nat) (ws : List Word) :
    Keeps s0 (s.putHallWords a ws) := State.putHallBytes_keeps _ h a

@[simp] theorem State.zeroHall_keeps {s0 s : State} (h : Keeps s0 s) (lo len : Nat) : Keeps s0 (s.zeroHall lo len) :=
  { h with hallOk := Cells.rising_fillRange s.hall lo len 0#8 h.hallOk }

@[simp] theorem State.setAo_keeps {s0 s : State} (h : Keeps s0 s) (i : Nat) (v : Word) : Keeps s0 (s.setAo i v) :=
  { h with aoOk := Cells.canon_put (fun _ => 0#32) s.ao i v h.aoOk }

@[simp] theorem State.setBuf_keeps {s0 s : State} (h : Keeps s0 s) (i : Nat) (v : Word) :
    Keeps s0 (State.setBuf s i v) := by
  simp (maxDischargeDepth := 40) [State.setBuf, *]

@[simp] theorem State.setAoWords_keeps {s0 : State} : ∀ (ws : List Word) {s : State}, Keeps s0 s → ∀ (i : Nat),
    Keeps s0 (s.setAoWords i ws)
  | [], _, h, _ => h
  | w :: ws, _, h, i => State.setAoWords_keeps ws (State.setAo_keeps h i w) (i + 1)

theorem State.blow_keeps {s0 s : State} (h : Keeps s0 s) (i : Nat) (hi : 48 ≤ i) (data : BitVec 56) (check : BitVec 8) :
    Keeps s0 (State.blow s i data check) :=
  { h with
    fusesOk := Cells.canon_put madeFuse s.fuses i _ h.fusesOk
    factory := fun j hj => by
      show Cells.get madeFuse (Cells.put madeFuse s.fuses i _) j = _
      rw [Cells.get_put_other _ _ _ _ _ (by omega)]
      exact h.factory j hj }

theorem resetCells_canon (keep : RegSpec → Word) (m : Cells Word) (h : Cells.canon porWord m = true) :
    Cells.canon porWord (resetCells keep m) = true := by
  rw [Cells.canon_iff] at *
  unfold resetCells
  refine ⟨Cells.rising_filter _ _ ?_, fun e he => by simpa using (List.mem_filter.1 he).2⟩
  rw [Cells.rising_iff, List.pairwise_map]
  refine ((Cells.rising_iff m).1 h.1).imp (fun {a b} hab => ?_)
  split <;> split <;> exact hab

@[simp] theorem State.resetCoreRegs_keeps {s0 s : State} (h : Keeps s0 s) : Keeps s0 s.resetCoreRegs :=
  { h with regsOk := resetCells_canon _ _ h.regsOk, forceOk := resetCells_canon _ _ h.forceOk }

@[simp] theorem State.resetSysRegs_keeps {s0 s : State} (h : Keeps s0 s) : Keeps s0 s.resetSysRegs :=
  { h with regsOk := resetCells_canon _ _ h.regsOk, forceOk := resetCells_canon _ _ h.forceOk }

@[simp] theorem State.undefWord_keeps {s0 s : State} (h : Keeps s0 s) (r : RegSpec) (i : Nat) :
    Keeps s0 (State.undefWord s r i) := by
  simp (maxDischargeDepth := 40) [State.undefWord, *]

@[simp] theorem State.undefRegs_keeps {s0 s : State} (h : Keeps s0 s) : Keeps s0 s.undefRegs :=
  keeps_foldl (fun _ r h => keeps_foldl (fun _ i h => State.undefWord_keeps h r i) _ _ h) _ _ h

end Sys2Proof.Machine
end

