-- ==== Sys2Proof/Laws/KeepsFlags.lean ====
section
/-!
SUPPORT. What the operations of Machine/Flags.lean keep.
-/

namespace Sys2Proof.Machine

@[simp] theorem State.setDue_keeps {s0 s : State} (h : Keeps s0 s) (f : Nat) (v : Nat) :
    Keeps s0 (State.setDue s f v) := by
  simp (maxDischargeDepth := 40) [State.setDue, *]

@[simp] theorem State.setEvPend_keeps {s0 s : State} (h : Keeps s0 s) (e : Nat) :
    Keeps s0 (State.setEvPend s e) := by
  simp (maxDischargeDepth := 40) [State.setEvPend, *]

@[simp] theorem State.deliverFlag_keeps {s0 s : State} (h : Keeps s0 s) (f : EvFlag) :
    Keeps s0 (State.deliverFlag s f) := by
  simp (maxDischargeDepth := 40) [State.deliverFlag, *]

@[simp] theorem State.deliverFlags_keeps {s0 s : State} (h : Keeps s0 s)  :
    Keeps s0 (State.deliverFlags s) := by
  simp (maxDischargeDepth := 40) +contextual [State.deliverFlags, *]

@[simp] theorem State.routeRaise_keeps {s0 s : State} (h : Keeps s0 s) (e : Nat) (arg : Word) :
    Keeps s0 (State.routeRaise s e arg) := by
  simp (maxDischargeDepth := 40) [State.routeRaise, *]

@[simp] theorem State.countUp_keeps {s0 s : State} (h : Keeps s0 s) (c : Nat) (n : Nat) :
    Keeps s0 (State.countUp s c n) := by
  simp (maxDischargeDepth := 40) [State.countUp, *]

@[simp] theorem State.countEvent_keeps {s0 s : State} (h : Keeps s0 s) (e : Nat) :
    Keeps s0 (State.countEvent s e) := by
  simp (maxDischargeDepth := 40) +contextual [State.countEvent, *]

@[simp] theorem State.raise_keeps {s0 s : State} (h : Keeps s0 s) (e : Nat) (arg : Word) :
    Keeps s0 (State.raise s e arg) := by
  simp (maxDischargeDepth := 40) [State.raise, *]

@[simp] theorem State.countInput_keeps {s0 s : State} (h : Keeps s0 s) (e : Nat) (arg : Word) (ti : Nat) :
    Keeps s0 (State.countInput e arg s ti) := by
  simp (maxDischargeDepth := 40) [State.countInput, *]

@[simp] theorem State.markEvals_keeps {s0 s : State} (h : Keeps s0 s) (fs : List Nat) :
    Keeps s0 (State.markEvals s fs) := by
  simp (maxDischargeDepth := 40) [State.markEvals, *]

@[simp] theorem State.countRaise_keeps {s0 s : State} (h : Keeps s0 s) (r : Raise) :
    Keeps s0 (State.countRaise s r) := by
  simp (maxDischargeDepth := 40) +contextual [State.countRaise, *]

@[simp] theorem State.countRaises_keeps {s0 s : State} (h : Keeps s0 s) : Keeps s0 (State.countRaises s) := by
  simp (maxDischargeDepth := 40) +contextual [State.countRaises, *]

@[simp] theorem State.evalField_keeps {s0 s : State} (h : Keeps s0 s) (forced : Bool) (f : Nat) :
    Keeps s0 (State.evalField forced s f) := by
  simp (maxDischargeDepth := 40) [State.evalField, *]

@[simp] theorem State.dropEntry_keeps {s0 s : State} (h : Keeps s0 s) (r : Nat) :
    Keeps s0 (State.dropEntry s r) := by
  simp (maxDischargeDepth := 40) [State.dropEntry, *]

@[simp] theorem State.unpostEvent_keeps {s0 s : State} (h : Keeps s0 s) (e : OutEntry) :
    Keeps s0 (State.unpostEvent s e) := by
  cases e <;> simp (maxDischargeDepth := 40) [State.unpostEvent, *]

@[simp] theorem State.unqueue_keeps {s0 s : State} (h : Keeps s0 s) (r : Nat) :
    Keeps s0 (State.unqueue s r) := by
  unfold State.unqueue
  refine keeps_foldl (fun u e hu => ?_) _ _ ?_
  · cases e <;> simp (maxDischargeDepth := 40) [*]
  · simp (maxDischargeDepth := 40) [*]

@[simp] theorem State.haltRing_keeps {s0 s : State} (h : Keeps s0 s) (r : Nat) (cause : Nat) :
    Keeps s0 (State.haltRing s r cause) := by
  simp (maxDischargeDepth := 40) [State.haltRing, *]

@[simp] theorem State.postDropping_keeps {s0 s : State} (h : Keeps s0 s) (r : Nat) (e : OutEntry) :
    Keeps s0 (State.postDropping s r e) := by
  simp (maxDischargeDepth := 40) [State.postDropping, *]

@[simp] theorem State.touchHall_keeps {s0 s : State} (h : Keeps s0 s) (a : Nat) (len : Nat) :
    Keeps s0 (State.touchHall s a len) := by
  unfold State.touchHall
  refine keeps_foldl (fun t x ht => ?_) _ _ ?_
  all_goals try dsimp only
  all_goals repeat' split
  all_goals simp (maxDischargeDepth := 40) +contextual [*]

end Sys2Proof.Machine
end

