-- ==== Sys2Proof/Laws/KeepsOperands.lean ====
section
/-!
SUPPORT. What the operations of Machine/Operands.lean keep.
-/

namespace Sys2Proof.Machine

@[simp] theorem State.finish_keeps {s0 s : State} (h : Keeps s0 s) (r : Nat) :
    Keeps s0 (State.finish s r) := by
  simp only [State.finish]
  repeat' split
  all_goals simp (maxDischargeDepth := 40) +contextual [*]

@[simp] theorem State.complete_keeps {s0 s : State} (h : Keeps s0 s) (v : Verb) (st : Status) (res : List Word) :
    Keeps s0 (State.complete s v st res) := by
  simp (maxDischargeDepth := 40) [State.complete, *]

@[simp] theorem State.await_keeps {s0 s : State} (h : Keeps s0 s) (v : Verb) (w : Wait) (timeout : Nat) :
    Keeps s0 (State.await s v w timeout) := by
  simp (maxDischargeDepth := 40) [State.await, *]

@[simp] theorem State.defer_keeps {s0 s : State} (h : Keeps s0 s) (v : Verb) (w : Wait) (timeout : Nat) :
    Keeps s0 (State.defer s v w timeout) := by
  simp (maxDischargeDepth := 40) [State.defer, *]

@[simp] theorem State.completeRing_keeps {s0 s : State} (h : Keeps s0 s) (r : Nat) (st : Status) (res : List Word) :
    Keeps s0 (State.completeRing s r st res) := by
  unfold State.completeRing
  split <;> simp (maxDischargeDepth := 40) [*]

@[simp] theorem State.completeAll_keeps {s0 s : State} (h : Keeps s0 s) (w : Wait) (st : Status) (res : List Word) :
    Keeps s0 (State.completeAll s w st res) := by
  simp (maxDischargeDepth := 40) +contextual [State.completeAll, *]

@[simp] theorem State.runVerb_keeps {s0 s : State} (h : Keeps s0 s) (r : Nat) (code : Nat) (right : Right) (argsOk : State → Verb → Bool) (body : State → Verb → State) (hbody : ∀ y0 y1, Keeps s0 y0 → Keeps s0 (body y0 y1)) :
    Keeps s0 (State.runVerb s r code right argsOk body) := by
  unfold State.runVerb
  split <;> simp (maxDischargeDepth := 40) [*]

end Sys2Proof.Machine
end

