-- ==== Sys2Proof/Laws/KeepsCue.lean ====
section
/-!
SUPPORT. What the operations of Machine/Cue.lean keep.
-/

namespace Sys2Proof.Machine

@[simp] theorem State.emptyRing_keeps {s0 s : State} (h : Keeps s0 s) (r : Nat) :
    Keeps s0 (State.emptyRing s r) := by
  simp (maxDischargeDepth := 40) [State.emptyRing, *]

@[simp] theorem State.joinPeers_keeps {s0 s : State} (h : Keeps s0 s) (r : Nat) :
    Keeps s0 (State.joinPeers s r) := by
  simp (maxDischargeDepth := 40) +contextual [State.joinPeers, *]

@[simp] theorem State.enableRing_keeps {s0 s : State} (h : Keeps s0 s) (r : Nat) (byZero : Bool) :
    Keeps s0 (State.enableRing s r byZero) := by
  simp (maxDischargeDepth := 40) [State.enableRing, *]

@[simp] theorem State.fillDone_keeps {s0 s : State} (h : Keeps s0 s) (r : Nat) :
    Keeps s0 (State.fillDone s r) := by
  unfold State.fillDone
  split <;> simp (maxDischargeDepth := 40) [*]

@[simp] theorem State.endFences_keeps {s0 s : State} (h : Keeps s0 s) (r : Nat) (st : Status) :
    Keeps s0 (State.endFences s r st) := by
  simp (maxDischargeDepth := 40) +contextual [State.endFences, *]

@[simp] theorem State.messageDone_keeps {s0 s : State} (h : Keeps s0 s) (r : Nat) (st : Status) :
    Keeps s0 (State.messageDone s r st) := by
  unfold State.messageDone
  repeat' split
  all_goals simp (maxDischargeDepth := 40) [*]

@[simp] theorem State.dropMessages_keeps {s0 s : State} (h : Keeps s0 s) (r : Nat) :
    Keeps s0 (State.dropMessages s r) := by
  unfold State.dropMessages
  refine keeps_foldl (fun u e hu => ?_) _ _ ?_
  · cases e <;> simp (maxDischargeDepth := 40) [*]
  · simp (maxDischargeDepth := 40) [*]

@[simp] theorem State.disableRing_keeps {s0 s : State} (h : Keeps s0 s) (r : Nat) : Keeps s0 (s.disableRing r) := by
  unfold State.disableRing
  extract_lets q left s1 y s2 s3
  have h1 : Keeps s0 s1 := State.setRing_keeps (State.setFlag_keeps h _ _ _) _ _
  have h2 : Keeps s0 s2 := h1
  have h3 : Keeps s0 s3 := State.endFences_keeps (State.dropMessages_keeps (State.unqueue_keeps h2 r) r) r _
  split
  · exact State.completeRing_keeps h3 _ _ _
  · exact h3

@[simp] theorem State.tryDisable_keeps {s0 s : State} (h : Keeps s0 s) (r : Nat) :
    Keeps s0 (State.tryDisable s r) := by
  simp (maxDischargeDepth := 40) [State.tryDisable, *]

@[simp] theorem State.setRingPend_keeps {s0 s : State} (h : Keeps s0 s) (r : Nat) (b : Bool) :
    Keeps s0 (State.setRingPend s r b) := by
  simp (maxDischargeDepth := 40) [State.setRingPend, *]

@[simp] theorem State.signalRing_keeps {s0 s : State} (h : Keeps s0 s) (r : Nat) :
    Keeps s0 (State.signalRing s r) := by
  simp (maxDischargeDepth := 40) [State.signalRing, *]

@[simp] theorem State.testCount_keeps {s0 s : State} (h : Keeps s0 s) (r : Nat) :
    Keeps s0 (State.testCount s r) := by
  simp (maxDischargeDepth := 40) [State.testCount, *]

@[simp] theorem State.writeRingPlain_keeps {s0 s : State} (h : Keeps s0 s) (r : Nat) (w : Nat) (v : Word) :
    Keeps s0 (State.writeRingPlain s r w v) := by
  simp (maxDischargeDepth := 40) [State.writeRingPlain, *]

@[simp] theorem State.writeRingOn_keeps {s0 s : State} (h : Keeps s0 s) (r : Nat) (v : Word) (byZero : Bool) :
    Keeps s0 (State.writeRingOn s r v byZero) := by
  simp (maxDischargeDepth := 40) [State.writeRingOn, *]

@[simp] theorem State.writeRingOff_keeps {s0 s : State} (h : Keeps s0 s) (r : Nat) (v : Word) :
    Keeps s0 (State.writeRingOff s r v) := by
  simp (maxDischargeDepth := 40) [State.writeRingOff, *]

@[simp] theorem State.doorbell_keeps {s0 s : State} (h : Keeps s0 s) (r : Nat) (v : Word) :
    Keeps s0 (State.doorbell s r v) := by
  simp (maxDischargeDepth := 40) [State.doorbell, *]

@[simp] theorem State.fetch_keeps {s0 s : State} (h : Keeps s0 s) (r : Nat) :
    Keeps s0 (State.fetch s r) := by
  simp (maxDischargeDepth := 40) [State.fetch, *]

@[simp] theorem State.layEntry_keeps {s0 s : State} (h : Keeps s0 s) (r : Nat) (e : OutEntry) :
    Keeps s0 (State.layEntry s r e) := by
  simp (maxDischargeDepth := 40) [State.layEntry, *]

@[simp] theorem State.countEntry_keeps {s0 s : State} (h : Keeps s0 s) (r : Nat) :
    Keeps s0 (State.countEntry s r) := by
  simp (maxDischargeDepth := 40) [State.countEntry, *]

@[simp] theorem State.leaveSlot_keeps {s0 s : State} (h : Keeps s0 s) (r : Nat) (i : Nat) :
    Keeps s0 (State.leaveSlot s r i) := by
  unfold State.leaveSlot
  split <;> simp (maxDischargeDepth := 40) [*]

@[simp] theorem State.finishEntry_keeps {s0 s : State} (h : Keeps s0 s) (e : OutEntry) :
    Keeps s0 (State.finishEntry s e) := by
  unfold State.finishEntry
  split <;> simp (maxDischargeDepth := 40) [*]

@[simp] theorem State.writeEntry_keeps {s0 s : State} (h : Keeps s0 s) (r : Nat) :
    Keeps s0 (State.writeEntry s r) := by
  unfold State.writeEntry
  repeat' split
  all_goals simp (maxDischargeDepth := 40) +contextual [*]

@[simp] theorem State.resumeRing_keeps {s0 s : State} (h : Keeps s0 s) (r : Nat) (skip : Bool) :
    Keeps s0 (State.resumeRing s r skip) := by
  simp (maxDischargeDepth := 40) [State.resumeRing, *]

theorem execNop_keeps {s0 s t : State} (h : Keeps s0 s) (ring : BitVec 8)
    (e : execNop ring s = .next t) : Keeps s0 t := by
  simp only [execNop, Host.Outcome.next.injEq] at e
  subst e
  simp (maxDischargeDepth := 40) +contextual [*]

theorem execEcho_keeps {s0 s t : State} (h : Keeps s0 s) (ring : BitVec 8)
    (e : execEcho ring s = .next t) : Keeps s0 t := by
  simp only [execEcho, Host.Outcome.next.injEq] at e
  subst e
  simp (maxDischargeDepth := 40) +contextual [*]

@[simp] theorem State.fence_keeps {s0 s : State} (h : Keeps s0 s) (v : Verb) :
    Keeps s0 (State.fence s v) := by
  simp (maxDischargeDepth := 40) [State.fence, *]

theorem execFence_keeps {s0 s t : State} (h : Keeps s0 s) (ring : BitVec 8)
    (e : execFence ring s = .next t) : Keeps s0 t := by
  simp only [execFence, Host.Outcome.next.injEq] at e
  subst e
  simp (maxDischargeDepth := 40) +contextual [*]

theorem execFenceComplete_keeps {s0 s t : State} (h : Keeps s0 s) (ring : BitVec 8)
    (e : execFenceComplete ring s = .next t) : Keeps s0 t := by
  simp only [execFenceComplete, Host.Outcome.next.injEq] at e
  subst e
  repeat' split
  all_goals simp (maxDischargeDepth := 40) +contextual [*]

theorem execFenceTimeout_keeps {s0 s t : State} (h : Keeps s0 s) (ring : BitVec 8)
    (e : execFenceTimeout ring s = .next t) : Keeps s0 t := by
  simp only [execFenceTimeout, Host.Outcome.next.injEq] at e
  subst e
  repeat' split
  all_goals simp (maxDischargeDepth := 40) +contextual [*]

@[simp] theorem State.ringSetup_keeps {s0 s : State} (h : Keeps s0 s) (v : Verb) :
    Keeps s0 (State.ringSetup s v) := by
  simp (maxDischargeDepth := 40) [State.ringSetup, *]

theorem execRingSetup_keeps {s0 s t : State} (h : Keeps s0 s) (ring : BitVec 8)
    (e : execRingSetup ring s = .next t) : Keeps s0 t := by
  simp only [execRingSetup, Host.Outcome.next.injEq] at e
  subst e
  simp (maxDischargeDepth := 40) +contextual [*]

@[simp] theorem State.ringStop_keeps {s0 s : State} (h : Keeps s0 s) (v : Verb) :
    Keeps s0 (State.ringStop s v) := by
  simp (maxDischargeDepth := 40) [State.ringStop, *]

theorem execRingStop_keeps {s0 s t : State} (h : Keeps s0 s) (ring : BitVec 8)
    (e : execRingStop ring s = .next t) : Keeps s0 t := by
  simp only [execRingStop, Host.Outcome.next.injEq] at e
  subst e
  simp (maxDischargeDepth := 40) +contextual [*]

@[simp] theorem State.resumeVerb_keeps {s0 s : State} (h : Keeps s0 s) (v : Verb) :
    Keeps s0 (State.resumeVerb s v) := by
  simp (maxDischargeDepth := 40) [State.resumeVerb, *]

theorem execResume_keeps {s0 s t : State} (h : Keeps s0 s) (ring : BitVec 8)
    (e : execResume ring s = .next t) : Keeps s0 t := by
  simp only [execResume, Host.Outcome.next.injEq] at e
  subst e
  simp (maxDischargeDepth := 40) +contextual [*]

@[simp] theorem State.eventRoute_keeps {s0 s : State} (h : Keeps s0 s) (v : Verb) :
    Keeps s0 (State.eventRoute s v) := by
  simp (maxDischargeDepth := 40) +contextual [State.eventRoute, *]

theorem execEventRoute_keeps {s0 s t : State} (h : Keeps s0 s) (ring : BitVec 8)
    (e : execEventRoute ring s = .next t) : Keeps s0 t := by
  simp only [execEventRoute, Host.Outcome.next.injEq] at e
  subst e
  simp (maxDischargeDepth := 40) +contextual [*]

theorem execIrqAck_keeps {s0 s t : State} (h : Keeps s0 s) (ring : BitVec 8)
    (e : execIrqAck ring s = .next t) : Keeps s0 t := by
  simp only [execIrqAck, Host.Outcome.next.injEq] at e
  subst e
  simp (maxDischargeDepth := 40) +contextual [*]

theorem execEntryWrite_keeps {s0 s t : State} (h : Keeps s0 s) (ring : BitVec 8)
    (e : execEntryWrite ring s = .next t) : Keeps s0 t := by
  simp only [execEntryWrite, Host.Outcome.next.injEq] at e
  subst e
  simp (maxDischargeDepth := 40) [*]

@[simp] theorem State.sendMessage_keeps {s0 s : State} (h : Keeps s0 s) (r : Nat) :
    Keeps s0 (State.sendMessage s r) := by
  unfold State.sendMessage
  split <;> simp (maxDischargeDepth := 40) [*]

theorem execMessageSend_keeps {s0 s t : State} (h : Keeps s0 s) (ring : BitVec 8)
    (e : execMessageSend ring s = .next t) : Keeps s0 t := by
  simp only [execMessageSend, Host.Outcome.next.injEq] at e
  subst e
  simp (maxDischargeDepth := 40) [*]

theorem execCoalTicksExpiry_keeps {s0 s t : State} (h : Keeps s0 s) (ring : BitVec 8)
    (e : execCoalTicksExpiry ring s = .next t) : Keeps s0 t := by
  simp only [execCoalTicksExpiry, Host.Outcome.next.injEq] at e
  subst e
  simp (maxDischargeDepth := 40) [*]

theorem execRingFillDone_keeps {s0 s t : State} (h : Keeps s0 s) (ring : BitVec 8)
    (e : execRingFillDone ring s = .next t) : Keeps s0 t := by
  simp only [execRingFillDone, Host.Outcome.next.injEq] at e
  subst e
  simp (maxDischargeDepth := 40) [*]

end Sys2Proof.Machine
end

