-- ==== Sys2Proof/Laws/KeepsAccess.lean ====
section
/-!
SUPPORT. What the operations of Machine/Access.lean keep.
-/

namespace Sys2Proof.Machine

@[simp] theorem State.refuse_keeps {s0 s : State} (h : Keeps s0 s) (port : Port) (write : Bool) (client : Nat) (off : Nat) (cause : Nat) :
    Keeps s0 (State.refuse s port write client off cause) := by
  simp (maxDischargeDepth := 40) [State.refuse, *]

@[simp] theorem State.setPort_keeps {s0 s : State} (h : Keeps s0 s) (p : Port) (v : PortSt) :
    Keeps s0 (State.setPort s p v) := by
  unfold State.setPort
  split <;> simp (maxDischargeDepth := 40) [*]

@[simp] theorem State.cross_keeps {s0 s : State} (h : Keeps s0 s) (p : Port) :
    Keeps s0 (State.cross s p) := by
  unfold State.cross
  repeat' split
  all_goals simp (maxDischargeDepth := 40) [*]

@[simp] theorem State.crossAll_keeps {s0 s : State} (h : Keeps s0 s) :
    Keeps s0 (State.crossAll s) := by
  simp (maxDischargeDepth := 40) +contextual [State.crossAll, *]

@[simp] theorem State.crossTick_keeps {s0 s : State} (h : Keeps s0 s) :
    Keeps s0 (State.crossTick s) := by
  simp (maxDischargeDepth := 40) [State.crossTick, *]

theorem State.frontWord_keeps {s0 s t : State} (h : Keeps s0 s) {p : Port} {f : BufWord → Bool} {w : BufWord}
    (e : s.frontWord p f = some (w, t)) : Keeps s0 t := by
  unfold State.frontWord at e
  split at e
  · split at e
    · simp only [Option.some.injEq, Prod.mk.injEq] at e
      rw [← e.2]
      exact State.crossAll_keeps (State.setPort_keeps h _ _)
    · cases e
  · cases e

theorem State.nextWord_keeps {s0 s t : State} (h : Keeps s0 s) {p : Port} {f : BufWord → Bool} {w : BufWord}
    (e : s.nextWord p f = some (w, t)) : Keeps s0 t := by
  unfold State.nextWord at e
  split at e
  · split at e
    · simp only [Option.some.injEq, Prod.mk.injEq] at e
      rw [← e.2]
      exact State.crossAll_keeps h
    · exact State.frontWord_keeps h e
  · exact State.frontWord_keeps h e

@[simp] theorem State.modeExpert_keeps {s0 s : State} (h : Keeps s0 s) (p : Nat) (c : Nat) :
    Keeps s0 (State.modeExpert s p c) := by
  simp (maxDischargeDepth := 40) [State.modeExpert, *]

@[simp] theorem State.modeBasic_keeps {s0 s : State} (h : Keeps s0 s) (p : Nat) :
    Keeps s0 (State.modeBasic s p) := by
  simp (maxDischargeDepth := 40) [State.modeBasic, *]

@[simp] theorem State.applyBasic_keeps {s0 s : State} (h : Keeps s0 s) (p : Nat) :
    Keeps s0 (State.applyBasic s p) := by
  simp (maxDischargeDepth := 40) [State.applyBasic, *]

theorem execModeExpertTakeEffect_keeps {s0 s t : State} (h : Keeps s0 s) (page : BitVec 4)
    (e : execModeExpertTakeEffect page s = .next t) : Keeps s0 t := by
  simp only [execModeExpertTakeEffect, Host.Outcome.next.injEq] at e
  subst e
  simp (maxDischargeDepth := 40) [*]

@[simp] theorem State.writePadPull_keeps {s0 s : State} (h : Keeps s0 s) (v : Word) :
    Keeps s0 (State.writePadPull s v) := by
  simp (maxDischargeDepth := 40) [State.writePadPull, *]

theorem execPadSet_keeps {s0 s t : State} (h : Keeps s0 s) (ring : BitVec 8)
    (e : execPadSet ring s = .next t) : Keeps s0 t := by
  simp only [execPadSet, Host.Outcome.next.injEq] at e
  subst e
  simp (maxDischargeDepth := 40) +contextual [*]

theorem execPortConfig_keeps {s0 s t : State} (h : Keeps s0 s) (ring : BitVec 8)
    (e : execPortConfig ring s = .next t) : Keeps s0 t := by
  simp only [execPortConfig, Host.Outcome.next.injEq] at e
  subst e
  simp (maxDischargeDepth := 40) +contextual [*]

theorem execPermSet_keeps {s0 s t : State} (h : Keeps s0 s) (ring : BitVec 8)
    (e : execPermSet ring s = .next t) : Keeps s0 t := by
  simp only [execPermSet, Host.Outcome.next.injEq] at e
  subst e
  simp (maxDischargeDepth := 40) +contextual [*]

@[simp] theorem State.lockPerms_keeps {s0 s : State} (h : Keeps s0 s) (auto : Bool) :
    Keeps s0 (State.lockPerms s auto) := by
  simp (maxDischargeDepth := 40) [State.lockPerms, *]

theorem execPermLock_keeps {s0 s t : State} (h : Keeps s0 s) (ring : BitVec 8)
    (e : execPermLock ring s = .next t) : Keeps s0 t := by
  simp only [execPermLock, Host.Outcome.next.injEq] at e
  subst e
  simp (maxDischargeDepth := 40) +contextual [*]

theorem execPermAutoLock_keeps {s0 s t : State} (h : Keeps s0 s) 
    (e : execPermAutoLock s = .next t) : Keeps s0 t := by
  simp only [execPermAutoLock, Host.Outcome.next.injEq] at e
  subst e
  simp (maxDischargeDepth := 40) [*]

theorem execErrClear_keeps {s0 s t : State} (h : Keeps s0 s) (ring : BitVec 8)
    (e : execErrClear ring s = .next t) : Keeps s0 t := by
  simp only [execErrClear, Host.Outcome.next.injEq] at e
  subst e
  simp (maxDischargeDepth := 40) +contextual [*]

end Sys2Proof.Machine
end

