-- ==== Sys2Proof/Laws/KeepsHallLeases.lean ====
section
/-!
SUPPORT. What the operations of Machine/HallLeases.lean keep.
-/

namespace Sys2Proof.Machine

@[simp] theorem State.enableLease_keeps {s0 s : State} (h : Keeps s0 s) (l : Nat) :
    Keeps s0 (State.enableLease s l) := by
  simp (maxDischargeDepth := 40) [State.enableLease, *]

@[simp] theorem State.writeLease0_keeps {s0 s : State} (h : Keeps s0 s) (l : Nat) (v : Word) :
    Keeps s0 (State.writeLease0 s l v) := by
  simp (maxDischargeDepth := 40) [State.writeLease0, *]

@[simp] theorem State.writeLeaseOn_keeps {s0 s : State} (h : Keeps s0 s) (l : Nat) (v : Word) :
    Keeps s0 (State.writeLeaseOn s l v) := by
  simp (maxDischargeDepth := 40) [State.writeLeaseOn, *]

@[simp] theorem State.writeLeaseOff_keeps {s0 s : State} (h : Keeps s0 s) (l : Nat) (v : Word) :
    Keeps s0 (State.writeLeaseOff s l v) := by
  simp (maxDischargeDepth := 40) [State.writeLeaseOff, *]

@[simp] theorem State.hallLease_keeps {s0 s : State} (h : Keeps s0 s) (v : Verb) :
    Keeps s0 (State.hallLease s v) := by
  simp (maxDischargeDepth := 40) [State.hallLease, *]

theorem execHallLease_keeps {s0 s t : State} (h : Keeps s0 s) (ring : BitVec 8)
    (e : execHallLease ring s = .next t) : Keeps s0 t := by
  simp only [execHallLease, Host.Outcome.next.injEq] at e
  subst e
  simp (maxDischargeDepth := 40) +contextual [*]

end Sys2Proof.Machine
end

