-- ==== Sys2Proof/Laws/KeepsJournalFlash.lean ====
section
/-!
SUPPORT. What the operations of Machine/JournalFlash.lean keep.
-/

namespace Sys2Proof.Machine

@[simp] theorem State.setJrnl_keeps {s0 s : State} (h : Keeps s0 s) (j : Jrnl) :
    Keeps s0 (State.setJrnl s j) := by
  simp (maxDischargeDepth := 40) [State.setJrnl, *]

@[simp] theorem State.chargeWord_keeps {s0 s : State} (h : Keeps s0 s) (a : Nat) (v weak : Word) :
    Keeps s0 (s.chargeWord a v weak) :=
  { h with flashOk := Cells.canon_put shippedWord s.flash a _ h.flashOk }

@[simp] theorem State.programWord_keeps {s0 s : State} (h : Keeps s0 s) (a : Nat) (v : Word) :
    Keeps s0 (State.programWord s a v) := by
  simp (maxDischargeDepth := 40) [State.programWord, *]

theorem Cells.canon_insert {α : Type} [DecidableEq α] (d : Nat → α) (m : Cells α) (k : Nat) (v : α)
    (h : Cells.canon d m = true) (hv : v ≠ d k) : Cells.canon d (Cells.insert m k v) = true := by
  have := Cells.canon_put d m k v h
  rwa [Cells.put, if_neg hv] at this

theorem erased_ne_shipped (p w : Nat) (hw : w < 3) : erasedWord ≠ shippedWord (1024 * p + w) := by
  have hm : (1024 * p + w) % 1024 = w := by omega
  unfold shippedWord
  rw [hm]
  obtain rfl | rfl | rfl : w = 0 ∨ w = 1 ∨ w = 2 := by omega
  all_goals decide

@[simp] theorem State.clearSector_keeps {s0 s : State} (h : Keeps s0 s) (p : Nat) : Keeps s0 (s.clearSector p) :=
  { h with
    flashOk := Cells.canon_insert _ _ _ _ (Cells.canon_insert _ _ _ _ (Cells.canon_insert _ _ _ _
      (Cells.canon_filter _ _ _ h.flashOk) (erased_ne_shipped p 0 (by decide))) (erased_ne_shipped p 1 (by decide)))
      (erased_ne_shipped p 2 (by decide)) }

@[simp] theorem State.blankSector_keeps {s0 s : State} (h : Keeps s0 s) (p : Nat) :
    Keeps s0 (State.blankSector s p) := by
  simp (maxDischargeDepth := 40) [State.blankSector, *]

@[simp] theorem State.tearSector_keeps {s0 s : State} (h : Keeps s0 s) (p : Nat) :
    Keeps s0 (State.tearSector s p) := by
  simp (maxDischargeDepth := 40) [State.tearSector, *]

@[simp] theorem State.reject_keeps {s0 s : State} (h : Keeps s0 s) (r : RecAt) (reason : Nat) :
    Keeps s0 (State.reject s r reason) := by
  simp (maxDischargeDepth := 40) [State.reject, *]

@[simp] theorem State.configRecs_keeps {s0 s : State} (h : Keeps s0 s) (type : Nat) (profile : Nat) (payloadOk : List Byte → Bool) :
    Keeps s0 (State.configRecs s type profile payloadOk).2 := by
  simp (maxDischargeDepth := 40) +contextual [State.configRecs, *]

@[simp] theorem State.setDurable_keeps {s0 s : State} (h : Keeps s0 s) (c : Nat) (v : Nat) :
    Keeps s0 (State.setDurable s c v) := by
  simp (maxDischargeDepth := 40) [State.setDurable, *]

end Sys2Proof.Machine
end

