-- ==== Sys2Proof/Laws/KeepsJournal.lean ====
section
/-!
SUPPORT. What the operations of Machine/Journal.lean keep.
-/

namespace Sys2Proof.Machine

@[simp] theorem State.addItem_keeps {s0 s : State} (h : Keeps s0 s) (prio : Nat) (ops : List JOp) (origin : JOrigin) :
    Keeps s0 (State.addItem s prio ops origin) := by
  simp (maxDischargeDepth := 40) [State.addItem, *]

@[simp] theorem State.putItem_keeps {s0 s : State} (h : Keeps s0 s) (i : JItem) :
    Keeps s0 (State.putItem s i) := by
  simp (maxDischargeDepth := 40) [State.putItem, *]

@[simp] theorem State.dropItem_keeps {s0 s : State} (h : Keeps s0 s) (id : Nat) :
    Keeps s0 (State.dropItem s id) := by
  simp (maxDischargeDepth := 40) [State.dropItem, *]

@[simp] theorem State.setOps_keeps {s0 s : State} (h : Keeps s0 s) (i : JItem) (ops : List JOp) :
    Keeps s0 (State.setOps s i ops) := by
  simp (maxDischargeDepth := 40) [State.setOps, *]

@[simp] theorem State.publishCmd_keeps {s0 s : State} (h : Keeps s0 s) (st : Status) (res : List Word) :
    Keeps s0 (State.publishCmd s st res) := by
  simp (maxDischargeDepth := 40) +contextual [State.publishCmd, *]

@[simp] theorem State.answerOrigin_keeps {s0 s : State} (h : Keeps s0 s) (o : JOrigin) (st : Status) (res : List Word) :
    Keeps s0 (State.answerOrigin s o st res) := by
  unfold State.answerOrigin
  split <;> simp (maxDischargeDepth := 40) [*]

@[simp] theorem State.tellDeferred_keeps {s0 s : State} (h : Keeps s0 s) (i : JItem) :
    Keeps s0 (State.tellDeferred s i) := by
  simp only [State.tellDeferred]
  repeat' split
  all_goals simp (maxDischargeDepth := 40) +contextual [*]

@[simp] theorem State.finishItem_keeps {s0 s : State} (h : Keeps s0 s) (i : JItem) (st : Status) (res : List Word) :
    Keeps s0 (State.finishItem s i st res) := by
  simp (maxDischargeDepth := 40) [State.finishItem, *]

@[simp] theorem State.placeRec_keeps {s0 s : State} (h : Keeps s0 s) (i : JItem) (rest : List JOp) (r : JRec) (why : JWhy) (p : Nat) (off : Nat) :
    Keeps s0 (State.placeRec s i rest r why p off) := by
  simp (maxDischargeDepth := 40) [State.placeRec, *]

@[simp] theorem State.appendStep_keeps {s0 s : State} (h : Keeps s0 s) (i : JItem) (rest : List JOp) (r : JRec) (why : JWhy) :
    Keeps s0 (State.appendStep s i rest r why) := by
  unfold State.appendStep
  repeat' split
  all_goals simp (maxDischargeDepth := 40) +contextual [*]

@[simp] theorem State.tellSpares_keeps {s0 s : State} (h : Keeps s0 s) :
    Keeps s0 (State.tellSpares s) := by
  simp (maxDischargeDepth := 40) [State.tellSpares, *]

@[simp] theorem State.switchStrip_keeps {s0 s : State} (h : Keeps s0 s) (c : Nat) (body : List Word) :
    Keeps s0 (State.switchStrip s c body) := by
  simp only [State.switchStrip]
  repeat' split
  all_goals simp (maxDischargeDepth := 40) +contextual [*]

@[simp] theorem State.recordDone_keeps {s0 s : State} (h : Keeps s0 s) (i : JItem) (rest : List JOp) (r : JRec) (why : JWhy) (p : Nat) (off : Nat) :
    Keeps s0 (State.recordDone s i rest r why p off) := by
  unfold State.recordDone
  split <;> simp (maxDischargeDepth := 40) [*]

@[simp] theorem State.goReadonly_keeps {s0 s : State} (h : Keeps s0 s) (p : Nat) :
    Keeps s0 (State.goReadonly s p) := by
  simp (maxDischargeDepth := 40) +contextual [State.goReadonly, *]

@[simp] theorem State.retireStep_keeps {s0 s : State} (h : Keeps s0 s) (i : JItem) (rest : List JOp) (p : Nat) (cause : Nat) :
    Keeps s0 (State.retireStep s i rest p cause) := by
  simp (maxDischargeDepth := 40) [State.retireStep, *]

@[simp] theorem State.assignStep_keeps {s0 s : State} (h : Keeps s0 s) (i : JItem) (rest : List JOp) (p : Nat) (cause : Nat) (x : Nat) :
    Keeps s0 (State.assignStep s i rest p cause x) := by
  unfold State.assignStep
  split <;> simp (maxDischargeDepth := 40) [*]

@[simp] theorem State.verbStep_keeps {s0 s : State} (h : Keeps s0 s) (i : JItem) (code : Nat) (args : List Word) (owner : Nat) (payload : List Word) :
    Keeps s0 (State.verbStep s i code args owner payload) := by
  unfold State.verbStep
  repeat' split
  all_goals simp (maxDischargeDepth := 40) +contextual [*]

@[simp] theorem State.instantStep_keeps {s0 s : State} (h : Keeps s0 s) (i : JItem) (op : JOp) (rest : List JOp) :
    Keeps s0 (State.instantStep s i op rest) := by
  simp only [State.instantStep]
  repeat' split
  all_goals simp (maxDischargeDepth := 40) +contextual [*]

@[simp] theorem State.markDeferred_keeps {s0 s : State} (h : Keeps s0 s)  :
    Keeps s0 (State.markDeferred s) := by
  unfold State.markDeferred
  refine keeps_foldl (fun t x ht => ?_) _ _ ?_
  all_goals repeat' split
  all_goals simp (maxDischargeDepth := 40) +contextual [*]

@[simp] theorem State.kickN_keeps {s0 : State} : ∀ (n : Nat) {s : State}, Keeps s0 s → Keeps s0 (State.kickN n s)
  | 0, _, h => h
  | n + 1, s, h => by
    unfold State.kickN
    have ih : ∀ {t : State}, Keeps s0 t → Keeps s0 (State.kickN n t) := State.kickN_keeps n
    repeat' split
    all_goals simp (maxDischargeDepth := 40) [*]

@[simp] theorem State.kick_keeps {s0 s : State} (h : Keeps s0 s) : Keeps s0 s.kick :=
  State.markDeferred_keeps (State.kickN_keeps _ h)

@[simp] theorem State.retire_keeps {s0 s : State} (h : Keeps s0 s) (p : Nat) (cause : Nat) :
    Keeps s0 (State.retire s p cause) := by
  simp (maxDischargeDepth := 40) [State.retire, *]

@[simp] theorem State.verifyFailure_keeps {s0 s : State} (h : Keeps s0 s) (p : Nat) :
    Keeps s0 (State.verifyFailure s p) := by
  simp (maxDischargeDepth := 40) [State.verifyFailure, *]

@[simp] theorem State.bitsBegun_keeps {s0 s : State} (h : Keeps s0 s) (c : Nat) (n : Nat) :
    Keeps s0 (State.bitsBegun s c n) := by
  simp (maxDischargeDepth := 40) [State.bitsBegun, *]

theorem execCounterProgram_keeps {s0 s t : State} (h : Keeps s0 s) (begun : Word)
    (e : execCounterProgram begun s = .next t) : Keeps s0 t := by
  simp only [execCounterProgram, Host.Outcome.next.injEq] at e
  subst e
  repeat' split
  all_goals simp (maxDischargeDepth := 40) +contextual [*]

@[simp] theorem State.endWord_keeps {s0 s : State} (h : Keeps s0 s) (a : Nat) (v : Word) (verified : Bool) (begun : Word) :
    Keeps s0 (State.endWord s a v verified begun) := by
  simp (maxDischargeDepth := 40) [State.endWord, *]

@[simp] theorem State.wordDone_keeps {s0 s : State} (h : Keeps s0 s) (verified : Bool) (begun : Word) :
    Keeps s0 (State.wordDone s verified begun) := by
  simp only [State.wordDone]
  repeat' split
  all_goals simp (maxDischargeDepth := 40) +contextual [*]

theorem execWordProgramDone_keeps {s0 s t : State} (h : Keeps s0 s) (verified : Bool) (begun : Word)
    (e : execWordProgramDone verified begun s = .next t) : Keeps s0 t := by
  simp only [execWordProgramDone, Host.Outcome.next.injEq] at e
  subst e
  simp (maxDischargeDepth := 40) [*]

@[simp] theorem State.awaitErase_keeps {s0 s : State} (h : Keeps s0 s) (ps : List Nat) :
    Keeps s0 (State.awaitErase s ps) := by
  simp (maxDischargeDepth := 40) [State.awaitErase, *]

@[simp] theorem State.beginErase_keeps {s0 s : State} (h : Keeps s0 s) (i : JItem) (p : Nat) (rest : List JOp) :
    Keeps s0 (State.beginErase s i p rest) := by
  simp only [State.beginErase]
  repeat' split
  all_goals simp (maxDischargeDepth := 40) [*]

@[simp] theorem State.eraseStart_keeps {s0 s : State} (h : Keeps s0 s)  :
    Keeps s0 (State.eraseStart s) := by
  unfold State.eraseStart
  repeat' split
  all_goals simp (maxDischargeDepth := 40) +contextual [*]

theorem execEraseStart_keeps {s0 s t : State} (h : Keeps s0 s) 
    (e : execEraseStart s = .next t) : Keeps s0 t := by
  simp only [execEraseStart, Host.Outcome.next.injEq] at e
  subst e
  simp (maxDischargeDepth := 40) [*]

@[simp] theorem State.pulseDone_keeps {s0 s : State} (h : Keeps s0 s) (blank : Bool) :
    Keeps s0 (State.pulseDone s blank) := by
  simp only [State.pulseDone]
  repeat' split
  all_goals simp (maxDischargeDepth := 40) +contextual [*]

theorem execErasePulseDone_keeps {s0 s t : State} (h : Keeps s0 s) (blank : Bool)
    (e : execErasePulseDone blank s = .next t) : Keeps s0 t := by
  simp only [execErasePulseDone, Host.Outcome.next.injEq] at e
  subst e
  simp (maxDischargeDepth := 40) [*]

theorem execCounterFlushTimer_keeps {s0 s t : State} (h : Keeps s0 s) 
    (e : execCounterFlushTimer s = .next t) : Keeps s0 t := by
  simp only [execCounterFlushTimer, Host.Outcome.next.injEq] at e
  subst e
  simp (maxDischargeDepth := 40) [*]

theorem execCounterRollover_keeps {s0 s t : State} (h : Keeps s0 s) 
    (e : execCounterRollover s = .next t) : Keeps s0 t := by
  simp only [execCounterRollover, Host.Outcome.next.injEq] at e
  subst e
  repeat' split
  all_goals simp (maxDischargeDepth := 40) +contextual [*]

theorem execCompaction_keeps {s0 s t : State} (h : Keeps s0 s) 
    (e : execCompaction s = .next t) : Keeps s0 t := by
  simp only [execCompaction, Host.Outcome.next.injEq] at e
  subst e
  repeat' split
  all_goals simp (maxDischargeDepth := 40) +contextual [*]

@[simp] theorem State.queueVerb_keeps {s0 s : State} (h : Keeps s0 s) (v : Verb) (o : JOrigin) :
    Keeps s0 (State.queueVerb s v o) := by
  simp (maxDischargeDepth := 40) [State.queueVerb, *]

@[simp] theorem State.journalVerb_keeps {s0 s : State} (h : Keeps s0 s) (v : Verb) :
    Keeps s0 (State.journalVerb s v) := by
  simp (maxDischargeDepth := 40) [State.journalVerb, *]

@[simp] theorem State.runJournal_keeps {s0 s : State} (h : Keeps s0 s) (r : Nat) (code : Nat) :
    Keeps s0 (State.runJournal s r code) := by
  simp (maxDischargeDepth := 40) +contextual [State.runJournal, *]

theorem execJrnlAppend_keeps {s0 s t : State} (h : Keeps s0 s) (ring : BitVec 8)
    (e : execJrnlAppend ring s = .next t) : Keeps s0 t := by
  simp only [execJrnlAppend, Host.Outcome.next.injEq] at e
  subst e
  simp (maxDischargeDepth := 40) [*]

theorem execJrnlRead_keeps {s0 s t : State} (h : Keeps s0 s) (ring : BitVec 8)
    (e : execJrnlRead ring s = .next t) : Keeps s0 t := by
  simp only [execJrnlRead, Host.Outcome.next.injEq] at e
  subst e
  simp (maxDischargeDepth := 40) [*]

theorem execJrnlFind_keeps {s0 s t : State} (h : Keeps s0 s) (ring : BitVec 8)
    (e : execJrnlFind ring s = .next t) : Keeps s0 t := by
  simp only [execJrnlFind, Host.Outcome.next.injEq] at e
  subst e
  simp (maxDischargeDepth := 40) [*]

theorem execJrnlDelete_keeps {s0 s t : State} (h : Keeps s0 s) (ring : BitVec 8)
    (e : execJrnlDelete ring s = .next t) : Keeps s0 t := by
  simp only [execJrnlDelete, Host.Outcome.next.injEq] at e
  subst e
  simp (maxDischargeDepth := 40) [*]

theorem execJrnlCompact_keeps {s0 s t : State} (h : Keeps s0 s) (ring : BitVec 8)
    (e : execJrnlCompact ring s = .next t) : Keeps s0 t := by
  simp only [execJrnlCompact, Host.Outcome.next.injEq] at e
  subst e
  simp (maxDischargeDepth := 40) [*]

theorem execCounterSetup_keeps {s0 s t : State} (h : Keeps s0 s) (ring : BitVec 8)
    (e : execCounterSetup ring s = .next t) : Keeps s0 t := by
  simp only [execCounterSetup, Host.Outcome.next.injEq] at e
  subst e
  simp (maxDischargeDepth := 40) [*]

theorem execCounterAdd_keeps {s0 s t : State} (h : Keeps s0 s) (ring : BitVec 8)
    (e : execCounterAdd ring s = .next t) : Keeps s0 t := by
  simp only [execCounterAdd, Host.Outcome.next.injEq] at e
  subst e
  simp (maxDischargeDepth := 40) [*]

theorem execCounterRead_keeps {s0 s t : State} (h : Keeps s0 s) (ring : BitVec 8)
    (e : execCounterRead ring s = .next t) : Keeps s0 t := by
  simp only [execCounterRead, Host.Outcome.next.injEq] at e
  subst e
  simp (maxDischargeDepth := 40) [*]

theorem execCounterFlush_keeps {s0 s t : State} (h : Keeps s0 s) (ring : BitVec 8)
    (e : execCounterFlush ring s = .next t) : Keeps s0 t := by
  simp only [execCounterFlush, Host.Outcome.next.injEq] at e
  subst e
  simp (maxDischargeDepth := 40) [*]

@[simp] theorem State.writeJrnlCmd_keeps {s0 s : State} (h : Keeps s0 s) (val : Word) :
    Keeps s0 (State.writeJrnlCmd s val) := by
  simp (maxDischargeDepth := 40) [State.writeJrnlCmd, *]

@[simp] theorem State.resetJournal_keeps {s0 s : State} (h : Keeps s0 s)  :
    Keeps s0 (State.resetJournal s) := by
  simp (maxDischargeDepth := 40) [State.resetJournal, *]

@[simp] theorem State.repairJournal_keeps {s0 s : State} (h : Keeps s0 s)  :
    Keeps s0 (State.repairJournal s) := by
  simp (maxDischargeDepth := 40) +contextual [State.repairJournal, *]

@[simp] theorem State.cutJournal_keeps {s0 s : State} (h : Keeps s0 s)  :
    Keeps s0 (State.cutJournal s) := by
  simp only [State.cutJournal]
  repeat' split
  all_goals simp (maxDischargeDepth := 40) +contextual [*]

@[simp] theorem State.runJournalN_keeps {s0 : State} (pulses : Nat) : ∀ (n : Nat) {s : State}, Keeps s0 s →
    Keeps s0 (State.runJournalN pulses n s)
  | 0, _, h => h
  | n + 1, s, h => by
    unfold State.runJournalN
    have ih : ∀ {t : State}, Keeps s0 t → Keeps s0 (State.runJournalN pulses n t) := State.runJournalN_keeps pulses n
    split
    · exact ih (State.pulseDone_keeps h _)
    · exact ih (State.wordDone_keeps h _ _)
    · dsimp only
      split
      · exact ih (State.eraseStart_keeps h)
      · exact h

@[simp] theorem State.healStrip_keeps {s0 s : State} (h : Keeps s0 s) (p : Nat) :
    Keeps s0 (State.healStrip s p) := by
  simp (maxDischargeDepth := 40) [State.healStrip, *]

@[simp] theorem State.rebuildCounter_keeps {s0 s : State} (h : Keeps s0 s) (c : Nat) :
    Keeps s0 (State.rebuildCounter s c) := by
  simp only [State.rebuildCounter]
  repeat' split
  all_goals simp (maxDischargeDepth := 40) +contextual [*]

@[simp] theorem State.bootJournal_keeps {s0 s : State} (h : Keeps s0 s) (pulses : Nat) :
    Keeps s0 (State.bootJournal s pulses) := by
  simp (maxDischargeDepth := 40) +contextual [State.bootJournal, *]

end Sys2Proof.Machine
end

