-- ==== Sys2Proof/Laws/KeepsCommit.lean ====
section
/-!
SUPPORT. What the operations of Machine/Commit.lean keep.
-/

namespace Sys2Proof.Machine

@[simp] theorem State.setPending_keeps {s0 s : State} (h : Keeps s0 s) (page : Nat) (b : Bool) :
    Keeps s0 (State.setPending s page b) := by
  simp (maxDischargeDepth := 40) [State.setPending, *]

@[simp] theorem State.addCommit_keeps {s0 s : State} (h : Keeps s0 s) (page : Nat) (ring : Option Nat) :
    Keeps s0 (State.addCommit s page ring) := by
  simp (maxDischargeDepth := 40) [State.addCommit, *]

@[simp] theorem State.goCommit_keeps {s0 s : State} (h : Keeps s0 s) (page : Nat) :
    Keeps s0 (State.goCommit s page) := by
  simp (maxDischargeDepth := 40) [State.goCommit, *]

@[simp] theorem State.verbCommit_keeps {s0 s : State} (h : Keeps s0 s) (v : Verb) (page : Nat) (result : Option Nat) :
    Keeps s0 (State.verbCommit s v page result) := by
  simp (maxDischargeDepth := 40) [State.verbCommit, *]

@[simp] theorem State.writeShadow_keeps {s0 s : State} (h : Keeps s0 s) (a : Nat) (v : Word) :
    Keeps s0 (State.writeShadow s a v) := by
  simp (maxDischargeDepth := 40) [State.writeShadow, *]

@[simp] theorem State.stage_keeps {s0 s : State} (h : Keeps s0 s) (a : Nat) (v : Word) :
    Keeps s0 (State.stage s a v) := by
  simp (maxDischargeDepth := 40) [State.stage, *]

@[simp] theorem State.applyShadow_keeps {s0 s : State} (h : Keeps s0 s) (page : Nat) : Keeps s0 (s.applyShadow page) :=
  keeps_foldl (fun _ e h => State.setForce_keeps h e.1 e.2) _ _
    { h with forceOk := Cells.canon_filter porWord s.force _ h.forceOk }

@[simp] theorem State.answerCommit_keeps {s0 s : State} (h : Keeps s0 s) (q : BoundaryReq) (st : Status) (res : List Word) :
    Keeps s0 (State.answerCommit s q st res) := by
  unfold State.answerCommit
  repeat' split
  all_goals simp (maxDischargeDepth := 40) +contextual [*]

@[simp] theorem State.stageEntry_keeps {s0 s : State} (h : Keeps s0 s) (v : Verb) :
    Keeps s0 (State.stageEntry s v) := by
  simp (maxDischargeDepth := 40) +contextual [State.stageEntry, *]

@[simp] theorem State.stageVerb_keeps {s0 s : State} (h : Keeps s0 s) (v : Verb) (page : Nat) :
    Keeps s0 (State.stageVerb s v page) := by
  simp (maxDischargeDepth := 40) [State.stageVerb, *]

@[simp] theorem State.serveStaging_keeps {s0 s : State} (h : Keeps s0 s) (page : Nat) :
    Keeps s0 (State.serveStaging s page) := by
  unfold State.serveStaging
  refine keeps_foldl (fun t x ht => ?_) _ _ ?_
  all_goals repeat' split
  all_goals simp (maxDischargeDepth := 40) +contextual [*]

@[simp] theorem State.endCommit_keeps {s0 s : State} (h : Keeps s0 s) (page : Nat) (st : Status) (res : List Word) :
    Keeps s0 (State.endCommit s page st res) := by
  simp (maxDischargeDepth := 40) +contextual [State.endCommit, *]

@[simp] theorem State.serveCommits_keeps {s0 s : State} (h : Keeps s0 s) (pages : List Nat) (apply : State → Nat → State) (happly : ∀ y0 y1, Keeps s0 y0 → Keeps s0 (apply y0 y1)) :
    Keeps s0 (State.serveCommits s pages apply) := by
  simp (maxDischargeDepth := 40) +contextual [State.serveCommits, *]

end Sys2Proof.Machine
end

