-- ==== Sys2Proof/Laws/KeepsLadder.lean ====
section
/-!
SUPPORT. What the operations of Machine/Ladder.lean keep.
-/

namespace Sys2Proof.Machine

@[simp] theorem State.setCur_keeps {s0 s : State} (h : Keeps s0 s) (c : Nat) :
    Keeps s0 (State.setCur s c) := by
  simp (maxDischargeDepth := 40) [State.setCur, *]

@[simp] theorem State.setTgt_keeps {s0 s : State} (h : Keeps s0 s) (t : Nat) :
    Keeps s0 (State.setTgt s t) := by
  simp (maxDischargeDepth := 40) [State.setTgt, *]

@[simp] theorem State.settleRung_keeps {s0 s : State} (h : Keeps s0 s)  :
    Keeps s0 (State.settleRung s) := by
  simp (maxDischargeDepth := 40) [State.settleRung, *]

@[simp] theorem State.endMove_keeps {s0 s : State} (h : Keeps s0 s)  :
    Keeps s0 (State.endMove s) := by
  simp (maxDischargeDepth := 40) [State.endMove, *]

@[simp] theorem State.answerMove_keeps {s0 s : State} (h : Keeps s0 s) (st : Status) (res : List Word) :
    Keeps s0 (State.answerMove s st res) := by
  unfold State.answerMove
  split <;> simp (maxDischargeDepth := 40) [*]

@[simp] theorem State.reachTarget_keeps {s0 s : State} (h : Keeps s0 s)  :
    Keeps s0 (State.reachTarget s) := by
  simp (maxDischargeDepth := 40) [State.reachTarget, *]

@[simp] theorem State.waitForMove_keeps {s0 s : State} (h : Keeps s0 s) (r : Nat) :
    Keeps s0 (State.waitForMove s r) := by
  unfold State.waitForMove
  split <;> simp (maxDischargeDepth := 40) [*]

@[simp] theorem State.request_keeps {s0 s : State} (h : Keeps s0 s) (target : Nat) (cause : MoveCause) (ring : Option Nat) :
    Keeps s0 (State.request s target cause ring) := by
  unfold State.request
  split <;> simp (maxDischargeDepth := 40) [*]

@[simp] theorem State.endBurst_keeps {s0 s : State} (h : Keeps s0 s)  :
    Keeps s0 (State.endBurst s) := by
  simp (maxDischargeDepth := 40) [State.endBurst, *]

@[simp] theorem State.wdogRestart_keeps {s0 s : State} (h : Keeps s0 s)  :
    Keeps s0 (State.wdogRestart s) := by
  simp (maxDischargeDepth := 40) [State.wdogRestart, *]

@[simp] theorem State.wake_keeps {s0 s : State} (h : Keeps s0 s) (b : Nat) :
    Keeps s0 (State.wake s b) := by
  simp (maxDischargeDepth := 40) [State.wake, *]

@[simp] theorem State.tellWake_keeps {s0 s : State} (h : Keeps s0 s) : Keeps s0 (State.tellWake s) := by
  unfold State.tellWake
  split <;> simp (maxDischargeDepth := 40) [*]

@[simp] theorem State.applyCeil_keeps {s0 s : State} (h : Keeps s0 s)  :
    Keeps s0 (State.applyCeil s) := by
  simp (maxDischargeDepth := 40) [State.applyCeil, *]

@[simp] theorem State.writeLadderReq_keeps {s0 s : State} (h : Keeps s0 s) (v : Word) :
    Keeps s0 (State.writeLadderReq s v) := by
  simp (maxDischargeDepth := 40) [State.writeLadderReq, *]

theorem execLadderTune_keeps {s0 s t : State} (h : Keeps s0 s) (ring : BitVec 8)
    (e : execLadderTune ring s = .next t) : Keeps s0 t := by
  simp only [execLadderTune, Host.Outcome.next.injEq] at e
  subst e
  simp (maxDischargeDepth := 40) +contextual [*]

@[simp] theorem State.writeBurstCfg_keeps {s0 s : State} (h : Keeps s0 s) (v : Word) :
    Keeps s0 (State.writeBurstCfg s v) := by
  simp (maxDischargeDepth := 40) [State.writeBurstCfg, *]

theorem execAlarmSet_keeps {s0 s t : State} (h : Keeps s0 s) (ring : BitVec 8)
    (e : execAlarmSet ring s = .next t) : Keeps s0 t := by
  simp only [execAlarmSet, Host.Outcome.next.injEq] at e
  subst e
  simp (maxDischargeDepth := 40) +contextual [*]

theorem execIdleTimer_keeps {s0 s t : State} (h : Keeps s0 s) 
    (e : execIdleTimer s = .next t) : Keeps s0 t := by
  simp only [execIdleTimer, Host.Outcome.next.injEq] at e
  subst e
  simp (maxDischargeDepth := 40) [*]

theorem execHostSelectWake_keeps {s0 s t : State} (h : Keeps s0 s) (_port : Port)
    (e : execHostSelectWake _port s = .next t) : Keeps s0 t := by
  simp only [execHostSelectWake, Host.Outcome.next.injEq] at e
  subst e
  simp (maxDischargeDepth := 40) [*]

@[simp] theorem State.alarmMatch_keeps {s0 s : State} (h : Keeps s0 s)  :
    Keeps s0 (State.alarmMatch s) := by
  simp (maxDischargeDepth := 40) [State.alarmMatch, *]

theorem execAlarmMatch_keeps {s0 s t : State} (h : Keeps s0 s) 
    (e : execAlarmMatch s = .next t) : Keeps s0 t := by
  simp only [execAlarmMatch, Host.Outcome.next.injEq] at e
  subst e
  simp (maxDischargeDepth := 40) [*]

theorem execTokenRefill_keeps {s0 s t : State} (h : Keeps s0 s) 
    (e : execTokenRefill s = .next t) : Keeps s0 t := by
  simp only [execTokenRefill, Host.Outcome.next.injEq] at e
  subst e
  simp (maxDischargeDepth := 40) [*]

end Sys2Proof.Machine
end

