-- ==== Sys2Proof/Laws/KeepsScore.lean ====
section
/-!
SUPPORT. What the operations of Machine/Score.lean keep.
-/

namespace Sys2Proof.Machine

@[simp] theorem State.setTask_keeps {s0 s : State} (h : Keeps s0 s) (t : Nat) (v : TaskSt) :
    Keeps s0 (State.setTask s t v) := by
  simp (maxDischargeDepth := 40) [State.setTask, *]

@[simp] theorem State.setPc_keeps {s0 s : State} (h : Keeps s0 s) (t : Nat) (i : Nat) :
    Keeps s0 (State.setPc s t i) := by
  simp (maxDischargeDepth := 40) [State.setPc, *]

@[simp] theorem State.setTaskState_keeps {s0 s : State} (h : Keeps s0 s) (t : Nat) (c : Nat) :
    Keeps s0 (State.setTaskState s t c) := by
  simp (maxDischargeDepth := 40) [State.setTaskState, *]

@[simp] theorem State.answerHalts_keeps {s0 s : State} (h : Keeps s0 s)  :
    Keeps s0 (State.answerHalts s) := by
  unfold State.answerHalts
  refine keeps_foldl (fun t x ht => ?_) _ _ ?_
  all_goals repeat' split
  all_goals simp (maxDischargeDepth := 40) +contextual [*]

@[simp] theorem State.setBus_keeps {s0 s : State} (h : Keeps s0 s) (b : Nat) (q : List BusXfer) :
    Keeps s0 (State.setBus s b q) := by
  simp (maxDischargeDepth := 40) [State.setBus, *]

@[simp] theorem State.leaveBus_keeps {s0 s : State} (h : Keeps s0 s) (b : Nat) (x : BusXfer) :
    Keeps s0 (State.leaveBus s b x) := by
  simp (maxDischargeDepth := 40) [State.leaveBus, *]

@[simp] theorem State.dropXfers_keeps {s0 s : State} (h : Keeps s0 s) (t : Nat) :
    Keeps s0 (State.dropXfers s t) := by
  unfold State.dropXfers
  refine keeps_foldl (fun u b hu => ?_) _ _ h
  split <;> simp (maxDischargeDepth := 40) [*]

@[simp] theorem State.haltTask_keeps {s0 s : State} (h : Keeps s0 s) (t : Nat) (cause : Nat) :
    Keeps s0 (State.haltTask s t cause) := by
  simp (maxDischargeDepth := 40) [State.haltTask, *]

@[simp] theorem State.startTask_keeps {s0 s : State} (h : Keeps s0 s) (t : Nat) :
    Keeps s0 (State.startTask s t) := by
  simp (maxDischargeDepth := 40) [State.startTask, *]

@[simp] theorem State.startTasks_keeps {s0 s : State} (h : Keeps s0 s) (m : Nat) :
    Keeps s0 (State.startTasks s m) := by
  simp (maxDischargeDepth := 40) +contextual [State.startTasks, *]

@[simp] theorem State.malformed_keeps {s0 s : State} (h : Keeps s0 s) (t : Nat) :
    Keeps s0 (State.malformed s t) := by
  simp (maxDischargeDepth := 40) [State.malformed, *]

@[simp] theorem State.taskFault_keeps {s0 s : State} (h : Keeps s0 s) (t : Nat) (cause : Nat) :
    Keeps s0 (State.taskFault s t cause) := by
  simp (maxDischargeDepth := 40) [State.taskFault, *]

@[simp] theorem State.stepTo_keeps {s0 s : State} (h : Keeps s0 s) (t : Nat) (i : Nat) :
    Keeps s0 (State.stepTo s t i) := by
  simp (maxDischargeDepth := 40) [State.stepTo, *]

@[simp] theorem State.stepOn_keeps {s0 s : State} (h : Keeps s0 s) (t : Nat) :
    Keeps s0 (State.stepOn s t) := by
  simp (maxDischargeDepth := 40) [State.stepOn, *]

@[simp] theorem State.countStep_keeps {s0 s : State} (h : Keeps s0 s) (t : Nat) :
    Keeps s0 (State.countStep s t) := by
  simp (maxDischargeDepth := 40) [State.countStep, *]

@[simp] theorem State.runStep_keeps {s0 s : State} (h : Keeps s0 s) (t : Nat) (op : Nat) (named : Word) (bad : State → Word → Bool) (body : State → Word → State) (hbody : ∀ y0 y1, Keeps s0 y0 → Keeps s0 (body y0 y1)) :
    Keeps s0 (State.runStep s t op named bad body) := by
  simp (maxDischargeDepth := 40) [State.runStep, *]

@[simp] theorem State.samplePin_keeps {s0 s : State} (h : Keeps s0 s) (n : Nat) (level : Bool) :
    Keeps s0 (State.samplePin s n level) := by
  simp (maxDischargeDepth := 40) [State.samplePin, *]

@[simp] theorem State.drivePseq_keeps {s0 s : State} (h : Keeps s0 s) (n : Nat) (level : Bool) :
    Keeps s0 (State.drivePseq s n level) := by
  simp (maxDischargeDepth := 40) [State.drivePseq, *]

theorem execHaltStep_keeps {s0 s t : State} (h : Keeps s0 s) (task : BitVec 4)
    (e : execHaltStep task s = .next t) : Keeps s0 t := by
  simp only [execHaltStep, Host.Outcome.next.injEq] at e
  subst e
  simp (maxDischargeDepth := 40) +contextual [*]

theorem execSetPin_keeps {s0 s t : State} (h : Keeps s0 s) (task : BitVec 4)
    (e : execSetPin task s = .next t) : Keeps s0 t := by
  simp only [execSetPin, Host.Outcome.next.injEq] at e
  subst e
  simp (maxDischargeDepth := 40) +contextual [*]

@[simp] theorem State.waitStep_keeps {s0 s : State} (h : Keeps s0 s) (t : Nat) :
    Keeps s0 (State.waitStep s t) := by
  simp (maxDischargeDepth := 40) [State.waitStep, *]

@[simp] theorem State.waitUntil_keeps {s0 s : State} (h : Keeps s0 s) (t : Nat) (w : Word) (holds : Bool) (done : State)
    (hd : Keeps s0 done) : Keeps s0 (State.waitUntil s t w holds done) := by
  simp (maxDischargeDepth := 40) [State.waitUntil, *]

@[simp] theorem State.waitPin_keeps {s0 s : State} (h : Keeps s0 s) (t : Nat) (level : Bool) (w : Word) :
    Keeps s0 (State.waitPin t level s w) := by
  simp (maxDischargeDepth := 40) [State.waitPin, *]

theorem execWaitPin_keeps {s0 s t : State} (h : Keeps s0 s) (task : BitVec 4) (level : Bool)
    (e : execWaitPin task level s = .next t) : Keeps s0 t := by
  simp only [execWaitPin, Host.Outcome.next.injEq] at e
  subst e
  simp (maxDischargeDepth := 40) +contextual [*]

theorem execWaitTicks_keeps {s0 s t : State} (h : Keeps s0 s) (task : BitVec 4)
    (e : execWaitTicks task s = .next t) : Keeps s0 t := by
  simp only [execWaitTicks, Host.Outcome.next.injEq] at e
  subst e
  simp (maxDischargeDepth := 40) +contextual [*]

@[simp] theorem State.setInput_keeps {s0 s : State} (h : Keeps s0 s) (t : Nat) (i : Nat) (n : Nat) :
    Keeps s0 (State.setInput s t i n) := by
  simp (maxDischargeDepth := 40) [State.setInput, *]

@[simp] theorem State.waitInput_keeps {s0 s : State} (h : Keeps s0 s) (t : Nat) (w : Word) :
    Keeps s0 (State.waitInput t s w) := by
  simp (maxDischargeDepth := 40) [State.waitInput, *]

theorem execWaitInput_keeps {s0 s t : State} (h : Keeps s0 s) (task : BitVec 4)
    (e : execWaitInput task s = .next t) : Keeps s0 t := by
  simp only [execWaitInput, Host.Outcome.next.injEq] at e
  subst e
  simp (maxDischargeDepth := 40) +contextual [*]

@[simp] theorem State.clearOvf_keeps {s0 s : State} (h : Keeps s0 s) (t : Nat) :
    Keeps s0 (State.clearOvf s t) := by
  simp (maxDischargeDepth := 40) [State.clearOvf, *]

theorem execClearInput_keeps {s0 s t : State} (h : Keeps s0 s) (task : BitVec 4)
    (e : execClearInput task s = .next t) : Keeps s0 t := by
  simp only [execClearInput, Host.Outcome.next.injEq] at e
  subst e
  simp (maxDischargeDepth := 40) +contextual [*]

theorem execRaiseEvent_keeps {s0 s t : State} (h : Keeps s0 s) (task : BitVec 4)
    (e : execRaiseEvent task s = .next t) : Keeps s0 t := by
  simp only [execRaiseEvent, Host.Outcome.next.injEq] at e
  subst e
  simp (maxDischargeDepth := 40) +contextual [*]

@[simp] theorem State.postSample_keeps {s0 s : State} (h : Keeps s0 s) (t : Nat) (step : Nat) (data : List Byte) :
    Keeps s0 (State.postSample s t step data) := by
  simp (maxDischargeDepth := 40) [State.postSample, *]

theorem execPostCue_keeps {s0 s t : State} (h : Keeps s0 s) (task : BitVec 4)
    (e : execPostCue task s = .next t) : Keeps s0 t := by
  simp only [execPostCue, Host.Outcome.next.injEq] at e
  subst e
  simp (maxDischargeDepth := 40) +contextual [*]

theorem execBranchIf_keeps {s0 s t : State} (h : Keeps s0 s) (task : BitVec 4) (level : Bool)
    (e : execBranchIf task level s = .next t) : Keeps s0 t := by
  simp only [execBranchIf, Host.Outcome.next.injEq] at e
  subst e
  simp (maxDischargeDepth := 40) +contextual [*]

theorem execCallStep_keeps {s0 s t : State} (h : Keeps s0 s) (task : BitVec 4)
    (e : execCallStep task s = .next t) : Keeps s0 t := by
  simp only [execCallStep, Host.Outcome.next.injEq] at e
  subst e
  simp (maxDischargeDepth := 40) +contextual [*]

theorem execReturnStep_keeps {s0 s t : State} (h : Keeps s0 s) (task : BitVec 4)
    (e : execReturnStep task s = .next t) : Keeps s0 t := by
  simp only [execReturnStep, Host.Outcome.next.injEq] at e
  subst e
  simp (maxDischargeDepth := 40) +contextual [*]

theorem execLoopStep_keeps {s0 s t : State} (h : Keeps s0 s) (task : BitVec 4)
    (e : execLoopStep task s = .next t) : Keeps s0 t := by
  simp only [execLoopStep, Host.Outcome.next.injEq] at e
  subst e
  simp (maxDischargeDepth := 40) +contextual [*]

theorem execScoreWaitTimeout_keeps {s0 s t : State} (h : Keeps s0 s) (sample : WaitSample)
    (e : execScoreWaitTimeout sample s = .next t) : Keeps s0 t := by
  simp only [execScoreWaitTimeout, Host.Outcome.next.injEq] at e
  subst e
  simp (maxDischargeDepth := 40) +contextual [*]

@[simp] theorem State.logBus_keeps {s0 s : State} (h : Keeps s0 s) (b : Nat) (t : Nat) (target : Nat) (cause : Nat) :
    Keeps s0 (State.logBus s b t target cause) := by
  simp (maxDischargeDepth := 40) [State.logBus, *]

@[simp] theorem State.queueBus_keeps {s0 s : State} (h : Keeps s0 s) (t : Nat) (w : Word) (read : Bool) (toRing : Bool) :
    Keeps s0 (State.queueBus s t w read toRing) := by
  simp (maxDischargeDepth := 40) [State.queueBus, *]

theorem execI2cWrite_keeps {s0 s t : State} (h : Keeps s0 s) (task : BitVec 4)
    (e : execI2cWrite task s = .next t) : Keeps s0 t := by
  simp only [execI2cWrite, Host.Outcome.next.injEq] at e
  subst e
  simp (maxDischargeDepth := 40) +contextual [*]

theorem execI2cRead_keeps {s0 s t : State} (h : Keeps s0 s) (task : BitVec 4)
    (e : execI2cRead task s = .next t) : Keeps s0 t := by
  simp only [execI2cRead, Host.Outcome.next.injEq] at e
  subst e
  simp (maxDischargeDepth := 40) +contextual [*]

theorem execI2cReadToRing_keeps {s0 s t : State} (h : Keeps s0 s) (task : BitVec 4)
    (e : execI2cReadToRing task s = .next t) : Keeps s0 t := by
  simp only [execI2cReadToRing, Host.Outcome.next.injEq] at e
  subst e
  simp (maxDischargeDepth := 40) +contextual [*]

theorem execSpiXfer_keeps {s0 s t : State} (h : Keeps s0 s) (task : BitVec 4)
    (e : execSpiXfer task s = .next t) : Keeps s0 t := by
  simp only [execSpiXfer, Host.Outcome.next.injEq] at e
  subst e
  simp (maxDischargeDepth := 40) +contextual [*]

theorem execSpiXferToRing_keeps {s0 s t : State} (h : Keeps s0 s) (task : BitVec 4)
    (e : execSpiXferToRing task s = .next t) : Keeps s0 t := by
  simp only [execSpiXferToRing, Host.Outcome.next.injEq] at e
  subst e
  simp (maxDischargeDepth := 40) +contextual [*]

@[simp] theorem State.busFault_keeps {s0 s : State} (h : Keeps s0 s) (b : Nat) (x : BusXfer) (cause : Nat) :
    Keeps s0 (State.busFault s b x cause) := by
  simp (maxDischargeDepth := 40) [State.busFault, *]

@[simp] theorem State.recordBus_keeps {s0 s : State} (h : Keeps s0 s) (b : Nat) (x : BusXfer) (data : List Byte) (outcome : BusOutcome) (pulses : Bool) :
    Keeps s0 (State.recordBus s b x data outcome pulses) := by
  unfold State.recordBus
  repeat' split
  all_goals simp (maxDischargeDepth := 40) [*]

@[simp] theorem State.busEnded_keeps {s0 s : State} (h : Keeps s0 s) (b : Nat) (x : BusXfer) (e : BusEnd) :
    Keeps s0 (State.busEnded s b x e) := by
  simp (maxDischargeDepth := 40) [State.busEnded, *]

@[simp] theorem State.busDone_keeps {s0 s : State} (h : Keeps s0 s) (b : Nat) (x : BusXfer) (bytes : List Byte) :
    Keeps s0 (State.busDone s b x bytes) := by
  simp (maxDischargeDepth := 40) [State.busDone, *]

theorem execBusTransferEnd_keeps {s0 s t : State} (h : Keeps s0 s) (bus : BitVec 2) (outcome : BusOutcome) (recovered : Bool) (data : List Byte)
    (e : execBusTransferEnd bus outcome recovered data s = .next t) : Keeps s0 t := by
  simp only [execBusTransferEnd, Host.Outcome.next.injEq] at e
  subst e
  repeat' split
  all_goals simp (maxDischargeDepth := 40) +contextual [*]

@[simp] theorem State.endBusStep_keeps {s0 s : State} (h : Keeps s0 s) (t : Nat) :
    Keeps s0 (State.endBusStep s t) := by
  unfold State.endBusStep
  repeat' split
  all_goals simp (maxDischargeDepth := 40) [*]

@[simp] theorem State.endBusSteps_keeps {s0 s : State} (h : Keeps s0 s) :
    Keeps s0 (State.endBusSteps s) := by
  simp (maxDischargeDepth := 40) +contextual [State.endBusSteps, *]

theorem execBusStepTimeout_keeps {s0 s t : State} (h : Keeps s0 s) (task : BitVec 4)
    (e : execBusStepTimeout task s = .next t) : Keeps s0 t := by
  simp only [execBusStepTimeout, Host.Outcome.next.injEq] at e
  subst e
  repeat' split
  all_goals simp (maxDischargeDepth := 40) +contextual [*]

@[simp] theorem State.cutBuses_keeps {s0 s : State} (h : Keeps s0 s)  :
    Keeps s0 (State.cutBuses s) := by
  unfold State.cutBuses
  refine keeps_foldl (fun t x ht => ?_) _ _ ?_
  all_goals repeat' split
  all_goals simp (maxDischargeDepth := 40) +contextual [*]

theorem execSintEdge_keeps {s0 s t : State} (h : Keeps s0 s) (input : BitVec 2) (rising : Bool)
    (e : execSintEdge input rising s = .next t) : Keeps s0 t := by
  simp only [execSintEdge, Host.Outcome.next.injEq] at e
  subst e
  simp (maxDischargeDepth := 40) [*]

theorem execTaskStart_keeps {s0 s t : State} (h : Keeps s0 s) (ring : BitVec 8)
    (e : execTaskStart ring s = .next t) : Keeps s0 t := by
  simp only [execTaskStart, Host.Outcome.next.injEq] at e
  subst e
  simp (maxDischargeDepth := 40) +contextual [*]

@[simp] theorem State.stopTask_keeps {s0 s : State} (h : Keeps s0 s) (t : Nat) :
    Keeps s0 (State.stopTask s t) := by
  unfold State.stopTask
  repeat' split
  all_goals simp (maxDischargeDepth := 40) +contextual [*]

theorem execTaskHalt_keeps {s0 s t : State} (h : Keeps s0 s) (ring : BitVec 8)
    (e : execTaskHalt ring s = .next t) : Keeps s0 t := by
  simp only [execTaskHalt, Host.Outcome.next.injEq] at e
  subst e
  simp (maxDischargeDepth := 40) +contextual [*]

theorem execBufWrite_keeps {s0 s t : State} (h : Keeps s0 s) (ring : BitVec 8)
    (e : execBufWrite ring s = .next t) : Keeps s0 t := by
  simp only [execBufWrite, Host.Outcome.next.injEq] at e
  subst e
  simp (maxDischargeDepth := 40) +contextual [*]

theorem execBufRead_keeps {s0 s t : State} (h : Keeps s0 s) (ring : BitVec 8)
    (e : execBufRead ring s = .next t) : Keeps s0 t := by
  simp only [execBufRead, Host.Outcome.next.injEq] at e
  subst e
  simp (maxDischargeDepth := 40) +contextual [*]

theorem execBusConfig_keeps {s0 s t : State} (h : Keeps s0 s) (ring : BitVec 8)
    (e : execBusConfig ring s = .next t) : Keeps s0 t := by
  simp only [execBusConfig, Host.Outcome.next.injEq] at e
  subst e
  simp (maxDischargeDepth := 40) +contextual [*]

@[simp] theorem State.writeBusCfg_keeps {s0 s : State} (h : Keeps s0 s) (a : Nat) (v : Word) :
    Keeps s0 (State.writeBusCfg s a v) := by
  simp (maxDischargeDepth := 40) [State.writeBusCfg, *]

@[simp] theorem State.writeScoreOvf_keeps {s0 s : State} (h : Keeps s0 s) (v : Word) :
    Keeps s0 (State.writeScoreOvf s v) := by
  simp (maxDischargeDepth := 40) +contextual [State.writeScoreOvf, *]

end Sys2Proof.Machine
end

