-- ==== Sys2Proof/Laws/KeepsTune.lean ====
section
/-!
SUPPORT. What the operations of Machine/Tune.lean keep.
-/

namespace Sys2Proof.Machine

@[simp] theorem State.setItem_keeps {s0 s : State} (h : Keeps s0 s) (n : Nat) (v : TuneItem) :
    Keeps s0 (State.setItem s n v) := by
  simp (maxDischargeDepth := 40) [State.setItem, *]

@[simp] theorem State.settle_keeps {s0 s : State} (h : Keeps s0 s) (n : Nat) :
    Keeps s0 (State.settle s n) := by
  simp (maxDischargeDepth := 40) [State.settle, *]

@[simp] theorem State.setApplied_keeps {s0 s : State} (h : Keeps s0 s) (n : Nat) (f : List Int) :
    Keeps s0 (State.setApplied s n f) := by
  simp (maxDischargeDepth := 40) [State.setApplied, *]

@[simp] theorem State.setTarget_keeps {s0 s : State} (h : Keeps s0 s) (n : Nat) (f : List Int) :
    Keeps s0 (State.setTarget s n f) := by
  simp (maxDischargeDepth := 40) [State.setTarget, *]

@[simp] theorem State.tapStep_keeps {s0 s : State} (h : Keeps s0 s) (n : Nat) :
    Keeps s0 (State.tapStep s n) := by
  simp (maxDischargeDepth := 40) [State.tapStep, *]

@[simp] theorem State.setStale_keeps {s0 s : State} (h : Keeps s0 s) (n : Nat) (b : Bool) :
    Keeps s0 (State.setStale s n b) := by
  unfold State.setStale
  split <;> simp (maxDischargeDepth := 40) [*]

@[simp] theorem State.renameWait_keeps {s0 s : State} (h : Keeps s0 s) (a : Wait) (b : Wait) :
    Keeps s0 (State.renameWait s a b) := by
  simp (maxDischargeDepth := 40) +contextual [State.renameWait, *]

@[simp] theorem State.tuneStart_keeps {s0 s : State} (h : Keeps s0 s) (n : Nat) (trig : Nat) :
    Keeps s0 (State.tuneStart s n trig) := by
  simp (maxDischargeDepth := 40) [State.tuneStart, *]

@[simp] theorem State.endRun_keeps {s0 s : State} (h : Keeps s0 s) (n : Nat) (st : Status) :
    Keeps s0 (State.endRun s n st) := by
  simp (maxDischargeDepth := 40) [State.endRun, *]

@[simp] theorem State.tuneEnd_keeps {s0 s : State} (h : Keeps s0 s) (n : Nat) (st : Status) :
    Keeps s0 (State.tuneEnd s n st) := by
  simp only [State.tuneEnd]
  repeat' split
  all_goals simp (maxDischargeDepth := 40) +contextual [*]

@[simp] theorem State.tuneTrigger_keeps {s0 s : State} (h : Keeps s0 s) (n : Nat) (trig : Nat) :
    Keeps s0 (State.tuneTrigger s n trig) := by
  simp (maxDischargeDepth := 40) [State.tuneTrigger, *]

@[simp] theorem State.tuneHeld_keeps {s0 s : State} (h : Keeps s0 s)  :
    Keeps s0 (State.tuneHeld s) := by
  unfold State.tuneHeld
  refine keeps_foldl (fun t x ht => ?_) _ _ ?_
  all_goals repeat' split
  all_goals simp (maxDischargeDepth := 40) +contextual [*]

@[simp] theorem State.tuneResult_keeps {s0 s : State} (h : Keeps s0 s) (n : Nat) (fields : List Int) (result : Word) (ok : Bool) :
    Keeps s0 (State.tuneResult s n fields result ok) := by
  simp (maxDischargeDepth := 40) [State.tuneResult, *]

@[simp] theorem State.tuneCrystal_keeps {s0 s : State} (h : Keeps s0 s)  :
    Keeps s0 (State.tuneCrystal s) := by
  simp (maxDischargeDepth := 40) [State.tuneCrystal, *]

theorem execTuneRunEnd_keeps {s0 s t : State} (h : Keeps s0 s) (item : BitVec 3) (vals : List Int)
    (e : execTuneRunEnd item vals s = .next t) : Keeps s0 t := by
  simp only [execTuneRunEnd, Host.Outcome.next.injEq] at e
  subst e
  simp (maxDischargeDepth := 40) [*]

theorem execTuneTimeout_keeps {s0 s t : State} (h : Keeps s0 s) (item : BitVec 3)
    (e : execTuneTimeout item s = .next t) : Keeps s0 t := by
  simp only [execTuneTimeout, Host.Outcome.next.injEq] at e
  subst e
  simp (maxDischargeDepth := 40) [*]

theorem execTunePeriodTrigger_keeps {s0 s t : State} (h : Keeps s0 s) (item : BitVec 3)
    (e : execTunePeriodTrigger item s = .next t) : Keeps s0 t := by
  simp only [execTunePeriodTrigger, Host.Outcome.next.injEq] at e
  subst e
  simp (maxDischargeDepth := 40) [*]

@[simp] theorem State.tuneDelta_keeps {s0 s : State} (h : Keeps s0 s)  :
    Keeps s0 (State.tuneDelta s) := by
  unfold State.tuneDelta
  refine keeps_foldl (fun t x ht => ?_) _ _ ?_
  all_goals repeat' split
  all_goals simp (maxDischargeDepth := 40) +contextual [*]

@[simp] theorem State.measureStart_keeps {s0 s : State} (h : Keeps s0 s) (n : Nat) :
    Keeps s0 (State.measureStart s n) := by
  simp (maxDischargeDepth := 40) [State.measureStart, *]

@[simp] theorem State.tunePlace_keeps {s0 s : State} (h : Keeps s0 s) (steps : List Nat) (measures : List Nat) :
    Keeps s0 (State.tunePlace s steps measures) := by
  simp (maxDischargeDepth := 40) +contextual [State.tunePlace, *]

@[simp] theorem State.tuneFreqStep_keeps {s0 s : State} (h : Keeps s0 s)  :
    Keeps s0 (State.tuneFreqStep s) := by
  simp (maxDischargeDepth := 40) [State.tuneFreqStep, *]

@[simp] theorem State.skippedAlarm_keeps {s0 s : State} (h : Keeps s0 s) (k : Nat) :
    Keeps s0 (State.skippedAlarm s k) := by
  simp (maxDischargeDepth := 40) [State.skippedAlarm, *]

@[simp] theorem State.oneSecond_keeps {s0 s : State} (h : Keeps s0 s)  :
    Keeps s0 (State.oneSecond s) := by
  simp (maxDischargeDepth := 40) [State.oneSecond, *]

theorem execOneSecondBoundary_keeps {s0 s t : State} (h : Keeps s0 s) 
    (e : execOneSecondBoundary s = .next t) : Keeps s0 t := by
  simp only [execOneSecondBoundary, Host.Outcome.next.injEq] at e
  subst e
  simp (maxDischargeDepth := 40) [*]

@[simp] theorem State.fuseLoad_keeps {s0 s : State} (h : Keeps s0 s) (corrected : Bool) (factBad : Bool) (custBad : Bool) :
    Keeps s0 (State.fuseLoad s corrected factBad custBad) := by
  simp (maxDischargeDepth := 40) +contextual [State.fuseLoad, *]

@[simp] theorem State.blowWord_keeps {s0 s : State} (h : Keeps s0 s) (e : BitVec 56 × Nat) :
    Keeps s0 (State.blowWord s e) := by
  exact State.blow_keeps h _ (Nat.le_add_right 48 e.2) _ _

@[simp] theorem State.cutFuses_keeps {s0 s : State} (h : Keeps s0 s) : Keeps s0 s.cutFuses := by
  unfold State.cutFuses
  split
  · refine State.setFlag_keeps (keeps_foldl (fun t e ht => ?_) _ _ h) _ _ _
    exact State.blow_keeps (State.takeFree_keeps (State.takeFree_keeps ht)) _ (Nat.le_add_right 48 e.2) _ _
  · exact h

theorem execFuseStage_keeps {s0 s t : State} (h : Keeps s0 s) (ring : BitVec 8)
    (e : execFuseStage ring s = .next t) : Keeps s0 t := by
  simp only [execFuseStage, Host.Outcome.next.injEq] at e
  subst e
  simp (maxDischargeDepth := 40) +contextual [*]

theorem execFuseProgram_keeps {s0 s t : State} (h : Keeps s0 s) (ring : BitVec 8)
    (e : execFuseProgram ring s = .next t) : Keeps s0 t := by
  simp only [execFuseProgram, Host.Outcome.next.injEq] at e
  subst e
  simp (maxDischargeDepth := 40) +contextual [*]

theorem execFuseProgramDone_keeps {s0 s t : State} (h : Keeps s0 s) (failed : Nat)
    (e : execFuseProgramDone failed s = .next t) : Keeps s0 t := by
  simp only [execFuseProgramDone, Host.Outcome.next.injEq] at e
  subst e
  simp (maxDischargeDepth := 40) +contextual [*]

@[simp] theorem State.writeItemCfg_keeps {s0 s : State} (h : Keeps s0 s) (n : Nat) (v : Word) :
    Keeps s0 (State.writeItemCfg s n v) := by
  simp (maxDischargeDepth := 40) [State.writeItemCfg, *]

@[simp] theorem State.writeTune_keeps {s0 s : State} (h : Keeps s0 s) (n : Nat) (v : Word) :
    Keeps s0 (State.writeTune s n v) := by
  simp (maxDischargeDepth := 40) [State.writeTune, *]

theorem execTuneRun_keeps {s0 s t : State} (h : Keeps s0 s) (ring : BitVec 8)
    (e : execTuneRun ring s = .next t) : Keeps s0 t := by
  simp only [execTuneRun, Host.Outcome.next.injEq] at e
  subst e
  simp (maxDischargeDepth := 40) +contextual [*]

theorem execTuneSet_keeps {s0 s t : State} (h : Keeps s0 s) (ring : BitVec 8)
    (e : execTuneSet ring s = .next t) : Keeps s0 t := by
  simp only [execTuneSet, Host.Outcome.next.injEq] at e
  subst e
  simp (maxDischargeDepth := 40) +contextual [*]

theorem execTuneRead_keeps {s0 s t : State} (h : Keeps s0 s) (ring : BitVec 8)
    (e : execTuneRead ring s = .next t) : Keeps s0 t := by
  simp only [execTuneRead, Host.Outcome.next.injEq] at e
  subst e
  simp (maxDischargeDepth := 40) +contextual [*]

@[simp] theorem State.applyTune_keeps {s0 s : State} (h : Keeps s0 s) (bs : List Byte) :
    Keeps s0 (State.applyTune s bs) := by
  simp (maxDischargeDepth := 40) +contextual [State.applyTune, *]

@[simp] theorem State.loadTune_keeps {s0 s : State} (h : Keeps s0 s) (profile : Nat) :
    Keeps s0 (State.loadTune s profile).2 := by
  simp only [State.loadTune]
  repeat' split
  all_goals simp (maxDischargeDepth := 40) +contextual [*]

@[simp] theorem State.finishLoad_keeps {s0 : State} (v : Verb) (r : Option Nat × State) (h : Keeps s0 r.2) :
    Keeps s0 (State.finishLoad v r) := by
  unfold State.finishLoad
  split <;> simp (maxDischargeDepth := 40) [*]

theorem execTuneLoad_keeps {s0 s t : State} (h : Keeps s0 s) (ring : BitVec 8)
    (e : execTuneLoad ring s = .next t) : Keeps s0 t := by
  simp only [execTuneLoad, Host.Outcome.next.injEq] at e
  subst e
  simp (maxDischargeDepth := 40) +contextual [*]

theorem execTuneRebase_keeps {s0 s t : State} (h : Keeps s0 s) (ring : BitVec 8)
    (e : execTuneRebase ring s = .next t) : Keeps s0 t := by
  simp only [execTuneRebase, Host.Outcome.next.injEq] at e
  subst e
  simp (maxDischargeDepth := 40) +contextual [*]

@[simp] theorem State.writeTuneReq_keeps {s0 s : State} (h : Keeps s0 s) (v : Word) :
    Keeps s0 (State.writeTuneReq s v) := by
  simp (maxDischargeDepth := 40) +contextual [State.writeTuneReq, *]

@[simp] theorem State.tuneReset_keeps {s0 s : State} (h : Keeps s0 s) (system : Bool) :
    Keeps s0 (State.tuneReset s system) := by
  simp (maxDischargeDepth := 40) +contextual [State.tuneReset, *]

end Sys2Proof.Machine
end

