-- ==== Sys2Proof/Laws/KeepsIntake.lean ====
section
/-!
SUPPORT. What the operations of Machine/Intake.lean keep.
-/

namespace Sys2Proof.Machine

@[simp] theorem State.setIntake_keeps {s0 s : State} (h : Keeps s0 s) (x : Intake) :
    Keeps s0 (State.setIntake s x) := by
  simp (maxDischargeDepth := 40) [State.setIntake, *]

@[simp] theorem State.showSurf_keeps {s0 s : State} (h : Keeps s0 s) (n : Nat) :
    Keeps s0 (State.showSurf s n) := by
  simp (maxDischargeDepth := 40) [State.showSurf, *]

@[simp] theorem State.setSurf_keeps {s0 s : State} (h : Keeps s0 s) (n : Nat) (x : SurfSt) :
    Keeps s0 (State.setSurf s n x) := by
  simp (maxDischargeDepth := 40) [State.setSurf, *]

@[simp] theorem State.intakeResult_keeps {s0 s : State} (h : Keeps s0 s) (a : Nat) (st : Status) (n : Nat) (b : Nat) :
    Keeps s0 (State.intakeResult s a st n b) := by
  simp (maxDischargeDepth := 40) [State.intakeResult, *]

@[simp] theorem State.answerPresent_keeps {s0 s : State} (h : Keeps s0 s) (n : Nat) (q : Present) (st : Status) :
    Keeps s0 (State.answerPresent s n q st) := by
  unfold State.answerPresent
  repeat' split
  all_goals simp (maxDischargeDepth := 40) +contextual [*]

@[simp] theorem State.openUpdate_keeps {s0 s : State} (h : Keeps s0 s) (n : Nat) (b : Nat) (chan : Option Nat) :
    Keeps s0 (State.openUpdate s n b chan) := by
  simp (maxDischargeDepth := 40) [State.openUpdate, *]

@[simp] theorem State.serveOpens_keeps {s0 s : State} (h : Keeps s0 s) (n : Nat) :
    Keeps s0 (State.serveOpens s n) := by
  unfold State.serveOpens
  split <;> simp (maxDischargeDepth := 40) [*]

@[simp] theorem State.freeBuf_keeps {s0 s : State} (h : Keeps s0 s) (n : Nat) (b : Nat) :
    Keeps s0 (State.freeBuf s n b) := by
  unfold State.freeBuf
  split <;> simp (maxDischargeDepth := 40) [*]

@[simp] theorem State.askResume_keeps {s0 s : State} (h : Keeps s0 s)  :
    Keeps s0 (State.askResume s) := by
  simp (maxDischargeDepth := 40) [State.askResume, *]

@[simp] theorem State.supersede_keeps {s0 s : State} (h : Keeps s0 s) (n : Nat) (q : Present) :
    Keeps s0 (State.supersede s n q) := by
  simp (maxDischargeDepth := 40) [State.supersede, *]

@[simp] theorem State.presentOn_keeps {s0 s : State} (h : Keeps s0 s) (n : Nat) (full : Bool) (r : Rect) (p : Present) :
    Keeps s0 (State.presentOn s n full r p) := by
  simp only [State.presentOn]
  repeat' split
  all_goals simp (maxDischargeDepth := 40) +contextual [*]

@[simp] theorem State.applyPresent_keeps {s0 s : State} (h : Keeps s0 s) (n : Nat) :
    Keeps s0 (State.applyPresent s n) := by
  simp only [State.applyPresent]
  repeat' split
  all_goals simp (maxDischargeDepth := 40) +contextual [*]

@[simp] theorem State.copyRegion_keeps {s0 s : State} (h : Keeps s0 s) (c : CopyJob) :
    Keeps s0 (State.copyRegion s c) := by
  simp (maxDischargeDepth := 40) +contextual [State.copyRegion, *]

theorem execCopyForwardDone_keeps {s0 s t : State} (h : Keeps s0 s) 
    (e : execCopyForwardDone s = .next t) : Keeps s0 t := by
  simp only [execCopyForwardDone, Host.Outcome.next.injEq] at e
  subst e
  repeat' split
  all_goals simp (maxDischargeDepth := 40) +contextual [*]

@[simp] theorem State.enableSurf_keeps {s0 s : State} (h : Keeps s0 s) (n : Nat) :
    Keeps s0 (State.enableSurf s n) := by
  simp (maxDischargeDepth := 40) [State.enableSurf, *]

@[simp] theorem State.inputDrop_keeps {s0 s : State} (h : Keeps s0 s) (n : Nat) (reason : Nat) :
    Keeps s0 (State.inputDrop s n reason) := by
  simp (maxDischargeDepth := 40) [State.inputDrop, *]

@[simp] theorem State.disableSurf_keeps {s0 s : State} (h : Keeps s0 s) (n : Nat) :
    Keeps s0 (State.disableSurf s n) := by
  simp only [State.disableSurf]
  repeat' split
  all_goals simp (maxDischargeDepth := 40) +contextual [*]

@[simp] theorem State.writeSurf_keeps {s0 s : State} (h : Keeps s0 s) (n : Nat) (w : Nat) (v : Word) :
    Keeps s0 (State.writeSurf s n w v) := by
  simp (maxDischargeDepth := 40) [State.writeSurf, *]

@[simp] theorem State.writeSurfOn_keeps {s0 s : State} (h : Keeps s0 s) (n : Nat) (v : Word) :
    Keeps s0 (State.writeSurfOn s n v) := by
  simp (maxDischargeDepth := 40) [State.writeSurfOn, *]

@[simp] theorem State.writeSurfOff_keeps {s0 s : State} (h : Keeps s0 s) (n : Nat) (v : Word) :
    Keeps s0 (State.writeSurfOff s n v) := by
  simp (maxDischargeDepth := 40) [State.writeSurfOff, *]

theorem execSurfaceSet_keeps {s0 s t : State} (h : Keeps s0 s) (ring : BitVec 8)
    (e : execSurfaceSet ring s = .next t) : Keeps s0 t := by
  simp only [execSurfaceSet, Host.Outcome.next.injEq] at e
  subst e
  simp (maxDischargeDepth := 40) +contextual [*]

theorem execSurfaceStop_keeps {s0 s t : State} (h : Keeps s0 s) (ring : BitVec 8)
    (e : execSurfaceStop ring s = .next t) : Keeps s0 t := by
  simp only [execSurfaceStop, Host.Outcome.next.injEq] at e
  subst e
  simp (maxDischargeDepth := 40) +contextual [*]

theorem execPresent_keeps {s0 s t : State} (h : Keeps s0 s) (ring : BitVec 8)
    (e : execPresent ring s = .next t) : Keeps s0 t := by
  simp only [execPresent, Host.Outcome.next.injEq] at e
  subst e
  simp (maxDischargeDepth := 40) +contextual [*]

theorem execSurfaceOpen_keeps {s0 s t : State} (h : Keeps s0 s) (ring : BitVec 8)
    (e : execSurfaceOpen ring s = .next t) : Keeps s0 t := by
  simp only [execSurfaceOpen, Host.Outcome.next.injEq] at e
  subst e
  refine State.runVerb_keeps h _ _ _ _ _ (fun t v ht => ?_)
  try dsimp only
  repeat' split
  all_goals simp (maxDischargeDepth := 40) +contextual [*]

@[simp] theorem State.writeOpen_keeps {s0 s : State} (h : Keeps s0 s) (v : Word) :
    Keeps s0 (State.writeOpen s v) := by
  simp (maxDischargeDepth := 40) [State.writeOpen, *]

@[simp] theorem State.writePresent_keeps {s0 s : State} (h : Keeps s0 s) (v : Word) :
    Keeps s0 (State.writePresent s v) := by
  simp (maxDischargeDepth := 40) [State.writePresent, *]

theorem execSurfaceRead_keeps {s0 s t : State} (h : Keeps s0 s) (ring : BitVec 8)
    (e : execSurfaceRead ring s = .next t) : Keeps s0 t := by
  simp only [execSurfaceRead, Host.Outcome.next.injEq] at e
  subst e
  simp (maxDischargeDepth := 40) +contextual [*]

@[simp] theorem State.dsiFault_keeps {s0 s : State} (h : Keeps s0 s) (b : Nat) :
    Keeps s0 (State.dsiFault s b) := by
  simp (maxDischargeDepth := 40) [State.dsiFault, *]

@[simp] theorem State.packet_keeps {s0 s : State} (h : Keeps s0 s) (vc : BitVec 1) (f : State → State) (hf : ∀ y0, Keeps s0 y0 → Keeps s0 (f y0)) :
    Keeps s0 (State.packet s vc f) := by
  simp (maxDischargeDepth := 40) [State.packet, *]

@[simp] theorem State.setChan_keeps {s0 s : State} (h : Keeps s0 s) (vc : Nat) (c : Channel) :
    Keeps s0 (State.setChan s vc c) := by
  simp (maxDischargeDepth := 40) [State.setChan, *]

@[simp] theorem State.closeUpdate_keeps {s0 s : State} (h : Keeps s0 s) (n : Nat) :
    Keeps s0 (State.closeUpdate s n) := by
  simp (maxDischargeDepth := 40) [State.closeUpdate, *]

@[simp] theorem State.videoDrop_keeps {s0 s : State} (h : Keeps s0 s) (n : Nat) (reason : Nat) :
    Keeps s0 (State.videoDrop s n reason) := by
  simp (maxDischargeDepth := 40) [State.videoDrop, *]

@[simp] theorem State.packetDropped_keeps {s0 s : State} (h : Keeps s0 s) (vc : Nat) (b : Nat) :
    Keeps s0 (State.packetDropped s vc b) := by
  have hd := State.dsiFault_keeps h b
  simp only [State.packetDropped]
  repeat' split
  all_goals simp (maxDischargeDepth := 40) [*]

@[simp] theorem State.packetFault_keeps {s0 s : State} (h : Keeps s0 s) (vc : Nat) (fault : DsiFault) :
    Keeps s0 (State.packetFault s vc fault) := by
  cases fault <;> simp (maxDischargeDepth := 40) [State.packetFault, *]

theorem execDsiPacketError_keeps {s0 s t : State} (h : Keeps s0 s) (vc : BitVec 2) (fault : DsiFault)
    (e : execDsiPacketError vc fault s = .next t) : Keeps s0 t := by
  simp only [execDsiPacketError, Host.Outcome.next.injEq] at e
  subst e
  simp (maxDischargeDepth := 40) +contextual [*]

theorem execDcsUnknownCommand_keeps {s0 s t : State} (h : Keeps s0 s) (cmd : DcsCommand)
    (e : execDcsUnknownCommand cmd s = .next t) : Keeps s0 t := by
  simp only [execDcsUnknownCommand, Host.Outcome.next.injEq] at e
  subst e
  simp (maxDischargeDepth := 40) +contextual [*]

@[simp] theorem State.videoStart_keeps {s0 s : State} (h : Keeps s0 s)  :
    Keeps s0 (State.videoStart s) := by
  simp only [State.videoStart]
  repeat' split
  all_goals simp (maxDischargeDepth := 40) +contextual [*]

theorem execVSyncStart_keeps {s0 s t : State} (h : Keeps s0 s) 
    (e : execVSyncStart s = .next t) : Keeps s0 t := by
  simp only [execVSyncStart, Host.Outcome.next.injEq] at e
  subst e
  simp (maxDischargeDepth := 40) +contextual [*]

theorem execHSyncStart_keeps {s0 s t : State} (h : Keeps s0 s) 
    (e : execHSyncStart s = .next t) : Keeps s0 t := by
  simp only [execHSyncStart, Host.Outcome.next.injEq] at e
  subst e
  refine State.packet_keeps h _ _ (fun t ht => ?_)
  try dsimp only
  repeat' split
  all_goals simp (maxDischargeDepth := 40) +contextual [*]

theorem execSyncEnd_keeps {s0 s t : State} (h : Keeps s0 s) 
    (e : execSyncEnd s = .next t) : Keeps s0 t := by
  simp only [execSyncEnd, Host.Outcome.next.injEq] at e
  subst e
  simp (maxDischargeDepth := 40) +contextual [*]

theorem execEndOfTransmission_keeps {s0 s t : State} (h : Keeps s0 s) 
    (e : execEndOfTransmission s = .next t) : Keeps s0 t := by
  simp only [execEndOfTransmission, Host.Outcome.next.injEq] at e
  subst e
  simp (maxDischargeDepth := 40) [*]

theorem execNullBlanking_keeps {s0 s t : State} (h : Keeps s0 s) (vc : BitVec 1)
    (e : execNullBlanking vc s = .next t) : Keeps s0 t := by
  simp only [execNullBlanking, Host.Outcome.next.injEq] at e
  subst e
  simp (maxDischargeDepth := 40) [*]

theorem execColorModeOff_keeps {s0 s t : State} (h : Keeps s0 s) (vc : BitVec 1)
    (e : execColorModeOff vc s = .next t) : Keeps s0 t := by
  simp only [execColorModeOff, Host.Outcome.next.injEq] at e
  subst e
  simp (maxDischargeDepth := 40) [*]

theorem execColorModeOn_keeps {s0 s t : State} (h : Keeps s0 s) (vc : BitVec 1)
    (e : execColorModeOn vc s = .next t) : Keeps s0 t := by
  simp only [execColorModeOn, Host.Outcome.next.injEq] at e
  subst e
  simp (maxDischargeDepth := 40) [*]

theorem execShutDown_keeps {s0 s t : State} (h : Keeps s0 s) (vc : BitVec 1)
    (e : execShutDown vc s = .next t) : Keeps s0 t := by
  simp only [execShutDown, Host.Outcome.next.injEq] at e
  subst e
  simp (maxDischargeDepth := 40) [*]

theorem execTurnOnPeripheral_keeps {s0 s t : State} (h : Keeps s0 s) (vc : BitVec 1)
    (e : execTurnOnPeripheral vc s = .next t) : Keeps s0 t := by
  simp only [execTurnOnPeripheral, Host.Outcome.next.injEq] at e
  subst e
  simp (maxDischargeDepth := 40) [*]

theorem execGenericShortWrite_keeps {s0 s t : State} (h : Keeps s0 s) (vc : BitVec 1)
    (e : execGenericShortWrite vc s = .next t) : Keeps s0 t := by
  simp only [execGenericShortWrite, Host.Outcome.next.injEq] at e
  subst e
  simp (maxDischargeDepth := 40) [*]

@[simp] theorem State.askRead_keeps {s0 s : State} (h : Keeps s0 s) (r : ReadReq) :
    Keeps s0 (State.askRead s r) := by
  simp (maxDischargeDepth := 40) [State.askRead, *]

theorem execGenericRead_keeps {s0 s t : State} (h : Keeps s0 s) (vc : BitVec 1) (params : List Byte)
    (e : execGenericRead vc params s = .next t) : Keeps s0 t := by
  simp only [execGenericRead, Host.Outcome.next.injEq] at e
  subst e
  repeat' split
  all_goals simp (maxDischargeDepth := 40) +contextual [*]

theorem execSetMaximumReturnPacketSize_keeps {s0 s t : State} (h : Keeps s0 s) (vc : BitVec 1) (size : BitVec 16)
    (e : execSetMaximumReturnPacketSize vc size s = .next t) : Keeps s0 t := by
  simp only [execSetMaximumReturnPacketSize, Host.Outcome.next.injEq] at e
  subst e
  simp (maxDischargeDepth := 40) +contextual [*]

@[simp] theorem State.putPixel_keeps {s0 s : State} (h : Keeps s0 s) (n : Nat) (b : Nat) (x : Nat) (y : Nat) (bs : List Byte) :
    Keeps s0 (State.putPixel s n b x y bs) := by
  simp (maxDischargeDepth := 40) [State.putPixel, *]

@[simp] theorem State.videoPixels_keeps {s0 s : State} (h : Keeps s0 s) (v : VideoFrame) (fmt : PixelStream) (pixels : List Rgb) :
    Keeps s0 (State.videoPixels s v fmt pixels) := by
  simp (maxDischargeDepth := 40) +contextual [State.videoPixels, *]

theorem execPackedPixelStream_keeps {s0 s t : State} (h : Keeps s0 s) (fmt : PixelStream) (pixels : List Rgb)
    (e : execPackedPixelStream fmt pixels s = .next t) : Keeps s0 t := by
  simp only [execPackedPixelStream, Host.Outcome.next.injEq] at e
  subst e
  refine State.packet_keeps h _ _ (fun t ht => ?_)
  try dsimp only
  repeat' split
  all_goals simp (maxDischargeDepth := 40) +contextual [*]

@[simp] theorem State.writePixels_keeps {s0 : State} (vc n b : Nat) (w : Rect) : ∀ (ps : List (List Byte)) {s : State},
    Keeps s0 s → Keeps s0 (s.writePixels vc n b w ps)
  | [], _, h => h
  | _ :: ps, _, h => State.writePixels_keeps vc n b w ps (State.setChan_keeps (State.putPixel_keeps h _ _ _ _ _) _ _)

@[simp] theorem State.writeMemory_keeps {s0 s : State} (h : Keeps s0 s) (vc : Nat) (start : Bool) (data : List Byte) :
    Keeps s0 (State.writeMemory s vc start data) := by
  simp only [State.writeMemory]
  repeat' split
  all_goals simp (maxDischargeDepth := 40) +contextual [*]

theorem execWriteMemoryStart_keeps {s0 s t : State} (h : Keeps s0 s) (vc : BitVec 1) (data : List Byte)
    (e : execWriteMemoryStart vc data s = .next t) : Keeps s0 t := by
  simp only [execWriteMemoryStart, Host.Outcome.next.injEq] at e
  subst e
  simp (maxDischargeDepth := 40) +contextual [*]

theorem execWriteMemoryContinue_keeps {s0 s t : State} (h : Keeps s0 s) (vc : BitVec 1) (data : List Byte)
    (e : execWriteMemoryContinue vc data s = .next t) : Keeps s0 t := by
  simp only [execWriteMemoryContinue, Host.Outcome.next.injEq] at e
  subst e
  simp (maxDischargeDepth := 40) +contextual [*]

theorem execSetColumnAddress_keeps {s0 s t : State} (h : Keeps s0 s) (vc : BitVec 1) (first last : DcsParam)
    (e : execSetColumnAddress vc first last s = .next t) : Keeps s0 t := by
  simp only [execSetColumnAddress, Host.Outcome.next.injEq] at e
  subst e
  simp (maxDischargeDepth := 40) +contextual [*]

theorem execSetPageAddress_keeps {s0 s t : State} (h : Keeps s0 s) (vc : BitVec 1) (first last : DcsParam)
    (e : execSetPageAddress vc first last s = .next t) : Keeps s0 t := by
  simp only [execSetPageAddress, Host.Outcome.next.injEq] at e
  subst e
  simp (maxDischargeDepth := 40) +contextual [*]

@[simp] theorem State.regionHint_keeps {s0 s : State} (h : Keeps s0 s) (vc : Nat) (r : Rect) :
    Keeps s0 (State.regionHint s vc r) := by
  simp (maxDischargeDepth := 40) [State.regionHint, *]

@[simp] theorem State.partPresent_keeps {s0 s : State} (h : Keeps s0 s) (vc : Nat) (full auto : Bool) (given : Rect) (tag : Nat) :
    Keeps s0 (State.partPresent s vc full auto given tag) := by
  simp (maxDischargeDepth := 40) [State.partPresent, *]

@[simp] theorem State.partFence_keeps {s0 s : State} (h : Keeps s0 s) (vc tag : Nat) :
    Keeps s0 (State.partFence s vc tag) := by
  simp (maxDischargeDepth := 40) [State.partFence, *]

@[simp] theorem State.partAct_keeps {s0 s : State} (h : Keeps s0 s) (vc : Nat) (c : PartCmd) :
    Keeps s0 (State.partAct s vc c) := by
  cases c <;> simp (maxDischargeDepth := 40) [State.partAct, *]

theorem execGenericLongWrite_keeps {s0 s t : State} (h : Keeps s0 s) (vc : BitVec 1) (payload : List Byte)
    (e : execGenericLongWrite vc payload s = .next t) : Keeps s0 t := by
  simp only [execGenericLongWrite, Host.Outcome.next.injEq] at e
  subst e
  split <;> simp (maxDischargeDepth := 40) +contextual [*]

theorem execSetRegionHint_keeps {s0 s t : State} (h : Keeps s0 s) (vc : BitVec 1) (x0 : BitVec 16) (y0 : BitVec 16) (x1 : BitVec 16) (y1 : BitVec 16)
    (e : execSetRegionHint vc x0 y0 x1 y1 s = .next t) : Keeps s0 t := by
  simp only [execSetRegionHint, Host.Outcome.next.injEq] at e
  subst e
  simp (maxDischargeDepth := 40) +contextual [*]

theorem execDsiPresent_keeps {s0 s t : State} (h : Keeps s0 s) (vc : BitVec 1) (full : Bool) (auto : Bool) (x0 : BitVec 16) (y0 : BitVec 16) (x1 : BitVec 16) (y1 : BitVec 16) (tag : BitVec 16)
    (e : execDsiPresent vc full auto x0 y0 x1 y1 tag s = .next t) : Keeps s0 t := by
  simp only [execDsiPresent, Host.Outcome.next.injEq] at e
  subst e
  simp (maxDischargeDepth := 40) +contextual [*]

theorem execDsiFence_keeps {s0 s t : State} (h : Keeps s0 s) (vc : BitVec 1) (tag : BitVec 16)
    (e : execDsiFence vc tag s = .next t) : Keeps s0 t := by
  simp only [execDsiFence, Host.Outcome.next.injEq] at e
  subst e
  simp (maxDischargeDepth := 40) +contextual [*]

theorem execDsiFenceComplete_keeps {s0 s t : State} (h : Keeps s0 s) 
    (e : execDsiFenceComplete s = .next t) : Keeps s0 t := by
  simp only [execDsiFenceComplete, Host.Outcome.next.injEq] at e
  subst e
  repeat' split
  all_goals simp (maxDischargeDepth := 40) +contextual [*]

@[simp] theorem State.dcsEvent_keeps {s0 s : State} (h : Keeps s0 s) (code : Nat) (vc : Nat) :
    Keeps s0 (State.dcsEvent s code vc) := by
  simp (maxDischargeDepth := 40) [State.dcsEvent, *]

@[simp] theorem State.dcsFlag_keeps {s0 s : State} (h : Keeps s0 s) (b : Nat) (code : Nat) (vc : Nat) (v : Bool) :
    Keeps s0 (State.dcsFlag s b code vc v) := by
  simp (maxDischargeDepth := 40) [State.dcsFlag, *]

theorem execDcsNop_keeps {s0 s t : State} (h : Keeps s0 s) (vc : BitVec 1)
    (e : execDcsNop vc s = .next t) : Keeps s0 t := by
  simp only [execDcsNop, Host.Outcome.next.injEq] at e
  subst e
  simp (maxDischargeDepth := 40) [*]

theorem execSoftReset_keeps {s0 s t : State} (h : Keeps s0 s) (vc : BitVec 1)
    (e : execSoftReset vc s = .next t) : Keeps s0 t := by
  simp only [execSoftReset, Host.Outcome.next.injEq] at e
  subst e
  simp (maxDischargeDepth := 40) +contextual [*]

theorem execGetPowerMode_keeps {s0 s t : State} (h : Keeps s0 s) (vc : BitVec 1)
    (e : execGetPowerMode vc s = .next t) : Keeps s0 t := by
  simp only [execGetPowerMode, Host.Outcome.next.injEq] at e
  subst e
  simp (maxDischargeDepth := 40) +contextual [*]

theorem execGetPixelFormat_keeps {s0 s t : State} (h : Keeps s0 s) (vc : BitVec 1)
    (e : execGetPixelFormat vc s = .next t) : Keeps s0 t := by
  simp only [execGetPixelFormat, Host.Outcome.next.injEq] at e
  subst e
  simp (maxDischargeDepth := 40) +contextual [*]

theorem execEnterSleepMode_keeps {s0 s t : State} (h : Keeps s0 s) (vc : BitVec 1)
    (e : execEnterSleepMode vc s = .next t) : Keeps s0 t := by
  simp only [execEnterSleepMode, Host.Outcome.next.injEq] at e
  subst e
  simp (maxDischargeDepth := 40) +contextual [*]

theorem execExitSleepMode_keeps {s0 s t : State} (h : Keeps s0 s) (vc : BitVec 1)
    (e : execExitSleepMode vc s = .next t) : Keeps s0 t := by
  simp only [execExitSleepMode, Host.Outcome.next.injEq] at e
  subst e
  simp (maxDischargeDepth := 40) +contextual [*]

theorem execSetDisplayOff_keeps {s0 s t : State} (h : Keeps s0 s) (vc : BitVec 1)
    (e : execSetDisplayOff vc s = .next t) : Keeps s0 t := by
  simp only [execSetDisplayOff, Host.Outcome.next.injEq] at e
  subst e
  simp (maxDischargeDepth := 40) +contextual [*]

theorem execSetDisplayOn_keeps {s0 s t : State} (h : Keeps s0 s) (vc : BitVec 1)
    (e : execSetDisplayOn vc s = .next t) : Keeps s0 t := by
  simp only [execSetDisplayOn, Host.Outcome.next.injEq] at e
  subst e
  simp (maxDischargeDepth := 40) +contextual [*]

theorem execSetTearOff_keeps {s0 s t : State} (h : Keeps s0 s) (vc : BitVec 1)
    (e : execSetTearOff vc s = .next t) : Keeps s0 t := by
  simp only [execSetTearOff, Host.Outcome.next.injEq] at e
  subst e
  simp (maxDischargeDepth := 40) +contextual [*]

theorem execSetTearOn_keeps {s0 s t : State} (h : Keeps s0 s) (vc : BitVec 1)
    (e : execSetTearOn vc s = .next t) : Keeps s0 t := by
  simp only [execSetTearOn, Host.Outcome.next.injEq] at e
  subst e
  simp (maxDischargeDepth := 40) +contextual [*]

theorem execSetPixelFormat_keeps {s0 s t : State} (h : Keeps s0 s) (vc : BitVec 1) (code : BitVec 8)
    (e : execSetPixelFormat vc code s = .next t) : Keeps s0 t := by
  simp only [execSetPixelFormat, Host.Outcome.next.injEq] at e
  subst e
  simp (maxDischargeDepth := 40) +contextual [*]

theorem execSetTearScanline_keeps {s0 s t : State} (h : Keeps s0 s) (vc : BitVec 1)
    (e : execSetTearScanline vc s = .next t) : Keeps s0 t := by
  simp only [execSetTearScanline, Host.Outcome.next.injEq] at e
  subst e
  simp (maxDischargeDepth := 40) [*]

theorem execGetScanline_keeps {s0 s t : State} (h : Keeps s0 s) (vc : BitVec 1)
    (e : execGetScanline vc s = .next t) : Keeps s0 t := by
  simp only [execGetScanline, Host.Outcome.next.injEq] at e
  subst e
  simp (maxDischargeDepth := 40) +contextual [*]

theorem execUlpsEntry_keeps {s0 s t : State} (h : Keeps s0 s) 
    (e : execUlpsEntry s = .next t) : Keeps s0 t := by
  simp only [execUlpsEntry, Host.Outcome.next.injEq] at e
  subst e
  simp (maxDischargeDepth := 40) [*]

theorem execUlpsExit_keeps {s0 s t : State} (h : Keeps s0 s) 
    (e : execUlpsExit s = .next t) : Keeps s0 t := by
  simp only [execUlpsExit, Host.Outcome.next.injEq] at e
  subst e
  simp (maxDischargeDepth := 40) [*]

theorem execDsiLaneWake_keeps {s0 s t : State} (h : Keeps s0 s) 
    (e : execDsiLaneWake s = .next t) : Keeps s0 t := by
  simp only [execDsiLaneWake, Host.Outcome.next.injEq] at e
  subst e
  simp (maxDischargeDepth := 40) [*]

theorem execTeRise_keeps {s0 s t : State} (h : Keeps s0 s) 
    (e : execTeRise s = .next t) : Keeps s0 t := by
  simp only [execTeRise, Host.Outcome.next.injEq] at e
  subst e
  simp (maxDischargeDepth := 40) [*]

theorem execTeFall_keeps {s0 s t : State} (h : Keeps s0 s) 
    (e : execTeFall s = .next t) : Keeps s0 t := by
  simp only [execTeFall, Host.Outcome.next.injEq] at e
  subst e
  simp (maxDischargeDepth := 40) [*]

@[simp] theorem State.closeChannel_keeps {s0 s : State} (h : Keeps s0 s) (vc : Nat) (n : Nat) :
    Keeps s0 (State.closeChannel s vc n) := by
  simp (maxDischargeDepth := 40) [State.closeChannel, *]

@[simp] theorem State.applyIntake_keeps {s0 s : State} (h : Keeps s0 s)  :
    Keeps s0 (State.applyIntake s) := by
  simp only [State.applyIntake]
  repeat' split
  all_goals simp (maxDischargeDepth := 40) +contextual [*]

theorem execLinkIdleBoundary_keeps {s0 s t : State} (h : Keeps s0 s) 
    (e : execLinkIdleBoundary s = .next t) : Keeps s0 t := by
  simp only [execLinkIdleBoundary, Host.Outcome.next.injEq] at e
  subst e
  simp (maxDischargeDepth := 40) +contextual [*]

theorem execIntakeDsi_keeps {s0 s t : State} (h : Keeps s0 s) (ring : BitVec 8)
    (e : execIntakeDsi ring s = .next t) : Keeps s0 t := by
  simp only [execIntakeDsi, Host.Outcome.next.injEq] at e
  subst e
  simp (maxDischargeDepth := 40) +contextual [*]

@[simp] theorem State.intakeGo_keeps {s0 s : State} (h : Keeps s0 s) (v : Word) :
    Keeps s0 (State.intakeGo s v) := by
  simp (maxDischargeDepth := 40) [State.intakeGo, *]

@[simp] theorem State.haltIntake_keeps {s0 s : State} (h : Keeps s0 s)  :
    Keeps s0 (State.haltIntake s) := by
  unfold State.haltIntake
  refine keeps_foldl (fun t x ht => ?_) _ _ ?_
  all_goals try dsimp only
  all_goals repeat' split
  all_goals simp (maxDischargeDepth := 40) +contextual [*]

@[simp] theorem State.freshSurfaces_keeps {s0 s : State} (h : Keeps s0 s)  :
    Keeps s0 (State.freshSurfaces s) := by
  simp (maxDischargeDepth := 40) +contextual [State.freshSurfaces, *]

@[simp] theorem State.resetIntake_keeps {s0 s : State} (h : Keeps s0 s)  :
    Keeps s0 (State.resetIntake s) := by
  simp (maxDischargeDepth := 40) +contextual [State.resetIntake, *]

end Sys2Proof.Machine
end

