-- ==== Sys2Proof/Laws/KeepsPixels.lean ====
section
/-!
SUPPORT. What the operations of Machine/Pixels.lean keep.
-/

namespace Sys2Proof.Machine



end Sys2Proof.Machine
end

