-- ==== Sys2Proof/Laws/KeepsStave.lean ====
section
/-!
SUPPORT. What the operations of Machine/Stave.lean keep.
-/

namespace Sys2Proof.Machine

@[simp] theorem State.setStave_keeps {s0 s : State} (h : Keeps s0 s) (x : Stave) :
    Keeps s0 (State.setStave s x) := by
  simp (maxDischargeDepth := 40) [State.setStave, *]

@[simp] theorem State.setLink_keeps {s0 s : State} (h : Keeps s0 s) (c : Nat) :
    Keeps s0 (State.setLink s c) := by
  simp (maxDischargeDepth := 40) [State.setLink, *]

@[simp] theorem State.setPanel_keeps {s0 s : State} (h : Keeps s0 s) (c : Nat) :
    Keeps s0 (State.setPanel s c) := by
  simp (maxDischargeDepth := 40) [State.setPanel, *]

@[simp] theorem State.drivePanel_keeps {s0 s : State} (h : Keeps s0 s) (m : BitVec 4) (v : BitVec 4) :
    Keeps s0 (State.drivePanel s m v) := by
  simp (maxDischargeDepth := 40) [State.drivePanel, *]

@[simp] theorem State.linkEvent_keeps {s0 s : State} (h : Keeps s0 s) (cause : Nat) :
    Keeps s0 (State.linkEvent s cause) := by
  simp (maxDischargeDepth := 40) [State.linkEvent, *]

@[simp] theorem State.setDelays_keeps {s0 s : State} (h : Keeps s0 s)  :
    Keeps s0 (State.setDelays s) := by
  simp (maxDischargeDepth := 40) +contextual [State.setDelays, *]

@[simp] theorem State.sendPacket_keeps {s0 s : State} (h : Keeps s0 s) (line : Option Nat) (type : Nat) (l : Lane) (row ch0 nch : Nat) (payload : List Byte) :
    Keeps s0 (State.sendPacket s line type l row ch0 nch payload) := by
  simp (maxDischargeDepth := 40) [State.sendPacket, *]

@[simp] theorem State.sendControl_keeps {s0 s : State} (h : Keeps s0 s) (line : Option Nat) (code arg : Nat) (more : List Byte) :
    Keeps s0 (State.sendControl s line code arg more) := by
  simp (maxDischargeDepth := 40) +contextual [State.sendControl, *]

@[simp] theorem State.sendGammaRef_keeps {s0 s : State} (h : Keeps s0 s) (line : Option Nat) :
    Keeps s0 (State.sendGammaRef s line) := by
  simp (maxDischargeDepth := 40) [State.sendGammaRef, *]

@[simp] theorem State.sendDueGamma_keeps {s0 s : State} (h : Keeps s0 s) (line : Option Nat) :
    Keeps s0 (State.sendDueGamma s line) := by
  simp (maxDischargeDepth := 40) [State.sendDueGamma, *]

@[simp] theorem State.sendIdleLines_keeps {s0 s : State} (h : Keeps s0 s) (line n : Nat) :
    Keeps s0 (State.sendIdleLines s line n) := by
  unfold State.sendIdleLines
  exact keeps_foldl (fun t i ht => keeps_foldl (fun u l hu => State.sendPacket_keeps hu _ _ _ _ _ _ _) _ _ ht) _ _ h

@[simp] theorem State.sendRow_keeps {s0 s : State} (h : Keeps s0 s) (type line y : Nat) (row : List PixOut) :
    Keeps s0 (State.sendRow s type line y row) := by
  unfold State.sendRow
  refine keeps_foldl (fun t x ht => ?_) _ _ ?_
  all_goals try dsimp only
  all_goals repeat' split
  all_goals simp (maxDischargeDepth := 40) +contextual [*]

@[simp] theorem State.sendRaster_keeps {s0 s : State} (h : Keeps s0 s) (pol : Nat) (px : List PixOut) :
    Keeps s0 (State.sendRaster s pol px) := by
  simp (maxDischargeDepth := 40) +contextual [State.sendRaster, *]

@[simp] theorem State.sendRegion_keeps {s0 s : State} (h : Keeps s0 s) (r : Rect) (px : List PixOut) :
    Keeps s0 (State.sendRegion s r px) := by
  simp (maxDischargeDepth := 40) +contextual [State.sendRegion, *]

theorem execStaveIdlePacket_keeps {s0 s t : State} (h : Keeps s0 s) (lane : BitVec 2)
    (e : execStaveIdlePacket lane s = .next t) : Keeps s0 t := by
  simp only [execStaveIdlePacket, Host.Outcome.next.injEq] at e
  subst e
  repeat' split
  all_goals simp (maxDischargeDepth := 40) +contextual [*]

@[simp] theorem State.startTraining_keeps {s0 s : State} (h : Keeps s0 s) (cause : Nat) :
    Keeps s0 (State.startTraining s cause) := by
  simp (maxDischargeDepth := 40) [State.startTraining, *]

@[simp] theorem State.staveFreqStep_keeps {s0 s : State} (h : Keeps s0 s)  :
    Keeps s0 (State.staveFreqStep s) := by
  simp (maxDischargeDepth := 40) [State.staveFreqStep, *]

@[simp] theorem State.endG3_keeps {s0 s : State} (h : Keeps s0 s)  :
    Keeps s0 (State.endG3 s) := by
  simp (maxDischargeDepth := 40) [State.endG3, *]

@[simp] theorem State.enterP4_keeps {s0 s : State} (h : Keeps s0 s)  :
    Keeps s0 (State.enterP4 s) := by
  simp (maxDischargeDepth := 40) [State.enterP4, *]

@[simp] theorem State.enterP3_keeps {s0 s : State} (h : Keeps s0 s)  :
    Keeps s0 (State.enterP3 s) := by
  simp (maxDischargeDepth := 40) [State.enterP3, *]

@[simp] theorem State.powerOn_keeps {s0 s : State} (h : Keeps s0 s)  :
    Keeps s0 (State.powerOn s) := by
  simp (maxDischargeDepth := 40) [State.powerOn, *]

@[simp] theorem State.setCause_keeps {s0 s : State} (h : Keeps s0 s) (c : Nat) :
    Keeps s0 (State.setCause s c) := by
  simp (maxDischargeDepth := 40) [State.setCause, *]

@[simp] theorem State.endOffTransition_keeps {s0 s : State} (h : Keeps s0 s)  :
    Keeps s0 (State.endOffTransition s) := by
  simp (maxDischargeDepth := 40) +contextual [State.endOffTransition, *]

@[simp] theorem State.endPowerOff_keeps {s0 s : State} (h : Keeps s0 s)  :
    Keeps s0 (State.endPowerOff s) := by
  simp (maxDischargeDepth := 40) [State.endPowerOff, *]

@[simp] theorem State.enterF3_keeps {s0 s : State} (h : Keeps s0 s) (oneTick : Bool) :
    Keeps s0 (State.enterF3 s oneTick) := by
  simp (maxDischargeDepth := 40) [State.enterF3, *]

@[simp] theorem State.enterF2_keeps {s0 s : State} (h : Keeps s0 s)  :
    Keeps s0 (State.enterF2 s) := by
  simp (maxDischargeDepth := 40) [State.enterF2, *]

@[simp] theorem State.powerOff_keeps {s0 s : State} (h : Keeps s0 s) (cause : Nat) (fault : Bool) :
    Keeps s0 (State.powerOff s cause fault) := by
  simp (maxDischargeDepth := 40) [State.powerOff, *]

@[simp] theorem State.faultOff_keeps {s0 s : State} (h : Keeps s0 s) (cause : Nat) :
    Keeps s0 (State.faultOff s cause) := by
  simp (maxDischargeDepth := 40) [State.faultOff, *]

theorem execPanelRailOn_keeps {s0 s t : State} (h : Keeps s0 s) 
    (e : execPanelRailOn s = .next t) : Keeps s0 t := by
  simp only [execPanelRailOn, Host.Outcome.next.injEq] at e
  subst e
  repeat' split
  all_goals simp (maxDischargeDepth := 40) +contextual [*]

theorem execPnlPgRise_keeps {s0 s t : State} (h : Keeps s0 s) 
    (e : execPnlPgRise s = .next t) : Keeps s0 t := by
  simp only [execPnlPgRise, Host.Outcome.next.injEq] at e
  subst e
  simp (maxDischargeDepth := 40) [*]

theorem execPgTimeout_keeps {s0 s t : State} (h : Keeps s0 s) 
    (e : execPgTimeout s = .next t) : Keeps s0 t := by
  simp only [execPgTimeout, Host.Outcome.next.injEq] at e
  subst e
  simp (maxDischargeDepth := 40) [*]

theorem execDischargeEnd_keeps {s0 s t : State} (h : Keeps s0 s) 
    (e : execDischargeEnd s = .next t) : Keeps s0 t := by
  simp only [execDischargeEnd, Host.Outcome.next.injEq] at e
  subst e
  simp (maxDischargeDepth := 40) [*]

theorem execPanelRailOff_keeps {s0 s t : State} (h : Keeps s0 s) 
    (e : execPanelRailOff s = .next t) : Keeps s0 t := by
  simp only [execPanelRailOff, Host.Outcome.next.injEq] at e
  subst e
  repeat' split
  all_goals simp (maxDischargeDepth := 40) +contextual [*]

theorem execPanelSupplyLoss_keeps {s0 s t : State} (h : Keeps s0 s) 
    (e : execPanelSupplyLoss s = .next t) : Keeps s0 t := by
  simp only [execPanelSupplyLoss, Host.Outcome.next.injEq] at e
  subst e
  simp (maxDischargeDepth := 40) [*]

theorem execTrainingSuccess_keeps {s0 s t : State} (h : Keeps s0 s) (packets : Nat)
    (e : execTrainingSuccess packets s = .next t) : Keeps s0 t := by
  simp only [execTrainingSuccess, Host.Outcome.next.injEq] at e
  subst e
  simp (maxDischargeDepth := 40) [*]

theorem execTrainingAttemptTimeout_keeps {s0 s t : State} (h : Keeps s0 s) 
    (e : execTrainingAttemptTimeout s = .next t) : Keeps s0 t := by
  simp only [execTrainingAttemptTimeout, Host.Outcome.next.injEq] at e
  subst e
  simp (maxDischargeDepth := 40) [*]

theorem execLockLoss_keeps {s0 s t : State} (h : Keeps s0 s) 
    (e : execLockLoss s = .next t) : Keeps s0 t := by
  simp only [execLockLoss, Host.Outcome.next.injEq] at e
  subst e
  simp (maxDischargeDepth := 40) [*]

theorem execDriverFault_keeps {s0 s t : State} (h : Keeps s0 s) 
    (e : execDriverFault s = .next t) : Keeps s0 t := by
  simp only [execDriverFault, Host.Outcome.next.injEq] at e
  subst e
  simp (maxDischargeDepth := 40) [*]

theorem execCrackCheckDue_keeps {s0 s t : State} (h : Keeps s0 s) 
    (e : execCrackCheckDue s = .next t) : Keeps s0 t := by
  simp only [execCrackCheckDue, Host.Outcome.next.injEq] at e
  subst e
  repeat' split
  all_goals simp (maxDischargeDepth := 40) +contextual [*]

@[simp] theorem State.crackBoundary_keeps {s0 s : State} (h : Keeps s0 s)  :
    Keeps s0 (State.crackBoundary s) := by
  simp (maxDischargeDepth := 40) [State.crackBoundary, *]

@[simp] theorem State.crackFault_keeps {s0 s : State} (h : Keeps s0 s) (r : Nat) :
    Keeps s0 (State.crackFault s r) := by
  simp (maxDischargeDepth := 40) [State.crackFault, *]

theorem execCrackCheckEnd_keeps {s0 s t : State} (h : Keeps s0 s) (mv : Nat)
    (e : execCrackCheckEnd mv s = .next t) : Keeps s0 t := by
  simp only [execCrackCheckEnd, Host.Outcome.next.injEq] at e
  subst e
  repeat' split
  all_goals simp (maxDischargeDepth := 40) +contextual [*]

theorem execConfirmingCheck_keeps {s0 s t : State} (h : Keeps s0 s) 
    (e : execConfirmingCheck s = .next t) : Keeps s0 t := by
  simp only [execConfirmingCheck, Host.Outcome.next.injEq] at e
  subst e
  repeat' split
  all_goals simp (maxDischargeDepth := 40) +contextual [*]

@[simp] theorem State.crackTick_keeps {s0 s : State} (h : Keeps s0 s) :
    Keeps s0 (State.crackTick s) := by
  simp (maxDischargeDepth := 40) [State.crackTick, *]

@[simp] theorem State.holdPanel_keeps {s0 s : State} (h : Keeps s0 s)  :
    Keeps s0 (State.holdPanel s) := by
  simp (maxDischargeDepth := 40) [State.holdPanel, *]

@[simp] theorem State.linkOff_keeps {s0 s : State} (h : Keeps s0 s)  :
    Keeps s0 (State.linkOff s) := by
  simp (maxDischargeDepth := 40) [State.linkOff, *]

@[simp] theorem State.staveRetrain_keeps {s0 s : State} (h : Keeps s0 s)  :
    Keeps s0 (State.staveRetrain s) := by
  simp (maxDischargeDepth := 40) [State.staveRetrain, *]

@[simp] theorem State.staveCheck_keeps {s0 s : State} (h : Keeps s0 s)  :
    Keeps s0 (State.staveCheck s) := by
  simp (maxDischargeDepth := 40) [State.staveCheck, *]

@[simp] theorem State.staveRecover_keeps {s0 s : State} (h : Keeps s0 s)  :
    Keeps s0 (State.staveRecover s) := by
  simp (maxDischargeDepth := 40) [State.staveRecover, *]

@[simp] theorem State.staveGo_keeps {s0 s : State} (h : Keeps s0 s) (v : Word) :
    Keeps s0 (State.staveGo s v) := by
  simp (maxDischargeDepth := 40) [State.staveGo, *]

theorem execStaveSet_keeps {s0 s t : State} (h : Keeps s0 s) (ring : BitVec 8)
    (e : execStaveSet ring s = .next t) : Keeps s0 t := by
  simp only [execStaveSet, Host.Outcome.next.injEq] at e
  subst e
  simp (maxDischargeDepth := 40) +contextual [*]

theorem execStaveCommit_keeps {s0 s t : State} (h : Keeps s0 s) (ring : BitVec 8)
    (e : execStaveCommit ring s = .next t) : Keeps s0 t := by
  simp only [execStaveCommit, Host.Outcome.next.injEq] at e
  subst e
  simp (maxDischargeDepth := 40) +contextual [*]

theorem execPanelCheck_keeps {s0 s t : State} (h : Keeps s0 s) (ring : BitVec 8)
    (e : execPanelCheck ring s = .next t) : Keeps s0 t := by
  simp only [execPanelCheck, Host.Outcome.next.injEq] at e
  subst e
  simp (maxDischargeDepth := 40) +contextual [*]

theorem execPanelRecover_keeps {s0 s t : State} (h : Keeps s0 s) (ring : BitVec 8)
    (e : execPanelRecover ring s = .next t) : Keeps s0 t := by
  simp only [execPanelRecover, Host.Outcome.next.injEq] at e
  subst e
  simp (maxDischargeDepth := 40) +contextual [*]

end Sys2Proof.Machine
end

