-- ==== Sys2Proof/Laws/KeepsTensor.lean ====
section
/-!
SUPPORT. What the operations of Machine/Tensor.lean keep.
-/

namespace Sys2Proof.Machine

@[simp] theorem State.readBlock_keeps {s0 s : State} (h : Keeps s0 s) (t : Tensor) (r : Nat) (rows : Nat) (e : Nat) (n : Nat) :
    Keeps s0 (State.readBlock s t r rows e n).2 := by
  simp (maxDischargeDepth := 40) +contextual [State.readBlock, *]

@[simp] theorem State.readPanel_keeps {s0 s : State} (h : Keeps s0 s) (t : Option Tensor) (r : Nat) (rows : Nat) (e : Nat) (n : Nat) :
    Keeps s0 (State.readPanel s t r rows e n).2 := by
  unfold State.readPanel
  split <;> simp (maxDischargeDepth := 40) [*]

@[simp] theorem State.panelA_keeps {s0 s : State} (h : Keeps s0 s) (block : List Word) (c : Nat) (t : Nat) (i : Nat) (at_ : Nat × Nat) :
    Keeps s0 (State.panelA s block c t i at_).2 := by
  simp only [State.panelA]
  repeat' split
  all_goals simp (maxDischargeDepth := 40) +contextual [*]

@[simp] theorem State.panelB_keeps {s0 s : State} (h : Keeps s0 s) (block : List Word) (c : Nat) (t : Nat) (i : Nat) (at_ : Nat × Nat) :
    Keeps s0 (State.panelB s block c t i at_).2 := by
  simp only [State.panelB]
  repeat' split
  all_goals simp (maxDischargeDepth := 40) +contextual [*]

@[simp] theorem State.panelQ_keeps {s0 s : State} (h : Keeps s0 s) (block : List Word) (c : Nat) (t : Nat) (i : Nat) (at_ : Nat × Nat) :
    Keeps s0 (State.panelQ s block c t i at_).2 := by
  simp (maxDischargeDepth := 40) [State.panelQ, *]

@[simp] theorem heldPanel_keeps {s0 s : State} (h : Keeps s0 s) (hold : Bool) (key : Nat)
    (held : Cells (List (List Nat))) (load : State → List (List Nat) × State)
    (hload : ∀ t, Keeps s0 t → Keeps s0 (load t).2) : Keeps s0 (heldPanel hold key held s load).2.2 := by
  unfold heldPanel
  split
  · split
    · exact h
    · exact hload s h
  · exact hload s h

@[simp] theorem State.loadOp_keeps {s0 s : State} (h : Keeps s0 s) (block : List Word) (c : Nat) (t : Nat) (i : Nat) (at_ : Nat × Nat) (held : Cells (List (List Nat))) :
    Keeps s0 (State.loadOp s block c t i at_ held).2.2 := by
  simp (maxDischargeDepth := 40) +contextual [State.loadOp, *]

@[simp] theorem State.storeRow_keeps {s0 s : State} (h : Keeps s0 s) (t : Tensor) (np : Nat) (row : Nat) (e : Nat) (vs : List Nat) :
    Keeps s0 (State.storeRow s t np row e vs) := by
  simp (maxDischargeDepth := 40) +contextual [State.storeRow, *]

end Sys2Proof.Machine
end

