-- ==== Sys2Proof/Laws/KeepsEnsemble.lean ====
section
/-!
SUPPORT. What the operations of Machine/Ensemble.lean keep.
-/

namespace Sys2Proof.Machine

@[simp] theorem State.stageMoved_keeps {s0 s : State} (h : Keeps s0 s) :
    Keeps s0 (State.stageMoved s) := by
  simp (maxDischargeDepth := 40) [State.stageMoved, *]

@[simp] theorem State.setEns_keeps {s0 s : State} (h : Keeps s0 s) (e : Ens) :
    Keeps s0 (State.setEns s e) := by
  simp (maxDischargeDepth := 40) [State.setEns, *]

@[simp] theorem State.setJob_keeps {s0 s : State} (h : Keeps s0 s) (j : Job) :
    Keeps s0 (State.setJob s j) := by
  simp (maxDischargeDepth := 40) [State.setJob, *]

@[simp] theorem State.endJob_keeps {s0 s : State} (h : Keeps s0 s) (j : Job) (status : Nat) (r0 : Nat) :
    Keeps s0 (State.endJob s j status r0) := by
  simp (maxDischargeDepth := 40) [State.endJob, *]

@[simp] theorem State.giveCompletion_keeps {s0 s : State} (h : Keeps s0 s) (j : Job) (status : Nat) (res : List Word) :
    Keeps s0 (State.giveCompletion s j status res) := by
  unfold State.giveCompletion
  repeat' split
  all_goals simp (maxDischargeDepth := 40) +contextual [*]

@[simp] theorem State.giveJobs_keeps {s0 s : State} (h : Keeps s0 s) :
    Keeps s0 (State.giveJobs s) := by
  unfold State.giveJobs
  refine keeps_foldl (fun t j ht => ?_) _ _ h
  split <;> simp (maxDischargeDepth := 40) [*]

@[simp] theorem State.giveBad_keeps {s0 s : State} (h : Keeps s0 s) :
    Keeps s0 (State.giveBad s) := by
  unfold State.giveBad
  refine keeps_foldl (fun t b ht => ?_) _ _ h
  split <;> simp (maxDischargeDepth := 40) [*]

@[simp] theorem State.giveCompletions_keeps {s0 s : State} (h : Keeps s0 s)  :
    Keeps s0 (State.giveCompletions s) := by
  unfold State.giveCompletions
  exact keeps_foldl (fun t _ ht => State.giveBad_keeps (State.giveJobs_keeps ht)) _ _ (State.giveJobs_keeps h)

@[simp] theorem State.settleJob_keeps {s0 s : State} (h : Keeps s0 s) (id : Nat) :
    Keeps s0 (State.settleJob s id) := by
  unfold State.settleJob
  repeat' split
  all_goals simp (maxDischargeDepth := 40) +contextual [*]

@[simp] theorem State.settleJobs_keeps {s0 s : State} (h : Keeps s0 s)  :
    Keeps s0 (State.settleJobs s) := by
  simp (maxDischargeDepth := 40) +contextual [State.settleJobs, *]

@[simp] theorem State.retireDesk_keeps {s0 s : State} (h : Keeps s0 s) (d : Nat) (cause : Nat) (ring : Nat) :
    Keeps s0 (State.retireDesk s d cause ring) := by
  simp (maxDischargeDepth := 40) [State.retireDesk, *]

@[simp] theorem State.retiredEvent_keeps {s0 s : State} (h : Keeps s0 s) (d : Nat) (cause : Nat) (ring : Nat) :
    Keeps s0 (State.retiredEvent s d cause ring) := by
  simp (maxDischargeDepth := 40) [State.retiredEvent, *]

@[simp] theorem State.dataFault_keeps {s0 s : State} (h : Keeps s0 s) (j : Job) (op : Nat) (desks : Nat) :
    Keeps s0 (State.dataFault s j op desks) := by
  simp (maxDischargeDepth := 40) [State.dataFault, *]

@[simp] theorem State.stuckTiles_keeps {s0 s : State} (h : Keeps s0 s)  :
    Keeps s0 (State.stuckTiles s) := by
  unfold State.stuckTiles
  repeat' split
  all_goals try refine keeps_foldl (fun t x ht => ?_) _ _ ?_
  all_goals repeat' split
  all_goals simp (maxDischargeDepth := 40) +contextual [*]

@[simp] theorem State.noteGiven_keeps {s0 s : State} (h : Keeps s0 s) (t : Tile) :
    Keeps s0 (State.noteGiven s t) := by
  unfold State.noteGiven
  split <;> simp (maxDischargeDepth := 40) [*]

@[simp] theorem State.giveDesk_keeps {s0 s : State} (h : Keeps s0 s) (d : Nat) :
    Keeps s0 (State.giveDesk s d) := by
  simp only [State.giveDesk]
  repeat' split
  all_goals simp (maxDischargeDepth := 40) +contextual [*]

@[simp] theorem State.dispatch_keeps {s0 s : State} (h : Keeps s0 s)  :
    Keeps s0 (State.dispatch s) := by
  simp (maxDischargeDepth := 40) +contextual [State.dispatch, *]

@[simp] theorem State.leaseEvent_keeps {s0 s : State} (h : Keeps s0 s) (before : Nat) :
    Keeps s0 (State.leaseEvent s before) := by
  simp (maxDischargeDepth := 40) [State.leaseEvent, *]

@[simp] theorem State.pickDesk_keeps {s0 s : State} (h : Keeps s0 s)  :
    Keeps s0 (State.pickDesk s) := by
  unfold State.pickDesk
  split <;> simp (maxDischargeDepth := 40) [*]

@[simp] theorem State.fillLease_keeps {s0 s : State} (h : Keeps s0 s)  :
    Keeps s0 (State.fillLease s) := by
  simp (maxDischargeDepth := 40) +contextual [State.fillLease, *]

@[simp] theorem State.joinDesks_keeps {s0 s : State} (h : Keeps s0 s)  :
    Keeps s0 (State.joinDesks s) := by
  simp (maxDischargeDepth := 40) +contextual [State.joinDesks, *]

@[simp] theorem State.startMove_keeps {s0 s : State} (h : Keeps s0 s) (d : Nat) :
    Keeps s0 (State.startMove s d) := by
  unfold State.startMove
  repeat' split
  all_goals simp (maxDischargeDepth := 40) +contextual [*]

@[simp] theorem State.leaveLease_keeps {s0 s : State} (h : Keeps s0 s) (d : Nat) :
    Keeps s0 (State.leaveLease s d) := by
  simp (maxDischargeDepth := 40) [State.leaveLease, *]

@[simp] theorem State.judgeShort_keeps {s0 s : State} (h : Keeps s0 s)  :
    Keeps s0 (State.judgeShort s) := by
  simp (maxDischargeDepth := 40) [State.judgeShort, *]

@[simp] theorem State.askLease_keeps {s0 s : State} (h : Keeps s0 s) (d : Nat) :
    Keeps s0 (State.askLease s d) := by
  simp (maxDischargeDepth := 40) [State.askLease, *]

@[simp] theorem State.startTest_keeps {s0 s : State} (h : Keeps s0 s)  :
    Keeps s0 (State.startTest s) := by
  simp only [State.startTest]
  repeat' split
  all_goals simp (maxDischargeDepth := 40) +contextual [*]

@[simp] theorem State.answerTests_keeps {s0 s : State} (h : Keeps s0 s)  :
    Keeps s0 (State.answerTests s) := by
  unfold State.answerTests
  refine keeps_foldl (fun t x ht => ?_) _ _ ?_
  all_goals try dsimp only
  all_goals repeat' split
  all_goals simp (maxDischargeDepth := 40) +contextual [*]

@[simp] theorem State.serveEns_keeps {s0 s : State} (h : Keeps s0 s)  :
    Keeps s0 (State.serveEns s) := by
  simp (maxDischargeDepth := 40) +contextual [State.serveEns, *]

@[simp] theorem State.addJob_keeps {s0 s : State} (h : Keeps s0 s) (ring : Option Nat) (index : Nat) (owner : Nat) (ws : List Word) :
    Keeps s0 (State.addJob s ring index owner ws) := by
  simp (maxDischargeDepth := 40) [State.addJob, *]

@[simp] theorem State.takeIssue_keeps {s0 s : State} (h : Keeps s0 s)  :
    Keeps s0 (State.takeIssue s) := by
  unfold State.takeIssue
  split <;> simp (maxDischargeDepth := 40) [*]

@[simp] theorem State.ensRun_keeps {s0 s : State} (h : Keeps s0 s)  :
    Keeps s0 (State.ensRun s) := by
  simp (maxDischargeDepth := 40) [State.ensRun, *]

@[simp] theorem State.deskIdle_keeps {s0 s : State} (h : Keeps s0 s) (d : Nat) :
    Keeps s0 (State.deskIdle s d) := by
  simp (maxDischargeDepth := 40) [State.deskIdle, *]

@[simp] theorem State.ensFrame_keeps {s0 s : State} (h : Keeps s0 s) (y0 y1 : Nat) : Keeps s0 (s.ensFrame y0 y1) := by
  unfold State.ensFrame
  refine State.ensRun_keeps (State.judgeShort_keeps (State.joinDesks_keeps (State.fillLease_keeps
    (keeps_foldl (fun t d ht => ?_) _ _ ?_))))
  · split <;> simp [ht]
  · exact State.leaseEvent_keeps (State.setEns_keeps (keeps_foldl (fun t d ht => State.leaveLease_keeps ht d) _ _ h) _) _

@[simp] theorem State.releaseLease_keeps {s0 s : State} (h : Keeps s0 s)  :
    Keeps s0 (State.releaseLease s) := by
  simp (maxDischargeDepth := 40) +contextual [State.releaseLease, *]

@[simp] theorem State.fetchJob_keeps {s0 s : State} (h : Keeps s0 s) (r : Nat) :
    Keeps s0 (State.fetchJob s r) := by
  simp (maxDischargeDepth := 40) [State.fetchJob, *]

@[simp] theorem State.takeTurn_keeps {s0 s : State} (h : Keeps s0 s) (r : Nat) (f : State → State) (hf : ∀ y0, Keeps s0 y0 → Keeps s0 (f y0)) :
    Keeps s0 (State.takeTurn s r f) := by
  simp (maxDischargeDepth := 40) [State.takeTurn, *]

theorem execEntryFetch_keeps {s0 s t : State} (h : Keeps s0 s) (ring : BitVec 8)
    (e : execEntryFetch ring s = .next t) : Keeps s0 t := by
  simp only [execEntryFetch, Host.Outcome.next.injEq] at e
  subst e
  simp (maxDischargeDepth := 40) +contextual [*]

theorem execJobFetch_keeps {s0 s t : State} (h : Keeps s0 s) (ring : BitVec 8)
    (e : execJobFetch ring s = .next t) : Keeps s0 t := by
  simp only [execJobFetch, Host.Outcome.next.injEq] at e
  subst e
  simp (maxDischargeDepth := 40) +contextual [*]

@[simp] theorem State.startJob_keeps {s0 s : State} (h : Keeps s0 s) (j : Job) :
    Keeps s0 (State.startJob s j) := by
  simp (maxDischargeDepth := 40) [State.startJob, *]

theorem execJobStart_keeps {s0 s t : State} (h : Keeps s0 s) 
    (e : execJobStart s = .next t) : Keeps s0 t := by
  simp only [execJobStart, Host.Outcome.next.injEq] at e
  subst e
  repeat' split
  all_goals simp (maxDischargeDepth := 40) +contextual [*]

theorem keeps_foldl_snd_snd {s0 : State} {α β γ : Type} {f : β × γ × State → α → β × γ × State}
    (hf : ∀ p x, Keeps s0 p.2.2 → Keeps s0 (f p x).2.2) :
    ∀ (l : List α) (p : β × γ × State), Keeps s0 p.2.2 → Keeps s0 (l.foldl f p).2.2
  | [], _, h => h
  | x :: l, p, h => keeps_foldl_snd_snd hf l (f p x) (hf p x h)

@[simp] theorem State.loadPanels_keeps {s0 s : State} (h : Keeps s0 s) (j : Job) : Keeps s0 (s.loadPanels j) := by
  unfold State.loadPanels
  extract_lets c ts at_ r
  have hr : Keeps s0 r.2.2 := by
    refine keeps_foldl_snd_snd (fun p x hp => ?_) _ _ h
    exact State.loadOp_keeps hp _ _ _ _ _ _
  simp (maxDischargeDepth := 40) [*]

theorem execL2PanelLoaded_keeps {s0 s t : State} (h : Keeps s0 s) (slot : BitVec 3)
    (e : execL2PanelLoaded slot s = .next t) : Keeps s0 t := by
  simp only [execL2PanelLoaded, Host.Outcome.next.injEq] at e
  subst e
  repeat' split
  all_goals simp (maxDischargeDepth := 40) +contextual [*]

@[simp] theorem State.storeTile_keeps {s0 s : State} (h : Keeps s0 s) (j : Job) (l : L2Tile) (t : Tile) (errs : List DeskErr) :
    Keeps s0 (State.storeTile s j l t errs) := by
  simp only [State.storeTile]
  repeat' split
  all_goals simp (maxDischargeDepth := 40) +contextual [*]

@[simp] theorem State.retireL2_keeps {s0 s : State} (h : Keeps s0 s) (id : Nat) :
    Keeps s0 (State.retireL2 s id) := by
  unfold State.retireL2
  split <;> simp (maxDischargeDepth := 40) [*]

@[simp] theorem State.tilePassed_keeps {s0 s : State} (h : Keeps s0 s) (j : Job) (t : Tile) (first : Option Nat) (errs : List DeskErr) :
    Keeps s0 (State.tilePassed s j t first errs) := by
  simp only [State.tilePassed]
  repeat' split
  all_goals simp (maxDischargeDepth := 40) +contextual [*]

@[simp] theorem State.tileFailed_keeps {s0 s : State} (h : Keeps s0 s) (j : Job) (d : Nat) (t : Tile) (first : Option Nat) :
    Keeps s0 (State.tileFailed s j d t first) := by
  unfold State.tileFailed
  repeat' split
  all_goals simp (maxDischargeDepth := 40) +contextual [*]

@[simp] theorem State.sortRedo_keeps {s0 s : State} (h : Keeps s0 s)  :
    Keeps s0 (State.sortRedo s) := by
  simp (maxDischargeDepth := 40) [State.sortRedo, *]

theorem execTileEnd_keeps {s0 s t : State} (h : Keeps s0 s) (desk : BitVec 4) (errs : List DeskErr)
    (e : execTileEnd desk errs s = .next t) : Keeps s0 t := by
  simp only [execTileEnd, Host.Outcome.next.injEq] at e
  subst e
  repeat' split
  all_goals simp (maxDischargeDepth := 40) +contextual [*]

@[simp] theorem State.cancelJobs_keeps {s0 s : State} (h : Keeps s0 s) (which : Job → Bool) :
    Keeps s0 (State.cancelJobs s which) := by
  unfold State.cancelJobs
  refine keeps_foldl (fun t x ht => ?_) _ _ ?_
  all_goals repeat' split
  all_goals simp (maxDischargeDepth := 40) +contextual [*]

theorem execJobCancel_keeps {s0 s t : State} (h : Keeps s0 s) (ring : BitVec 8)
    (e : execJobCancel ring s = .next t) : Keeps s0 t := by
  simp only [execJobCancel, Host.Outcome.next.injEq] at e
  subst e
  simp (maxDischargeDepth := 40) +contextual [*]

@[simp] theorem State.issueGo_keeps {s0 s : State} (h : Keeps s0 s) (v : Word) :
    Keeps s0 (State.issueGo s v) := by
  simp (maxDischargeDepth := 40) +contextual [State.issueGo, *]

theorem execBistDue_keeps {s0 s t : State} (h : Keeps s0 s) 
    (e : execBistDue s = .next t) : Keeps s0 t := by
  simp only [execBistDue, Host.Outcome.next.injEq] at e
  subst e
  repeat' split
  all_goals simp (maxDischargeDepth := 40) +contextual [*]

@[simp] theorem State.endTest_keeps {s0 s : State} (h : Keeps s0 s) (d : Nat) (passes : Bool) :
    Keeps s0 (State.endTest s d passes) := by
  simp (maxDischargeDepth := 40) [State.endTest, *]

theorem execBistEnd_keeps {s0 s t : State} (h : Keeps s0 s) (passes : Bool)
    (e : execBistEnd passes s = .next t) : Keeps s0 t := by
  simp only [execBistEnd, Host.Outcome.next.injEq] at e
  subst e
  repeat' split
  all_goals simp (maxDischargeDepth := 40) +contextual [*]

@[simp] theorem State.askTests_keeps {s0 s : State} (h : Keeps s0 s) (key : Nat) (mask : Nat) (retest : Bool) :
    Keeps s0 (State.askTests s key mask retest) := by
  simp (maxDischargeDepth := 40) [State.askTests, *]

@[simp] theorem State.deskTestVerb_keeps {s0 s : State} (h : Keeps s0 s) (retest : Bool) (v : Verb) :
    Keeps s0 (State.deskTestVerb retest s v) := by
  simp (maxDischargeDepth := 40) [State.deskTestVerb, *]

theorem execDeskTest_keeps {s0 s t : State} (h : Keeps s0 s) (ring : BitVec 8)
    (e : execDeskTest ring s = .next t) : Keeps s0 t := by
  simp only [execDeskTest, Host.Outcome.next.injEq] at e
  subst e
  simp (maxDischargeDepth := 40) +contextual [*]

theorem execDeskRetest_keeps {s0 s t : State} (h : Keeps s0 s) (ring : BitVec 8)
    (e : execDeskRetest ring s = .next t) : Keeps s0 t := by
  simp only [execDeskRetest, Host.Outcome.next.injEq] at e
  subst e
  simp (maxDischargeDepth := 40) +contextual [*]

@[simp] theorem State.writeTests_keeps {s0 s : State} (h : Keeps s0 s) (key mask : Nat) (retest : Bool) :
    Keeps s0 (State.writeTests s key mask retest) := by
  simp (maxDischargeDepth := 40) [State.writeTests, *]

@[simp] theorem State.writeDeskTest_keeps {s0 s : State} (h : Keeps s0 s) (v : Word) :
    Keeps s0 (State.writeDeskTest s v) := by
  simp (maxDischargeDepth := 40) [State.writeDeskTest, *]

@[simp] theorem State.writeDeskRetest_keeps {s0 s : State} (h : Keeps s0 s) (v : Word) :
    Keeps s0 (State.writeDeskRetest s v) := by
  simp (maxDischargeDepth := 40) [State.writeDeskRetest, *]

@[simp] theorem State.givePass_keeps {s0 s : State} (h : Keeps s0 s) (d : Nat) :
    Keeps s0 (State.givePass s d) := by
  unfold State.givePass
  repeat' split
  all_goals simp (maxDischargeDepth := 40) +contextual [*]

@[simp] theorem State.givePasses_keeps {s0 s : State} (h : Keeps s0 s)  :
    Keeps s0 (State.givePasses s) := by
  simp (maxDischargeDepth := 40) +contextual [State.givePasses, *]

theorem execBandExpansionStart_keeps {s0 s t : State} (h : Keeps s0 s) 
    (e : execBandExpansionStart s = .next t) : Keeps s0 t := by
  simp only [execBandExpansionStart, Host.Outcome.next.injEq] at e
  subst e
  simp (maxDischargeDepth := 40) [*]

@[simp] theorem State.writePass_keeps {s0 s : State} (h : Keeps s0 s) (b p : Nat) (errs : List Int) :
    Keeps s0 (State.writePass s b p errs) := by
  simp (maxDischargeDepth := 40) +contextual [State.writePass, *]

@[simp] theorem State.settleBand_keeps {s0 s : State} (h : Keeps s0 s)  :
    Keeps s0 (State.settleBand s) := by
  unfold State.settleBand
  split <;> simp (maxDischargeDepth := 40) [*]

theorem execBandPassEnd_keeps {s0 s t : State} (h : Keeps s0 s) (desk : BitVec 4) (errs : List Int)
    (e : execBandPassEnd desk errs s = .next t) : Keeps s0 t := by
  simp only [execBandPassEnd, Host.Outcome.next.injEq] at e
  subst e
  repeat' split
  all_goals simp (maxDischargeDepth := 40) +contextual [*]

@[simp] theorem State.ensGo_keeps {s0 s : State} (h : Keeps s0 s) (v : Word) :
    Keeps s0 (State.ensGo s v) := by
  simp (maxDischargeDepth := 40) [State.ensGo, *]

theorem execEnsSet_keeps {s0 s t : State} (h : Keeps s0 s) (ring : BitVec 8)
    (e : execEnsSet ring s = .next t) : Keeps s0 t := by
  simp only [execEnsSet, Host.Outcome.next.injEq] at e
  subst e
  simp (maxDischargeDepth := 40) +contextual [*]

theorem execEnsCommit_keeps {s0 s t : State} (h : Keeps s0 s) (ring : BitVec 8)
    (e : execEnsCommit ring s = .next t) : Keeps s0 t := by
  simp only [execEnsCommit, Host.Outcome.next.injEq] at e
  subst e
  simp (maxDischargeDepth := 40) +contextual [*]

theorem execEnsRead_keeps {s0 s t : State} (h : Keeps s0 s) (ring : BitVec 8)
    (e : execEnsRead ring s = .next t) : Keeps s0 t := by
  simp only [execEnsRead, Host.Outcome.next.injEq] at e
  subst e
  simp (maxDischargeDepth := 40) +contextual [*]

@[simp] theorem State.jobsAtD2_keeps {s0 s : State} (h : Keeps s0 s) (target : Nat) (forced : Bool) :
    Keeps s0 (State.jobsAtD2 s target forced) := by
  simp (maxDischargeDepth := 40) [State.jobsAtD2, *]

@[simp] theorem State.resetEns_keeps {s0 s : State} (h : Keeps s0 s)  :
    Keeps s0 (State.resetEns s) := by
  simp (maxDischargeDepth := 40) [State.resetEns, *]

end Sys2Proof.Machine
end

