-- ==== Sys2Proof/Laws/KeepsFace.lean ====
section
/-!
SUPPORT. What the operations of Machine/Face.lean keep.
-/

namespace Sys2Proof.Machine

@[simp] theorem State.setFace_keeps {s0 s : State} (h : Keeps s0 s) (x : Face) :
    Keeps s0 (State.setFace s x) := by
  simp (maxDischargeDepth := 40) [State.setFace, *]

@[simp] theorem State.evaluate_keeps {s0 s : State} (h : Keeps s0 s)  :
    Keeps s0 (State.evaluate s) := by
  simp (maxDischargeDepth := 40) +contextual [State.evaluate, *]

theorem execWallSecondBoundary_keeps {s0 s t : State} (h : Keeps s0 s) 
    (e : execWallSecondBoundary s = .next t) : Keeps s0 t := by
  simp only [execWallSecondBoundary, Host.Outcome.next.injEq] at e
  subst e
  simp (maxDischargeDepth := 40) [*]

@[simp] theorem State.wallTick_keeps {s0 s : State} (h : Keeps s0 s)  :
    Keeps s0 (State.wallTick s) := by
  unfold State.wallTick
  repeat' split
  all_goals simp (maxDischargeDepth := 40) +contextual [*]

@[simp] theorem State.writeWallHi_keeps {s0 s : State} (h : Keeps s0 s) (v : Word) :
    Keeps s0 (State.writeWallHi s v) := by
  simp (maxDischargeDepth := 40) [State.writeWallHi, *]

@[simp] theorem State.repaint_keeps {s0 s : State} (h : Keeps s0 s)  :
    Keeps s0 (State.repaint s) := by
  simp (maxDischargeDepth := 40) +contextual [State.repaint, *]

@[simp] theorem State.writeFaceReq_keeps {s0 s : State} (h : Keeps s0 s) (v : Word) :
    Keeps s0 (State.writeFaceReq s v) := by
  simp (maxDischargeDepth := 40) [State.writeFaceReq, *]

@[simp] theorem State.faceMode_keeps {s0 s : State} (h : Keeps s0 s)  :
    Keeps s0 (State.faceMode s) := by
  simp (maxDischargeDepth := 40) [State.faceMode, *]

@[simp] theorem State.faceStops_keeps {s0 s : State} (h : Keeps s0 s)  :
    Keeps s0 (State.faceStops s) := by
  simp (maxDischargeDepth := 40) +contextual [State.faceStops, *]

@[simp] theorem State.clearDue_keeps {s0 s : State} (h : Keeps s0 s) (f : Nat) :
    Keeps s0 (State.clearDue s f) := by
  simp (maxDischargeDepth := 40) [State.clearDue, *]

@[simp] theorem State.pushBox_keeps {s0 s : State} (h : Keeps s0 s) (acc : List PixOut) (r : Rect) (tap : Nat → Nat → Col) :
    Keeps s0 (State.pushBox s acc r tap).2 := by
  unfold State.pushBox
  split <;> simp (maxDischargeDepth := 40) [*]

@[simp] theorem State.pushRows_keeps {s0 s : State} (h : Keeps s0 s) (rows : List Nat) :
    Keeps s0 (State.pushRows s rows).2 := by
  simp (maxDischargeDepth := 40) +contextual [State.pushRows, *]

@[simp] theorem State.pushFace_keeps {s0 s : State} (h : Keeps s0 s)  :
    Keeps s0 (State.pushFace s) := by
  simp (maxDischargeDepth := 40) +contextual [State.pushFace, *]

@[simp] theorem State.wakeLink_keeps {s0 s : State} (h : Keeps s0 s)  :
    Keeps s0 (State.wakeLink s) := by
  simp (maxDischargeDepth := 40) [State.wakeLink, *]

theorem execFacePush_keeps {s0 s t : State} (h : Keeps s0 s) 
    (e : execFacePush s = .next t) : Keeps s0 t := by
  simp only [execFacePush, Host.Outcome.next.injEq] at e
  subst e
  simp (maxDischargeDepth := 40) [*]

@[simp] theorem State.fullFrame_keeps {s0 s : State} (h : Keeps s0 s)  :
    Keeps s0 (State.fullFrame s) := by
  simp (maxDischargeDepth := 40) +contextual [State.fullFrame, *]

theorem execFullFrameStart_keeps {s0 s t : State} (h : Keeps s0 s) 
    (e : execFullFrameStart s = .next t) : Keeps s0 t := by
  simp only [execFullFrameStart, Host.Outcome.next.injEq] at e
  subst e
  simp (maxDischargeDepth := 40) [*]

@[simp] theorem State.showField_keeps {s0 s : State} (h : Keeps s0 s) (f : Nat) (v : Nat) :
    Keeps s0 (State.showField s f v) := by
  simp (maxDischargeDepth := 40) [State.showField, *]

@[simp] theorem State.endPush_keeps {s0 s : State} (h : Keeps s0 s) (p : FacePush) :
    Keeps s0 (State.endPush s p) := by
  simp (maxDischargeDepth := 40) +contextual [State.endPush, *]

theorem execFacePushEnd_keeps {s0 s t : State} (h : Keeps s0 s) 
    (e : execFacePushEnd s = .next t) : Keeps s0 t := by
  simp only [execFacePushEnd, Host.Outcome.next.injEq] at e
  subst e
  repeat' split
  all_goals simp (maxDischargeDepth := 40) +contextual [*]

@[simp] theorem State.commitFace_keeps {s0 s : State} (h : Keeps s0 s)  :
    Keeps s0 (State.commitFace s) := by
  simp (maxDischargeDepth := 40) +contextual [State.commitFace, *]

@[simp] theorem State.markUnfit_keeps {s0 s : State} (h : Keeps s0 s) (f : Nat) : Keeps s0 (State.markUnfit s f) := by
  simp (maxDischargeDepth := 40) [State.markUnfit, *]

@[simp] theorem State.recheckFace_keeps {s0 s : State} (h : Keeps s0 s)  :
    Keeps s0 (State.recheckFace s) := by
  simp (maxDischargeDepth := 40) +contextual [State.recheckFace, *]

@[simp] theorem State.faceGo_keeps {s0 s : State} (h : Keeps s0 s) (v : Word) :
    Keeps s0 (State.faceGo s v) := by
  simp (maxDischargeDepth := 40) [State.faceGo, *]

@[simp] theorem State.stageFaceRec_keeps {s0 s : State} (h : Keeps s0 s) (bs : List Byte) :
    Keeps s0 (State.stageFaceRec s bs) := by
  simp only [State.stageFaceRec]
  repeat' split
  all_goals simp (maxDischargeDepth := 40) +contextual [*]

@[simp] theorem State.stageFace_keeps {s0 s : State} (h : Keeps s0 s) (profile : Nat) :
    Keeps s0 (State.stageFace s profile).2 := by
  simp (maxDischargeDepth := 40) +contextual [State.stageFace, *]

theorem execFaceLoad_keeps {s0 s t : State} (h : Keeps s0 s) (ring : BitVec 8)
    (e : execFaceLoad ring s = .next t) : Keeps s0 t := by
  simp only [execFaceLoad, Host.Outcome.next.injEq] at e
  subst e
  simp (maxDischargeDepth := 40) +contextual [*]

theorem execFaceSet_keeps {s0 s t : State} (h : Keeps s0 s) (ring : BitVec 8)
    (e : execFaceSet ring s = .next t) : Keeps s0 t := by
  simp only [execFaceSet, Host.Outcome.next.injEq] at e
  subst e
  simp (maxDischargeDepth := 40) +contextual [*]

theorem execFaceCommit_keeps {s0 s t : State} (h : Keeps s0 s) (ring : BitVec 8)
    (e : execFaceCommit ring s = .next t) : Keeps s0 t := by
  simp only [execFaceCommit, Host.Outcome.next.injEq] at e
  subst e
  simp (maxDischargeDepth := 40) +contextual [*]

theorem execFaceWall_keeps {s0 s t : State} (h : Keeps s0 s) (ring : BitVec 8)
    (e : execFaceWall ring s = .next t) : Keeps s0 t := by
  simp only [execFaceWall, Host.Outcome.next.injEq] at e
  subst e
  simp (maxDischargeDepth := 40) +contextual [*]

theorem execFaceRead_keeps {s0 s t : State} (h : Keeps s0 s) (ring : BitVec 8)
    (e : execFaceRead ring s = .next t) : Keeps s0 t := by
  simp only [execFaceRead, Host.Outcome.next.injEq] at e
  subst e
  simp (maxDischargeDepth := 40) +contextual [*]

@[simp] theorem State.cutPush_keeps {s0 s : State} (h : Keeps s0 s)  :
    Keeps s0 (State.cutPush s) := by
  simp (maxDischargeDepth := 40) [State.cutPush, *]

@[simp] theorem State.resetFace_keeps {s0 s : State} (h : Keeps s0 s)  :
    Keeps s0 (State.resetFace s) := by
  simp (maxDischargeDepth := 40) [State.resetFace, *]

end Sys2Proof.Machine
end

