-- ==== Sys2Proof/Laws/KeepsFreq.lean ====
section
/-!
SUPPORT. What the operations of Machine/Freq.lean keep.
-/

namespace Sys2Proof.Machine

@[simp] theorem State.setVcoreAt_keeps {s0 s : State} (h : Keeps s0 s) (t : Option (BitVec 48)) :
    Keeps s0 (State.setVcoreAt s t) := by
  simp (maxDischargeDepth := 40) [State.setVcoreAt, *]

@[simp] theorem State.setFreq_keeps {s0 s : State} (h : Keeps s0 s) (f : Nat) :
    Keeps s0 (State.setFreq s f) := by
  simp (maxDischargeDepth := 40) [State.setFreq, *]

@[simp] theorem State.askVcore_keeps {s0 s : State} (h : Keeps s0 s)  :
    Keeps s0 (State.askVcore s) := by
  simp (maxDischargeDepth := 40) [State.askVcore, *]

@[simp] theorem State.goFreq_keeps {s0 s : State} (h : Keeps s0 s) (f : Nat) :
    Keeps s0 (State.goFreq s f) := by
  simp (maxDischargeDepth := 40) [State.goFreq, *]

@[simp] theorem State.freqBoundary_keeps {s0 s : State} (h : Keeps s0 s)  :
    Keeps s0 (State.freqBoundary s) := by
  unfold State.freqBoundary
  split <;> simp (maxDischargeDepth := 40) [*]

@[simp] theorem State.applyLadderCfg_keeps {s0 s : State} (h : Keeps s0 s) (v : Word) :
    Keeps s0 (State.applyLadderCfg s v) := by
  simp only [State.applyLadderCfg]
  repeat' split
  all_goals simp (maxDischargeDepth := 40) +contextual [*]

theorem execLadderConfig_keeps {s0 s t : State} (h : Keeps s0 s) (ring : BitVec 8)
    (e : execLadderConfig ring s = .next t) : Keeps s0 t := by
  simp only [execLadderConfig, Host.Outcome.next.injEq] at e
  subst e
  simp (maxDischargeDepth := 40) +contextual [*]

@[simp] theorem State.repeatVcore_keeps {s0 s : State} (h : Keeps s0 s)  :
    Keeps s0 (State.repeatVcore s) := by
  simp (maxDischargeDepth := 40) [State.repeatVcore, *]

theorem execLadderSet_keeps {s0 s t : State} (h : Keeps s0 s) (ring : BitVec 8)
    (e : execLadderSet ring s = .next t) : Keeps s0 t := by
  simp only [execLadderSet, Host.Outcome.next.injEq] at e
  subst e
  simp (maxDischargeDepth := 40) +contextual [*]

theorem execRequestState_keeps {s0 s t : State} (h : Keeps s0 s) (task : BitVec 4)
    (e : execRequestState task s = .next t) : Keeps s0 t := by
  simp only [execRequestState, Host.Outcome.next.injEq] at e
  subst e
  simp (maxDischargeDepth := 40) +contextual [*]

@[simp] theorem State.showConfirm_keeps {s0 s : State} (h : Keeps s0 s) (mv : Nat) :
    Keeps s0 (State.showConfirm s mv) := by
  simp (maxDischargeDepth := 40) [State.showConfirm, *]

@[simp] theorem State.seeCore_keeps {s0 s : State} (h : Keeps s0 s) (mv : Nat) :
    Keeps s0 (State.seeCore s mv) := by
  simp (maxDischargeDepth := 40) [State.seeCore, *]

theorem execVcoreConfirmed_keeps {s0 s t : State} (h : Keeps s0 s) (mv : Nat)
    (e : execVcoreConfirmed mv s = .next t) : Keeps s0 t := by
  simp only [execVcoreConfirmed, Host.Outcome.next.injEq] at e
  subst e
  simp (maxDischargeDepth := 40) [*]

theorem execVcoreTimeout_keeps {s0 s t : State} (h : Keeps s0 s) 
    (e : execVcoreTimeout s = .next t) : Keeps s0 t := by
  simp only [execVcoreTimeout, Host.Outcome.next.injEq] at e
  subst e
  repeat' split
  all_goals simp (maxDischargeDepth := 40) +contextual [*]

theorem execPllLock_keeps {s0 s t : State} (h : Keeps s0 s) 
    (e : execPllLock s = .next t) : Keeps s0 t := by
  simp only [execPllLock, Host.Outcome.next.injEq] at e
  subst e
  simp (maxDischargeDepth := 40) [*]

end Sys2Proof.Machine
end

