-- ==== Sys2Proof/Laws/KeepsScan.lean ====
section
/-!
SUPPORT. What the operations of Machine/Scan.lean keep.
-/

namespace Sys2Proof.Machine

@[simp] theorem State.setScan_keeps {s0 s : State} (h : Keeps s0 s) (x : Scan) :
    Keeps s0 (State.setScan s x) := by
  simp (maxDischargeDepth := 40) [State.setScan, *]

@[simp] theorem State.stepGen_keeps {s0 s : State} (h : Keeps s0 s)  :
    Keeps s0 (State.stepGen s) := by
  simp (maxDischargeDepth := 40) [State.stepGen, *]

@[simp] theorem State.odBoundary_keeps {s0 s : State} (h : Keeps s0 s)  :
    Keeps s0 (State.odBoundary s) := by
  unfold State.odBoundary
  split <;> simp (maxDischargeDepth := 40) [*]

@[simp] theorem State.stopScan_keeps {s0 s : State} (h : Keeps s0 s)  :
    Keeps s0 (State.stopScan s) := by
  simp (maxDischargeDepth := 40) [State.stopScan, *]

@[simp] theorem State.srEvent_keeps {s0 s : State} (h : Keeps s0 s) (on : Bool) :
    Keeps s0 (State.srEvent s on) := by
  simp (maxDischargeDepth := 40) [State.srEvent, *]

@[simp] theorem State.enterSr_keeps {s0 s : State} (h : Keeps s0 s)  :
    Keeps s0 (State.enterSr s) := by
  simp (maxDischargeDepth := 40) [State.enterSr, *]

@[simp] theorem State.wakeSr_keeps {s0 s : State} (h : Keeps s0 s)  :
    Keeps s0 (State.wakeSr s) := by
  simp (maxDischargeDepth := 40) [State.wakeSr, *]

@[simp] theorem State.askSr_keeps {s0 s : State} (h : Keeps s0 s)  :
    Keeps s0 (State.askSr s) := by
  simp (maxDischargeDepth := 40) [State.askSr, *]

@[simp] theorem State.stepG1_keeps {s0 s : State} (h : Keeps s0 s) (pages : List Nat) :
    Keeps s0 (State.stepG1 s pages) := by
  simp (maxDischargeDepth := 40) [State.stepG1, *]

@[simp] theorem State.guide_keeps {s0 s : State} (h : Keeps s0 s) (page : Nat) :
    Keeps s0 (State.guide s page) := by
  simp (maxDischargeDepth := 40) [State.guide, *]

@[simp] theorem State.transOff_keeps {s0 s : State} (h : Keeps s0 s)  :
    Keeps s0 (State.transOff s) := by
  simp (maxDischargeDepth := 40) [State.transOff, *]

@[simp] theorem State.transOn_keeps {s0 s : State} (h : Keeps s0 s)  :
    Keeps s0 (State.transOn s) := by
  simp (maxDischargeDepth := 40) [State.transOn, *]

@[simp] theorem State.takePads_keeps {s0 s : State} (h : Keeps s0 s)  :
    Keeps s0 (State.takePads s) := by
  simp (maxDischargeDepth := 40) [State.takePads, *]

@[simp] theorem State.dropPads_keeps {s0 s : State} (h : Keeps s0 s)  :
    Keeps s0 (State.dropPads s) := by
  simp (maxDischargeDepth := 40) [State.dropPads, *]

@[simp] theorem State.panelG2_keeps {s0 s : State} (h : Keeps s0 s)  :
    Keeps s0 (State.panelG2 s) := by
  simp (maxDischargeDepth := 40) [State.panelG2, *]

@[simp] theorem State.stepG2_keeps {s0 s : State} (h : Keeps s0 s)  :
    Keeps s0 (State.stepG2 s) := by
  simp (maxDischargeDepth := 40) +contextual [State.stepG2, *]

theorem execTransitionSetInForce_keeps {s0 s t : State} (h : Keeps s0 s) 
    (e : execTransitionSetInForce s = .next t) : Keeps s0 t := by
  simp only [execTransitionSetInForce, Host.Outcome.next.injEq] at e
  subst e
  simp (maxDischargeDepth := 40) [*]

@[simp] theorem State.stageRange_keeps {s0 s : State} (h : Keeps s0 s) (a : Nat) (ws : List Word) :
    Keeps s0 (State.stageRange s a ws) := by
  simp (maxDischargeDepth := 40) +contextual [State.stageRange, *]

@[simp] theorem State.stagePanelRec_keeps {s0 s : State} (h : Keeps s0 s) (bs : List Byte) :
    Keeps s0 (State.stagePanelRec s bs) := by
  unfold State.stagePanelRec
  split <;> simp (maxDischargeDepth := 40) [*]

@[simp] theorem State.stagePanel_keeps {s0 s : State} (h : Keeps s0 s) (page : Nat) (profile : Nat) :
    Keeps s0 (State.stagePanel s page profile).2 := by
  simp only [State.stagePanel]
  repeat' split
  all_goals simp (maxDischargeDepth := 40) +contextual [*]

@[simp] theorem State.loadPanel_keeps {s0 s : State} (h : Keeps s0 s) (page : Nat) (v : Verb) :
    Keeps s0 (State.loadPanel page s v) := by
  have hs := State.stagePanel_keeps h page (field (v.arg 0) 7 0)
  unfold State.loadPanel
  split <;> rename_i heq <;> rw [heq] at hs <;> simp at hs
  · simp [hs]
  · dsimp only
    split <;> simp [hs]

@[simp] theorem State.pipeRefresh_keeps {s0 s : State} (h : Keeps s0 s) (v : Verb) :
    Keeps s0 (State.pipeRefresh s v) := by
  simp (maxDischargeDepth := 40) [State.pipeRefresh, *]

@[simp] theorem State.pipeStage_keeps {s0 s : State} (h : Keeps s0 s) (v : Verb) : Keeps s0 (State.pipeStage s v).2 := by
  have hs := State.stagePanel_keeps h 10 (field (v.arg 0) 7 0)
  unfold State.pipeStage
  split
  · split <;> rename_i heq <;> rw [heq] at hs <;> exact hs
  · simp (maxDischargeDepth := 40) [*]

@[simp] theorem State.pipeLoad_keeps {s0 s : State} (h : Keeps s0 s) (v : Verb) :
    Keeps s0 (State.pipeLoad s v) := by
  have hs := State.pipeStage_keeps h v
  unfold State.pipeLoad
  split
  · simp (maxDischargeDepth := 40) [*]
  · split <;> rename_i heq <;> rw [heq] at hs <;> simp at hs <;> simp (maxDischargeDepth := 40) [hs]

@[simp] theorem State.serveLoads_keeps {s0 s : State} (h : Keeps s0 s) :
    Keeps s0 (State.serveLoads s) := by
  unfold State.serveLoads
  refine keeps_foldl (fun t r ht => ?_) _ _ h
  split
  · rename_i v _
    have hs := State.pipeStage_keeps ht v
    split <;> rename_i heq <;> rw [heq] at hs <;> simp at hs <;> simp (maxDischargeDepth := 40) [hs]
  · exact ht

@[simp] theorem State.commitScan_keeps {s0 s : State} (h : Keeps s0 s)  :
    Keeps s0 (State.commitScan s) := by
  simp (maxDischargeDepth := 40) [State.commitScan, *]

@[simp] theorem State.pipeLease_keeps {s0 s : State} (h : Keeps s0 s) (old : Nat → Word) :
    Keeps s0 (State.pipeLease s old) := by
  simp (maxDischargeDepth := 40) [State.pipeLease, *]

@[simp] theorem State.commitPipe_keeps {s0 s : State} (h : Keeps s0 s)  :
    Keeps s0 (State.commitPipe s) := by
  simp (maxDischargeDepth := 40) [State.commitPipe, *]

@[simp] theorem State.commitStave_keeps {s0 s : State} (h : Keeps s0 s)  :
    Keeps s0 (State.commitStave s) := by
  simp (maxDischargeDepth := 40) [State.commitStave, *]

@[simp] theorem State.serveFrame_keeps {s0 s : State} (h : Keeps s0 s) (real : Bool) (p : Nat) :
    Keeps s0 (State.serveFrame real s p) := by
  simp (maxDischargeDepth := 40) [State.serveFrame, *]

@[simp] theorem State.showRung_keeps {s0 s : State} (h : Keeps s0 s)  :
    Keeps s0 (State.showRung s) := by
  simp (maxDischargeDepth := 40) [State.showRung, *]

@[simp] theorem State.lowRefresh_keeps {s0 s : State} (h : Keeps s0 s) (ends : Bool) :
    Keeps s0 (State.lowRefresh s ends) := by
  simp (maxDischargeDepth := 40) [State.lowRefresh, *]

@[simp] theorem State.watchMiss_keeps {s0 s : State} (h : Keeps s0 s) (w : Nat) (f : Nat) :
    Keeps s0 (State.watchMiss s w f) := by
  simp (maxDischargeDepth := 40) [State.watchMiss, *]

@[simp] theorem State.judgeWatch_keeps {s0 s : State} (h : Keeps s0 s) (st : StatSet) (w : Nat) :
    Keeps s0 (State.judgeWatch s st w) := by
  simp (maxDischargeDepth := 40) [State.judgeWatch, *]

@[simp] theorem State.publishStats_keeps {s0 s : State} (h : Keeps s0 s) (st : StatSet) :
    Keeps s0 (State.publishStats s st) := by
  simp (maxDischargeDepth := 40) +contextual [State.publishStats, *]

@[simp] theorem State.publishReady_keeps {s0 s : State} (h : Keeps s0 s)  :
    Keeps s0 (State.publishReady s) := by
  unfold State.publishReady
  split <;> simp (maxDischargeDepth := 40) [*]

theorem execStatsPublish_keeps {s0 s t : State} (h : Keeps s0 s) 
    (e : execStatsPublish s = .next t) : Keeps s0 t := by
  simp only [execStatsPublish, Host.Outcome.next.injEq] at e
  subst e
  simp (maxDischargeDepth := 40) [*]

@[simp] theorem State.clearFrozen_keeps {s0 s : State} (h : Keeps s0 s) (mask : Word) :
    Keeps s0 (State.clearFrozen s mask) := by
  simp (maxDischargeDepth := 40) [State.clearFrozen, *]

@[simp] theorem State.leaseAgain_keeps {s0 s : State} (h : Keeps s0 s)  :
    Keeps s0 (State.leaseAgain s) := by
  simp (maxDischargeDepth := 40) [State.leaseAgain, *]

@[simp] theorem State.ensBoundary_keeps {s0 s : State} (h : Keeps s0 s) (r : Option Rect) :
    Keeps s0 (State.ensBoundary s r) := by
  unfold State.ensBoundary
  split <;> simp (maxDischargeDepth := 40) [*]

@[simp] theorem State.frameTune_keeps {s0 s : State} (h : Keeps s0 s) (real : Bool) :
    Keeps s0 (State.frameTune s real) := by
  simp (maxDischargeDepth := 40) [State.frameTune, *]

@[simp] theorem State.frameCommits_keeps {s0 s : State} (h : Keeps s0 s) (real : Bool) :
    Keeps s0 (State.frameCommits s real) := by
  simp (maxDischargeDepth := 40) +contextual [State.frameCommits, *]

@[simp] theorem State.paceFrame_keeps {s0 s : State} (h : Keeps s0 s) (starts : Bool) :
    Keeps s0 (State.paceFrame s starts) := by
  simp (maxDischargeDepth := 40) [State.paceFrame, *]

@[simp] theorem State.sendPorch_keeps {s0 s : State} (h : Keeps s0 s) (starts : Bool) :
    Keeps s0 (State.sendPorch s starts) := by
  simp (maxDischargeDepth := 40) [State.sendPorch, *]

@[simp] theorem State.realBoundary_keeps {s0 s : State} (h : Keeps s0 s) (ends : Bool) :
    Keeps s0 (State.realBoundary s ends) := by
  simp (maxDischargeDepth := 40) [State.realBoundary, *]

theorem execFrameBoundary_keeps {s0 s t : State} (h : Keeps s0 s) (cycles : Nat)
    (e : execFrameBoundary cycles s = .next t) : Keeps s0 t := by
  simp only [execFrameBoundary, Host.Outcome.next.injEq] at e
  subst e
  simp (maxDischargeDepth := 40) [*]

@[simp] theorem State.synthBoundary_keeps {s0 s : State} (h : Keeps s0 s)  :
    Keeps s0 (State.synthBoundary s) := by
  simp (maxDischargeDepth := 40) [State.synthBoundary, *]

theorem execSyntheticFrameBoundary_keeps {s0 s t : State} (h : Keeps s0 s) 
    (e : execSyntheticFrameBoundary s = .next t) : Keeps s0 t := by
  simp only [execSyntheticFrameBoundary, Host.Outcome.next.injEq] at e
  subst e
  simp (maxDischargeDepth := 40) [*]

@[simp] theorem State.touchLayer_keeps {s0 s : State} (h : Keeps s0 s) (ovl : Bool) :
    Keeps s0 (State.touchLayer ovl s) := by
  unfold State.touchLayer
  repeat' split
  all_goals simp (maxDischargeDepth := 40) +contextual [*]

@[simp] theorem State.writeStore_keeps {s0 s : State} (h : Keeps s0 s) (px : List PixOut) :
    Keeps s0 (State.writeStore s px) := by
  simp (maxDischargeDepth := 40) +contextual [State.writeStore, *]

@[simp] theorem State.stepPhase_keeps {s0 s : State} (h : Keeps s0 s)  :
    Keeps s0 (State.stepPhase s) := by
  simp (maxDischargeDepth := 40) [State.stepPhase, *]

@[simp] theorem State.panelRuns_keeps {s0 s : State} (h : Keeps s0 s)  :
    Keeps s0 (State.panelRuns s) := by
  simp (maxDischargeDepth := 40) [State.panelRuns, *]

@[simp] theorem State.bandLate_keeps {s0 s : State} (h : Keeps s0 s) (b : Nat) :
    Keeps s0 (State.bandLate s b) := by
  simp (maxDischargeDepth := 40) [State.bandLate, *]

@[simp] theorem State.frameCount_keeps {s0 s : State} (h : Keeps s0 s) : Keeps s0 s.frameCount :=
  State.panelRuns_keeps (State.stepPhase_keeps (State.bump_keeps h _ _ _))

@[simp] theorem State.frameMarks_keeps {s0 s : State} (h : Keeps s0 s) (live fell missed : Bool) (late : Option Nat) :
    Keeps s0 (s.frameMarks live fell missed late) := by
  simp (maxDischargeDepth := 40) [State.frameMarks, *]

@[simp] theorem State.frameHall_keeps {s0 s : State} (h : Keeps s0 s) (px : List PixOut) (none_ od : Bool) :
    Keeps s0 (s.frameHall px none_ od) :=
  State.setFlag_keeps (keeps_ite (State.writeStore_keeps (keeps_ite h (State.touchLayer_keeps (State.touchLayer_keeps h _) _)) _)
    (keeps_ite h (State.touchLayer_keeps (State.touchLayer_keeps h _) _))) _ _ _

@[simp] theorem State.noteStats_keeps {s0 s : State} (h : Keeps s0 s) (n : Nat) (px : List PixOut) (rect : Option Rect) :
    Keeps s0 (State.noteStats s n px rect) := by
  simp (maxDischargeDepth := 40) [State.noteStats, *]

@[simp] theorem State.frameSend_keeps {s0 s : State} (h : Keeps s0 s) (n : Nat) (px : List PixOut) (rect : Option Rect) :
    Keeps s0 (s.frameSend n px rect) := by
  unfold State.frameSend
  split
  · split
    · exact State.sendRegion_keeps (State.setStave_keeps h _) _ _
    · exact State.sendRaster_keeps h _ _
  · exact State.setStave_keeps h _

@[simp] theorem State.frameStart_keeps {s0 s : State} (h : Keeps s0 s) (late : Option Nat) (under : List (Nat × Nat)) :
    Keeps s0 (s.frameStart late under) :=
  State.frameSend_keeps (State.noteStats_keeps (State.frameHall_keeps (State.frameMarks_keeps (State.frameCount_keeps h) _ _ _ _)
    _ _ _) _ _ _) _ _ _

theorem execFrameStart_keeps {s0 s t : State} (h : Keeps s0 s) (late : Option Nat) (underrun : List (Nat × Nat))
    (e : execFrameStart late underrun s = .next t) : Keeps s0 t := by
  simp only [execFrameStart, Host.Outcome.next.injEq] at e
  subst e
  simp (maxDischargeDepth := 40) [*]

@[simp] theorem State.recheckAreas_keeps {s0 s : State} (h : Keeps s0 s)  :
    Keeps s0 (State.recheckAreas s) := by
  simp (maxDischargeDepth := 40) [State.recheckAreas, *]

@[simp] theorem State.startScan_keeps {s0 s : State} (h : Keeps s0 s)  :
    Keeps s0 (State.startScan s) := by
  simp (maxDischargeDepth := 40) [State.startScan, *]

@[simp] theorem State.leaveSr_keeps {s0 s : State} (h : Keeps s0 s)  :
    Keeps s0 (State.leaveSr s) := by
  simp (maxDischargeDepth := 40) [State.leaveSr, *]

@[simp] theorem State.stepG5_keeps {s0 s : State} (h : Keeps s0 s) (late : Option Nat) (under : List (Nat × Nat)) :
    Keeps s0 (State.stepG5 s late under) := by
  simp (maxDischargeDepth := 40) [State.stepG5, *]

theorem execTransitionComplete_keeps {s0 s t : State} (h : Keeps s0 s) (late : Option Nat) (underrun : List (Nat × Nat))
    (e : execTransitionComplete late underrun s = .next t) : Keeps s0 t := by
  simp only [execTransitionComplete, Host.Outcome.next.injEq] at e
  subst e
  simp (maxDischargeDepth := 40) [*]

@[simp] theorem State.resumeNow_keeps {s0 s : State} (h : Keeps s0 s) (late : Option Nat) (under : List (Nat × Nat)) :
    Keeps s0 (State.resumeNow s late under) := by
  simp (maxDischargeDepth := 40) [State.resumeNow, *]

theorem execSrResume_keeps {s0 s t : State} (h : Keeps s0 s) (late : Option Nat) (underrun : List (Nat × Nat))
    (e : execSrResume late underrun s = .next t) : Keeps s0 t := by
  simp only [execSrResume, Host.Outcome.next.injEq] at e
  subst e
  simp (maxDischargeDepth := 40) [*]

@[simp] theorem State.restartScan_keeps {s0 s : State} (h : Keeps s0 s)  :
    Keeps s0 (State.restartScan s) := by
  simp (maxDischargeDepth := 40) [State.restartScan, *]

@[simp] theorem State.withdrawPresent_keeps {s0 s : State} (h : Keeps s0 s) (n : Nat) :
    Keeps s0 (State.withdrawPresent s n) := by
  simp only [State.withdrawPresent]
  repeat' split
  all_goals simp (maxDischargeDepth := 40) [*]

@[simp] theorem State.waitTimeout_keeps {s0 s : State} (h : Keeps s0 s) (r : Nat) :
    Keeps s0 (State.waitTimeout s r) := by
  unfold State.waitTimeout
  repeat' split
  all_goals simp (maxDischargeDepth := 40) [*]

theorem execBoundaryWaitTimeout_keeps {s0 s t : State} (h : Keeps s0 s) (ring : BitVec 8)
    (e : execBoundaryWaitTimeout ring s = .next t) : Keeps s0 t := by
  simp only [execBoundaryWaitTimeout, Host.Outcome.next.injEq] at e
  subst e
  simp (maxDischargeDepth := 40) [*]

@[simp] theorem State.scanGo_keeps {s0 s : State} (h : Keeps s0 s) (v : Word) :
    Keeps s0 (State.scanGo s v) := by
  simp (maxDischargeDepth := 40) [State.scanGo, *]

@[simp] theorem State.pipeGo_keeps {s0 s : State} (h : Keeps s0 s) (v : Word) :
    Keeps s0 (State.pipeGo s v) := by
  simp (maxDischargeDepth := 40) [State.pipeGo, *]

theorem execScanLoad_keeps {s0 s t : State} (h : Keeps s0 s) (ring : BitVec 8)
    (e : execScanLoad ring s = .next t) : Keeps s0 t := by
  simp only [execScanLoad, Host.Outcome.next.injEq] at e
  subst e
  simp (maxDischargeDepth := 40) +contextual [*]

theorem execScanSet_keeps {s0 s t : State} (h : Keeps s0 s) (ring : BitVec 8)
    (e : execScanSet ring s = .next t) : Keeps s0 t := by
  simp only [execScanSet, Host.Outcome.next.injEq] at e
  subst e
  simp (maxDischargeDepth := 40) +contextual [*]

theorem execScanCommit_keeps {s0 s t : State} (h : Keeps s0 s) (ring : BitVec 8)
    (e : execScanCommit ring s = .next t) : Keeps s0 t := by
  simp only [execScanCommit, Host.Outcome.next.injEq] at e
  subst e
  simp (maxDischargeDepth := 40) +contextual [*]

theorem execScanRefresh_keeps {s0 s t : State} (h : Keeps s0 s) (ring : BitVec 8)
    (e : execScanRefresh ring s = .next t) : Keeps s0 t := by
  simp only [execScanRefresh, Host.Outcome.next.injEq] at e
  subst e
  simp (maxDischargeDepth := 40) +contextual [*]

theorem execFreezeClear_keeps {s0 s t : State} (h : Keeps s0 s) (ring : BitVec 8)
    (e : execFreezeClear ring s = .next t) : Keeps s0 t := by
  simp only [execFreezeClear, Host.Outcome.next.injEq] at e
  subst e
  simp (maxDischargeDepth := 40) +contextual [*]

theorem execStatsRead_keeps {s0 s t : State} (h : Keeps s0 s) (ring : BitVec 8)
    (e : execStatsRead ring s = .next t) : Keeps s0 t := by
  simp only [execStatsRead, Host.Outcome.next.injEq] at e
  subst e
  simp (maxDischargeDepth := 40) +contextual [*]

theorem execScanRead_keeps {s0 s t : State} (h : Keeps s0 s) (ring : BitVec 8)
    (e : execScanRead ring s = .next t) : Keeps s0 t := by
  simp only [execScanRead, Host.Outcome.next.injEq] at e
  subst e
  simp (maxDischargeDepth := 40) +contextual [*]

theorem execPipeLoad_keeps {s0 s t : State} (h : Keeps s0 s) (ring : BitVec 8)
    (e : execPipeLoad ring s = .next t) : Keeps s0 t := by
  simp only [execPipeLoad, Host.Outcome.next.injEq] at e
  subst e
  simp (maxDischargeDepth := 40) +contextual [*]

theorem execPipeSet_keeps {s0 s t : State} (h : Keeps s0 s) (ring : BitVec 8)
    (e : execPipeSet ring s = .next t) : Keeps s0 t := by
  simp only [execPipeSet, Host.Outcome.next.injEq] at e
  subst e
  simp (maxDischargeDepth := 40) +contextual [*]

theorem execPipeTable_keeps {s0 s t : State} (h : Keeps s0 s) (ring : BitVec 8)
    (e : execPipeTable ring s = .next t) : Keeps s0 t := by
  simp only [execPipeTable, Host.Outcome.next.injEq] at e
  subst e
  simp (maxDischargeDepth := 40) +contextual [*]

theorem execPipeCommit_keeps {s0 s t : State} (h : Keeps s0 s) (ring : BitVec 8)
    (e : execPipeCommit ring s = .next t) : Keeps s0 t := by
  simp only [execPipeCommit, Host.Outcome.next.injEq] at e
  subst e
  simp (maxDischargeDepth := 40) +contextual [*]

theorem execBrightSet_keeps {s0 s t : State} (h : Keeps s0 s) (ring : BitVec 8)
    (e : execBrightSet ring s = .next t) : Keeps s0 t := by
  simp only [execBrightSet, Host.Outcome.next.injEq] at e
  subst e
  simp (maxDischargeDepth := 40) +contextual [*]

theorem execPipeRead_keeps {s0 s t : State} (h : Keeps s0 s) (ring : BitVec 8)
    (e : execPipeRead ring s = .next t) : Keeps s0 t := by
  simp only [execPipeRead, Host.Outcome.next.injEq] at e
  subst e
  simp (maxDischargeDepth := 40) +contextual [*]

theorem execStaveLoad_keeps {s0 s t : State} (h : Keeps s0 s) (ring : BitVec 8)
    (e : execStaveLoad ring s = .next t) : Keeps s0 t := by
  simp only [execStaveLoad, Host.Outcome.next.injEq] at e
  subst e
  simp (maxDischargeDepth := 40) +contextual [*]

@[simp] theorem State.resetScan_keeps {s0 s : State} (h : Keeps s0 s)  :
    Keeps s0 (State.resetScan s) := by
  simp (maxDischargeDepth := 40) [State.resetScan, *]

@[simp] theorem State.cutScan_keeps {s0 s : State} (h : Keeps s0 s)  :
    Keeps s0 (State.cutScan s) := by
  simp (maxDischargeDepth := 40) [State.cutScan, *]

end Sys2Proof.Machine
end

