-- ==== Sys2Proof/Laws/KeepsLadderSteps.lean ====
section
/-!
SUPPORT. What the operations of Machine/LadderSteps.lean keep.
-/

namespace Sys2Proof.Machine

@[simp] theorem State.setLadder_keeps {s0 s : State} (h : Keeps s0 s) (x : Ladder) :
    Keeps s0 (State.setLadder s x) := by
  simp (maxDischargeDepth := 40) [State.setLadder, *]

@[simp] theorem State.setStep_keeps {s0 s : State} (h : Keeps s0 s) (m : MoveStep) :
    Keeps s0 (State.setStep s m) := by
  simp (maxDischargeDepth := 40) [State.setStep, *]

theorem execDescentJobsIdle_keeps {s0 s t : State} (h : Keeps s0 s) 
    (e : execDescentJobsIdle s = .next t) : Keeps s0 t := by
  simp only [execDescentJobsIdle, Host.Outcome.next.injEq] at e
  subst e
  simp (maxDischargeDepth := 40) [*]

@[simp] theorem State.stopRaster_keeps {s0 s : State} (h : Keeps s0 s)  :
    Keeps s0 (State.stopRaster s) := by
  simp (maxDischargeDepth := 40) [State.stopRaster, *]

@[simp] theorem State.panelStep_keeps {s0 s : State} (h : Keeps s0 s)  :
    Keeps s0 (State.panelStep s) := by
  simp (maxDischargeDepth := 40) [State.panelStep, *]

theorem execDescentFrameStep_keeps {s0 s t : State} (h : Keeps s0 s) 
    (e : execDescentFrameStep s = .next t) : Keeps s0 t := by
  simp only [execDescentFrameStep, Host.Outcome.next.injEq] at e
  subst e
  simp (maxDischargeDepth := 40) [*]

theorem execDescentPanelStep_keeps {s0 s t : State} (h : Keeps s0 s) 
    (e : execDescentPanelStep s = .next t) : Keeps s0 t := by
  simp only [execDescentPanelStep, Host.Outcome.next.injEq] at e
  subst e
  simp (maxDischargeDepth := 40) [*]

@[simp] theorem State.writeAll_keeps {s0 s : State} (h : Keeps s0 s)  :
    Keeps s0 (State.writeAll s) := by
  simp (maxDischargeDepth := 40) +contextual [State.writeAll, *]

@[simp] theorem State.stepD7_keeps {s0 s : State} (h : Keeps s0 s)  :
    Keeps s0 (State.stepD7 s) := by
  simp (maxDischargeDepth := 40) [State.stepD7, *]

@[simp] theorem State.unpost_keeps {s0 s : State} (h : Keeps s0 s) : Keeps s0 s.unpost := by
  simp (maxDischargeDepth := 40) +contextual [State.unpost, *]

@[simp] theorem State.stepD8_keeps {s0 s : State} (h : Keeps s0 s)  :
    Keeps s0 (State.stepD8 s) := by
  simp (maxDischargeDepth := 40) [State.stepD8, *]

theorem execDescentCoreStop_keeps {s0 s t : State} (h : Keeps s0 s) 
    (e : execDescentCoreStop s = .next t) : Keeps s0 t := by
  simp only [execDescentCoreStop, Host.Outcome.next.injEq] at e
  subst e
  simp (maxDischargeDepth := 40) [*]

@[simp] theorem State.darken_keeps {s0 s : State} (h : Keeps s0 s)  :
    Keeps s0 (State.darken s) := by
  simp (maxDischargeDepth := 40) [State.darken, *]

@[simp] theorem State.darkenBurst_keeps {s0 s : State} (h : Keeps s0 s) :
    Keeps s0 (State.darkenBurst s) := by
  simp (maxDischargeDepth := 40) [State.darkenBurst, *]

@[simp] theorem State.stepD9_keeps {s0 s : State} (h : Keeps s0 s)  :
    Keeps s0 (State.stepD9 s) := by
  simp (maxDischargeDepth := 40) [State.stepD9, *]

@[simp] theorem State.stepD10_keeps {s0 s : State} (h : Keeps s0 s)  :
    Keeps s0 (State.stepD10 s) := by
  simp (maxDischargeDepth := 40) [State.stepD10, *]

theorem execDescentFermataEntry_keeps {s0 s t : State} (h : Keeps s0 s) 
    (e : execDescentFermataEntry s = .next t) : Keeps s0 t := by
  simp only [execDescentFermataEntry, Host.Outcome.next.injEq] at e
  subst e
  simp (maxDischargeDepth := 40) [*]

@[simp] theorem State.dropRails_keeps {s0 s : State} (h : Keeps s0 s)  :
    Keeps s0 (State.dropRails s) := by
  simp (maxDischargeDepth := 40) [State.dropRails, *]

@[simp] theorem State.enterTacet_keeps {s0 s : State} (h : Keeps s0 s)  :
    Keeps s0 (State.enterTacet s) := by
  simp (maxDischargeDepth := 40) +contextual [State.enterTacet, *]

@[simp] theorem State.stepD11_keeps {s0 s : State} (h : Keeps s0 s)  :
    Keeps s0 (State.stepD11 s) := by
  simp (maxDischargeDepth := 40) [State.stepD11, *]

theorem execTask1HaltedTacet_keeps {s0 s t : State} (h : Keeps s0 s) 
    (e : execTask1HaltedTacet s = .next t) : Keeps s0 t := by
  simp only [execTask1HaltedTacet, Host.Outcome.next.injEq] at e
  subst e
  simp (maxDischargeDepth := 40) [*]

theorem execTask1Timeout_keeps {s0 s t : State} (h : Keeps s0 s) 
    (e : execTask1Timeout s = .next t) : Keeps s0 t := by
  simp only [execTask1Timeout, Host.Outcome.next.injEq] at e
  subst e
  simp (maxDischargeDepth := 40) [*]

theorem execAscentCoreStart_keeps {s0 s t : State} (h : Keeps s0 s) 
    (e : execAscentCoreStart s = .next t) : Keeps s0 t := by
  simp only [execAscentCoreStart, Host.Outcome.next.injEq] at e
  subst e
  simp (maxDischargeDepth := 40) [*]

@[simp] theorem State.renewRing_keeps {s0 s : State} (h : Keeps s0 s) (r : Nat) :
    Keeps s0 (State.renewRing s r) := by
  simp (maxDischargeDepth := 40) [State.renewRing, *]

@[simp] theorem State.refill_keeps {s0 s : State} (h : Keeps s0 s)  :
    Keeps s0 (State.refill s) := by
  simp (maxDischargeDepth := 40) +contextual [State.refill, *]

@[simp] theorem State.resumeWork_keeps {s0 s : State} (h : Keeps s0 s)  :
    Keeps s0 (State.resumeWork s) := by
  simp (maxDischargeDepth := 40) [State.resumeWork, *]

@[simp] theorem State.stepU4_keeps {s0 s : State} (h : Keeps s0 s)  :
    Keeps s0 (State.stepU4 s) := by
  simp (maxDischargeDepth := 40) [State.stepU4, *]

theorem execAscentPllSwitch_keeps {s0 s t : State} (h : Keeps s0 s) 
    (e : execAscentPllSwitch s = .next t) : Keeps s0 t := by
  simp only [execAscentPllSwitch, Host.Outcome.next.injEq] at e
  subst e
  simp (maxDischargeDepth := 40) [*]

@[simp] theorem State.stepPiano_keeps {s0 s : State} (h : Keeps s0 s) :
    Keeps s0 (State.stepPiano s) := by
  simp (maxDischargeDepth := 40) [State.stepPiano, *]

@[simp] theorem State.stepPianissimo_keeps {s0 s : State} (h : Keeps s0 s) :
    Keeps s0 (State.stepPianissimo s) := by
  simp (maxDischargeDepth := 40) [State.stepPianissimo, *]

theorem execAscentBanksPowered_keeps {s0 s t : State} (h : Keeps s0 s) 
    (e : execAscentBanksPowered s = .next t) : Keeps s0 t := by
  simp only [execAscentBanksPowered, Host.Outcome.next.injEq] at e
  subst e
  simp (maxDischargeDepth := 40) [*]

theorem execBurstStart_keeps {s0 s t : State} (h : Keeps s0 s) 
    (e : execBurstStart s = .next t) : Keeps s0 t := by
  simp only [execBurstStart, Host.Outcome.next.injEq] at e
  subst e
  simp (maxDischargeDepth := 40) [*]

theorem execBurstEnd_keeps {s0 s t : State} (h : Keeps s0 s) 
    (e : execBurstEnd s = .next t) : Keeps s0 t := by
  simp only [execBurstEnd, Host.Outcome.next.injEq] at e
  subst e
  simp (maxDischargeDepth := 40) [*]

end Sys2Proof.Machine
end

