-- ==== Sys2Proof/Laws/KeepsKeys.lean ====
section
/-!
SUPPORT. What the operations of Machine/Keys.lean keep.
-/

namespace Sys2Proof.Machine

@[simp] theorem State.setKeys_keeps {s0 s : State} (h : Keeps s0 s) (k : Keys) :
    Keeps s0 (State.setKeys s k) := by
  simp (maxDischargeDepth := 40) [State.setKeys, *]

@[simp] theorem State.setKey_keeps {s0 s : State} (h : Keeps s0 s) (k : Nat) (v : KeySt) :
    Keeps s0 (State.setKey s k v) := by
  simp (maxDischargeDepth := 40) [State.setKey, *]

@[simp] theorem State.setHeld_keeps {s0 s : State} (h : Keeps s0 s) (k : Nat) (b : Bool) :
    Keeps s0 (State.setHeld s k b) := by
  simp (maxDischargeDepth := 40) [State.setHeld, *]

@[simp] theorem State.setMasked_keeps {s0 s : State} (h : Keeps s0 s) (k : Nat) (b : Bool) :
    Keeps s0 (State.setMasked s k b) := by
  simp (maxDischargeDepth := 40) [State.setMasked, *]

@[simp] theorem State.setFifo_keeps {s0 s : State} (h : Keeps s0 s) (l : List (BitVec 64)) :
    Keeps s0 (State.setFifo s l) := by
  simp (maxDischargeDepth := 40) [State.setFifo, *]

@[simp] theorem State.pushKey_keeps {s0 s : State} (h : Keeps s0 s) (w : BitVec 64) :
    Keeps s0 (State.pushKey s w) := by
  simp (maxDischargeDepth := 40) [State.pushKey, *]

@[simp] theorem State.popKeys_keeps {s0 s : State} (h : Keeps s0 s) (n : Nat) :
    Keeps s0 (State.popKeys s n) := by
  simp (maxDischargeDepth := 40) [State.popKeys, *]

@[simp] theorem State.keyEntry_keeps {s0 s : State} (h : Keeps s0 s) (code : Nat) (type : Nat) (data : Nat) :
    Keeps s0 (State.keyEntry s code type data) := by
  simp (maxDischargeDepth := 40) [State.keyEntry, *]

@[simp] theorem State.keysState_keeps {s0 s : State} (h : Keeps s0 s) (code : Nat) (kind : Nat) :
    Keeps s0 (State.keysState s code kind) := by
  simp (maxDischargeDepth := 40) [State.keysState, *]

theorem execScanStart_keeps {s0 s t : State} (h : Keeps s0 s) 
    (e : execScanStart s = .next t) : Keeps s0 t := by
  simp only [execScanStart, Host.Outcome.next.injEq] at e
  subst e
  simp (maxDischargeDepth := 40) [*]

@[simp] theorem State.pressKey_keeps {s0 s : State} (h : Keeps s0 s) (k : Nat) :
    Keeps s0 (State.pressKey s k) := by
  simp (maxDischargeDepth := 40) [State.pressKey, *]

@[simp] theorem State.releaseKey_keeps {s0 s : State} (h : Keeps s0 s) (k : Nat) :
    Keeps s0 (State.releaseKey s k) := by
  simp (maxDischargeDepth := 40) [State.releaseKey, *]

@[simp] theorem State.maskKey_keeps {s0 s : State} (h : Keeps s0 s) (k : Nat) :
    Keeps s0 (State.maskKey s k) := by
  simp (maxDischargeDepth := 40) [State.maskKey, *]

@[simp] theorem State.unmaskKey_keeps {s0 s : State} (h : Keeps s0 s) (k : Nat) (pressed : Bool) :
    Keeps s0 (State.unmaskKey s k pressed) := by
  simp (maxDischargeDepth := 40) [State.unmaskKey, *]

@[simp] theorem State.readKey_keeps {s0 s : State} (h : Keeps s0 s) (from_ : BitVec 48) (k : Nat) (pressed : Bool) :
    Keeps s0 (State.readKey s from_ k pressed) := by
  simp (maxDischargeDepth := 40) [State.readKey, *]

@[simp] theorem State.setEnc_keeps {s0 s : State} (h : Keeps s0 s) (n : Nat) (v : EncSt) :
    Keeps s0 (State.setEnc s n v) := by
  simp (maxDischargeDepth := 40) [State.setEnc, *]

@[simp] theorem State.encMove_keeps {s0 s : State} (h : Keeps s0 s) (n : Nat) (a : Bool) (b : Bool) :
    Keeps s0 (State.encMove s n a b) := by
  simp (maxDischargeDepth := 40) [State.encMove, *]

theorem execEncoderTransition_keeps {s0 s t : State} (h : Keeps s0 s) (enc : BitVec 1) (a b : PadRun)
    (e : execEncoderTransition enc a b s = .next t) : Keeps s0 t := by
  simp only [execEncoderTransition, Host.Outcome.next.injEq] at e
  subst e
  simp (maxDischargeDepth := 40) [*]

@[simp] theorem State.encEntry_keeps {s0 s : State} (h : Keeps s0 s) (n : Nat) :
    Keeps s0 (State.encEntry s n) := by
  simp (maxDischargeDepth := 40) [State.encEntry, *]

@[simp] theorem State.wetDry_keeps {s0 s : State} (h : Keeps s0 s) (leak : Nat) :
    Keeps s0 (State.wetDry s leak) := by
  simp (maxDischargeDepth := 40) [State.wetDry, *]

@[simp] theorem State.judgeLeak_keeps {s0 s : State} (h : Keeps s0 s) (leak : Nat) :
    Keeps s0 (State.judgeLeak s leak) := by
  simp (maxDischargeDepth := 40) [State.judgeLeak, *]

@[simp] theorem State.noLeak_keeps {s0 s : State} (h : Keeps s0 s)  :
    Keeps s0 (State.noLeak s) := by
  simp (maxDischargeDepth := 40) [State.noLeak, *]

theorem execLeakMeasurement_keeps {s0 s t : State} (h : Keeps s0 s) (levels : KeyLevels)
    (e : execLeakMeasurement levels s = .next t) : Keeps s0 t := by
  simp only [execLeakMeasurement, Host.Outcome.next.injEq] at e
  subst e
  simp (maxDischargeDepth := 40) [*]

@[simp] theorem State.applyKeys_keeps {s0 s : State} (h : Keeps s0 s)  :
    Keeps s0 (State.applyKeys s) := by
  unfold State.applyKeys
  extract_lets w s1 s2 s3 s4
  have h3 : Keeps s0 s3 := by simp (maxDischargeDepth := 40) +contextual [s3, s2, s1, *]
  have h4 : Keeps s0 s4 := by
    unfold s4
    split <;> simp (maxDischargeDepth := 40) [*]
  simp (maxDischargeDepth := 40) [*]

@[simp] theorem State.keysCommits_keeps {s0 s : State} (h : Keeps s0 s)  :
    Keeps s0 (State.keysCommits s) := by
  simp (maxDischargeDepth := 40) +contextual [State.keysCommits, *]

@[simp] theorem State.dropKey_keeps {s0 s : State} (h : Keeps s0 s) (k : Nat) :
    Keeps s0 (State.dropKey s k) := by
  simp (maxDischargeDepth := 40) +contextual [State.dropKey, *]

@[simp] theorem State.scanKey_keeps {s0 s : State} (h : Keeps s0 s) (from_ : BitVec 48) (pressed : BitVec 72)
    (sampled : Nat → Bool) (k : Nat) : Keeps s0 (State.scanKey s from_ pressed sampled k) := by
  simp (maxDischargeDepth := 40) +contextual [State.scanKey, *]

@[simp] theorem State.scanGap_keeps {s0 s : State} (h : Keeps s0 s)  :
    Keeps s0 (State.scanGap s) := by
  simp (maxDischargeDepth := 40) +contextual [State.scanGap, *]

@[simp] theorem State.scanEnd_keeps {s0 s : State} (h : Keeps s0 s) (from_ : BitVec 48) (pressed : BitVec 72) :
    Keeps s0 (State.scanEnd s from_ pressed) := by
  simp (maxDischargeDepth := 40) +contextual [State.scanEnd, *]

theorem execScanEnd_keeps {s0 s t : State} (h : Keeps s0 s) (levels : KeyLevels)
    (e : execScanEnd levels s = .next t) : Keeps s0 t := by
  simp only [execScanEnd, Host.Outcome.next.injEq] at e
  subst e
  repeat' split
  all_goals simp (maxDischargeDepth := 40) +contextual [*]

@[simp] theorem State.setPulse_keeps {s0 s : State} (h : Keeps s0 s) (n : Nat) (p : PulseSt) :
    Keeps s0 (State.setPulse s n p) := by
  simp (maxDischargeDepth := 40) [State.setPulse, *]

@[simp] theorem State.acceptPulse_keeps {s0 s : State} (h : Keeps s0 s) (n : Nat) (interval : Nat) :
    Keeps s0 (State.acceptPulse s n interval) := by
  simp (maxDischargeDepth := 40) +contextual [State.acceptPulse, *]

@[simp] theorem State.writePulses_keeps {s0 s : State} (h : Keeps s0 s) :
    Keeps s0 (State.writePulses s) := by
  simp (maxDischargeDepth := 40) +contextual [State.writePulses, *]

@[simp] theorem State.pulseEdge_keeps {s0 s : State} (h : Keeps s0 s) (n : Nat) (rising : Bool) :
    Keeps s0 (State.pulseEdge s n rising) := by
  unfold State.pulseEdge
  split <;> simp (maxDischargeDepth := 40) [*]

theorem execPulseEdge_keeps {s0 s t : State} (h : Keeps s0 s) (input : BitVec 1) (rising : Bool)
    (e : execPulseEdge input rising s = .next t) : Keeps s0 t := by
  simp only [execPulseEdge, Host.Outcome.next.injEq] at e
  subst e
  simp (maxDischargeDepth := 40) [*]

theorem execPulseStopped_keeps {s0 s t : State} (h : Keeps s0 s) (input : BitVec 1)
    (e : execPulseStopped input s = .next t) : Keeps s0 t := by
  simp only [execPulseStopped, Host.Outcome.next.injEq] at e
  subst e
  simp (maxDischargeDepth := 40) [*]

theorem execTimebase_keeps {s0 s t : State} (h : Keeps s0 s) 
    (e : execTimebase s = .next t) : Keeps s0 t := by
  simp only [execTimebase, Host.Outcome.next.injEq] at e
  subst e
  simp (maxDischargeDepth := 40) [*]

@[simp] theorem State.writePop_keeps {s0 s : State} (h : Keeps s0 s) (v : Word) :
    Keeps s0 (State.writePop s v) := by
  simp (maxDischargeDepth := 40) [State.writePop, *]

@[simp] theorem State.drainKeys_keeps {s0 s : State} (h : Keeps s0 s)  :
    Keeps s0 (State.drainKeys s) := by
  simp (maxDischargeDepth := 40) [State.drainKeys, *]

theorem execKeyDrain_keeps {s0 s t : State} (h : Keeps s0 s) 
    (e : execKeyDrain s = .next t) : Keeps s0 t := by
  simp only [execKeyDrain, Host.Outcome.next.injEq] at e
  subst e
  simp (maxDischargeDepth := 40) [*]

theorem execDrainWaitExpiry_keeps {s0 s t : State} (h : Keeps s0 s) 
    (e : execDrainWaitExpiry s = .next t) : Keeps s0 t := by
  simp only [execDrainWaitExpiry, Host.Outcome.next.injEq] at e
  subst e
  simp (maxDischargeDepth := 40) [*]

@[simp] theorem State.stageKeys_keeps {s0 s : State} (h : Keeps s0 s) (profile : Nat) :
    Keeps s0 (State.stageKeys s profile).2 := by
  simp only [State.stageKeys]
  repeat' split
  all_goals simp (maxDischargeDepth := 40) +contextual [*]

theorem execKeysLoad_keeps {s0 s t : State} (h : Keeps s0 s) (ring : BitVec 8)
    (e : execKeysLoad ring s = .next t) : Keeps s0 t := by
  simp only [execKeysLoad, Host.Outcome.next.injEq] at e
  subst e
  refine State.runVerb_keeps h _ _ _ _ _ (fun t v ht => ?_)
  try dsimp only
  repeat' split
  all_goals simp (maxDischargeDepth := 40) +contextual [*]

theorem execKeysSet_keeps {s0 s t : State} (h : Keeps s0 s) (ring : BitVec 8)
    (e : execKeysSet ring s = .next t) : Keeps s0 t := by
  simp only [execKeysSet, Host.Outcome.next.injEq] at e
  subst e
  simp (maxDischargeDepth := 40) +contextual [*]

theorem execKeysRead_keeps {s0 s t : State} (h : Keeps s0 s) (ring : BitVec 8)
    (e : execKeysRead ring s = .next t) : Keeps s0 t := by
  simp only [execKeysRead, Host.Outcome.next.injEq] at e
  subst e
  simp (maxDischargeDepth := 40) +contextual [*]

theorem execKeysDrain_keeps {s0 s t : State} (h : Keeps s0 s) (ring : BitVec 8)
    (e : execKeysDrain ring s = .next t) : Keeps s0 t := by
  simp only [execKeysDrain, Host.Outcome.next.injEq] at e
  subst e
  simp (maxDischargeDepth := 40) +contextual [*]

theorem execKeysUnmask_keeps {s0 s t : State} (h : Keeps s0 s) (ring : BitVec 8)
    (e : execKeysUnmask ring s = .next t) : Keeps s0 t := by
  simp only [execKeysUnmask, Host.Outcome.next.injEq] at e
  subst e
  simp (maxDischargeDepth := 40) +contextual [*]

theorem execPulseTotalSet_keeps {s0 s t : State} (h : Keeps s0 s) (ring : BitVec 8)
    (e : execPulseTotalSet ring s = .next t) : Keeps s0 t := by
  simp only [execPulseTotalSet, Host.Outcome.next.injEq] at e
  subst e
  simp (maxDischargeDepth := 40) +contextual [*]

@[simp] theorem State.putTotal_keeps {s0 s : State} (h : Keeps s0 s) (r : Nat) :
    Keeps s0 (State.putTotal s r) := by
  unfold State.putTotal
  repeat' split
  all_goals simp (maxDischargeDepth := 40) [*]

@[simp] theorem State.putTotals_keeps {s0 s : State} (h : Keeps s0 s) :
    Keeps s0 (State.putTotals s) := by
  simp (maxDischargeDepth := 40) +contextual [State.putTotals, *]

end Sys2Proof.Machine
end

