-- ==== Sys2Proof/Laws/KeepsSense.lean ====
section
/-!
SUPPORT. What the operations of Machine/Sense.lean keep.
-/

namespace Sys2Proof.Machine

@[simp] theorem State.setSense_keeps {s0 s : State} (h : Keeps s0 s) (x : Sense) :
    Keeps s0 (State.setSense s x) := by
  simp (maxDischargeDepth := 40) [State.setSense, *]

theorem execRoundStart_keeps {s0 s t : State} (h : Keeps s0 s) 
    (e : execRoundStart s = .next t) : Keeps s0 t := by
  simp only [execRoundStart, Host.Outcome.next.injEq] at e
  subst e
  simp (maxDischargeDepth := 40) [*]

@[simp] theorem State.slotChange_keeps {s0 s : State} (h : Keeps s0 s) (n : Nat) (value : Nat) (on : Bool) :
    Keeps s0 (State.slotChange s n value on) := by
  simp (maxDischargeDepth := 40) [State.slotChange, *]

@[simp] theorem State.slotSample_keeps {s0 s : State} (h : Keeps s0 s) (n : Nat) (value : Nat) :
    Keeps s0 (State.slotSample s n value) := by
  simp (maxDischargeDepth := 40) [State.slotSample, *]

@[simp] theorem State.sampleSlots_keeps {s0 s : State} (h : Keeps s0 s) :
    Keeps s0 (State.sampleSlots s) := by
  simp (maxDischargeDepth := 40) +contextual [State.sampleSlots, *]

@[simp] theorem State.publish_keeps {s0 s : State} (h : Keeps s0 s) (ch : Nat) (value : Nat) (fault : Bool) (stale : Bool) :
    Keeps s0 (State.publish s ch value fault stale) := by
  simp (maxDischargeDepth := 40) [State.publish, *]

@[simp] theorem State.publishNtc_keeps {s0 s : State} (h : Keeps s0 s) (n : Nat) (c : Nat) :
    Keeps s0 (State.publishNtc s n c) := by
  simp (maxDischargeDepth := 40) [State.publishNtc, *]

@[simp] theorem State.publishDie_keeps {s0 s : State} (h : Keeps s0 s) (ch : Nat) (raw : Int) :
    Keeps s0 (State.publishDie s ch raw) := by
  simp (maxDischargeDepth := 40) [State.publishDie, *]

@[simp] theorem State.publishMax_keeps {s0 s : State} (h : Keeps s0 s)  :
    Keeps s0 (State.publishMax s) := by
  simp (maxDischargeDepth := 40) [State.publishMax, *]

@[simp] theorem State.convert_keeps {s0 s : State} (h : Keeps s0 s) (ch : Nat) (raw : Int) :
    Keeps s0 (State.convert s ch raw) := by
  simp (maxDischargeDepth := 40) [State.convert, *]

theorem execConversion_keeps {s0 s t : State} (h : Keeps s0 s) (raw : Int)
    (e : execConversion raw s = .next t) : Keeps s0 t := by
  simp only [execConversion, Host.Outcome.next.injEq] at e
  subst e
  repeat' split
  all_goals simp (maxDischargeDepth := 40) +contextual [*]

@[simp] theorem State.setCharge_keeps {s0 s : State} (h : Keeps s0 s) (v : BitVec 48) :
    Keeps s0 (State.setCharge s v) := by
  simp (maxDischargeDepth := 40) [State.setCharge, *]

@[simp] theorem State.ibatSample_keeps {s0 s : State} (h : Keeps s0 s) (total : Int) :
    Keeps s0 (State.ibatSample s total) := by
  simp (maxDischargeDepth := 40) [State.ibatSample, *]

theorem execIbatSample_keeps {s0 s t : State} (h : Keeps s0 s) (total : Int)
    (e : execIbatSample total s = .next t) : Keeps s0 t := by
  simp only [execIbatSample, Host.Outcome.next.injEq] at e
  subst e
  simp (maxDischargeDepth := 40) [*]

theorem execPmCountEnd_keeps {s0 s t : State} (h : Keeps s0 s) (counts : List Nat)
    (e : execPmCountEnd counts s = .next t) : Keeps s0 t := by
  simp only [execPmCountEnd, Host.Outcome.next.injEq] at e
  subst e
  simp (maxDischargeDepth := 40) +contextual [*]

@[simp] theorem State.guardCeil_keeps {s0 s : State} (h : Keeps s0 s)  :
    Keeps s0 (State.guardCeil s) := by
  simp (maxDischargeDepth := 40) [State.guardCeil, *]

@[simp] theorem State.brownout_keeps {s0 s : State} (h : Keeps s0 s)  :
    Keeps s0 (State.brownout s) := by
  simp (maxDischargeDepth := 40) [State.brownout, *]

@[simp] theorem State.setRail_keeps {s0 s : State} (h : Keeps s0 s) (r c : Nat) :
    Keeps s0 (State.setRail s r c) := by
  simp (maxDischargeDepth := 40) [State.setRail, *]

theorem execRailClassChange_keeps {s0 s t : State} (h : Keeps s0 s) (rail : BitVec 3) (mv : List Nat)
    (e : execRailClassChange rail mv s = .next t) : Keeps s0 t := by
  simp only [execRailClassChange, Host.Outcome.next.injEq] at e
  subst e
  simp (maxDischargeDepth := 40) [*]

theorem execSupplyLoss_keeps {s0 s t : State} (h : Keeps s0 s) 
    (e : execSupplyLoss s = .next t) : Keeps s0 t := by
  simp only [execSupplyLoss, Host.Outcome.next.injEq] at e
  subst e
  simp (maxDischargeDepth := 40) [*]

@[simp] theorem State.levelsTick_keeps {s0 s : State} (h : Keeps s0 s)  :
    Keeps s0 (State.levelsTick s) := by
  simp (maxDischargeDepth := 40) [State.levelsTick, *]

@[simp] theorem State.showCharger_keeps {s0 s : State} (h : Keeps s0 s)  :
    Keeps s0 (State.showCharger s) := by
  simp (maxDischargeDepth := 40) [State.showCharger, *]

@[simp] theorem State.raiseChg_keeps {s0 s : State} (h : Keeps s0 s)  :
    Keeps s0 (State.raiseChg s) := by
  simp (maxDischargeDepth := 40) [State.raiseChg, *]

@[simp] theorem State.driveCharger_keeps {s0 s : State} (h : Keeps s0 s)  :
    Keeps s0 (State.driveCharger s) := by
  simp (maxDischargeDepth := 40) [State.driveCharger, *]

@[simp] theorem State.confirmTick_keeps {s0 s : State} (h : Keeps s0 s) :
    Keeps s0 (State.confirmTick s) := by
  unfold State.confirmTick
  repeat' split
  all_goals simp (maxDischargeDepth := 40) [*]

@[simp] theorem State.senseTick_keeps {s0 s : State} (h : Keeps s0 s)  :
    Keeps s0 (State.senseTick s) := by
  simp (maxDischargeDepth := 40) [State.senseTick, *]

theorem execChgStatChange_keeps {s0 s t : State} (h : Keeps s0 s) (level : Bool)
    (e : execChgStatChange level s = .next t) : Keeps s0 t := by
  simp only [execChgStatChange, Host.Outcome.next.injEq] at e
  subst e
  simp (maxDischargeDepth := 40) [*]

@[simp] theorem State.writeChgCfg_keeps {s0 s : State} (h : Keeps s0 s) (v : Word) :
    Keeps s0 (State.writeChgCfg s v) := by
  simp (maxDischargeDepth := 40) [State.writeChgCfg, *]

@[simp] theorem State.commitSlot_keeps {s0 s : State} (h : Keeps s0 s) (n : Nat) :
    Keeps s0 (State.commitSlot s n) := by
  simp (maxDischargeDepth := 40) [State.commitSlot, *]

@[simp] theorem State.judgeSlot_keeps {s0 s : State} (h : Keeps s0 s) (n : Nat) :
    Keeps s0 (State.judgeSlot s n) := by
  simp (maxDischargeDepth := 40) [State.judgeSlot, *]

@[simp] theorem State.applySense_keeps {s0 s : State} (h : Keeps s0 s)  :
    Keeps s0 (State.applySense s) := by
  simp (maxDischargeDepth := 40) +contextual [State.applySense, *]

theorem execAdcIdleBoundary_keeps {s0 s t : State} (h : Keeps s0 s) 
    (e : execAdcIdleBoundary s = .next t) : Keeps s0 t := by
  simp only [execAdcIdleBoundary, Host.Outcome.next.injEq] at e
  subst e
  simp (maxDischargeDepth := 40) +contextual [*]

@[simp] theorem State.senseGo_keeps {s0 s : State} (h : Keeps s0 s) (v : Word) :
    Keeps s0 (State.senseGo s v) := by
  simp (maxDischargeDepth := 40) [State.senseGo, *]

theorem execSenseRead_keeps {s0 s t : State} (h : Keeps s0 s) (ring : BitVec 8)
    (e : execSenseRead ring s = .next t) : Keeps s0 t := by
  simp only [execSenseRead, Host.Outcome.next.injEq] at e
  subst e
  simp (maxDischargeDepth := 40) +contextual [*]

theorem execSenseSet_keeps {s0 s t : State} (h : Keeps s0 s) (ring : BitVec 8)
    (e : execSenseSet ring s = .next t) : Keeps s0 t := by
  simp only [execSenseSet, Host.Outcome.next.injEq] at e
  subst e
  simp (maxDischargeDepth := 40) +contextual [*]

theorem execSlotSet_keeps {s0 s t : State} (h : Keeps s0 s) (ring : BitVec 8)
    (e : execSlotSet ring s = .next t) : Keeps s0 t := by
  simp only [execSlotSet, Host.Outcome.next.injEq] at e
  subst e
  simp (maxDischargeDepth := 40) +contextual [*]

theorem execNtcTable_keeps {s0 s t : State} (h : Keeps s0 s) (ring : BitVec 8)
    (e : execNtcTable ring s = .next t) : Keeps s0 t := by
  simp only [execNtcTable, Host.Outcome.next.injEq] at e
  subst e
  simp (maxDischargeDepth := 40) +contextual [*]

theorem execCcSet_keeps {s0 s t : State} (h : Keeps s0 s) (ring : BitVec 8)
    (e : execCcSet ring s = .next t) : Keeps s0 t := by
  simp only [execCcSet, Host.Outcome.next.injEq] at e
  subst e
  simp (maxDischargeDepth := 40) +contextual [*]

theorem execChgSet_keeps {s0 s t : State} (h : Keeps s0 s) (ring : BitVec 8)
    (e : execChgSet ring s = .next t) : Keeps s0 t := by
  simp only [execChgSet, Host.Outcome.next.injEq] at e
  subst e
  simp (maxDischargeDepth := 40) +contextual [*]

@[simp] theorem State.resetSense_keeps {s0 s : State} (h : Keeps s0 s)  :
    Keeps s0 (State.resetSense s) := by
  simp (maxDischargeDepth := 40) +contextual [State.resetSense, *]

end Sys2Proof.Machine
end

