-- ==== Sys2Proof/Laws/KeepsProfiles.lean ====
section
/-!
SUPPORT. What the operations of Machine/Profiles.lean keep.
-/

namespace Sys2Proof.Machine

@[simp] theorem State.putLadderWord_keeps {s0 s : State} (h : Keeps s0 s) (i : Nat) (v : Word) :
    Keeps s0 (State.putLadderWord s i v) := by
  unfold State.putLadderWord
  split <;> simp (maxDischargeDepth := 40) [*]

@[simp] theorem State.applyScoreRec_keeps {s0 s : State} (h : Keeps s0 s) (bs : List Byte) :
    Keeps s0 (State.applyScoreRec s bs) := by
  simp (maxDischargeDepth := 40) +contextual [State.applyScoreRec, *]

@[simp] theorem State.showProfile_keeps {s0 s : State} (h : Keeps s0 s) (p n : Nat) :
    Keeps s0 (State.showProfile s p n) := by
  simp (maxDischargeDepth := 40) [State.showProfile, *]

@[simp] theorem State.scoreLoad_keeps {s0 s : State} (h : Keeps s0 s) (v : Verb) :
    Keeps s0 (State.scoreLoad s v) := by
  simp (maxDischargeDepth := 40) +contextual [State.scoreLoad, *]

theorem execScoreLoad_keeps {s0 s t : State} (h : Keeps s0 s) (ring : BitVec 8)
    (e : execScoreLoad ring s = .next t) : Keeps s0 t := by
  simp only [execScoreLoad, Host.Outcome.next.injEq] at e
  subst e
  simp (maxDischargeDepth := 40) +contextual [*]

@[simp] theorem State.bootScore_keeps {s0 s : State} (h : Keeps s0 s)  :
    Keeps s0 (State.bootScore s) := by
  simp (maxDischargeDepth := 40) +contextual [State.bootScore, *]

@[simp] theorem State.bootPanel_keeps {s0 s : State} (h : Keeps s0 s)  :
    Keeps s0 (State.bootPanel s) := by
  simp (maxDischargeDepth := 40) +contextual [State.bootPanel, *]

@[simp] theorem State.bootKeys_keeps {s0 s : State} (h : Keeps s0 s) : Keeps s0 s.bootKeys := by
  have hs := State.stageKeys_keeps h 0
  unfold State.bootKeys
  split <;> rename_i heq <;> rw [heq] at hs
  · exact State.goCommit_keeps hs _
  · exact hs

@[simp] theorem State.bootFace_keeps {s0 s : State} (h : Keeps s0 s)  :
    Keeps s0 (State.bootFace s) := by
  simp (maxDischargeDepth := 40) [State.bootFace, *]

@[simp] theorem State.countBroken_keeps {s0 s : State} (h : Keeps s0 s) :
    Keeps s0 (State.countBroken s) := by
  simp (maxDischargeDepth := 40) [State.countBroken, *]

@[simp] theorem State.bootProfiles_keeps {s0 s : State} (h : Keeps s0 s)  :
    Keeps s0 (State.bootProfiles s) := by
  simp (maxDischargeDepth := 40) [State.bootProfiles, *]

end Sys2Proof.Machine
end

