-- ==== Sys2Proof/Laws/KeepsReset.lean ====
section
/-!
SUPPORT. What the operations of Machine/Reset.lean keep.
-/

namespace Sys2Proof.Machine

@[simp] theorem State.setBoot_keeps {s0 s : State} (h : Keeps s0 s) (b : Boot) :
    Keeps s0 (State.setBoot s b) := by
  simp (maxDischargeDepth := 40) [State.setBoot, *]

@[simp] theorem State.setPins_keeps {s0 s : State} (h : Keeps s0 s) (p : Pins) :
    Keeps s0 (State.setPins s p) := by
  simp (maxDischargeDepth := 40) [State.setPins, *]

@[simp] theorem State.keepLeases_keeps {s0 s : State} (h : Keeps s0 s)  :
    Keeps s0 (State.keepLeases s) := by
  simp (maxDischargeDepth := 40) +contextual [State.keepLeases, *]

@[simp] theorem State.dropWork_keeps {s0 s : State} (h : Keeps s0 s)  :
    Keeps s0 (State.dropWork s) := by
  simp (maxDischargeDepth := 40) [State.dropWork, *]

@[simp] theorem State.countReset_keeps {s0 s : State} (h : Keeps s0 s) (cause : Nat) :
    Keeps s0 (State.countReset s cause) := by
  simp (maxDischargeDepth := 40) [State.countReset, *]

@[simp] theorem State.latchPads_keeps {s0 s : State} (h : Keeps s0 s)  :
    Keeps s0 (State.latchPads s) := by
  simp (maxDischargeDepth := 40) [State.latchPads, *]

@[simp] theorem State.restartBlocks_keeps {s0 s : State} (h : Keeps s0 s)  :
    Keeps s0 (State.restartBlocks s) := by
  simp (maxDischargeDepth := 40) [State.restartBlocks, *]

@[simp] theorem State.startLadder_keeps {s0 s : State} (h : Keeps s0 s)  :
    Keeps s0 (State.startLadder s) := by
  simp (maxDischargeDepth := 40) [State.startLadder, *]

@[simp] theorem State.applySystem_keeps {s0 s : State} (h : Keeps s0 s) (cause : Nat) :
    Keeps s0 (State.applySystem s cause) := by
  simp (maxDischargeDepth := 40) [State.applySystem, *]

@[simp] theorem State.systemReset_keeps {s0 s : State} (h : Keeps s0 s) (cause : Nat) :
    Keeps s0 (State.systemReset s cause) := by
  simp (maxDischargeDepth := 40) [State.systemReset, *]

theorem execResetNLow_keeps {s0 s t : State} (h : Keeps s0 s) 
    (e : execResetNLow s = .next t) : Keeps s0 t := by
  simp only [execResetNLow, Host.Outcome.next.injEq] at e
  subst e
  simp (maxDischargeDepth := 40) [*]

theorem execSystemResetEnd_keeps {s0 s t : State} (h : Keeps s0 s) 
    (e : execSystemResetEnd s = .next t) : Keeps s0 t := by
  simp only [execSystemResetEnd, Host.Outcome.next.injEq] at e
  subst e
  simp (maxDischargeDepth := 40) [*]

@[simp] theorem State.cutBlocks_keeps {s0 s : State} (h : Keeps s0 s)  :
    Keeps s0 (State.cutBlocks s) := by
  simp (maxDischargeDepth := 40) [State.cutBlocks, *]

@[simp] theorem State.applyCore_keeps {s0 s : State} (h : Keeps s0 s) (cause : Nat) :
    Keeps s0 (State.applyCore s cause) := by
  simp (maxDischargeDepth := 40) [State.applyCore, *]

@[simp] theorem State.coreReset_keeps {s0 s : State} (h : Keeps s0 s) (cause : Nat) :
    Keeps s0 (State.coreReset s cause) := by
  simp (maxDischargeDepth := 40) [State.coreReset, *]

@[simp] theorem State.dropResetVerbs_keeps {s0 s : State} (h : Keeps s0 s)  :
    Keeps s0 (State.dropResetVerbs s) := by
  unfold State.dropResetVerbs
  refine keeps_foldl (fun t x ht => ?_) _ _ ?_
  all_goals repeat' split
  all_goals simp (maxDischargeDepth := 40) +contextual [*]

theorem execCoreResetAfterMove_keeps {s0 s t : State} (h : Keeps s0 s) 
    (e : execCoreResetAfterMove s = .next t) : Keeps s0 t := by
  simp only [execCoreResetAfterMove, Host.Outcome.next.injEq] at e
  subst e
  repeat' split
  all_goals simp (maxDischargeDepth := 40) +contextual [*]

@[simp] theorem State.restartCore_keeps {s0 s : State} (h : Keeps s0 s) :
    Keeps s0 (State.restartCore s) := by
  simp (maxDischargeDepth := 40) [State.restartCore, *]

theorem execCoreResetEnd_keeps {s0 s t : State} (h : Keeps s0 s) 
    (e : execCoreResetEnd s = .next t) : Keeps s0 t := by
  simp only [execCoreResetEnd, Host.Outcome.next.injEq] at e
  subst e
  simp (maxDischargeDepth := 40) [*]

@[simp] theorem State.resetVerb_keeps {s0 s : State} (h : Keeps s0 s) (v : Verb) :
    Keeps s0 (State.resetVerb s v) := by
  simp (maxDischargeDepth := 40) [State.resetVerb, *]

theorem execReset_keeps {s0 s t : State} (h : Keeps s0 s) (ring : BitVec 8)
    (e : execReset ring s = .next t) : Keeps s0 t := by
  simp only [execReset, Host.Outcome.next.injEq] at e
  subst e
  simp (maxDischargeDepth := 40) +contextual [*]

@[simp] theorem State.wiped_keeps {s0 s : State} (h : Keeps s0 s) : Keeps s0 s.wiped :=
  { h with regsOk := rfl, forceOk := rfl, hallOk := rfl, aoOk := rfl }

theorem execPor_keeps {s0 s t : State} (h : Keeps s0 s) 
    (e : execPor s = .next t) : Keeps s0 t := by
  simp only [execPor, Host.Outcome.next.injEq] at e
  subst e
  simp (maxDischargeDepth := 40) [*]

@[simp] theorem State.leaveTacet_keeps {s0 s : State} (h : Keeps s0 s) :
    Keeps s0 (State.leaveTacet s) := by
  simp (maxDischargeDepth := 40) +contextual [State.leaveTacet, *]

theorem execPowerKeyHold_keeps {s0 s t : State} (h : Keeps s0 s) (vbat : List Nat)
    (e : execPowerKeyHold vbat s = .next t) : Keeps s0 t := by
  simp only [execPowerKeyHold, Host.Outcome.next.injEq] at e
  subst e
  simp (maxDischargeDepth := 40) [*]

theorem execVbatRise_keeps {s0 s t : State} (h : Keeps s0 s) (vbat : Nat)
    (e : execVbatRise vbat s = .next t) : Keeps s0 t := by
  simp only [execVbatRise, Host.Outcome.next.injEq] at e
  subst e
  simp (maxDischargeDepth := 40) [*]

@[simp] theorem State.wdogWarn_keeps {s0 s : State} (h : Keeps s0 s)  :
    Keeps s0 (State.wdogWarn s) := by
  simp (maxDischargeDepth := 40) [State.wdogWarn, *]

theorem execWdogEarly_keeps {s0 s t : State} (h : Keeps s0 s) 
    (e : execWdogEarly s = .next t) : Keeps s0 t := by
  simp only [execWdogEarly, Host.Outcome.next.injEq] at e
  subst e
  simp (maxDischargeDepth := 40) [*]

theorem execWdogExpiry_keeps {s0 s t : State} (h : Keeps s0 s) 
    (e : execWdogExpiry s = .next t) : Keeps s0 t := by
  simp only [execWdogExpiry, Host.Outcome.next.injEq] at e
  subst e
  simp (maxDischargeDepth := 40) [*]

@[simp] theorem State.writeWdogCfg_keeps {s0 s : State} (h : Keeps s0 s) (v : Word) :
    Keeps s0 (State.writeWdogCfg s v) := by
  simp (maxDischargeDepth := 40) [State.writeWdogCfg, *]

@[simp] theorem State.writeWdogKick_keeps {s0 s : State} (h : Keeps s0 s) (v : Word) :
    Keeps s0 (State.writeWdogKick s v) := by
  simp (maxDischargeDepth := 40) [State.writeWdogKick, *]

theorem execWdogConfig_keeps {s0 s t : State} (h : Keeps s0 s) (ring : BitVec 8)
    (e : execWdogConfig ring s = .next t) : Keeps s0 t := by
  simp only [execWdogConfig, Host.Outcome.next.injEq] at e
  subst e
  simp (maxDischargeDepth := 40) +contextual [*]

theorem execWdogKick_keeps {s0 s t : State} (h : Keeps s0 s) (ring : BitVec 8)
    (e : execWdogKick ring s = .next t) : Keeps s0 t := by
  simp only [execWdogKick, Host.Outcome.next.injEq] at e
  subst e
  simp (maxDischargeDepth := 40) +contextual [*]

@[simp] theorem State.writeResetReq_keeps {s0 s : State} (h : Keeps s0 s) (v : Word) :
    Keeps s0 (State.writeResetReq s v) := by
  simp (maxDischargeDepth := 40) [State.writeResetReq, *]

end Sys2Proof.Machine
end

