-- ==== Sys2Proof/Laws/KeepsBoot.lean ====
section
/-!
SUPPORT. What the operations of Machine/Boot.lean keep.
-/

namespace Sys2Proof.Machine

@[simp] theorem State.setPhase_keeps {s0 s : State} (h : Keeps s0 s) (p : Nat) :
    Keeps s0 (State.setPhase s p) := by
  simp (maxDischargeDepth := 40) [State.setPhase, *]

@[simp] theorem State.startClock_keeps {s0 s : State} (h : Keeps s0 s)  :
    Keeps s0 (State.startClock s) := by
  simp (maxDischargeDepth := 40) [State.startClock, *]

theorem execStartSequence_keeps {s0 s t : State} (h : Keeps s0 s) (vbat : Nat) (corrected : Bool) (factBad : Bool) (custBad : Bool)
    (e : execStartSequence vbat corrected factBad custBad s = .next t) : Keeps s0 t := by
  simp only [execStartSequence, Host.Outcome.next.injEq] at e
  subst e
  simp (maxDischargeDepth := 40) [*]

theorem execSupplyStartTimeout_keeps {s0 s t : State} (h : Keeps s0 s) 
    (e : execSupplyStartTimeout s = .next t) : Keeps s0 t := by
  simp only [execSupplyStartTimeout, Host.Outcome.next.injEq] at e
  subst e
  simp (maxDischargeDepth := 40) [*]

@[simp] theorem State.bootHall_keeps {s0 s : State} (h : Keeps s0 s)  :
    Keeps s0 (State.bootHall s) := by
  simp (maxDischargeDepth := 40) [State.bootHall, *]

@[simp] theorem State.takePanel_keeps {s0 s : State} (h : Keeps s0 s)  :
    Keeps s0 (State.takePanel s) := by
  simp (maxDischargeDepth := 40) [State.takePanel, *]

@[simp] theorem State.powerUpTuning_keeps {s0 s : State} (h : Keeps s0 s)  :
    Keeps s0 (State.powerUpTuning s) := by
  simp (maxDischargeDepth := 40) +contextual [State.powerUpTuning, *]

theorem execBootBurst_keeps {s0 s t : State} (h : Keeps s0 s) (pulses : Nat)
    (e : execBootBurst pulses s = .next t) : Keeps s0 t := by
  simp only [execBootBurst, Host.Outcome.next.injEq] at e
  subst e
  refine keeps_ite (State.powerUpTuning_keeps (State.takePanel_keeps (State.bootProfiles_keeps ?_))) h
  have hb : Keeps s0 ((((s.setPhase 1).setCore .fastRc).bootHall).bootJournal pulses) :=
    State.bootJournal_keeps (State.bootHall_keeps (State.setCore_keeps (State.setPhase_keeps h _) _)) _
  exact { hb with aoOk := rfl }

@[simp] theorem State.nextRail_keeps {s0 s : State} (h : Keeps s0 s)  :
    Keeps s0 (State.nextRail s) := by
  unfold State.nextRail
  split <;> simp (maxDischargeDepth := 40) [*]

@[simp] theorem State.releaseBare_keeps {s0 s : State} (h : Keeps s0 s)  :
    Keeps s0 (State.releaseBare s) := by
  simp (maxDischargeDepth := 40) +contextual [State.releaseBare, *]

@[simp] theorem State.releaseClock_keeps {s0 s : State} (h : Keeps s0 s) :
    Keeps s0 (State.releaseClock s) := by
  simp (maxDischargeDepth := 40) [State.releaseClock, *]

theorem execHostRelease_keeps {s0 s t : State} (h : Keeps s0 s) 
    (e : execHostRelease s = .next t) : Keeps s0 t := by
  simp only [execHostRelease, Host.Outcome.next.injEq] at e
  subst e
  simp (maxDischargeDepth := 40) [*]

theorem execBootRailStep_keeps {s0 s t : State} (h : Keeps s0 s) 
    (e : execBootRailStep s = .next t) : Keeps s0 t := by
  simp only [execBootRailStep, Host.Outcome.next.injEq] at e
  subst e
  simp (maxDischargeDepth := 40) [*]

theorem execBootRailPgTimeout_keeps {s0 s t : State} (h : Keeps s0 s) 
    (e : execBootRailPgTimeout s = .next t) : Keeps s0 t := by
  simp only [execBootRailPgTimeout, Host.Outcome.next.injEq] at e
  subst e
  simp (maxDischargeDepth := 40) [*]

theorem execCrystalQualified_keeps {s0 s t : State} (h : Keeps s0 s) 
    (e : execCrystalQualified s = .next t) : Keeps s0 t := by
  simp only [execCrystalQualified, Host.Outcome.next.injEq] at e
  subst e
  simp (maxDischargeDepth := 40) [*]

theorem execCrystalLost_keeps {s0 s t : State} (h : Keeps s0 s) 
    (e : execCrystalLost s = .next t) : Keeps s0 t := by
  simp only [execCrystalLost, Host.Outcome.next.injEq] at e
  subst e
  simp (maxDischargeDepth := 40) [*]

end Sys2Proof.Machine
end

