-- ==== Sys2Proof/Laws/KeepsJtag.lean ====
section
/-!
SUPPORT. What the operations of Machine/Jtag.lean keep.
-/

namespace Sys2Proof.Machine

theorem execTapTckEdge_keeps {s0 s t : State} (h : Keeps s0 s) (tms : Bool) (tdi : Bool) (levels : BitVec 243)
    (e : execTapTckEdge tms tdi levels s = .next t) : Keeps s0 t := by
  simp only [execTapTckEdge, Host.Outcome.next.injEq] at e
  subst e
  simp (maxDischargeDepth := 40) [*]

@[simp] theorem State.tapTick_keeps {s0 s : State} (h : Keeps s0 s) :
    Keeps s0 (State.tapTick s) := by
  simp (maxDischargeDepth := 40) [State.tapTick, *]

end Sys2Proof.Machine
end

