-- ==== Sys2Proof/Laws/KeepsPorts.lean ====
section
/-!
SUPPORT. What the operations of Machine/Ports.lean keep.
-/

namespace Sys2Proof.Machine

@[simp] theorem State.writeReg_keeps {s0 s : State} (h : Keeps s0 s) (a : Nat) (v : Word) :
    Keeps s0 (State.writeReg s a v) := by
  simp (maxDischargeDepth := 40) [State.writeReg, *]

@[simp] theorem State.writePlain_keeps {s0 s : State} (h : Keeps s0 s) (a : Nat) (v : Word) :
    Keeps s0 (State.writePlain s a v) := by
  unfold State.writePlain
  split <;> simp (maxDischargeDepth := 40) [*]

@[simp] theorem State.resumeWrite_keeps {s0 s : State} (h : Keeps s0 s) (v : Word) :
    Keeps s0 (State.resumeWrite s v) := by
  simp (maxDischargeDepth := 40) [State.resumeWrite, *]

@[simp] theorem State.scanReq_keeps {s0 s : State} (h : Keeps s0 s) (v : Word) :
    Keeps s0 (State.scanReq s v) := by
  simp (maxDischargeDepth := 40) [State.scanReq, *]

@[simp] theorem State.staveReq_keeps {s0 s : State} (h : Keeps s0 s) (v : Word) :
    Keeps s0 (State.staveReq s v) := by
  simp (maxDischargeDepth := 40) [State.staveReq, *]

@[simp] theorem State.applyWord_keeps {s0 s : State} (h : Keeps s0 s) (w : BufWord) :
    Keeps s0 (State.applyWord s w) := by
  unfold State.applyWord
  repeat' split
  all_goals simp (maxDischargeDepth := 40) +contextual [*]

@[simp] theorem State.resetPort_keeps {s0 s : State} (h : Keeps s0 s) :
    Keeps s0 (State.resetPort s) := by
  simp (maxDischargeDepth := 40) [State.resetPort, *]

@[simp] theorem State.takeWord_keeps {s0 s : State} (h : Keeps s0 s) (p : Port) (r : WordRow) :
    Keeps s0 (State.takeWord s p r) := by
  unfold State.takeWord
  split
  · rename_i w t heq
    have := State.nextWord_keeps h heq
    simp (maxDischargeDepth := 40) [*]
  · exact h

@[simp] theorem State.ahead_keeps {s0 s : State} (h : Keeps s0 s) (p : Port) (ao : Bool) :
    Keeps s0 (State.ahead s p ao) := by
  simp (maxDischargeDepth := 40) +contextual [State.ahead, *]

@[simp] theorem State.readOne_keeps {s0 s : State} (h : Keeps s0 s) (p : Port) (client : Nat) (a : Nat) (f : Nat) (k : Nat) (late : Bool) :
    Keeps s0 (State.readOne s p client a f k late).2 := by
  simp (maxDischargeDepth := 40) [State.readOne, *]

@[simp] theorem State.selected_keeps {s0 s : State} (h : Keeps s0 s) (p : Port) :
    Keeps s0 (State.selected s p) := by
  simp (maxDischargeDepth := 40) [State.selected, *]

@[simp] theorem State.onSelect_keeps {s0 s : State} (h : Keeps s0 s) (p : Port) (f : State → State) (hf : ∀ y0, Keeps s0 y0 → Keeps s0 (f y0)) :
    Keeps s0 (State.onSelect s p f) := by
  simp (maxDischargeDepth := 40) [State.onSelect, *]

@[simp] theorem State.send_keeps {s0 s : State} (h : Keeps s0 s) (p : Port) (bs : List Byte) :
    Keeps s0 (State.send s p bs) := by
  simp (maxDischargeDepth := 40) [State.send, *]

@[simp] theorem State.readBurst_keeps {s0 s : State} (h : Keeps s0 s) (p : Port) (client : Nat) (off : Nat) (f : Nat) (late : List Nat) (n : Nat) :
    Keeps s0 (State.readBurst s p client off f late n).2 := by
  simp (maxDischargeDepth := 40) +contextual [State.readBurst, *]

theorem execHostRead_keeps {s0 s t : State} (h : Keeps s0 s) (port : Port) (client : BitVec 8) (off : BitVec 24) (count : Nat) (clockKHz : Nat) (late : List Nat)
    (e : execHostRead port client off count clockKHz late s = .next t) : Keeps s0 t := by
  simp only [execHostRead, Host.Outcome.next.injEq] at e
  subst e
  simp (maxDischargeDepth := 40) +contextual [*]

@[simp] theorem State.makeRoom_keeps {s0 s : State} (h : Keeps s0 s) (p : Port) :
    Keeps s0 (State.makeRoom s p) := by
  unfold State.makeRoom
  split
  · split
    · rename_i w t heq
      have := State.frontWord_keeps h heq
      simp (maxDischargeDepth := 40) [*]
    · exact h
  · exact h

@[simp] theorem State.buffer_keeps {s0 s : State} (h : Keeps s0 s) (p : Port) (w : BufWord) :
    Keeps s0 (State.buffer s p w) := by
  simp (maxDischargeDepth := 40) [State.buffer, *]

@[simp] theorem State.writeOne_keeps {s0 s : State} (h : Keeps s0 s) (p : Port) (client : Nat) (a : Nat) (v : Word) :
    Keeps s0 (State.writeOne s p client a v) := by
  simp (maxDischargeDepth := 40) [State.writeOne, *]

theorem execHostWrite_keeps {s0 s t : State} (h : Keeps s0 s) (port : Port) (client : BitVec 8) (off : BitVec 24) (ws : List Word) (tail : Nat)
    (e : execHostWrite port client off ws tail s = .next t) : Keeps s0 t := by
  simp only [execHostWrite, Host.Outcome.next.injEq] at e
  subst e
  simp (maxDischargeDepth := 40) +contextual [*]

theorem execReadId_keeps {s0 s t : State} (h : Keeps s0 s) (port : Port) (count : Nat)
    (e : execReadId port count s = .next t) : Keeps s0 t := by
  simp only [execReadId, Host.Outcome.next.injEq] at e
  subst e
  simp (maxDischargeDepth := 40) +contextual [*]

theorem execReadStatus_keeps {s0 s t : State} (h : Keeps s0 s) (count : Nat)
    (e : execReadStatus count s = .next t) : Keeps s0 t := by
  simp only [execReadStatus, Host.Outcome.next.injEq] at e
  subst e
  simp (maxDischargeDepth := 40) +contextual [*]

theorem execWriteEnable_keeps {s0 s t : State} (h : Keeps s0 s) 
    (e : execWriteEnable s = .next t) : Keeps s0 t := by
  simp only [execWriteEnable, Host.Outcome.next.injEq] at e
  subst e
  simp (maxDischargeDepth := 40) [*]

theorem execResetEnable_keeps {s0 s t : State} (h : Keeps s0 s) 
    (e : execResetEnable s = .next t) : Keeps s0 t := by
  simp only [execResetEnable, Host.Outcome.next.injEq] at e
  subst e
  simp (maxDischargeDepth := 40) +contextual [*]

theorem execPortReset_keeps {s0 s t : State} (h : Keeps s0 s) 
    (e : execPortReset s = .next t) : Keeps s0 t := by
  simp only [execPortReset, Host.Outcome.next.injEq] at e
  subst e
  simp (maxDischargeDepth := 40) +contextual [*]

theorem execBadCommandSelect_keeps {s0 s t : State} (h : Keeps s0 s) (bytes : SelectBytes)
    (e : execBadCommandSelect bytes s = .next t) : Keeps s0 t := by
  simp only [execBadCommandSelect, Host.Outcome.next.injEq] at e
  subst e
  simp (maxDischargeDepth := 40) +contextual [*]

theorem execRegisterWrite_keeps {s0 s t : State} (h : Keeps s0 s) (port : Port)
    (e : execRegisterWrite port s = .next t) : Keeps s0 t := by
  simp only [execRegisterWrite, Host.Outcome.next.injEq] at e
  subst e
  simp (maxDischargeDepth := 40) [*]

theorem execModeExpert_keeps {s0 s t : State} (h : Keeps s0 s) (port : Port)
    (e : execModeExpert port s = .next t) : Keeps s0 t := by
  simp only [execModeExpert, Host.Outcome.next.injEq] at e
  subst e
  simp (maxDischargeDepth := 40) [*]

theorem execModeBasic_keeps {s0 s t : State} (h : Keeps s0 s) (port : Port)
    (e : execModeBasic port s = .next t) : Keeps s0 t := by
  simp only [execModeBasic, Host.Outcome.next.injEq] at e
  subst e
  simp (maxDischargeDepth := 40) [*]

theorem execLadderReqGo_keeps {s0 s t : State} (h : Keeps s0 s) (port : Port)
    (e : execLadderReqGo port s = .next t) : Keeps s0 t := by
  simp only [execLadderReqGo, Host.Outcome.next.injEq] at e
  subst e
  simp (maxDischargeDepth := 40) [*]

theorem execLeaseEnable_keeps {s0 s t : State} (h : Keeps s0 s) (port : Port)
    (e : execLeaseEnable port s = .next t) : Keeps s0 t := by
  simp only [execLeaseEnable, Host.Outcome.next.injEq] at e
  subst e
  simp (maxDischargeDepth := 40) [*]

theorem execLeaseDisable_keeps {s0 s t : State} (h : Keeps s0 s) (port : Port)
    (e : execLeaseDisable port s = .next t) : Keeps s0 t := by
  simp only [execLeaseDisable, Host.Outcome.next.injEq] at e
  subst e
  simp (maxDischargeDepth := 40) [*]

theorem execResetReqSystem_keeps {s0 s t : State} (h : Keeps s0 s) (port : Port)
    (e : execResetReqSystem port s = .next t) : Keeps s0 t := by
  simp only [execResetReqSystem, Host.Outcome.next.injEq] at e
  subst e
  simp (maxDischargeDepth := 40) [*]

theorem execResetReqCore_keeps {s0 s t : State} (h : Keeps s0 s) (port : Port)
    (e : execResetReqCore port s = .next t) : Keeps s0 t := by
  simp only [execResetReqCore, Host.Outcome.next.injEq] at e
  subst e
  simp (maxDischargeDepth := 40) [*]

theorem execWdogKickWrite_keeps {s0 s t : State} (h : Keeps s0 s) (port : Port)
    (e : execWdogKickWrite port s = .next t) : Keeps s0 t := by
  simp only [execWdogKickWrite, Host.Outcome.next.injEq] at e
  subst e
  simp (maxDischargeDepth := 40) [*]

theorem execPermLockWrite_keeps {s0 s t : State} (h : Keeps s0 s) (port : Port)
    (e : execPermLockWrite port s = .next t) : Keeps s0 t := by
  simp only [execPermLockWrite, Host.Outcome.next.injEq] at e
  subst e
  simp (maxDischargeDepth := 40) [*]

theorem execDoorbellWrite_keeps {s0 s t : State} (h : Keeps s0 s) (port : Port)
    (e : execDoorbellWrite port s = .next t) : Keeps s0 t := by
  simp only [execDoorbellWrite, Host.Outcome.next.injEq] at e
  subst e
  simp (maxDischargeDepth := 40) [*]

theorem execRingEnable_keeps {s0 s t : State} (h : Keeps s0 s) (port : Port)
    (e : execRingEnable port s = .next t) : Keeps s0 t := by
  simp only [execRingEnable, Host.Outcome.next.injEq] at e
  subst e
  simp (maxDischargeDepth := 40) [*]

theorem execRingDisable_keeps {s0 s t : State} (h : Keeps s0 s) (port : Port)
    (e : execRingDisable port s = .next t) : Keeps s0 t := by
  simp only [execRingDisable, Host.Outcome.next.injEq] at e
  subst e
  simp (maxDischargeDepth := 40) [*]

theorem execCueResumeWrite_keeps {s0 s t : State} (h : Keeps s0 s) (port : Port)
    (e : execCueResumeWrite port s = .next t) : Keeps s0 t := by
  simp only [execCueResumeWrite, Host.Outcome.next.injEq] at e
  subst e
  simp (maxDischargeDepth := 40) [*]

theorem execScoreStartWrite_keeps {s0 s t : State} (h : Keeps s0 s) (port : Port)
    (e : execScoreStartWrite port s = .next t) : Keeps s0 t := by
  simp only [execScoreStartWrite, Host.Outcome.next.injEq] at e
  subst e
  simp (maxDischargeDepth := 40) [*]

theorem execScoreStopWrite_keeps {s0 s t : State} (h : Keeps s0 s) (port : Port)
    (e : execScoreStopWrite port s = .next t) : Keeps s0 t := by
  simp only [execScoreStopWrite, Host.Outcome.next.injEq] at e
  subst e
  simp (maxDischargeDepth := 40) [*]

theorem execKeysPop_keeps {s0 s t : State} (h : Keeps s0 s) (port : Port)
    (e : execKeysPop port s = .next t) : Keeps s0 t := by
  simp only [execKeysPop, Host.Outcome.next.injEq] at e
  subst e
  simp (maxDischargeDepth := 40) [*]

theorem execKeysCommitGo_keeps {s0 s t : State} (h : Keeps s0 s) (port : Port)
    (e : execKeysCommitGo port s = .next t) : Keeps s0 t := by
  simp only [execKeysCommitGo, Host.Outcome.next.injEq] at e
  subst e
  simp (maxDischargeDepth := 40) [*]

theorem execSenseCommitGo_keeps {s0 s t : State} (h : Keeps s0 s) (port : Port)
    (e : execSenseCommitGo port s = .next t) : Keeps s0 t := by
  simp only [execSenseCommitGo, Host.Outcome.next.injEq] at e
  subst e
  simp (maxDischargeDepth := 40) [*]

theorem execTuneReqWrite_keeps {s0 s t : State} (h : Keeps s0 s) (port : Port)
    (e : execTuneReqWrite port s = .next t) : Keeps s0 t := by
  simp only [execTuneReqWrite, Host.Outcome.next.injEq] at e
  subst e
  simp (maxDischargeDepth := 40) [*]

theorem execJrnlCmdGo_keeps {s0 s t : State} (h : Keeps s0 s) (port : Port)
    (e : execJrnlCmdGo port s = .next t) : Keeps s0 t := by
  simp only [execJrnlCmdGo, Host.Outcome.next.injEq] at e
  subst e
  simp (maxDischargeDepth := 40) [*]

theorem execSurfaceEnable_keeps {s0 s t : State} (h : Keeps s0 s) (port : Port)
    (e : execSurfaceEnable port s = .next t) : Keeps s0 t := by
  simp only [execSurfaceEnable, Host.Outcome.next.injEq] at e
  subst e
  simp (maxDischargeDepth := 40) [*]

theorem execSurfaceDisable_keeps {s0 s t : State} (h : Keeps s0 s) (port : Port)
    (e : execSurfaceDisable port s = .next t) : Keeps s0 t := by
  simp only [execSurfaceDisable, Host.Outcome.next.injEq] at e
  subst e
  simp (maxDischargeDepth := 40) [*]

theorem execOpenGo_keeps {s0 s t : State} (h : Keeps s0 s) (port : Port)
    (e : execOpenGo port s = .next t) : Keeps s0 t := by
  simp only [execOpenGo, Host.Outcome.next.injEq] at e
  subst e
  simp (maxDischargeDepth := 40) [*]

theorem execPresentGo_keeps {s0 s t : State} (h : Keeps s0 s) (port : Port)
    (e : execPresentGo port s = .next t) : Keeps s0 t := by
  simp only [execPresentGo, Host.Outcome.next.injEq] at e
  subst e
  simp (maxDischargeDepth := 40) [*]

theorem execDsiCommitGo_keeps {s0 s t : State} (h : Keeps s0 s) (port : Port)
    (e : execDsiCommitGo port s = .next t) : Keeps s0 t := by
  simp only [execDsiCommitGo, Host.Outcome.next.injEq] at e
  subst e
  simp (maxDischargeDepth := 40) [*]

theorem execScanReqWake_keeps {s0 s t : State} (h : Keeps s0 s) (port : Port)
    (e : execScanReqWake port s = .next t) : Keeps s0 t := by
  simp only [execScanReqWake, Host.Outcome.next.injEq] at e
  subst e
  simp (maxDischargeDepth := 40) [*]

theorem execScanReqSrEnter_keeps {s0 s t : State} (h : Keeps s0 s) (port : Port)
    (e : execScanReqSrEnter port s = .next t) : Keeps s0 t := by
  simp only [execScanReqSrEnter, Host.Outcome.next.injEq] at e
  subst e
  simp (maxDischargeDepth := 40) [*]

theorem execScanCommitGo_keeps {s0 s t : State} (h : Keeps s0 s) (port : Port)
    (e : execScanCommitGo port s = .next t) : Keeps s0 t := by
  simp only [execScanCommitGo, Host.Outcome.next.injEq] at e
  subst e
  simp (maxDischargeDepth := 40) [*]

theorem execPipeCommitGo_keeps {s0 s t : State} (h : Keeps s0 s) (port : Port)
    (e : execPipeCommitGo port s = .next t) : Keeps s0 t := by
  simp only [execPipeCommitGo, Host.Outcome.next.injEq] at e
  subst e
  simp (maxDischargeDepth := 40) [*]

theorem execStaveReqRetrain_keeps {s0 s t : State} (h : Keeps s0 s) (port : Port)
    (e : execStaveReqRetrain port s = .next t) : Keeps s0 t := by
  simp only [execStaveReqRetrain, Host.Outcome.next.injEq] at e
  subst e
  simp (maxDischargeDepth := 40) [*]

theorem execStaveReqCrackCheck_keeps {s0 s t : State} (h : Keeps s0 s) (port : Port)
    (e : execStaveReqCrackCheck port s = .next t) : Keeps s0 t := by
  simp only [execStaveReqCrackCheck, Host.Outcome.next.injEq] at e
  subst e
  simp (maxDischargeDepth := 40) [*]

theorem execStaveReqRecover_keeps {s0 s t : State} (h : Keeps s0 s) (port : Port)
    (e : execStaveReqRecover port s = .next t) : Keeps s0 t := by
  simp only [execStaveReqRecover, Host.Outcome.next.injEq] at e
  subst e
  simp (maxDischargeDepth := 40) [*]

theorem execStaveCommitGo_keeps {s0 s t : State} (h : Keeps s0 s) (port : Port)
    (e : execStaveCommitGo port s = .next t) : Keeps s0 t := by
  simp only [execStaveCommitGo, Host.Outcome.next.injEq] at e
  subst e
  simp (maxDischargeDepth := 40) [*]

theorem execWallHiWrite_keeps {s0 s t : State} (h : Keeps s0 s) (port : Port)
    (e : execWallHiWrite port s = .next t) : Keeps s0 t := by
  simp only [execWallHiWrite, Host.Outcome.next.injEq] at e
  subst e
  simp (maxDischargeDepth := 40) [*]

theorem execFaceRepaintWrite_keeps {s0 s t : State} (h : Keeps s0 s) (port : Port)
    (e : execFaceRepaintWrite port s = .next t) : Keeps s0 t := by
  simp only [execFaceRepaintWrite, Host.Outcome.next.injEq] at e
  subst e
  simp (maxDischargeDepth := 40) [*]

theorem execFaceCommitGo_keeps {s0 s t : State} (h : Keeps s0 s) (port : Port)
    (e : execFaceCommitGo port s = .next t) : Keeps s0 t := by
  simp only [execFaceCommitGo, Host.Outcome.next.injEq] at e
  subst e
  simp (maxDischargeDepth := 40) [*]

theorem execEnsCommitGo_keeps {s0 s t : State} (h : Keeps s0 s) (port : Port)
    (e : execEnsCommitGo port s = .next t) : Keeps s0 t := by
  simp only [execEnsCommitGo, Host.Outcome.next.injEq] at e
  subst e
  simp (maxDischargeDepth := 40) [*]

theorem execDeskTestWrite_keeps {s0 s t : State} (h : Keeps s0 s) (port : Port)
    (e : execDeskTestWrite port s = .next t) : Keeps s0 t := by
  simp only [execDeskTestWrite, Host.Outcome.next.injEq] at e
  subst e
  simp (maxDischargeDepth := 40) [*]

theorem execDeskRetestWrite_keeps {s0 s t : State} (h : Keeps s0 s) (port : Port)
    (e : execDeskRetestWrite port s = .next t) : Keeps s0 t := by
  simp only [execDeskRetestWrite, Host.Outcome.next.injEq] at e
  subst e
  simp (maxDischargeDepth := 40) [*]

theorem execIssueGo_keeps {s0 s t : State} (h : Keeps s0 s) (port : Port)
    (e : execIssueGo port s = .next t) : Keeps s0 t := by
  simp only [execIssueGo, Host.Outcome.next.injEq] at e
  subst e
  simp (maxDischargeDepth := 40) [*]

@[simp] theorem State.sendReport_keeps {s0 s : State} (h : Keeps s0 s)  :
    Keeps s0 (State.sendReport s) := by
  simp (maxDischargeDepth := 40) [State.sendReport, *]

@[simp] theorem State.sendData_keeps {s0 s : State} (h : Keeps s0 s) (generic : Bool) (bs : List Byte) :
    Keeps s0 (State.sendData s generic bs) := by
  simp (maxDischargeDepth := 40) [State.sendData, *]

theorem execBusTurnaround_keeps {s0 s t : State} (h : Keeps s0 s) (line : Nat)
    (e : execBusTurnaround line s = .next t) : Keeps s0 t := by
  simp only [execBusTurnaround, Host.Outcome.next.injEq] at e
  subst e
  repeat' split
  all_goals simp (maxDischargeDepth := 40) +contextual [*]

end Sys2Proof.Machine
end

