-- ==== Sys2Proof/Laws/KeepsTick.lean ====
section
/-!
SUPPORT. What the operations of Machine/Tick.lean keep.
-/

namespace Sys2Proof.Machine

@[simp] theorem State.edgeTick_keeps {s0 s : State} (h : Keeps s0 s) :
    Keeps s0 (State.edgeTick s) := by
  simp (maxDischargeDepth := 40) [State.edgeTick, *]

@[simp] theorem State.metroTick_keeps {s0 s : State} (h : Keeps s0 s)  :
    Keeps s0 (State.metroTick s) := by
  unfold State.metroTick
  split <;> simp (maxDischargeDepth := 40) [*]

@[simp] theorem State.samplePins_keeps {s0 s : State} (h : Keeps s0 s)  :
    Keeps s0 (State.samplePins s) := by
  simp (maxDischargeDepth := 40) [State.samplePins, *]

@[simp] theorem State.driveAlive_keeps {s0 s : State} (h : Keeps s0 s)  :
    Keeps s0 (State.driveAlive s) := by
  simp (maxDischargeDepth := 40) [State.driveAlive, *]

@[simp] theorem State.wdogTick_keeps {s0 s : State} (h : Keeps s0 s)  :
    Keeps s0 (State.wdogTick s) := by
  simp (maxDischargeDepth := 40) [State.wdogTick, *]

@[simp] theorem State.idleTick_keeps {s0 s : State} (h : Keeps s0 s)  :
    Keeps s0 (State.idleTick s) := by
  simp (maxDischargeDepth := 40) [State.idleTick, *]

@[simp] theorem State.basicTick_keeps {s0 s : State} (h : Keeps s0 s)  :
    Keeps s0 (State.basicTick s) := by
  simp (maxDischargeDepth := 40) +contextual [State.basicTick, *]

@[simp] theorem State.capsTick_keeps {s0 s : State} (h : Keeps s0 s) :
    Keeps s0 (State.capsTick s) := by
  simp (maxDischargeDepth := 40) [State.capsTick, *]

@[simp] theorem State.tickEffects_keeps {s0 s : State} (h : Keeps s0 s)  :
    Keeps s0 (State.tickEffects s) := by
  simp (maxDischargeDepth := 40) [State.tickEffects, *]

theorem State.aoTick_wf {s : State} (h : Memory.wf s = true) : Memory.wf s.aoTick = true :=
  (State.tickEffects_keeps (State.tellWake_keeps (State.evaluate_keeps (State.sampleSlots_keeps
    (State.writePulses_keeps (Keeps.refl h)))))).wf

end Sys2Proof.Machine
end

