-- ==== Sys2Proof/Laws/State.lean ====
section
/-!
SUPPORT. Which fields of State the named updates leave as they are: one lemma per update and field.
-/

namespace Sys2Proof.Machine

@[simp] theorem State.setReg_force (s : State) (a : Nat) (v : Word) :
    (s.setReg a v).force = s.force := rfl
@[simp] theorem State.setReg_metro (s : State) (a : Nat) (v : Word) :
    (s.setReg a v).metro = s.metro := rfl
@[simp] theorem State.setReg_edge (s : State) (a : Nat) (v : Word) :
    (s.setReg a v).edge = s.edge := rfl
@[simp] theorem State.setReg_hall (s : State) (a : Nat) (v : Word) :
    (s.setReg a v).hall = s.hall := rfl
@[simp] theorem State.setReg_banks (s : State) (a : Nat) (v : Word) :
    (s.setReg a v).banks = s.banks := rfl
@[simp] theorem State.setReg_hallGen (s : State) (a : Nat) (v : Word) :
    (s.setReg a v).hallGen = s.hallGen := rfl
@[simp] theorem State.setReg_ao (s : State) (a : Nat) (v : Word) :
    (s.setReg a v).ao = s.ao := rfl
@[simp] theorem State.setReg_flash (s : State) (a : Nat) (v : Word) :
    (s.setReg a v).flash = s.flash := rfl
@[simp] theorem State.setReg_fuses (s : State) (a : Nat) (v : Word) :
    (s.setReg a v).fuses = s.fuses := rfl
@[simp] theorem State.setReg_free (s : State) (a : Nat) (v : Word) :
    (s.setReg a v).free = s.free := rfl
@[simp] theorem State.setReg_pins (s : State) (a : Nat) (v : Word) :
    (s.setReg a v).pins = s.pins := rfl
@[simp] theorem State.setReg_tap (s : State) (a : Nat) (v : Word) :
    (s.setReg a v).tap = s.tap := rfl
@[simp] theorem State.setReg_flags (s : State) (a : Nat) (v : Word) :
    (s.setReg a v).flags = s.flags := rfl
@[simp] theorem State.setReg_ladder (s : State) (a : Nat) (v : Word) :
    (s.setReg a v).ladder = s.ladder := rfl
@[simp] theorem State.setReg_boot (s : State) (a : Nat) (v : Word) :
    (s.setReg a v).boot = s.boot := rfl
@[simp] theorem State.setReg_portA (s : State) (a : Nat) (v : Word) :
    (s.setReg a v).portA = s.portA := rfl
@[simp] theorem State.setReg_portB (s : State) (a : Nat) (v : Word) :
    (s.setReg a v).portB = s.portB := rfl
@[simp] theorem State.setReg_crossing (s : State) (a : Nat) (v : Word) :
    (s.setReg a v).crossing = s.crossing := rfl
@[simp] theorem State.setReg_rings (s : State) (a : Nat) (v : Word) :
    (s.setReg a v).rings = s.rings := rfl
@[simp] theorem State.setReg_fetched (s : State) (a : Nat) (v : Word) :
    (s.setReg a v).fetched = s.fetched := rfl
@[simp] theorem State.setReg_commits (s : State) (a : Nat) (v : Word) :
    (s.setReg a v).commits = s.commits := rfl
@[simp] theorem State.setReg_expertWait (s : State) (a : Nat) (v : Word) :
    (s.setReg a v).expertWait = s.expertWait := rfl
@[simp] theorem State.setReg_score (s : State) (a : Nat) (v : Word) :
    (s.setReg a v).score = s.score := rfl
@[simp] theorem State.setReg_keys (s : State) (a : Nat) (v : Word) :
    (s.setReg a v).keys = s.keys := rfl
@[simp] theorem State.setReg_sense (s : State) (a : Nat) (v : Word) :
    (s.setReg a v).sense = s.sense := rfl
@[simp] theorem State.setReg_tune (s : State) (a : Nat) (v : Word) :
    (s.setReg a v).tune = s.tune := rfl
@[simp] theorem State.setReg_jrnl (s : State) (a : Nat) (v : Word) :
    (s.setReg a v).jrnl = s.jrnl := rfl
@[simp] theorem State.setReg_intake (s : State) (a : Nat) (v : Word) :
    (s.setReg a v).intake = s.intake := rfl
@[simp] theorem State.setReg_scan (s : State) (a : Nat) (v : Word) :
    (s.setReg a v).scan = s.scan := rfl
@[simp] theorem State.setReg_pipe (s : State) (a : Nat) (v : Word) :
    (s.setReg a v).pipe = s.pipe := rfl
@[simp] theorem State.setReg_stave (s : State) (a : Nat) (v : Word) :
    (s.setReg a v).stave = s.stave := rfl
@[simp] theorem State.setReg_face (s : State) (a : Nat) (v : Word) :
    (s.setReg a v).face = s.face := rfl
@[simp] theorem State.setReg_ens (s : State) (a : Nat) (v : Word) :
    (s.setReg a v).ens = s.ens := rfl
@[simp] theorem State.setReg_pending (s : State) (a : Nat) (v : Word) :
    (s.setReg a v).pending = s.pending := rfl
@[simp] theorem State.setFld_force (s : State) (a : Nat) (hi : Nat) (lo : Nat) (v : Nat) :
    (s.setFld a hi lo v).force = s.force := rfl
@[simp] theorem State.setFld_metro (s : State) (a : Nat) (hi : Nat) (lo : Nat) (v : Nat) :
    (s.setFld a hi lo v).metro = s.metro := rfl
@[simp] theorem State.setFld_edge (s : State) (a : Nat) (hi : Nat) (lo : Nat) (v : Nat) :
    (s.setFld a hi lo v).edge = s.edge := rfl
@[simp] theorem State.setFld_hall (s : State) (a : Nat) (hi : Nat) (lo : Nat) (v : Nat) :
    (s.setFld a hi lo v).hall = s.hall := rfl
@[simp] theorem State.setFld_banks (s : State) (a : Nat) (hi : Nat) (lo : Nat) (v : Nat) :
    (s.setFld a hi lo v).banks = s.banks := rfl
@[simp] theorem State.setFld_hallGen (s : State) (a : Nat) (hi : Nat) (lo : Nat) (v : Nat) :
    (s.setFld a hi lo v).hallGen = s.hallGen := rfl
@[simp] theorem State.setFld_ao (s : State) (a : Nat) (hi : Nat) (lo : Nat) (v : Nat) :
    (s.setFld a hi lo v).ao = s.ao := rfl
@[simp] theorem State.setFld_flash (s : State) (a : Nat) (hi : Nat) (lo : Nat) (v : Nat) :
    (s.setFld a hi lo v).flash = s.flash := rfl
@[simp] theorem State.setFld_fuses (s : State) (a : Nat) (hi : Nat) (lo : Nat) (v : Nat) :
    (s.setFld a hi lo v).fuses = s.fuses := rfl
@[simp] theorem State.setFld_free (s : State) (a : Nat) (hi : Nat) (lo : Nat) (v : Nat) :
    (s.setFld a hi lo v).free = s.free := rfl
@[simp] theorem State.setFld_pins (s : State) (a : Nat) (hi : Nat) (lo : Nat) (v : Nat) :
    (s.setFld a hi lo v).pins = s.pins := rfl
@[simp] theorem State.setFld_tap (s : State) (a : Nat) (hi : Nat) (lo : Nat) (v : Nat) :
    (s.setFld a hi lo v).tap = s.tap := rfl
@[simp] theorem State.setFld_flags (s : State) (a : Nat) (hi : Nat) (lo : Nat) (v : Nat) :
    (s.setFld a hi lo v).flags = s.flags := rfl
@[simp] theorem State.setFld_ladder (s : State) (a : Nat) (hi : Nat) (lo : Nat) (v : Nat) :
    (s.setFld a hi lo v).ladder = s.ladder := rfl
@[simp] theorem State.setFld_boot (s : State) (a : Nat) (hi : Nat) (lo : Nat) (v : Nat) :
    (s.setFld a hi lo v).boot = s.boot := rfl
@[simp] theorem State.setFld_portA (s : State) (a : Nat) (hi : Nat) (lo : Nat) (v : Nat) :
    (s.setFld a hi lo v).portA = s.portA := rfl
@[simp] theorem State.setFld_portB (s : State) (a : Nat) (hi : Nat) (lo : Nat) (v : Nat) :
    (s.setFld a hi lo v).portB = s.portB := rfl
@[simp] theorem State.setFld_crossing (s : State) (a : Nat) (hi : Nat) (lo : Nat) (v : Nat) :
    (s.setFld a hi lo v).crossing = s.crossing := rfl
@[simp] theorem State.setFld_rings (s : State) (a : Nat) (hi : Nat) (lo : Nat) (v : Nat) :
    (s.setFld a hi lo v).rings = s.rings := rfl
@[simp] theorem State.setFld_fetched (s : State) (a : Nat) (hi : Nat) (lo : Nat) (v : Nat) :
    (s.setFld a hi lo v).fetched = s.fetched := rfl
@[simp] theorem State.setFld_commits (s : State) (a : Nat) (hi : Nat) (lo : Nat) (v : Nat) :
    (s.setFld a hi lo v).commits = s.commits := rfl
@[simp] theorem State.setFld_expertWait (s : State) (a : Nat) (hi : Nat) (lo : Nat) (v : Nat) :
    (s.setFld a hi lo v).expertWait = s.expertWait := rfl
@[simp] theorem State.setFld_score (s : State) (a : Nat) (hi : Nat) (lo : Nat) (v : Nat) :
    (s.setFld a hi lo v).score = s.score := rfl
@[simp] theorem State.setFld_keys (s : State) (a : Nat) (hi : Nat) (lo : Nat) (v : Nat) :
    (s.setFld a hi lo v).keys = s.keys := rfl
@[simp] theorem State.setFld_sense (s : State) (a : Nat) (hi : Nat) (lo : Nat) (v : Nat) :
    (s.setFld a hi lo v).sense = s.sense := rfl
@[simp] theorem State.setFld_tune (s : State) (a : Nat) (hi : Nat) (lo : Nat) (v : Nat) :
    (s.setFld a hi lo v).tune = s.tune := rfl
@[simp] theorem State.setFld_jrnl (s : State) (a : Nat) (hi : Nat) (lo : Nat) (v : Nat) :
    (s.setFld a hi lo v).jrnl = s.jrnl := rfl
@[simp] theorem State.setFld_intake (s : State) (a : Nat) (hi : Nat) (lo : Nat) (v : Nat) :
    (s.setFld a hi lo v).intake = s.intake := rfl
@[simp] theorem State.setFld_scan (s : State) (a : Nat) (hi : Nat) (lo : Nat) (v : Nat) :
    (s.setFld a hi lo v).scan = s.scan := rfl
@[simp] theorem State.setFld_pipe (s : State) (a : Nat) (hi : Nat) (lo : Nat) (v : Nat) :
    (s.setFld a hi lo v).pipe = s.pipe := rfl
@[simp] theorem State.setFld_stave (s : State) (a : Nat) (hi : Nat) (lo : Nat) (v : Nat) :
    (s.setFld a hi lo v).stave = s.stave := rfl
@[simp] theorem State.setFld_face (s : State) (a : Nat) (hi : Nat) (lo : Nat) (v : Nat) :
    (s.setFld a hi lo v).face = s.face := rfl
@[simp] theorem State.setFld_ens (s : State) (a : Nat) (hi : Nat) (lo : Nat) (v : Nat) :
    (s.setFld a hi lo v).ens = s.ens := rfl
@[simp] theorem State.setFld_pending (s : State) (a : Nat) (hi : Nat) (lo : Nat) (v : Nat) :
    (s.setFld a hi lo v).pending = s.pending := rfl
@[simp] theorem State.setFlag_force (s : State) (a : Nat) (n : Nat) (b : Bool) :
    (s.setFlag a n b).force = s.force := rfl
@[simp] theorem State.setFlag_metro (s : State) (a : Nat) (n : Nat) (b : Bool) :
    (s.setFlag a n b).metro = s.metro := rfl
@[simp] theorem State.setFlag_edge (s : State) (a : Nat) (n : Nat) (b : Bool) :
    (s.setFlag a n b).edge = s.edge := rfl
@[simp] theorem State.setFlag_hall (s : State) (a : Nat) (n : Nat) (b : Bool) :
    (s.setFlag a n b).hall = s.hall := rfl
@[simp] theorem State.setFlag_banks (s : State) (a : Nat) (n : Nat) (b : Bool) :
    (s.setFlag a n b).banks = s.banks := rfl
@[simp] theorem State.setFlag_hallGen (s : State) (a : Nat) (n : Nat) (b : Bool) :
    (s.setFlag a n b).hallGen = s.hallGen := rfl
@[simp] theorem State.setFlag_ao (s : State) (a : Nat) (n : Nat) (b : Bool) :
    (s.setFlag a n b).ao = s.ao := rfl
@[simp] theorem State.setFlag_flash (s : State) (a : Nat) (n : Nat) (b : Bool) :
    (s.setFlag a n b).flash = s.flash := rfl
@[simp] theorem State.setFlag_fuses (s : State) (a : Nat) (n : Nat) (b : Bool) :
    (s.setFlag a n b).fuses = s.fuses := rfl
@[simp] theorem State.setFlag_free (s : State) (a : Nat) (n : Nat) (b : Bool) :
    (s.setFlag a n b).free = s.free := rfl
@[simp] theorem State.setFlag_pins (s : State) (a : Nat) (n : Nat) (b : Bool) :
    (s.setFlag a n b).pins = s.pins := rfl
@[simp] theorem State.setFlag_tap (s : State) (a : Nat) (n : Nat) (b : Bool) :
    (s.setFlag a n b).tap = s.tap := rfl
@[simp] theorem State.setFlag_flags (s : State) (a : Nat) (n : Nat) (b : Bool) :
    (s.setFlag a n b).flags = s.flags := rfl
@[simp] theorem State.setFlag_ladder (s : State) (a : Nat) (n : Nat) (b : Bool) :
    (s.setFlag a n b).ladder = s.ladder := rfl
@[simp] theorem State.setFlag_boot (s : State) (a : Nat) (n : Nat) (b : Bool) :
    (s.setFlag a n b).boot = s.boot := rfl
@[simp] theorem State.setFlag_portA (s : State) (a : Nat) (n : Nat) (b : Bool) :
    (s.setFlag a n b).portA = s.portA := rfl
@[simp] theorem State.setFlag_portB (s : State) (a : Nat) (n : Nat) (b : Bool) :
    (s.setFlag a n b).portB = s.portB := rfl
@[simp] theorem State.setFlag_crossing (s : State) (a : Nat) (n : Nat) (b : Bool) :
    (s.setFlag a n b).crossing = s.crossing := rfl
@[simp] theorem State.setFlag_rings (s : State) (a : Nat) (n : Nat) (b : Bool) :
    (s.setFlag a n b).rings = s.rings := rfl
@[simp] theorem State.setFlag_fetched (s : State) (a : Nat) (n : Nat) (b : Bool) :
    (s.setFlag a n b).fetched = s.fetched := rfl
@[simp] theorem State.setFlag_commits (s : State) (a : Nat) (n : Nat) (b : Bool) :
    (s.setFlag a n b).commits = s.commits := rfl
@[simp] theorem State.setFlag_expertWait (s : State) (a : Nat) (n : Nat) (b : Bool) :
    (s.setFlag a n b).expertWait = s.expertWait := rfl
@[simp] theorem State.setFlag_score (s : State) (a : Nat) (n : Nat) (b : Bool) :
    (s.setFlag a n b).score = s.score := rfl
@[simp] theorem State.setFlag_keys (s : State) (a : Nat) (n : Nat) (b : Bool) :
    (s.setFlag a n b).keys = s.keys := rfl
@[simp] theorem State.setFlag_sense (s : State) (a : Nat) (n : Nat) (b : Bool) :
    (s.setFlag a n b).sense = s.sense := rfl
@[simp] theorem State.setFlag_tune (s : State) (a : Nat) (n : Nat) (b : Bool) :
    (s.setFlag a n b).tune = s.tune := rfl
@[simp] theorem State.setFlag_jrnl (s : State) (a : Nat) (n : Nat) (b : Bool) :
    (s.setFlag a n b).jrnl = s.jrnl := rfl
@[simp] theorem State.setFlag_intake (s : State) (a : Nat) (n : Nat) (b : Bool) :
    (s.setFlag a n b).intake = s.intake := rfl
@[simp] theorem State.setFlag_scan (s : State) (a : Nat) (n : Nat) (b : Bool) :
    (s.setFlag a n b).scan = s.scan := rfl
@[simp] theorem State.setFlag_pipe (s : State) (a : Nat) (n : Nat) (b : Bool) :
    (s.setFlag a n b).pipe = s.pipe := rfl
@[simp] theorem State.setFlag_stave (s : State) (a : Nat) (n : Nat) (b : Bool) :
    (s.setFlag a n b).stave = s.stave := rfl
@[simp] theorem State.setFlag_face (s : State) (a : Nat) (n : Nat) (b : Bool) :
    (s.setFlag a n b).face = s.face := rfl
@[simp] theorem State.setFlag_ens (s : State) (a : Nat) (n : Nat) (b : Bool) :
    (s.setFlag a n b).ens = s.ens := rfl
@[simp] theorem State.setFlag_pending (s : State) (a : Nat) (n : Nat) (b : Bool) :
    (s.setFlag a n b).pending = s.pending := rfl
@[simp] theorem State.bump_force (s : State) (a : Nat) (hi : Nat) (lo : Nat) :
    (s.bump a hi lo).force = s.force := rfl
@[simp] theorem State.bump_metro (s : State) (a : Nat) (hi : Nat) (lo : Nat) :
    (s.bump a hi lo).metro = s.metro := rfl
@[simp] theorem State.bump_edge (s : State) (a : Nat) (hi : Nat) (lo : Nat) :
    (s.bump a hi lo).edge = s.edge := rfl
@[simp] theorem State.bump_hall (s : State) (a : Nat) (hi : Nat) (lo : Nat) :
    (s.bump a hi lo).hall = s.hall := rfl
@[simp] theorem State.bump_banks (s : State) (a : Nat) (hi : Nat) (lo : Nat) :
    (s.bump a hi lo).banks = s.banks := rfl
@[simp] theorem State.bump_hallGen (s : State) (a : Nat) (hi : Nat) (lo : Nat) :
    (s.bump a hi lo).hallGen = s.hallGen := rfl
@[simp] theorem State.bump_ao (s : State) (a : Nat) (hi : Nat) (lo : Nat) :
    (s.bump a hi lo).ao = s.ao := rfl
@[simp] theorem State.bump_flash (s : State) (a : Nat) (hi : Nat) (lo : Nat) :
    (s.bump a hi lo).flash = s.flash := rfl
@[simp] theorem State.bump_fuses (s : State) (a : Nat) (hi : Nat) (lo : Nat) :
    (s.bump a hi lo).fuses = s.fuses := rfl
@[simp] theorem State.bump_free (s : State) (a : Nat) (hi : Nat) (lo : Nat) :
    (s.bump a hi lo).free = s.free := rfl
@[simp] theorem State.bump_pins (s : State) (a : Nat) (hi : Nat) (lo : Nat) :
    (s.bump a hi lo).pins = s.pins := rfl
@[simp] theorem State.bump_tap (s : State) (a : Nat) (hi : Nat) (lo : Nat) :
    (s.bump a hi lo).tap = s.tap := rfl
@[simp] theorem State.bump_flags (s : State) (a : Nat) (hi : Nat) (lo : Nat) :
    (s.bump a hi lo).flags = s.flags := rfl
@[simp] theorem State.bump_ladder (s : State) (a : Nat) (hi : Nat) (lo : Nat) :
    (s.bump a hi lo).ladder = s.ladder := rfl
@[simp] theorem State.bump_boot (s : State) (a : Nat) (hi : Nat) (lo : Nat) :
    (s.bump a hi lo).boot = s.boot := rfl
@[simp] theorem State.bump_portA (s : State) (a : Nat) (hi : Nat) (lo : Nat) :
    (s.bump a hi lo).portA = s.portA := rfl
@[simp] theorem State.bump_portB (s : State) (a : Nat) (hi : Nat) (lo : Nat) :
    (s.bump a hi lo).portB = s.portB := rfl
@[simp] theorem State.bump_crossing (s : State) (a : Nat) (hi : Nat) (lo : Nat) :
    (s.bump a hi lo).crossing = s.crossing := rfl
@[simp] theorem State.bump_rings (s : State) (a : Nat) (hi : Nat) (lo : Nat) :
    (s.bump a hi lo).rings = s.rings := rfl
@[simp] theorem State.bump_fetched (s : State) (a : Nat) (hi : Nat) (lo : Nat) :
    (s.bump a hi lo).fetched = s.fetched := rfl
@[simp] theorem State.bump_commits (s : State) (a : Nat) (hi : Nat) (lo : Nat) :
    (s.bump a hi lo).commits = s.commits := rfl
@[simp] theorem State.bump_expertWait (s : State) (a : Nat) (hi : Nat) (lo : Nat) :
    (s.bump a hi lo).expertWait = s.expertWait := rfl
@[simp] theorem State.bump_score (s : State) (a : Nat) (hi : Nat) (lo : Nat) :
    (s.bump a hi lo).score = s.score := rfl
@[simp] theorem State.bump_keys (s : State) (a : Nat) (hi : Nat) (lo : Nat) :
    (s.bump a hi lo).keys = s.keys := rfl
@[simp] theorem State.bump_sense (s : State) (a : Nat) (hi : Nat) (lo : Nat) :
    (s.bump a hi lo).sense = s.sense := rfl
@[simp] theorem State.bump_tune (s : State) (a : Nat) (hi : Nat) (lo : Nat) :
    (s.bump a hi lo).tune = s.tune := rfl
@[simp] theorem State.bump_jrnl (s : State) (a : Nat) (hi : Nat) (lo : Nat) :
    (s.bump a hi lo).jrnl = s.jrnl := rfl
@[simp] theorem State.bump_intake (s : State) (a : Nat) (hi : Nat) (lo : Nat) :
    (s.bump a hi lo).intake = s.intake := rfl
@[simp] theorem State.bump_scan (s : State) (a : Nat) (hi : Nat) (lo : Nat) :
    (s.bump a hi lo).scan = s.scan := rfl
@[simp] theorem State.bump_pipe (s : State) (a : Nat) (hi : Nat) (lo : Nat) :
    (s.bump a hi lo).pipe = s.pipe := rfl
@[simp] theorem State.bump_stave (s : State) (a : Nat) (hi : Nat) (lo : Nat) :
    (s.bump a hi lo).stave = s.stave := rfl
@[simp] theorem State.bump_face (s : State) (a : Nat) (hi : Nat) (lo : Nat) :
    (s.bump a hi lo).face = s.face := rfl
@[simp] theorem State.bump_ens (s : State) (a : Nat) (hi : Nat) (lo : Nat) :
    (s.bump a hi lo).ens = s.ens := rfl
@[simp] theorem State.bump_pending (s : State) (a : Nat) (hi : Nat) (lo : Nat) :
    (s.bump a hi lo).pending = s.pending := rfl
@[simp] theorem State.bumpSat_force (s : State) (a : Nat) (hi : Nat) (lo : Nat) :
    (s.bumpSat a hi lo).force = s.force := rfl
@[simp] theorem State.bumpSat_metro (s : State) (a : Nat) (hi : Nat) (lo : Nat) :
    (s.bumpSat a hi lo).metro = s.metro := rfl
@[simp] theorem State.bumpSat_edge (s : State) (a : Nat) (hi : Nat) (lo : Nat) :
    (s.bumpSat a hi lo).edge = s.edge := rfl
@[simp] theorem State.bumpSat_hall (s : State) (a : Nat) (hi : Nat) (lo : Nat) :
    (s.bumpSat a hi lo).hall = s.hall := rfl
@[simp] theorem State.bumpSat_banks (s : State) (a : Nat) (hi : Nat) (lo : Nat) :
    (s.bumpSat a hi lo).banks = s.banks := rfl
@[simp] theorem State.bumpSat_hallGen (s : State) (a : Nat) (hi : Nat) (lo : Nat) :
    (s.bumpSat a hi lo).hallGen = s.hallGen := rfl
@[simp] theorem State.bumpSat_ao (s : State) (a : Nat) (hi : Nat) (lo : Nat) :
    (s.bumpSat a hi lo).ao = s.ao := rfl
@[simp] theorem State.bumpSat_flash (s : State) (a : Nat) (hi : Nat) (lo : Nat) :
    (s.bumpSat a hi lo).flash = s.flash := rfl
@[simp] theorem State.bumpSat_fuses (s : State) (a : Nat) (hi : Nat) (lo : Nat) :
    (s.bumpSat a hi lo).fuses = s.fuses := rfl
@[simp] theorem State.bumpSat_free (s : State) (a : Nat) (hi : Nat) (lo : Nat) :
    (s.bumpSat a hi lo).free = s.free := rfl
@[simp] theorem State.bumpSat_pins (s : State) (a : Nat) (hi : Nat) (lo : Nat) :
    (s.bumpSat a hi lo).pins = s.pins := rfl
@[simp] theorem State.bumpSat_tap (s : State) (a : Nat) (hi : Nat) (lo : Nat) :
    (s.bumpSat a hi lo).tap = s.tap := rfl
@[simp] theorem State.bumpSat_flags (s : State) (a : Nat) (hi : Nat) (lo : Nat) :
    (s.bumpSat a hi lo).flags = s.flags := rfl
@[simp] theorem State.bumpSat_ladder (s : State) (a : Nat) (hi : Nat) (lo : Nat) :
    (s.bumpSat a hi lo).ladder = s.ladder := rfl
@[simp] theorem State.bumpSat_boot (s : State) (a : Nat) (hi : Nat) (lo : Nat) :
    (s.bumpSat a hi lo).boot = s.boot := rfl
@[simp] theorem State.bumpSat_portA (s : State) (a : Nat) (hi : Nat) (lo : Nat) :
    (s.bumpSat a hi lo).portA = s.portA := rfl
@[simp] theorem State.bumpSat_portB (s : State) (a : Nat) (hi : Nat) (lo : Nat) :
    (s.bumpSat a hi lo).portB = s.portB := rfl
@[simp] theorem State.bumpSat_crossing (s : State) (a : Nat) (hi : Nat) (lo : Nat) :
    (s.bumpSat a hi lo).crossing = s.crossing := rfl
@[simp] theorem State.bumpSat_rings (s : State) (a : Nat) (hi : Nat) (lo : Nat) :
    (s.bumpSat a hi lo).rings = s.rings := rfl
@[simp] theorem State.bumpSat_fetched (s : State) (a : Nat) (hi : Nat) (lo : Nat) :
    (s.bumpSat a hi lo).fetched = s.fetched := rfl
@[simp] theorem State.bumpSat_commits (s : State) (a : Nat) (hi : Nat) (lo : Nat) :
    (s.bumpSat a hi lo).commits = s.commits := rfl
@[simp] theorem State.bumpSat_expertWait (s : State) (a : Nat) (hi : Nat) (lo : Nat) :
    (s.bumpSat a hi lo).expertWait = s.expertWait := rfl
@[simp] theorem State.bumpSat_score (s : State) (a : Nat) (hi : Nat) (lo : Nat) :
    (s.bumpSat a hi lo).score = s.score := rfl
@[simp] theorem State.bumpSat_keys (s : State) (a : Nat) (hi : Nat) (lo : Nat) :
    (s.bumpSat a hi lo).keys = s.keys := rfl
@[simp] theorem State.bumpSat_sense (s : State) (a : Nat) (hi : Nat) (lo : Nat) :
    (s.bumpSat a hi lo).sense = s.sense := rfl
@[simp] theorem State.bumpSat_tune (s : State) (a : Nat) (hi : Nat) (lo : Nat) :
    (s.bumpSat a hi lo).tune = s.tune := rfl
@[simp] theorem State.bumpSat_jrnl (s : State) (a : Nat) (hi : Nat) (lo : Nat) :
    (s.bumpSat a hi lo).jrnl = s.jrnl := rfl
@[simp] theorem State.bumpSat_intake (s : State) (a : Nat) (hi : Nat) (lo : Nat) :
    (s.bumpSat a hi lo).intake = s.intake := rfl
@[simp] theorem State.bumpSat_scan (s : State) (a : Nat) (hi : Nat) (lo : Nat) :
    (s.bumpSat a hi lo).scan = s.scan := rfl
@[simp] theorem State.bumpSat_pipe (s : State) (a : Nat) (hi : Nat) (lo : Nat) :
    (s.bumpSat a hi lo).pipe = s.pipe := rfl
@[simp] theorem State.bumpSat_stave (s : State) (a : Nat) (hi : Nat) (lo : Nat) :
    (s.bumpSat a hi lo).stave = s.stave := rfl
@[simp] theorem State.bumpSat_face (s : State) (a : Nat) (hi : Nat) (lo : Nat) :
    (s.bumpSat a hi lo).face = s.face := rfl
@[simp] theorem State.bumpSat_ens (s : State) (a : Nat) (hi : Nat) (lo : Nat) :
    (s.bumpSat a hi lo).ens = s.ens := rfl
@[simp] theorem State.bumpSat_pending (s : State) (a : Nat) (hi : Nat) (lo : Nat) :
    (s.bumpSat a hi lo).pending = s.pending := rfl
@[simp] theorem State.hostSet_force (s : State) (a : Nat) (v : Word) :
    (s.hostSet a v).force = s.force := rfl
@[simp] theorem State.hostSet_metro (s : State) (a : Nat) (v : Word) :
    (s.hostSet a v).metro = s.metro := rfl
@[simp] theorem State.hostSet_edge (s : State) (a : Nat) (v : Word) :
    (s.hostSet a v).edge = s.edge := rfl
@[simp] theorem State.hostSet_hall (s : State) (a : Nat) (v : Word) :
    (s.hostSet a v).hall = s.hall := rfl
@[simp] theorem State.hostSet_banks (s : State) (a : Nat) (v : Word) :
    (s.hostSet a v).banks = s.banks := rfl
@[simp] theorem State.hostSet_hallGen (s : State) (a : Nat) (v : Word) :
    (s.hostSet a v).hallGen = s.hallGen := rfl
@[simp] theorem State.hostSet_ao (s : State) (a : Nat) (v : Word) :
    (s.hostSet a v).ao = s.ao := rfl
@[simp] theorem State.hostSet_flash (s : State) (a : Nat) (v : Word) :
    (s.hostSet a v).flash = s.flash := rfl
@[simp] theorem State.hostSet_fuses (s : State) (a : Nat) (v : Word) :
    (s.hostSet a v).fuses = s.fuses := rfl
@[simp] theorem State.hostSet_free (s : State) (a : Nat) (v : Word) :
    (s.hostSet a v).free = s.free := rfl
@[simp] theorem State.hostSet_pins (s : State) (a : Nat) (v : Word) :
    (s.hostSet a v).pins = s.pins := rfl
@[simp] theorem State.hostSet_tap (s : State) (a : Nat) (v : Word) :
    (s.hostSet a v).tap = s.tap := rfl
@[simp] theorem State.hostSet_flags (s : State) (a : Nat) (v : Word) :
    (s.hostSet a v).flags = s.flags := rfl
@[simp] theorem State.hostSet_ladder (s : State) (a : Nat) (v : Word) :
    (s.hostSet a v).ladder = s.ladder := rfl
@[simp] theorem State.hostSet_boot (s : State) (a : Nat) (v : Word) :
    (s.hostSet a v).boot = s.boot := rfl
@[simp] theorem State.hostSet_portA (s : State) (a : Nat) (v : Word) :
    (s.hostSet a v).portA = s.portA := rfl
@[simp] theorem State.hostSet_portB (s : State) (a : Nat) (v : Word) :
    (s.hostSet a v).portB = s.portB := rfl
@[simp] theorem State.hostSet_crossing (s : State) (a : Nat) (v : Word) :
    (s.hostSet a v).crossing = s.crossing := rfl
@[simp] theorem State.hostSet_rings (s : State) (a : Nat) (v : Word) :
    (s.hostSet a v).rings = s.rings := rfl
@[simp] theorem State.hostSet_fetched (s : State) (a : Nat) (v : Word) :
    (s.hostSet a v).fetched = s.fetched := rfl
@[simp] theorem State.hostSet_commits (s : State) (a : Nat) (v : Word) :
    (s.hostSet a v).commits = s.commits := rfl
@[simp] theorem State.hostSet_expertWait (s : State) (a : Nat) (v : Word) :
    (s.hostSet a v).expertWait = s.expertWait := rfl
@[simp] theorem State.hostSet_score (s : State) (a : Nat) (v : Word) :
    (s.hostSet a v).score = s.score := rfl
@[simp] theorem State.hostSet_keys (s : State) (a : Nat) (v : Word) :
    (s.hostSet a v).keys = s.keys := rfl
@[simp] theorem State.hostSet_sense (s : State) (a : Nat) (v : Word) :
    (s.hostSet a v).sense = s.sense := rfl
@[simp] theorem State.hostSet_tune (s : State) (a : Nat) (v : Word) :
    (s.hostSet a v).tune = s.tune := rfl
@[simp] theorem State.hostSet_jrnl (s : State) (a : Nat) (v : Word) :
    (s.hostSet a v).jrnl = s.jrnl := rfl
@[simp] theorem State.hostSet_intake (s : State) (a : Nat) (v : Word) :
    (s.hostSet a v).intake = s.intake := rfl
@[simp] theorem State.hostSet_scan (s : State) (a : Nat) (v : Word) :
    (s.hostSet a v).scan = s.scan := rfl
@[simp] theorem State.hostSet_pipe (s : State) (a : Nat) (v : Word) :
    (s.hostSet a v).pipe = s.pipe := rfl
@[simp] theorem State.hostSet_stave (s : State) (a : Nat) (v : Word) :
    (s.hostSet a v).stave = s.stave := rfl
@[simp] theorem State.hostSet_face (s : State) (a : Nat) (v : Word) :
    (s.hostSet a v).face = s.face := rfl
@[simp] theorem State.hostSet_ens (s : State) (a : Nat) (v : Word) :
    (s.hostSet a v).ens = s.ens := rfl
@[simp] theorem State.hostSet_pending (s : State) (a : Nat) (v : Word) :
    (s.hostSet a v).pending = s.pending := rfl
@[simp] theorem State.stage_force (s : State) (a : Nat) (v : Word) :
    (s.stage a v).force = s.force := rfl
@[simp] theorem State.stage_metro (s : State) (a : Nat) (v : Word) :
    (s.stage a v).metro = s.metro := rfl
@[simp] theorem State.stage_edge (s : State) (a : Nat) (v : Word) :
    (s.stage a v).edge = s.edge := rfl
@[simp] theorem State.stage_hall (s : State) (a : Nat) (v : Word) :
    (s.stage a v).hall = s.hall := rfl
@[simp] theorem State.stage_banks (s : State) (a : Nat) (v : Word) :
    (s.stage a v).banks = s.banks := rfl
@[simp] theorem State.stage_hallGen (s : State) (a : Nat) (v : Word) :
    (s.stage a v).hallGen = s.hallGen := rfl
@[simp] theorem State.stage_ao (s : State) (a : Nat) (v : Word) :
    (s.stage a v).ao = s.ao := rfl
@[simp] theorem State.stage_flash (s : State) (a : Nat) (v : Word) :
    (s.stage a v).flash = s.flash := rfl
@[simp] theorem State.stage_fuses (s : State) (a : Nat) (v : Word) :
    (s.stage a v).fuses = s.fuses := rfl
@[simp] theorem State.stage_free (s : State) (a : Nat) (v : Word) :
    (s.stage a v).free = s.free := rfl
@[simp] theorem State.stage_pins (s : State) (a : Nat) (v : Word) :
    (s.stage a v).pins = s.pins := rfl
@[simp] theorem State.stage_tap (s : State) (a : Nat) (v : Word) :
    (s.stage a v).tap = s.tap := rfl
@[simp] theorem State.stage_flags (s : State) (a : Nat) (v : Word) :
    (s.stage a v).flags = s.flags := rfl
@[simp] theorem State.stage_ladder (s : State) (a : Nat) (v : Word) :
    (s.stage a v).ladder = s.ladder := rfl
@[simp] theorem State.stage_boot (s : State) (a : Nat) (v : Word) :
    (s.stage a v).boot = s.boot := rfl
@[simp] theorem State.stage_portA (s : State) (a : Nat) (v : Word) :
    (s.stage a v).portA = s.portA := rfl
@[simp] theorem State.stage_portB (s : State) (a : Nat) (v : Word) :
    (s.stage a v).portB = s.portB := rfl
@[simp] theorem State.stage_crossing (s : State) (a : Nat) (v : Word) :
    (s.stage a v).crossing = s.crossing := rfl
@[simp] theorem State.stage_rings (s : State) (a : Nat) (v : Word) :
    (s.stage a v).rings = s.rings := rfl
@[simp] theorem State.stage_fetched (s : State) (a : Nat) (v : Word) :
    (s.stage a v).fetched = s.fetched := rfl
@[simp] theorem State.stage_commits (s : State) (a : Nat) (v : Word) :
    (s.stage a v).commits = s.commits := rfl
@[simp] theorem State.stage_expertWait (s : State) (a : Nat) (v : Word) :
    (s.stage a v).expertWait = s.expertWait := rfl
@[simp] theorem State.stage_score (s : State) (a : Nat) (v : Word) :
    (s.stage a v).score = s.score := rfl
@[simp] theorem State.stage_keys (s : State) (a : Nat) (v : Word) :
    (s.stage a v).keys = s.keys := rfl
@[simp] theorem State.stage_sense (s : State) (a : Nat) (v : Word) :
    (s.stage a v).sense = s.sense := rfl
@[simp] theorem State.stage_tune (s : State) (a : Nat) (v : Word) :
    (s.stage a v).tune = s.tune := rfl
@[simp] theorem State.stage_jrnl (s : State) (a : Nat) (v : Word) :
    (s.stage a v).jrnl = s.jrnl := rfl
@[simp] theorem State.stage_intake (s : State) (a : Nat) (v : Word) :
    (s.stage a v).intake = s.intake := rfl
@[simp] theorem State.stage_scan (s : State) (a : Nat) (v : Word) :
    (s.stage a v).scan = s.scan := rfl
@[simp] theorem State.stage_pipe (s : State) (a : Nat) (v : Word) :
    (s.stage a v).pipe = s.pipe := rfl
@[simp] theorem State.stage_stave (s : State) (a : Nat) (v : Word) :
    (s.stage a v).stave = s.stave := rfl
@[simp] theorem State.stage_face (s : State) (a : Nat) (v : Word) :
    (s.stage a v).face = s.face := rfl
@[simp] theorem State.stage_ens (s : State) (a : Nat) (v : Word) :
    (s.stage a v).ens = s.ens := rfl
@[simp] theorem State.stage_pending (s : State) (a : Nat) (v : Word) :
    (s.stage a v).pending = s.pending := rfl
@[simp] theorem State.setForce_regs (s : State) (a : Nat) (v : Word) :
    (s.setForce a v).regs = s.regs := rfl
@[simp] theorem State.setForce_metro (s : State) (a : Nat) (v : Word) :
    (s.setForce a v).metro = s.metro := rfl
@[simp] theorem State.setForce_edge (s : State) (a : Nat) (v : Word) :
    (s.setForce a v).edge = s.edge := rfl
@[simp] theorem State.setForce_hall (s : State) (a : Nat) (v : Word) :
    (s.setForce a v).hall = s.hall := rfl
@[simp] theorem State.setForce_banks (s : State) (a : Nat) (v : Word) :
    (s.setForce a v).banks = s.banks := rfl
@[simp] theorem State.setForce_hallGen (s : State) (a : Nat) (v : Word) :
    (s.setForce a v).hallGen = s.hallGen := rfl
@[simp] theorem State.setForce_ao (s : State) (a : Nat) (v : Word) :
    (s.setForce a v).ao = s.ao := rfl
@[simp] theorem State.setForce_flash (s : State) (a : Nat) (v : Word) :
    (s.setForce a v).flash = s.flash := rfl
@[simp] theorem State.setForce_fuses (s : State) (a : Nat) (v : Word) :
    (s.setForce a v).fuses = s.fuses := rfl
@[simp] theorem State.setForce_free (s : State) (a : Nat) (v : Word) :
    (s.setForce a v).free = s.free := rfl
@[simp] theorem State.setForce_pins (s : State) (a : Nat) (v : Word) :
    (s.setForce a v).pins = s.pins := rfl
@[simp] theorem State.setForce_tap (s : State) (a : Nat) (v : Word) :
    (s.setForce a v).tap = s.tap := rfl
@[simp] theorem State.setForce_flags (s : State) (a : Nat) (v : Word) :
    (s.setForce a v).flags = s.flags := rfl
@[simp] theorem State.setForce_ladder (s : State) (a : Nat) (v : Word) :
    (s.setForce a v).ladder = s.ladder := rfl
@[simp] theorem State.setForce_boot (s : State) (a : Nat) (v : Word) :
    (s.setForce a v).boot = s.boot := rfl
@[simp] theorem State.setForce_portA (s : State) (a : Nat) (v : Word) :
    (s.setForce a v).portA = s.portA := rfl
@[simp] theorem State.setForce_portB (s : State) (a : Nat) (v : Word) :
    (s.setForce a v).portB = s.portB := rfl
@[simp] theorem State.setForce_crossing (s : State) (a : Nat) (v : Word) :
    (s.setForce a v).crossing = s.crossing := rfl
@[simp] theorem State.setForce_rings (s : State) (a : Nat) (v : Word) :
    (s.setForce a v).rings = s.rings := rfl
@[simp] theorem State.setForce_fetched (s : State) (a : Nat) (v : Word) :
    (s.setForce a v).fetched = s.fetched := rfl
@[simp] theorem State.setForce_commits (s : State) (a : Nat) (v : Word) :
    (s.setForce a v).commits = s.commits := rfl
@[simp] theorem State.setForce_expertWait (s : State) (a : Nat) (v : Word) :
    (s.setForce a v).expertWait = s.expertWait := rfl
@[simp] theorem State.setForce_score (s : State) (a : Nat) (v : Word) :
    (s.setForce a v).score = s.score := rfl
@[simp] theorem State.setForce_keys (s : State) (a : Nat) (v : Word) :
    (s.setForce a v).keys = s.keys := rfl
@[simp] theorem State.setForce_sense (s : State) (a : Nat) (v : Word) :
    (s.setForce a v).sense = s.sense := rfl
@[simp] theorem State.setForce_tune (s : State) (a : Nat) (v : Word) :
    (s.setForce a v).tune = s.tune := rfl
@[simp] theorem State.setForce_jrnl (s : State) (a : Nat) (v : Word) :
    (s.setForce a v).jrnl = s.jrnl := rfl
@[simp] theorem State.setForce_intake (s : State) (a : Nat) (v : Word) :
    (s.setForce a v).intake = s.intake := rfl
@[simp] theorem State.setForce_scan (s : State) (a : Nat) (v : Word) :
    (s.setForce a v).scan = s.scan := rfl
@[simp] theorem State.setForce_pipe (s : State) (a : Nat) (v : Word) :
    (s.setForce a v).pipe = s.pipe := rfl
@[simp] theorem State.setForce_stave (s : State) (a : Nat) (v : Word) :
    (s.setForce a v).stave = s.stave := rfl
@[simp] theorem State.setForce_face (s : State) (a : Nat) (v : Word) :
    (s.setForce a v).face = s.face := rfl
@[simp] theorem State.setForce_ens (s : State) (a : Nat) (v : Word) :
    (s.setForce a v).ens = s.ens := rfl
@[simp] theorem State.setForce_pending (s : State) (a : Nat) (v : Word) :
    (s.setForce a v).pending = s.pending := rfl
@[simp] theorem State.setCore_force (s : State) (c : CoreClock) :
    (s.setCore c).force = s.force := rfl
@[simp] theorem State.setCore_metro (s : State) (c : CoreClock) :
    (s.setCore c).metro = s.metro := rfl
@[simp] theorem State.setCore_edge (s : State) (c : CoreClock) :
    (s.setCore c).edge = s.edge := rfl
@[simp] theorem State.setCore_hall (s : State) (c : CoreClock) :
    (s.setCore c).hall = s.hall := rfl
@[simp] theorem State.setCore_banks (s : State) (c : CoreClock) :
    (s.setCore c).banks = s.banks := rfl
@[simp] theorem State.setCore_hallGen (s : State) (c : CoreClock) :
    (s.setCore c).hallGen = s.hallGen := rfl
@[simp] theorem State.setCore_ao (s : State) (c : CoreClock) :
    (s.setCore c).ao = s.ao := rfl
@[simp] theorem State.setCore_flash (s : State) (c : CoreClock) :
    (s.setCore c).flash = s.flash := rfl
@[simp] theorem State.setCore_fuses (s : State) (c : CoreClock) :
    (s.setCore c).fuses = s.fuses := rfl
@[simp] theorem State.setCore_free (s : State) (c : CoreClock) :
    (s.setCore c).free = s.free := rfl
@[simp] theorem State.setCore_pins (s : State) (c : CoreClock) :
    (s.setCore c).pins = s.pins := rfl
@[simp] theorem State.setCore_tap (s : State) (c : CoreClock) :
    (s.setCore c).tap = s.tap := rfl
@[simp] theorem State.setCore_flags (s : State) (c : CoreClock) :
    (s.setCore c).flags = s.flags := rfl
@[simp] theorem State.setCore_boot (s : State) (c : CoreClock) :
    (s.setCore c).boot = s.boot := rfl
@[simp] theorem State.setCore_portA (s : State) (c : CoreClock) :
    (s.setCore c).portA = s.portA := rfl
@[simp] theorem State.setCore_portB (s : State) (c : CoreClock) :
    (s.setCore c).portB = s.portB := rfl
@[simp] theorem State.setCore_crossing (s : State) (c : CoreClock) :
    (s.setCore c).crossing = s.crossing := rfl
@[simp] theorem State.setCore_rings (s : State) (c : CoreClock) :
    (s.setCore c).rings = s.rings := rfl
@[simp] theorem State.setCore_fetched (s : State) (c : CoreClock) :
    (s.setCore c).fetched = s.fetched := rfl
@[simp] theorem State.setCore_commits (s : State) (c : CoreClock) :
    (s.setCore c).commits = s.commits := rfl
@[simp] theorem State.setCore_expertWait (s : State) (c : CoreClock) :
    (s.setCore c).expertWait = s.expertWait := rfl
@[simp] theorem State.setCore_score (s : State) (c : CoreClock) :
    (s.setCore c).score = s.score := rfl
@[simp] theorem State.setCore_keys (s : State) (c : CoreClock) :
    (s.setCore c).keys = s.keys := rfl
@[simp] theorem State.setCore_sense (s : State) (c : CoreClock) :
    (s.setCore c).sense = s.sense := rfl
@[simp] theorem State.setCore_tune (s : State) (c : CoreClock) :
    (s.setCore c).tune = s.tune := rfl
@[simp] theorem State.setCore_jrnl (s : State) (c : CoreClock) :
    (s.setCore c).jrnl = s.jrnl := rfl
@[simp] theorem State.setCore_intake (s : State) (c : CoreClock) :
    (s.setCore c).intake = s.intake := rfl
@[simp] theorem State.setCore_scan (s : State) (c : CoreClock) :
    (s.setCore c).scan = s.scan := rfl
@[simp] theorem State.setCore_pipe (s : State) (c : CoreClock) :
    (s.setCore c).pipe = s.pipe := rfl
@[simp] theorem State.setCore_stave (s : State) (c : CoreClock) :
    (s.setCore c).stave = s.stave := rfl
@[simp] theorem State.setCore_face (s : State) (c : CoreClock) :
    (s.setCore c).face = s.face := rfl
@[simp] theorem State.setCore_ens (s : State) (c : CoreClock) :
    (s.setCore c).ens = s.ens := rfl
@[simp] theorem State.setCore_pending (s : State) (c : CoreClock) :
    (s.setCore c).pending = s.pending := rfl
@[simp] theorem State.setRing_regs (s : State) (r : Nat) (v : RingSt) :
    (s.setRing r v).regs = s.regs := rfl
@[simp] theorem State.setRing_force (s : State) (r : Nat) (v : RingSt) :
    (s.setRing r v).force = s.force := rfl
@[simp] theorem State.setRing_metro (s : State) (r : Nat) (v : RingSt) :
    (s.setRing r v).metro = s.metro := rfl
@[simp] theorem State.setRing_edge (s : State) (r : Nat) (v : RingSt) :
    (s.setRing r v).edge = s.edge := rfl
@[simp] theorem State.setRing_hall (s : State) (r : Nat) (v : RingSt) :
    (s.setRing r v).hall = s.hall := rfl
@[simp] theorem State.setRing_banks (s : State) (r : Nat) (v : RingSt) :
    (s.setRing r v).banks = s.banks := rfl
@[simp] theorem State.setRing_hallGen (s : State) (r : Nat) (v : RingSt) :
    (s.setRing r v).hallGen = s.hallGen := rfl
@[simp] theorem State.setRing_ao (s : State) (r : Nat) (v : RingSt) :
    (s.setRing r v).ao = s.ao := rfl
@[simp] theorem State.setRing_flash (s : State) (r : Nat) (v : RingSt) :
    (s.setRing r v).flash = s.flash := rfl
@[simp] theorem State.setRing_fuses (s : State) (r : Nat) (v : RingSt) :
    (s.setRing r v).fuses = s.fuses := rfl
@[simp] theorem State.setRing_free (s : State) (r : Nat) (v : RingSt) :
    (s.setRing r v).free = s.free := rfl
@[simp] theorem State.setRing_pins (s : State) (r : Nat) (v : RingSt) :
    (s.setRing r v).pins = s.pins := rfl
@[simp] theorem State.setRing_tap (s : State) (r : Nat) (v : RingSt) :
    (s.setRing r v).tap = s.tap := rfl
@[simp] theorem State.setRing_flags (s : State) (r : Nat) (v : RingSt) :
    (s.setRing r v).flags = s.flags := rfl
@[simp] theorem State.setRing_ladder (s : State) (r : Nat) (v : RingSt) :
    (s.setRing r v).ladder = s.ladder := rfl
@[simp] theorem State.setRing_boot (s : State) (r : Nat) (v : RingSt) :
    (s.setRing r v).boot = s.boot := rfl
@[simp] theorem State.setRing_portA (s : State) (r : Nat) (v : RingSt) :
    (s.setRing r v).portA = s.portA := rfl
@[simp] theorem State.setRing_portB (s : State) (r : Nat) (v : RingSt) :
    (s.setRing r v).portB = s.portB := rfl
@[simp] theorem State.setRing_crossing (s : State) (r : Nat) (v : RingSt) :
    (s.setRing r v).crossing = s.crossing := rfl
@[simp] theorem State.setRing_fetched (s : State) (r : Nat) (v : RingSt) :
    (s.setRing r v).fetched = s.fetched := rfl
@[simp] theorem State.setRing_commits (s : State) (r : Nat) (v : RingSt) :
    (s.setRing r v).commits = s.commits := rfl
@[simp] theorem State.setRing_expertWait (s : State) (r : Nat) (v : RingSt) :
    (s.setRing r v).expertWait = s.expertWait := rfl
@[simp] theorem State.setRing_score (s : State) (r : Nat) (v : RingSt) :
    (s.setRing r v).score = s.score := rfl
@[simp] theorem State.setRing_keys (s : State) (r : Nat) (v : RingSt) :
    (s.setRing r v).keys = s.keys := rfl
@[simp] theorem State.setRing_sense (s : State) (r : Nat) (v : RingSt) :
    (s.setRing r v).sense = s.sense := rfl
@[simp] theorem State.setRing_tune (s : State) (r : Nat) (v : RingSt) :
    (s.setRing r v).tune = s.tune := rfl
@[simp] theorem State.setRing_jrnl (s : State) (r : Nat) (v : RingSt) :
    (s.setRing r v).jrnl = s.jrnl := rfl
@[simp] theorem State.setRing_intake (s : State) (r : Nat) (v : RingSt) :
    (s.setRing r v).intake = s.intake := rfl
@[simp] theorem State.setRing_scan (s : State) (r : Nat) (v : RingSt) :
    (s.setRing r v).scan = s.scan := rfl
@[simp] theorem State.setRing_pipe (s : State) (r : Nat) (v : RingSt) :
    (s.setRing r v).pipe = s.pipe := rfl
@[simp] theorem State.setRing_stave (s : State) (r : Nat) (v : RingSt) :
    (s.setRing r v).stave = s.stave := rfl
@[simp] theorem State.setRing_face (s : State) (r : Nat) (v : RingSt) :
    (s.setRing r v).face = s.face := rfl
@[simp] theorem State.setRing_ens (s : State) (r : Nat) (v : RingSt) :
    (s.setRing r v).ens = s.ens := rfl
@[simp] theorem State.setRing_pending (s : State) (r : Nat) (v : RingSt) :
    (s.setRing r v).pending = s.pending := rfl
@[simp] theorem State.post_regs (s : State) (r : Nat) (e : OutEntry) :
    (s.post r e).regs = s.regs := rfl
@[simp] theorem State.post_force (s : State) (r : Nat) (e : OutEntry) :
    (s.post r e).force = s.force := rfl
@[simp] theorem State.post_metro (s : State) (r : Nat) (e : OutEntry) :
    (s.post r e).metro = s.metro := rfl
@[simp] theorem State.post_edge (s : State) (r : Nat) (e : OutEntry) :
    (s.post r e).edge = s.edge := rfl
@[simp] theorem State.post_hall (s : State) (r : Nat) (e : OutEntry) :
    (s.post r e).hall = s.hall := rfl
@[simp] theorem State.post_banks (s : State) (r : Nat) (e : OutEntry) :
    (s.post r e).banks = s.banks := rfl
@[simp] theorem State.post_hallGen (s : State) (r : Nat) (e : OutEntry) :
    (s.post r e).hallGen = s.hallGen := rfl
@[simp] theorem State.post_ao (s : State) (r : Nat) (e : OutEntry) :
    (s.post r e).ao = s.ao := rfl
@[simp] theorem State.post_flash (s : State) (r : Nat) (e : OutEntry) :
    (s.post r e).flash = s.flash := rfl
@[simp] theorem State.post_fuses (s : State) (r : Nat) (e : OutEntry) :
    (s.post r e).fuses = s.fuses := rfl
@[simp] theorem State.post_free (s : State) (r : Nat) (e : OutEntry) :
    (s.post r e).free = s.free := rfl
@[simp] theorem State.post_pins (s : State) (r : Nat) (e : OutEntry) :
    (s.post r e).pins = s.pins := rfl
@[simp] theorem State.post_tap (s : State) (r : Nat) (e : OutEntry) :
    (s.post r e).tap = s.tap := rfl
@[simp] theorem State.post_flags (s : State) (r : Nat) (e : OutEntry) :
    (s.post r e).flags = s.flags := rfl
@[simp] theorem State.post_ladder (s : State) (r : Nat) (e : OutEntry) :
    (s.post r e).ladder = s.ladder := rfl
@[simp] theorem State.post_boot (s : State) (r : Nat) (e : OutEntry) :
    (s.post r e).boot = s.boot := rfl
@[simp] theorem State.post_portA (s : State) (r : Nat) (e : OutEntry) :
    (s.post r e).portA = s.portA := rfl
@[simp] theorem State.post_portB (s : State) (r : Nat) (e : OutEntry) :
    (s.post r e).portB = s.portB := rfl
@[simp] theorem State.post_crossing (s : State) (r : Nat) (e : OutEntry) :
    (s.post r e).crossing = s.crossing := rfl
@[simp] theorem State.post_fetched (s : State) (r : Nat) (e : OutEntry) :
    (s.post r e).fetched = s.fetched := rfl
@[simp] theorem State.post_commits (s : State) (r : Nat) (e : OutEntry) :
    (s.post r e).commits = s.commits := rfl
@[simp] theorem State.post_expertWait (s : State) (r : Nat) (e : OutEntry) :
    (s.post r e).expertWait = s.expertWait := rfl
@[simp] theorem State.post_score (s : State) (r : Nat) (e : OutEntry) :
    (s.post r e).score = s.score := rfl
@[simp] theorem State.post_keys (s : State) (r : Nat) (e : OutEntry) :
    (s.post r e).keys = s.keys := rfl
@[simp] theorem State.post_sense (s : State) (r : Nat) (e : OutEntry) :
    (s.post r e).sense = s.sense := rfl
@[simp] theorem State.post_tune (s : State) (r : Nat) (e : OutEntry) :
    (s.post r e).tune = s.tune := rfl
@[simp] theorem State.post_jrnl (s : State) (r : Nat) (e : OutEntry) :
    (s.post r e).jrnl = s.jrnl := rfl
@[simp] theorem State.post_intake (s : State) (r : Nat) (e : OutEntry) :
    (s.post r e).intake = s.intake := rfl
@[simp] theorem State.post_scan (s : State) (r : Nat) (e : OutEntry) :
    (s.post r e).scan = s.scan := rfl
@[simp] theorem State.post_pipe (s : State) (r : Nat) (e : OutEntry) :
    (s.post r e).pipe = s.pipe := rfl
@[simp] theorem State.post_stave (s : State) (r : Nat) (e : OutEntry) :
    (s.post r e).stave = s.stave := rfl
@[simp] theorem State.post_face (s : State) (r : Nat) (e : OutEntry) :
    (s.post r e).face = s.face := rfl
@[simp] theorem State.post_ens (s : State) (r : Nat) (e : OutEntry) :
    (s.post r e).ens = s.ens := rfl
@[simp] theorem State.post_pending (s : State) (r : Nat) (e : OutEntry) :
    (s.post r e).pending = s.pending := rfl
@[simp] theorem State.setBanks_regs (s : State) (on : BitVec 48) :
    (s.setBanks on).regs = s.regs := rfl
@[simp] theorem State.setBanks_force (s : State) (on : BitVec 48) :
    (s.setBanks on).force = s.force := rfl
@[simp] theorem State.setBanks_metro (s : State) (on : BitVec 48) :
    (s.setBanks on).metro = s.metro := rfl
@[simp] theorem State.setBanks_edge (s : State) (on : BitVec 48) :
    (s.setBanks on).edge = s.edge := rfl
@[simp] theorem State.setBanks_ao (s : State) (on : BitVec 48) :
    (s.setBanks on).ao = s.ao := rfl
@[simp] theorem State.setBanks_flash (s : State) (on : BitVec 48) :
    (s.setBanks on).flash = s.flash := rfl
@[simp] theorem State.setBanks_fuses (s : State) (on : BitVec 48) :
    (s.setBanks on).fuses = s.fuses := rfl
@[simp] theorem State.setBanks_free (s : State) (on : BitVec 48) :
    (s.setBanks on).free = s.free := rfl
@[simp] theorem State.setBanks_pins (s : State) (on : BitVec 48) :
    (s.setBanks on).pins = s.pins := rfl
@[simp] theorem State.setBanks_tap (s : State) (on : BitVec 48) :
    (s.setBanks on).tap = s.tap := rfl
@[simp] theorem State.setBanks_flags (s : State) (on : BitVec 48) :
    (s.setBanks on).flags = s.flags := rfl
@[simp] theorem State.setBanks_ladder (s : State) (on : BitVec 48) :
    (s.setBanks on).ladder = s.ladder := rfl
@[simp] theorem State.setBanks_boot (s : State) (on : BitVec 48) :
    (s.setBanks on).boot = s.boot := rfl
@[simp] theorem State.setBanks_portA (s : State) (on : BitVec 48) :
    (s.setBanks on).portA = s.portA := rfl
@[simp] theorem State.setBanks_portB (s : State) (on : BitVec 48) :
    (s.setBanks on).portB = s.portB := rfl
@[simp] theorem State.setBanks_crossing (s : State) (on : BitVec 48) :
    (s.setBanks on).crossing = s.crossing := rfl
@[simp] theorem State.setBanks_rings (s : State) (on : BitVec 48) :
    (s.setBanks on).rings = s.rings := rfl
@[simp] theorem State.setBanks_fetched (s : State) (on : BitVec 48) :
    (s.setBanks on).fetched = s.fetched := rfl
@[simp] theorem State.setBanks_commits (s : State) (on : BitVec 48) :
    (s.setBanks on).commits = s.commits := rfl
@[simp] theorem State.setBanks_expertWait (s : State) (on : BitVec 48) :
    (s.setBanks on).expertWait = s.expertWait := rfl
@[simp] theorem State.setBanks_score (s : State) (on : BitVec 48) :
    (s.setBanks on).score = s.score := rfl
@[simp] theorem State.setBanks_keys (s : State) (on : BitVec 48) :
    (s.setBanks on).keys = s.keys := rfl
@[simp] theorem State.setBanks_sense (s : State) (on : BitVec 48) :
    (s.setBanks on).sense = s.sense := rfl
@[simp] theorem State.setBanks_tune (s : State) (on : BitVec 48) :
    (s.setBanks on).tune = s.tune := rfl
@[simp] theorem State.setBanks_jrnl (s : State) (on : BitVec 48) :
    (s.setBanks on).jrnl = s.jrnl := rfl
@[simp] theorem State.setBanks_intake (s : State) (on : BitVec 48) :
    (s.setBanks on).intake = s.intake := rfl
@[simp] theorem State.setBanks_scan (s : State) (on : BitVec 48) :
    (s.setBanks on).scan = s.scan := rfl
@[simp] theorem State.setBanks_pipe (s : State) (on : BitVec 48) :
    (s.setBanks on).pipe = s.pipe := rfl
@[simp] theorem State.setBanks_stave (s : State) (on : BitVec 48) :
    (s.setBanks on).stave = s.stave := rfl
@[simp] theorem State.setBanks_face (s : State) (on : BitVec 48) :
    (s.setBanks on).face = s.face := rfl
@[simp] theorem State.setBanks_ens (s : State) (on : BitVec 48) :
    (s.setBanks on).ens = s.ens := rfl
@[simp] theorem State.setBanks_pending (s : State) (on : BitVec 48) :
    (s.setBanks on).pending = s.pending := rfl
@[simp] theorem State.zeroHall_regs (s : State) (lo : Nat) (len : Nat) :
    (s.zeroHall lo len).regs = s.regs := rfl
@[simp] theorem State.zeroHall_force (s : State) (lo : Nat) (len : Nat) :
    (s.zeroHall lo len).force = s.force := rfl
@[simp] theorem State.zeroHall_metro (s : State) (lo : Nat) (len : Nat) :
    (s.zeroHall lo len).metro = s.metro := rfl
@[simp] theorem State.zeroHall_edge (s : State) (lo : Nat) (len : Nat) :
    (s.zeroHall lo len).edge = s.edge := rfl
@[simp] theorem State.zeroHall_banks (s : State) (lo : Nat) (len : Nat) :
    (s.zeroHall lo len).banks = s.banks := rfl
@[simp] theorem State.zeroHall_hallGen (s : State) (lo : Nat) (len : Nat) :
    (s.zeroHall lo len).hallGen = s.hallGen := rfl
@[simp] theorem State.zeroHall_ao (s : State) (lo : Nat) (len : Nat) :
    (s.zeroHall lo len).ao = s.ao := rfl
@[simp] theorem State.zeroHall_flash (s : State) (lo : Nat) (len : Nat) :
    (s.zeroHall lo len).flash = s.flash := rfl
@[simp] theorem State.zeroHall_fuses (s : State) (lo : Nat) (len : Nat) :
    (s.zeroHall lo len).fuses = s.fuses := rfl
@[simp] theorem State.zeroHall_free (s : State) (lo : Nat) (len : Nat) :
    (s.zeroHall lo len).free = s.free := rfl
@[simp] theorem State.zeroHall_pins (s : State) (lo : Nat) (len : Nat) :
    (s.zeroHall lo len).pins = s.pins := rfl
@[simp] theorem State.zeroHall_tap (s : State) (lo : Nat) (len : Nat) :
    (s.zeroHall lo len).tap = s.tap := rfl
@[simp] theorem State.zeroHall_flags (s : State) (lo : Nat) (len : Nat) :
    (s.zeroHall lo len).flags = s.flags := rfl
@[simp] theorem State.zeroHall_ladder (s : State) (lo : Nat) (len : Nat) :
    (s.zeroHall lo len).ladder = s.ladder := rfl
@[simp] theorem State.zeroHall_boot (s : State) (lo : Nat) (len : Nat) :
    (s.zeroHall lo len).boot = s.boot := rfl
@[simp] theorem State.zeroHall_portA (s : State) (lo : Nat) (len : Nat) :
    (s.zeroHall lo len).portA = s.portA := rfl
@[simp] theorem State.zeroHall_portB (s : State) (lo : Nat) (len : Nat) :
    (s.zeroHall lo len).portB = s.portB := rfl
@[simp] theorem State.zeroHall_crossing (s : State) (lo : Nat) (len : Nat) :
    (s.zeroHall lo len).crossing = s.crossing := rfl
@[simp] theorem State.zeroHall_rings (s : State) (lo : Nat) (len : Nat) :
    (s.zeroHall lo len).rings = s.rings := rfl
@[simp] theorem State.zeroHall_fetched (s : State) (lo : Nat) (len : Nat) :
    (s.zeroHall lo len).fetched = s.fetched := rfl
@[simp] theorem State.zeroHall_commits (s : State) (lo : Nat) (len : Nat) :
    (s.zeroHall lo len).commits = s.commits := rfl
@[simp] theorem State.zeroHall_expertWait (s : State) (lo : Nat) (len : Nat) :
    (s.zeroHall lo len).expertWait = s.expertWait := rfl
@[simp] theorem State.zeroHall_score (s : State) (lo : Nat) (len : Nat) :
    (s.zeroHall lo len).score = s.score := rfl
@[simp] theorem State.zeroHall_keys (s : State) (lo : Nat) (len : Nat) :
    (s.zeroHall lo len).keys = s.keys := rfl
@[simp] theorem State.zeroHall_sense (s : State) (lo : Nat) (len : Nat) :
    (s.zeroHall lo len).sense = s.sense := rfl
@[simp] theorem State.zeroHall_tune (s : State) (lo : Nat) (len : Nat) :
    (s.zeroHall lo len).tune = s.tune := rfl
@[simp] theorem State.zeroHall_jrnl (s : State) (lo : Nat) (len : Nat) :
    (s.zeroHall lo len).jrnl = s.jrnl := rfl
@[simp] theorem State.zeroHall_intake (s : State) (lo : Nat) (len : Nat) :
    (s.zeroHall lo len).intake = s.intake := rfl
@[simp] theorem State.zeroHall_scan (s : State) (lo : Nat) (len : Nat) :
    (s.zeroHall lo len).scan = s.scan := rfl
@[simp] theorem State.zeroHall_pipe (s : State) (lo : Nat) (len : Nat) :
    (s.zeroHall lo len).pipe = s.pipe := rfl
@[simp] theorem State.zeroHall_stave (s : State) (lo : Nat) (len : Nat) :
    (s.zeroHall lo len).stave = s.stave := rfl
@[simp] theorem State.zeroHall_face (s : State) (lo : Nat) (len : Nat) :
    (s.zeroHall lo len).face = s.face := rfl
@[simp] theorem State.zeroHall_ens (s : State) (lo : Nat) (len : Nat) :
    (s.zeroHall lo len).ens = s.ens := rfl
@[simp] theorem State.zeroHall_pending (s : State) (lo : Nat) (len : Nat) :
    (s.zeroHall lo len).pending = s.pending := rfl
@[simp] theorem State.setAo_regs (s : State) (i : Nat) (v : Word) :
    (s.setAo i v).regs = s.regs := rfl
@[simp] theorem State.setAo_force (s : State) (i : Nat) (v : Word) :
    (s.setAo i v).force = s.force := rfl
@[simp] theorem State.setAo_metro (s : State) (i : Nat) (v : Word) :
    (s.setAo i v).metro = s.metro := rfl
@[simp] theorem State.setAo_edge (s : State) (i : Nat) (v : Word) :
    (s.setAo i v).edge = s.edge := rfl
@[simp] theorem State.setAo_hall (s : State) (i : Nat) (v : Word) :
    (s.setAo i v).hall = s.hall := rfl
@[simp] theorem State.setAo_banks (s : State) (i : Nat) (v : Word) :
    (s.setAo i v).banks = s.banks := rfl
@[simp] theorem State.setAo_hallGen (s : State) (i : Nat) (v : Word) :
    (s.setAo i v).hallGen = s.hallGen := rfl
@[simp] theorem State.setAo_flash (s : State) (i : Nat) (v : Word) :
    (s.setAo i v).flash = s.flash := rfl
@[simp] theorem State.setAo_fuses (s : State) (i : Nat) (v : Word) :
    (s.setAo i v).fuses = s.fuses := rfl
@[simp] theorem State.setAo_free (s : State) (i : Nat) (v : Word) :
    (s.setAo i v).free = s.free := rfl
@[simp] theorem State.setAo_pins (s : State) (i : Nat) (v : Word) :
    (s.setAo i v).pins = s.pins := rfl
@[simp] theorem State.setAo_tap (s : State) (i : Nat) (v : Word) :
    (s.setAo i v).tap = s.tap := rfl
@[simp] theorem State.setAo_flags (s : State) (i : Nat) (v : Word) :
    (s.setAo i v).flags = s.flags := rfl
@[simp] theorem State.setAo_ladder (s : State) (i : Nat) (v : Word) :
    (s.setAo i v).ladder = s.ladder := rfl
@[simp] theorem State.setAo_boot (s : State) (i : Nat) (v : Word) :
    (s.setAo i v).boot = s.boot := rfl
@[simp] theorem State.setAo_portA (s : State) (i : Nat) (v : Word) :
    (s.setAo i v).portA = s.portA := rfl
@[simp] theorem State.setAo_portB (s : State) (i : Nat) (v : Word) :
    (s.setAo i v).portB = s.portB := rfl
@[simp] theorem State.setAo_crossing (s : State) (i : Nat) (v : Word) :
    (s.setAo i v).crossing = s.crossing := rfl
@[simp] theorem State.setAo_rings (s : State) (i : Nat) (v : Word) :
    (s.setAo i v).rings = s.rings := rfl
@[simp] theorem State.setAo_fetched (s : State) (i : Nat) (v : Word) :
    (s.setAo i v).fetched = s.fetched := rfl
@[simp] theorem State.setAo_commits (s : State) (i : Nat) (v : Word) :
    (s.setAo i v).commits = s.commits := rfl
@[simp] theorem State.setAo_expertWait (s : State) (i : Nat) (v : Word) :
    (s.setAo i v).expertWait = s.expertWait := rfl
@[simp] theorem State.setAo_score (s : State) (i : Nat) (v : Word) :
    (s.setAo i v).score = s.score := rfl
@[simp] theorem State.setAo_keys (s : State) (i : Nat) (v : Word) :
    (s.setAo i v).keys = s.keys := rfl
@[simp] theorem State.setAo_sense (s : State) (i : Nat) (v : Word) :
    (s.setAo i v).sense = s.sense := rfl
@[simp] theorem State.setAo_tune (s : State) (i : Nat) (v : Word) :
    (s.setAo i v).tune = s.tune := rfl
@[simp] theorem State.setAo_jrnl (s : State) (i : Nat) (v : Word) :
    (s.setAo i v).jrnl = s.jrnl := rfl
@[simp] theorem State.setAo_intake (s : State) (i : Nat) (v : Word) :
    (s.setAo i v).intake = s.intake := rfl
@[simp] theorem State.setAo_scan (s : State) (i : Nat) (v : Word) :
    (s.setAo i v).scan = s.scan := rfl
@[simp] theorem State.setAo_pipe (s : State) (i : Nat) (v : Word) :
    (s.setAo i v).pipe = s.pipe := rfl
@[simp] theorem State.setAo_stave (s : State) (i : Nat) (v : Word) :
    (s.setAo i v).stave = s.stave := rfl
@[simp] theorem State.setAo_face (s : State) (i : Nat) (v : Word) :
    (s.setAo i v).face = s.face := rfl
@[simp] theorem State.setAo_ens (s : State) (i : Nat) (v : Word) :
    (s.setAo i v).ens = s.ens := rfl
@[simp] theorem State.setAo_pending (s : State) (i : Nat) (v : Word) :
    (s.setAo i v).pending = s.pending := rfl
@[simp] theorem State.setBuf_regs (s : State) (i : Nat) (v : Word) :
    (s.setBuf i v).regs = s.regs := rfl
@[simp] theorem State.setBuf_force (s : State) (i : Nat) (v : Word) :
    (s.setBuf i v).force = s.force := rfl
@[simp] theorem State.setBuf_metro (s : State) (i : Nat) (v : Word) :
    (s.setBuf i v).metro = s.metro := rfl
@[simp] theorem State.setBuf_edge (s : State) (i : Nat) (v : Word) :
    (s.setBuf i v).edge = s.edge := rfl
@[simp] theorem State.setBuf_hall (s : State) (i : Nat) (v : Word) :
    (s.setBuf i v).hall = s.hall := rfl
@[simp] theorem State.setBuf_banks (s : State) (i : Nat) (v : Word) :
    (s.setBuf i v).banks = s.banks := rfl
@[simp] theorem State.setBuf_hallGen (s : State) (i : Nat) (v : Word) :
    (s.setBuf i v).hallGen = s.hallGen := rfl
@[simp] theorem State.setBuf_flash (s : State) (i : Nat) (v : Word) :
    (s.setBuf i v).flash = s.flash := rfl
@[simp] theorem State.setBuf_fuses (s : State) (i : Nat) (v : Word) :
    (s.setBuf i v).fuses = s.fuses := rfl
@[simp] theorem State.setBuf_free (s : State) (i : Nat) (v : Word) :
    (s.setBuf i v).free = s.free := rfl
@[simp] theorem State.setBuf_pins (s : State) (i : Nat) (v : Word) :
    (s.setBuf i v).pins = s.pins := rfl
@[simp] theorem State.setBuf_tap (s : State) (i : Nat) (v : Word) :
    (s.setBuf i v).tap = s.tap := rfl
@[simp] theorem State.setBuf_flags (s : State) (i : Nat) (v : Word) :
    (s.setBuf i v).flags = s.flags := rfl
@[simp] theorem State.setBuf_ladder (s : State) (i : Nat) (v : Word) :
    (s.setBuf i v).ladder = s.ladder := rfl
@[simp] theorem State.setBuf_boot (s : State) (i : Nat) (v : Word) :
    (s.setBuf i v).boot = s.boot := rfl
@[simp] theorem State.setBuf_portA (s : State) (i : Nat) (v : Word) :
    (s.setBuf i v).portA = s.portA := rfl
@[simp] theorem State.setBuf_portB (s : State) (i : Nat) (v : Word) :
    (s.setBuf i v).portB = s.portB := rfl
@[simp] theorem State.setBuf_crossing (s : State) (i : Nat) (v : Word) :
    (s.setBuf i v).crossing = s.crossing := rfl
@[simp] theorem State.setBuf_rings (s : State) (i : Nat) (v : Word) :
    (s.setBuf i v).rings = s.rings := rfl
@[simp] theorem State.setBuf_fetched (s : State) (i : Nat) (v : Word) :
    (s.setBuf i v).fetched = s.fetched := rfl
@[simp] theorem State.setBuf_commits (s : State) (i : Nat) (v : Word) :
    (s.setBuf i v).commits = s.commits := rfl
@[simp] theorem State.setBuf_expertWait (s : State) (i : Nat) (v : Word) :
    (s.setBuf i v).expertWait = s.expertWait := rfl
@[simp] theorem State.setBuf_score (s : State) (i : Nat) (v : Word) :
    (s.setBuf i v).score = s.score := rfl
@[simp] theorem State.setBuf_keys (s : State) (i : Nat) (v : Word) :
    (s.setBuf i v).keys = s.keys := rfl
@[simp] theorem State.setBuf_sense (s : State) (i : Nat) (v : Word) :
    (s.setBuf i v).sense = s.sense := rfl
@[simp] theorem State.setBuf_tune (s : State) (i : Nat) (v : Word) :
    (s.setBuf i v).tune = s.tune := rfl
@[simp] theorem State.setBuf_jrnl (s : State) (i : Nat) (v : Word) :
    (s.setBuf i v).jrnl = s.jrnl := rfl
@[simp] theorem State.setBuf_intake (s : State) (i : Nat) (v : Word) :
    (s.setBuf i v).intake = s.intake := rfl
@[simp] theorem State.setBuf_scan (s : State) (i : Nat) (v : Word) :
    (s.setBuf i v).scan = s.scan := rfl
@[simp] theorem State.setBuf_pipe (s : State) (i : Nat) (v : Word) :
    (s.setBuf i v).pipe = s.pipe := rfl
@[simp] theorem State.setBuf_stave (s : State) (i : Nat) (v : Word) :
    (s.setBuf i v).stave = s.stave := rfl
@[simp] theorem State.setBuf_face (s : State) (i : Nat) (v : Word) :
    (s.setBuf i v).face = s.face := rfl
@[simp] theorem State.setBuf_ens (s : State) (i : Nat) (v : Word) :
    (s.setBuf i v).ens = s.ens := rfl
@[simp] theorem State.setBuf_pending (s : State) (i : Nat) (v : Word) :
    (s.setBuf i v).pending = s.pending := rfl
@[simp] theorem State.blow_regs (s : State) (i : Nat) (v : BitVec 56) (c : BitVec 8) :
    (s.blow i v c).regs = s.regs := rfl
@[simp] theorem State.blow_force (s : State) (i : Nat) (v : BitVec 56) (c : BitVec 8) :
    (s.blow i v c).force = s.force := rfl
@[simp] theorem State.blow_metro (s : State) (i : Nat) (v : BitVec 56) (c : BitVec 8) :
    (s.blow i v c).metro = s.metro := rfl
@[simp] theorem State.blow_edge (s : State) (i : Nat) (v : BitVec 56) (c : BitVec 8) :
    (s.blow i v c).edge = s.edge := rfl
@[simp] theorem State.blow_hall (s : State) (i : Nat) (v : BitVec 56) (c : BitVec 8) :
    (s.blow i v c).hall = s.hall := rfl
@[simp] theorem State.blow_banks (s : State) (i : Nat) (v : BitVec 56) (c : BitVec 8) :
    (s.blow i v c).banks = s.banks := rfl
@[simp] theorem State.blow_hallGen (s : State) (i : Nat) (v : BitVec 56) (c : BitVec 8) :
    (s.blow i v c).hallGen = s.hallGen := rfl
@[simp] theorem State.blow_ao (s : State) (i : Nat) (v : BitVec 56) (c : BitVec 8) :
    (s.blow i v c).ao = s.ao := rfl
@[simp] theorem State.blow_flash (s : State) (i : Nat) (v : BitVec 56) (c : BitVec 8) :
    (s.blow i v c).flash = s.flash := rfl
@[simp] theorem State.blow_free (s : State) (i : Nat) (v : BitVec 56) (c : BitVec 8) :
    (s.blow i v c).free = s.free := rfl
@[simp] theorem State.blow_pins (s : State) (i : Nat) (v : BitVec 56) (c : BitVec 8) :
    (s.blow i v c).pins = s.pins := rfl
@[simp] theorem State.blow_tap (s : State) (i : Nat) (v : BitVec 56) (c : BitVec 8) :
    (s.blow i v c).tap = s.tap := rfl
@[simp] theorem State.blow_flags (s : State) (i : Nat) (v : BitVec 56) (c : BitVec 8) :
    (s.blow i v c).flags = s.flags := rfl
@[simp] theorem State.blow_ladder (s : State) (i : Nat) (v : BitVec 56) (c : BitVec 8) :
    (s.blow i v c).ladder = s.ladder := rfl
@[simp] theorem State.blow_boot (s : State) (i : Nat) (v : BitVec 56) (c : BitVec 8) :
    (s.blow i v c).boot = s.boot := rfl
@[simp] theorem State.blow_portA (s : State) (i : Nat) (v : BitVec 56) (c : BitVec 8) :
    (s.blow i v c).portA = s.portA := rfl
@[simp] theorem State.blow_portB (s : State) (i : Nat) (v : BitVec 56) (c : BitVec 8) :
    (s.blow i v c).portB = s.portB := rfl
@[simp] theorem State.blow_crossing (s : State) (i : Nat) (v : BitVec 56) (c : BitVec 8) :
    (s.blow i v c).crossing = s.crossing := rfl
@[simp] theorem State.blow_rings (s : State) (i : Nat) (v : BitVec 56) (c : BitVec 8) :
    (s.blow i v c).rings = s.rings := rfl
@[simp] theorem State.blow_fetched (s : State) (i : Nat) (v : BitVec 56) (c : BitVec 8) :
    (s.blow i v c).fetched = s.fetched := rfl
@[simp] theorem State.blow_commits (s : State) (i : Nat) (v : BitVec 56) (c : BitVec 8) :
    (s.blow i v c).commits = s.commits := rfl
@[simp] theorem State.blow_expertWait (s : State) (i : Nat) (v : BitVec 56) (c : BitVec 8) :
    (s.blow i v c).expertWait = s.expertWait := rfl
@[simp] theorem State.blow_score (s : State) (i : Nat) (v : BitVec 56) (c : BitVec 8) :
    (s.blow i v c).score = s.score := rfl
@[simp] theorem State.blow_keys (s : State) (i : Nat) (v : BitVec 56) (c : BitVec 8) :
    (s.blow i v c).keys = s.keys := rfl
@[simp] theorem State.blow_sense (s : State) (i : Nat) (v : BitVec 56) (c : BitVec 8) :
    (s.blow i v c).sense = s.sense := rfl
@[simp] theorem State.blow_tune (s : State) (i : Nat) (v : BitVec 56) (c : BitVec 8) :
    (s.blow i v c).tune = s.tune := rfl
@[simp] theorem State.blow_jrnl (s : State) (i : Nat) (v : BitVec 56) (c : BitVec 8) :
    (s.blow i v c).jrnl = s.jrnl := rfl
@[simp] theorem State.blow_intake (s : State) (i : Nat) (v : BitVec 56) (c : BitVec 8) :
    (s.blow i v c).intake = s.intake := rfl
@[simp] theorem State.blow_scan (s : State) (i : Nat) (v : BitVec 56) (c : BitVec 8) :
    (s.blow i v c).scan = s.scan := rfl
@[simp] theorem State.blow_pipe (s : State) (i : Nat) (v : BitVec 56) (c : BitVec 8) :
    (s.blow i v c).pipe = s.pipe := rfl
@[simp] theorem State.blow_stave (s : State) (i : Nat) (v : BitVec 56) (c : BitVec 8) :
    (s.blow i v c).stave = s.stave := rfl
@[simp] theorem State.blow_face (s : State) (i : Nat) (v : BitVec 56) (c : BitVec 8) :
    (s.blow i v c).face = s.face := rfl
@[simp] theorem State.blow_ens (s : State) (i : Nat) (v : BitVec 56) (c : BitVec 8) :
    (s.blow i v c).ens = s.ens := rfl
@[simp] theorem State.blow_pending (s : State) (i : Nat) (v : BitVec 56) (c : BitVec 8) :
    (s.blow i v c).pending = s.pending := rfl
@[simp] theorem State.setEvPend_force (s : State) (e : Nat) :
    (s.setEvPend e).force = s.force := rfl
@[simp] theorem State.setEvPend_metro (s : State) (e : Nat) :
    (s.setEvPend e).metro = s.metro := rfl
@[simp] theorem State.setEvPend_edge (s : State) (e : Nat) :
    (s.setEvPend e).edge = s.edge := rfl
@[simp] theorem State.setEvPend_hall (s : State) (e : Nat) :
    (s.setEvPend e).hall = s.hall := rfl
@[simp] theorem State.setEvPend_banks (s : State) (e : Nat) :
    (s.setEvPend e).banks = s.banks := rfl
@[simp] theorem State.setEvPend_hallGen (s : State) (e : Nat) :
    (s.setEvPend e).hallGen = s.hallGen := rfl
@[simp] theorem State.setEvPend_ao (s : State) (e : Nat) :
    (s.setEvPend e).ao = s.ao := rfl
@[simp] theorem State.setEvPend_flash (s : State) (e : Nat) :
    (s.setEvPend e).flash = s.flash := rfl
@[simp] theorem State.setEvPend_fuses (s : State) (e : Nat) :
    (s.setEvPend e).fuses = s.fuses := rfl
@[simp] theorem State.setEvPend_free (s : State) (e : Nat) :
    (s.setEvPend e).free = s.free := rfl
@[simp] theorem State.setEvPend_pins (s : State) (e : Nat) :
    (s.setEvPend e).pins = s.pins := rfl
@[simp] theorem State.setEvPend_tap (s : State) (e : Nat) :
    (s.setEvPend e).tap = s.tap := rfl
@[simp] theorem State.setEvPend_flags (s : State) (e : Nat) :
    (s.setEvPend e).flags = s.flags := rfl
@[simp] theorem State.setEvPend_ladder (s : State) (e : Nat) :
    (s.setEvPend e).ladder = s.ladder := rfl
@[simp] theorem State.setEvPend_boot (s : State) (e : Nat) :
    (s.setEvPend e).boot = s.boot := rfl
@[simp] theorem State.setEvPend_portA (s : State) (e : Nat) :
    (s.setEvPend e).portA = s.portA := rfl
@[simp] theorem State.setEvPend_portB (s : State) (e : Nat) :
    (s.setEvPend e).portB = s.portB := rfl
@[simp] theorem State.setEvPend_crossing (s : State) (e : Nat) :
    (s.setEvPend e).crossing = s.crossing := rfl
@[simp] theorem State.setEvPend_rings (s : State) (e : Nat) :
    (s.setEvPend e).rings = s.rings := rfl
@[simp] theorem State.setEvPend_fetched (s : State) (e : Nat) :
    (s.setEvPend e).fetched = s.fetched := rfl
@[simp] theorem State.setEvPend_commits (s : State) (e : Nat) :
    (s.setEvPend e).commits = s.commits := rfl
@[simp] theorem State.setEvPend_expertWait (s : State) (e : Nat) :
    (s.setEvPend e).expertWait = s.expertWait := rfl
@[simp] theorem State.setEvPend_score (s : State) (e : Nat) :
    (s.setEvPend e).score = s.score := rfl
@[simp] theorem State.setEvPend_keys (s : State) (e : Nat) :
    (s.setEvPend e).keys = s.keys := rfl
@[simp] theorem State.setEvPend_sense (s : State) (e : Nat) :
    (s.setEvPend e).sense = s.sense := rfl
@[simp] theorem State.setEvPend_tune (s : State) (e : Nat) :
    (s.setEvPend e).tune = s.tune := rfl
@[simp] theorem State.setEvPend_jrnl (s : State) (e : Nat) :
    (s.setEvPend e).jrnl = s.jrnl := rfl
@[simp] theorem State.setEvPend_intake (s : State) (e : Nat) :
    (s.setEvPend e).intake = s.intake := rfl
@[simp] theorem State.setEvPend_scan (s : State) (e : Nat) :
    (s.setEvPend e).scan = s.scan := rfl
@[simp] theorem State.setEvPend_pipe (s : State) (e : Nat) :
    (s.setEvPend e).pipe = s.pipe := rfl
@[simp] theorem State.setEvPend_stave (s : State) (e : Nat) :
    (s.setEvPend e).stave = s.stave := rfl
@[simp] theorem State.setEvPend_face (s : State) (e : Nat) :
    (s.setEvPend e).face = s.face := rfl
@[simp] theorem State.setEvPend_ens (s : State) (e : Nat) :
    (s.setEvPend e).ens = s.ens := rfl
@[simp] theorem State.setEvPend_pending (s : State) (e : Nat) :
    (s.setEvPend e).pending = s.pending := rfl
@[simp] theorem State.setDue_force (s : State) (f : Nat) (v : Nat) :
    (s.setDue f v).force = s.force := rfl
@[simp] theorem State.setDue_metro (s : State) (f : Nat) (v : Nat) :
    (s.setDue f v).metro = s.metro := rfl
@[simp] theorem State.setDue_edge (s : State) (f : Nat) (v : Nat) :
    (s.setDue f v).edge = s.edge := rfl
@[simp] theorem State.setDue_hall (s : State) (f : Nat) (v : Nat) :
    (s.setDue f v).hall = s.hall := rfl
@[simp] theorem State.setDue_banks (s : State) (f : Nat) (v : Nat) :
    (s.setDue f v).banks = s.banks := rfl
@[simp] theorem State.setDue_hallGen (s : State) (f : Nat) (v : Nat) :
    (s.setDue f v).hallGen = s.hallGen := rfl
@[simp] theorem State.setDue_ao (s : State) (f : Nat) (v : Nat) :
    (s.setDue f v).ao = s.ao := rfl
@[simp] theorem State.setDue_flash (s : State) (f : Nat) (v : Nat) :
    (s.setDue f v).flash = s.flash := rfl
@[simp] theorem State.setDue_fuses (s : State) (f : Nat) (v : Nat) :
    (s.setDue f v).fuses = s.fuses := rfl
@[simp] theorem State.setDue_free (s : State) (f : Nat) (v : Nat) :
    (s.setDue f v).free = s.free := rfl
@[simp] theorem State.setDue_pins (s : State) (f : Nat) (v : Nat) :
    (s.setDue f v).pins = s.pins := rfl
@[simp] theorem State.setDue_tap (s : State) (f : Nat) (v : Nat) :
    (s.setDue f v).tap = s.tap := rfl
@[simp] theorem State.setDue_flags (s : State) (f : Nat) (v : Nat) :
    (s.setDue f v).flags = s.flags := rfl
@[simp] theorem State.setDue_ladder (s : State) (f : Nat) (v : Nat) :
    (s.setDue f v).ladder = s.ladder := rfl
@[simp] theorem State.setDue_boot (s : State) (f : Nat) (v : Nat) :
    (s.setDue f v).boot = s.boot := rfl
@[simp] theorem State.setDue_portA (s : State) (f : Nat) (v : Nat) :
    (s.setDue f v).portA = s.portA := rfl
@[simp] theorem State.setDue_portB (s : State) (f : Nat) (v : Nat) :
    (s.setDue f v).portB = s.portB := rfl
@[simp] theorem State.setDue_crossing (s : State) (f : Nat) (v : Nat) :
    (s.setDue f v).crossing = s.crossing := rfl
@[simp] theorem State.setDue_rings (s : State) (f : Nat) (v : Nat) :
    (s.setDue f v).rings = s.rings := rfl
@[simp] theorem State.setDue_fetched (s : State) (f : Nat) (v : Nat) :
    (s.setDue f v).fetched = s.fetched := rfl
@[simp] theorem State.setDue_commits (s : State) (f : Nat) (v : Nat) :
    (s.setDue f v).commits = s.commits := rfl
@[simp] theorem State.setDue_expertWait (s : State) (f : Nat) (v : Nat) :
    (s.setDue f v).expertWait = s.expertWait := rfl
@[simp] theorem State.setDue_score (s : State) (f : Nat) (v : Nat) :
    (s.setDue f v).score = s.score := rfl
@[simp] theorem State.setDue_keys (s : State) (f : Nat) (v : Nat) :
    (s.setDue f v).keys = s.keys := rfl
@[simp] theorem State.setDue_sense (s : State) (f : Nat) (v : Nat) :
    (s.setDue f v).sense = s.sense := rfl
@[simp] theorem State.setDue_tune (s : State) (f : Nat) (v : Nat) :
    (s.setDue f v).tune = s.tune := rfl
@[simp] theorem State.setDue_jrnl (s : State) (f : Nat) (v : Nat) :
    (s.setDue f v).jrnl = s.jrnl := rfl
@[simp] theorem State.setDue_intake (s : State) (f : Nat) (v : Nat) :
    (s.setDue f v).intake = s.intake := rfl
@[simp] theorem State.setDue_scan (s : State) (f : Nat) (v : Nat) :
    (s.setDue f v).scan = s.scan := rfl
@[simp] theorem State.setDue_pipe (s : State) (f : Nat) (v : Nat) :
    (s.setDue f v).pipe = s.pipe := rfl
@[simp] theorem State.setDue_stave (s : State) (f : Nat) (v : Nat) :
    (s.setDue f v).stave = s.stave := rfl
@[simp] theorem State.setDue_ens (s : State) (f : Nat) (v : Nat) :
    (s.setDue f v).ens = s.ens := rfl
@[simp] theorem State.setDue_pending (s : State) (f : Nat) (v : Nat) :
    (s.setDue f v).pending = s.pending := rfl
@[simp] theorem State.setBoot_regs (s : State) (b : Boot) :
    (s.setBoot b).regs = s.regs := rfl
@[simp] theorem State.setBoot_force (s : State) (b : Boot) :
    (s.setBoot b).force = s.force := rfl
@[simp] theorem State.setBoot_metro (s : State) (b : Boot) :
    (s.setBoot b).metro = s.metro := rfl
@[simp] theorem State.setBoot_edge (s : State) (b : Boot) :
    (s.setBoot b).edge = s.edge := rfl
@[simp] theorem State.setBoot_hall (s : State) (b : Boot) :
    (s.setBoot b).hall = s.hall := rfl
@[simp] theorem State.setBoot_banks (s : State) (b : Boot) :
    (s.setBoot b).banks = s.banks := rfl
@[simp] theorem State.setBoot_hallGen (s : State) (b : Boot) :
    (s.setBoot b).hallGen = s.hallGen := rfl
@[simp] theorem State.setBoot_ao (s : State) (b : Boot) :
    (s.setBoot b).ao = s.ao := rfl
@[simp] theorem State.setBoot_flash (s : State) (b : Boot) :
    (s.setBoot b).flash = s.flash := rfl
@[simp] theorem State.setBoot_fuses (s : State) (b : Boot) :
    (s.setBoot b).fuses = s.fuses := rfl
@[simp] theorem State.setBoot_free (s : State) (b : Boot) :
    (s.setBoot b).free = s.free := rfl
@[simp] theorem State.setBoot_pins (s : State) (b : Boot) :
    (s.setBoot b).pins = s.pins := rfl
@[simp] theorem State.setBoot_tap (s : State) (b : Boot) :
    (s.setBoot b).tap = s.tap := rfl
@[simp] theorem State.setBoot_flags (s : State) (b : Boot) :
    (s.setBoot b).flags = s.flags := rfl
@[simp] theorem State.setBoot_ladder (s : State) (b : Boot) :
    (s.setBoot b).ladder = s.ladder := rfl
@[simp] theorem State.setBoot_portA (s : State) (b : Boot) :
    (s.setBoot b).portA = s.portA := rfl
@[simp] theorem State.setBoot_portB (s : State) (b : Boot) :
    (s.setBoot b).portB = s.portB := rfl
@[simp] theorem State.setBoot_crossing (s : State) (b : Boot) :
    (s.setBoot b).crossing = s.crossing := rfl
@[simp] theorem State.setBoot_rings (s : State) (b : Boot) :
    (s.setBoot b).rings = s.rings := rfl
@[simp] theorem State.setBoot_fetched (s : State) (b : Boot) :
    (s.setBoot b).fetched = s.fetched := rfl
@[simp] theorem State.setBoot_commits (s : State) (b : Boot) :
    (s.setBoot b).commits = s.commits := rfl
@[simp] theorem State.setBoot_expertWait (s : State) (b : Boot) :
    (s.setBoot b).expertWait = s.expertWait := rfl
@[simp] theorem State.setBoot_score (s : State) (b : Boot) :
    (s.setBoot b).score = s.score := rfl
@[simp] theorem State.setBoot_keys (s : State) (b : Boot) :
    (s.setBoot b).keys = s.keys := rfl
@[simp] theorem State.setBoot_sense (s : State) (b : Boot) :
    (s.setBoot b).sense = s.sense := rfl
@[simp] theorem State.setBoot_tune (s : State) (b : Boot) :
    (s.setBoot b).tune = s.tune := rfl
@[simp] theorem State.setBoot_jrnl (s : State) (b : Boot) :
    (s.setBoot b).jrnl = s.jrnl := rfl
@[simp] theorem State.setBoot_intake (s : State) (b : Boot) :
    (s.setBoot b).intake = s.intake := rfl
@[simp] theorem State.setBoot_scan (s : State) (b : Boot) :
    (s.setBoot b).scan = s.scan := rfl
@[simp] theorem State.setBoot_pipe (s : State) (b : Boot) :
    (s.setBoot b).pipe = s.pipe := rfl
@[simp] theorem State.setBoot_stave (s : State) (b : Boot) :
    (s.setBoot b).stave = s.stave := rfl
@[simp] theorem State.setBoot_face (s : State) (b : Boot) :
    (s.setBoot b).face = s.face := rfl
@[simp] theorem State.setBoot_ens (s : State) (b : Boot) :
    (s.setBoot b).ens = s.ens := rfl
@[simp] theorem State.setBoot_pending (s : State) (b : Boot) :
    (s.setBoot b).pending = s.pending := rfl
@[simp] theorem State.setPins_regs (s : State) (p : Pins) :
    (s.setPins p).regs = s.regs := rfl
@[simp] theorem State.setPins_force (s : State) (p : Pins) :
    (s.setPins p).force = s.force := rfl
@[simp] theorem State.setPins_metro (s : State) (p : Pins) :
    (s.setPins p).metro = s.metro := rfl
@[simp] theorem State.setPins_edge (s : State) (p : Pins) :
    (s.setPins p).edge = s.edge := rfl
@[simp] theorem State.setPins_hall (s : State) (p : Pins) :
    (s.setPins p).hall = s.hall := rfl
@[simp] theorem State.setPins_banks (s : State) (p : Pins) :
    (s.setPins p).banks = s.banks := rfl
@[simp] theorem State.setPins_hallGen (s : State) (p : Pins) :
    (s.setPins p).hallGen = s.hallGen := rfl
@[simp] theorem State.setPins_ao (s : State) (p : Pins) :
    (s.setPins p).ao = s.ao := rfl
@[simp] theorem State.setPins_flash (s : State) (p : Pins) :
    (s.setPins p).flash = s.flash := rfl
@[simp] theorem State.setPins_fuses (s : State) (p : Pins) :
    (s.setPins p).fuses = s.fuses := rfl
@[simp] theorem State.setPins_free (s : State) (p : Pins) :
    (s.setPins p).free = s.free := rfl
@[simp] theorem State.setPins_tap (s : State) (p : Pins) :
    (s.setPins p).tap = s.tap := rfl
@[simp] theorem State.setPins_flags (s : State) (p : Pins) :
    (s.setPins p).flags = s.flags := rfl
@[simp] theorem State.setPins_ladder (s : State) (p : Pins) :
    (s.setPins p).ladder = s.ladder := rfl
@[simp] theorem State.setPins_boot (s : State) (p : Pins) :
    (s.setPins p).boot = s.boot := rfl
@[simp] theorem State.setPins_portA (s : State) (p : Pins) :
    (s.setPins p).portA = s.portA := rfl
@[simp] theorem State.setPins_portB (s : State) (p : Pins) :
    (s.setPins p).portB = s.portB := rfl
@[simp] theorem State.setPins_crossing (s : State) (p : Pins) :
    (s.setPins p).crossing = s.crossing := rfl
@[simp] theorem State.setPins_rings (s : State) (p : Pins) :
    (s.setPins p).rings = s.rings := rfl
@[simp] theorem State.setPins_fetched (s : State) (p : Pins) :
    (s.setPins p).fetched = s.fetched := rfl
@[simp] theorem State.setPins_commits (s : State) (p : Pins) :
    (s.setPins p).commits = s.commits := rfl
@[simp] theorem State.setPins_expertWait (s : State) (p : Pins) :
    (s.setPins p).expertWait = s.expertWait := rfl
@[simp] theorem State.setPins_score (s : State) (p : Pins) :
    (s.setPins p).score = s.score := rfl
@[simp] theorem State.setPins_keys (s : State) (p : Pins) :
    (s.setPins p).keys = s.keys := rfl
@[simp] theorem State.setPins_sense (s : State) (p : Pins) :
    (s.setPins p).sense = s.sense := rfl
@[simp] theorem State.setPins_tune (s : State) (p : Pins) :
    (s.setPins p).tune = s.tune := rfl
@[simp] theorem State.setPins_jrnl (s : State) (p : Pins) :
    (s.setPins p).jrnl = s.jrnl := rfl
@[simp] theorem State.setPins_intake (s : State) (p : Pins) :
    (s.setPins p).intake = s.intake := rfl
@[simp] theorem State.setPins_scan (s : State) (p : Pins) :
    (s.setPins p).scan = s.scan := rfl
@[simp] theorem State.setPins_pipe (s : State) (p : Pins) :
    (s.setPins p).pipe = s.pipe := rfl
@[simp] theorem State.setPins_stave (s : State) (p : Pins) :
    (s.setPins p).stave = s.stave := rfl
@[simp] theorem State.setPins_face (s : State) (p : Pins) :
    (s.setPins p).face = s.face := rfl
@[simp] theorem State.setPins_ens (s : State) (p : Pins) :
    (s.setPins p).ens = s.ens := rfl
@[simp] theorem State.setPins_pending (s : State) (p : Pins) :
    (s.setPins p).pending = s.pending := rfl
@[simp] theorem State.setLadder_regs (s : State) (x : Ladder) :
    (s.setLadder x).regs = s.regs := rfl
@[simp] theorem State.setLadder_force (s : State) (x : Ladder) :
    (s.setLadder x).force = s.force := rfl
@[simp] theorem State.setLadder_metro (s : State) (x : Ladder) :
    (s.setLadder x).metro = s.metro := rfl
@[simp] theorem State.setLadder_edge (s : State) (x : Ladder) :
    (s.setLadder x).edge = s.edge := rfl
@[simp] theorem State.setLadder_hall (s : State) (x : Ladder) :
    (s.setLadder x).hall = s.hall := rfl
@[simp] theorem State.setLadder_banks (s : State) (x : Ladder) :
    (s.setLadder x).banks = s.banks := rfl
@[simp] theorem State.setLadder_hallGen (s : State) (x : Ladder) :
    (s.setLadder x).hallGen = s.hallGen := rfl
@[simp] theorem State.setLadder_ao (s : State) (x : Ladder) :
    (s.setLadder x).ao = s.ao := rfl
@[simp] theorem State.setLadder_flash (s : State) (x : Ladder) :
    (s.setLadder x).flash = s.flash := rfl
@[simp] theorem State.setLadder_fuses (s : State) (x : Ladder) :
    (s.setLadder x).fuses = s.fuses := rfl
@[simp] theorem State.setLadder_free (s : State) (x : Ladder) :
    (s.setLadder x).free = s.free := rfl
@[simp] theorem State.setLadder_pins (s : State) (x : Ladder) :
    (s.setLadder x).pins = s.pins := rfl
@[simp] theorem State.setLadder_tap (s : State) (x : Ladder) :
    (s.setLadder x).tap = s.tap := rfl
@[simp] theorem State.setLadder_flags (s : State) (x : Ladder) :
    (s.setLadder x).flags = s.flags := rfl
@[simp] theorem State.setLadder_boot (s : State) (x : Ladder) :
    (s.setLadder x).boot = s.boot := rfl
@[simp] theorem State.setLadder_portA (s : State) (x : Ladder) :
    (s.setLadder x).portA = s.portA := rfl
@[simp] theorem State.setLadder_portB (s : State) (x : Ladder) :
    (s.setLadder x).portB = s.portB := rfl
@[simp] theorem State.setLadder_crossing (s : State) (x : Ladder) :
    (s.setLadder x).crossing = s.crossing := rfl
@[simp] theorem State.setLadder_rings (s : State) (x : Ladder) :
    (s.setLadder x).rings = s.rings := rfl
@[simp] theorem State.setLadder_fetched (s : State) (x : Ladder) :
    (s.setLadder x).fetched = s.fetched := rfl
@[simp] theorem State.setLadder_commits (s : State) (x : Ladder) :
    (s.setLadder x).commits = s.commits := rfl
@[simp] theorem State.setLadder_expertWait (s : State) (x : Ladder) :
    (s.setLadder x).expertWait = s.expertWait := rfl
@[simp] theorem State.setLadder_score (s : State) (x : Ladder) :
    (s.setLadder x).score = s.score := rfl
@[simp] theorem State.setLadder_keys (s : State) (x : Ladder) :
    (s.setLadder x).keys = s.keys := rfl
@[simp] theorem State.setLadder_sense (s : State) (x : Ladder) :
    (s.setLadder x).sense = s.sense := rfl
@[simp] theorem State.setLadder_tune (s : State) (x : Ladder) :
    (s.setLadder x).tune = s.tune := rfl
@[simp] theorem State.setLadder_jrnl (s : State) (x : Ladder) :
    (s.setLadder x).jrnl = s.jrnl := rfl
@[simp] theorem State.setLadder_intake (s : State) (x : Ladder) :
    (s.setLadder x).intake = s.intake := rfl
@[simp] theorem State.setLadder_scan (s : State) (x : Ladder) :
    (s.setLadder x).scan = s.scan := rfl
@[simp] theorem State.setLadder_pipe (s : State) (x : Ladder) :
    (s.setLadder x).pipe = s.pipe := rfl
@[simp] theorem State.setLadder_stave (s : State) (x : Ladder) :
    (s.setLadder x).stave = s.stave := rfl
@[simp] theorem State.setLadder_face (s : State) (x : Ladder) :
    (s.setLadder x).face = s.face := rfl
@[simp] theorem State.setLadder_ens (s : State) (x : Ladder) :
    (s.setLadder x).ens = s.ens := rfl
@[simp] theorem State.setLadder_pending (s : State) (x : Ladder) :
    (s.setLadder x).pending = s.pending := rfl
@[simp] theorem State.setStep_regs (s : State) (m : MoveStep) :
    (s.setStep m).regs = s.regs := rfl
@[simp] theorem State.setStep_force (s : State) (m : MoveStep) :
    (s.setStep m).force = s.force := rfl
@[simp] theorem State.setStep_metro (s : State) (m : MoveStep) :
    (s.setStep m).metro = s.metro := rfl
@[simp] theorem State.setStep_edge (s : State) (m : MoveStep) :
    (s.setStep m).edge = s.edge := rfl
@[simp] theorem State.setStep_hall (s : State) (m : MoveStep) :
    (s.setStep m).hall = s.hall := rfl
@[simp] theorem State.setStep_banks (s : State) (m : MoveStep) :
    (s.setStep m).banks = s.banks := rfl
@[simp] theorem State.setStep_hallGen (s : State) (m : MoveStep) :
    (s.setStep m).hallGen = s.hallGen := rfl
@[simp] theorem State.setStep_ao (s : State) (m : MoveStep) :
    (s.setStep m).ao = s.ao := rfl
@[simp] theorem State.setStep_flash (s : State) (m : MoveStep) :
    (s.setStep m).flash = s.flash := rfl
@[simp] theorem State.setStep_fuses (s : State) (m : MoveStep) :
    (s.setStep m).fuses = s.fuses := rfl
@[simp] theorem State.setStep_free (s : State) (m : MoveStep) :
    (s.setStep m).free = s.free := rfl
@[simp] theorem State.setStep_pins (s : State) (m : MoveStep) :
    (s.setStep m).pins = s.pins := rfl
@[simp] theorem State.setStep_tap (s : State) (m : MoveStep) :
    (s.setStep m).tap = s.tap := rfl
@[simp] theorem State.setStep_flags (s : State) (m : MoveStep) :
    (s.setStep m).flags = s.flags := rfl
@[simp] theorem State.setStep_boot (s : State) (m : MoveStep) :
    (s.setStep m).boot = s.boot := rfl
@[simp] theorem State.setStep_portA (s : State) (m : MoveStep) :
    (s.setStep m).portA = s.portA := rfl
@[simp] theorem State.setStep_portB (s : State) (m : MoveStep) :
    (s.setStep m).portB = s.portB := rfl
@[simp] theorem State.setStep_crossing (s : State) (m : MoveStep) :
    (s.setStep m).crossing = s.crossing := rfl
@[simp] theorem State.setStep_rings (s : State) (m : MoveStep) :
    (s.setStep m).rings = s.rings := rfl
@[simp] theorem State.setStep_fetched (s : State) (m : MoveStep) :
    (s.setStep m).fetched = s.fetched := rfl
@[simp] theorem State.setStep_commits (s : State) (m : MoveStep) :
    (s.setStep m).commits = s.commits := rfl
@[simp] theorem State.setStep_expertWait (s : State) (m : MoveStep) :
    (s.setStep m).expertWait = s.expertWait := rfl
@[simp] theorem State.setStep_score (s : State) (m : MoveStep) :
    (s.setStep m).score = s.score := rfl
@[simp] theorem State.setStep_keys (s : State) (m : MoveStep) :
    (s.setStep m).keys = s.keys := rfl
@[simp] theorem State.setStep_sense (s : State) (m : MoveStep) :
    (s.setStep m).sense = s.sense := rfl
@[simp] theorem State.setStep_tune (s : State) (m : MoveStep) :
    (s.setStep m).tune = s.tune := rfl
@[simp] theorem State.setStep_jrnl (s : State) (m : MoveStep) :
    (s.setStep m).jrnl = s.jrnl := rfl
@[simp] theorem State.setStep_intake (s : State) (m : MoveStep) :
    (s.setStep m).intake = s.intake := rfl
@[simp] theorem State.setStep_scan (s : State) (m : MoveStep) :
    (s.setStep m).scan = s.scan := rfl
@[simp] theorem State.setStep_pipe (s : State) (m : MoveStep) :
    (s.setStep m).pipe = s.pipe := rfl
@[simp] theorem State.setStep_stave (s : State) (m : MoveStep) :
    (s.setStep m).stave = s.stave := rfl
@[simp] theorem State.setStep_face (s : State) (m : MoveStep) :
    (s.setStep m).face = s.face := rfl
@[simp] theorem State.setStep_ens (s : State) (m : MoveStep) :
    (s.setStep m).ens = s.ens := rfl
@[simp] theorem State.setStep_pending (s : State) (m : MoveStep) :
    (s.setStep m).pending = s.pending := rfl
@[simp] theorem State.setCur_force (s : State) (c : Nat) :
    (s.setCur c).force = s.force := rfl
@[simp] theorem State.setCur_metro (s : State) (c : Nat) :
    (s.setCur c).metro = s.metro := rfl
@[simp] theorem State.setCur_edge (s : State) (c : Nat) :
    (s.setCur c).edge = s.edge := rfl
@[simp] theorem State.setCur_hall (s : State) (c : Nat) :
    (s.setCur c).hall = s.hall := rfl
@[simp] theorem State.setCur_banks (s : State) (c : Nat) :
    (s.setCur c).banks = s.banks := rfl
@[simp] theorem State.setCur_hallGen (s : State) (c : Nat) :
    (s.setCur c).hallGen = s.hallGen := rfl
@[simp] theorem State.setCur_ao (s : State) (c : Nat) :
    (s.setCur c).ao = s.ao := rfl
@[simp] theorem State.setCur_flash (s : State) (c : Nat) :
    (s.setCur c).flash = s.flash := rfl
@[simp] theorem State.setCur_fuses (s : State) (c : Nat) :
    (s.setCur c).fuses = s.fuses := rfl
@[simp] theorem State.setCur_free (s : State) (c : Nat) :
    (s.setCur c).free = s.free := rfl
@[simp] theorem State.setCur_pins (s : State) (c : Nat) :
    (s.setCur c).pins = s.pins := rfl
@[simp] theorem State.setCur_tap (s : State) (c : Nat) :
    (s.setCur c).tap = s.tap := rfl
@[simp] theorem State.setCur_flags (s : State) (c : Nat) :
    (s.setCur c).flags = s.flags := rfl
@[simp] theorem State.setCur_ladder (s : State) (c : Nat) :
    (s.setCur c).ladder = s.ladder := rfl
@[simp] theorem State.setCur_boot (s : State) (c : Nat) :
    (s.setCur c).boot = s.boot := rfl
@[simp] theorem State.setCur_portA (s : State) (c : Nat) :
    (s.setCur c).portA = s.portA := rfl
@[simp] theorem State.setCur_portB (s : State) (c : Nat) :
    (s.setCur c).portB = s.portB := rfl
@[simp] theorem State.setCur_crossing (s : State) (c : Nat) :
    (s.setCur c).crossing = s.crossing := rfl
@[simp] theorem State.setCur_rings (s : State) (c : Nat) :
    (s.setCur c).rings = s.rings := rfl
@[simp] theorem State.setCur_fetched (s : State) (c : Nat) :
    (s.setCur c).fetched = s.fetched := rfl
@[simp] theorem State.setCur_commits (s : State) (c : Nat) :
    (s.setCur c).commits = s.commits := rfl
@[simp] theorem State.setCur_expertWait (s : State) (c : Nat) :
    (s.setCur c).expertWait = s.expertWait := rfl
@[simp] theorem State.setCur_score (s : State) (c : Nat) :
    (s.setCur c).score = s.score := rfl
@[simp] theorem State.setCur_keys (s : State) (c : Nat) :
    (s.setCur c).keys = s.keys := rfl
@[simp] theorem State.setCur_sense (s : State) (c : Nat) :
    (s.setCur c).sense = s.sense := rfl
@[simp] theorem State.setCur_tune (s : State) (c : Nat) :
    (s.setCur c).tune = s.tune := rfl
@[simp] theorem State.setCur_jrnl (s : State) (c : Nat) :
    (s.setCur c).jrnl = s.jrnl := rfl
@[simp] theorem State.setCur_intake (s : State) (c : Nat) :
    (s.setCur c).intake = s.intake := rfl
@[simp] theorem State.setCur_scan (s : State) (c : Nat) :
    (s.setCur c).scan = s.scan := rfl
@[simp] theorem State.setCur_pipe (s : State) (c : Nat) :
    (s.setCur c).pipe = s.pipe := rfl
@[simp] theorem State.setCur_stave (s : State) (c : Nat) :
    (s.setCur c).stave = s.stave := rfl
@[simp] theorem State.setCur_face (s : State) (c : Nat) :
    (s.setCur c).face = s.face := rfl
@[simp] theorem State.setCur_ens (s : State) (c : Nat) :
    (s.setCur c).ens = s.ens := rfl
@[simp] theorem State.setCur_pending (s : State) (c : Nat) :
    (s.setCur c).pending = s.pending := rfl
@[simp] theorem State.setTgt_force (s : State) (t : Nat) :
    (s.setTgt t).force = s.force := rfl
@[simp] theorem State.setTgt_metro (s : State) (t : Nat) :
    (s.setTgt t).metro = s.metro := rfl
@[simp] theorem State.setTgt_edge (s : State) (t : Nat) :
    (s.setTgt t).edge = s.edge := rfl
@[simp] theorem State.setTgt_hall (s : State) (t : Nat) :
    (s.setTgt t).hall = s.hall := rfl
@[simp] theorem State.setTgt_banks (s : State) (t : Nat) :
    (s.setTgt t).banks = s.banks := rfl
@[simp] theorem State.setTgt_hallGen (s : State) (t : Nat) :
    (s.setTgt t).hallGen = s.hallGen := rfl
@[simp] theorem State.setTgt_ao (s : State) (t : Nat) :
    (s.setTgt t).ao = s.ao := rfl
@[simp] theorem State.setTgt_flash (s : State) (t : Nat) :
    (s.setTgt t).flash = s.flash := rfl
@[simp] theorem State.setTgt_fuses (s : State) (t : Nat) :
    (s.setTgt t).fuses = s.fuses := rfl
@[simp] theorem State.setTgt_free (s : State) (t : Nat) :
    (s.setTgt t).free = s.free := rfl
@[simp] theorem State.setTgt_pins (s : State) (t : Nat) :
    (s.setTgt t).pins = s.pins := rfl
@[simp] theorem State.setTgt_tap (s : State) (t : Nat) :
    (s.setTgt t).tap = s.tap := rfl
@[simp] theorem State.setTgt_flags (s : State) (t : Nat) :
    (s.setTgt t).flags = s.flags := rfl
@[simp] theorem State.setTgt_ladder (s : State) (t : Nat) :
    (s.setTgt t).ladder = s.ladder := rfl
@[simp] theorem State.setTgt_boot (s : State) (t : Nat) :
    (s.setTgt t).boot = s.boot := rfl
@[simp] theorem State.setTgt_portA (s : State) (t : Nat) :
    (s.setTgt t).portA = s.portA := rfl
@[simp] theorem State.setTgt_portB (s : State) (t : Nat) :
    (s.setTgt t).portB = s.portB := rfl
@[simp] theorem State.setTgt_crossing (s : State) (t : Nat) :
    (s.setTgt t).crossing = s.crossing := rfl
@[simp] theorem State.setTgt_rings (s : State) (t : Nat) :
    (s.setTgt t).rings = s.rings := rfl
@[simp] theorem State.setTgt_fetched (s : State) (t : Nat) :
    (s.setTgt t).fetched = s.fetched := rfl
@[simp] theorem State.setTgt_commits (s : State) (t : Nat) :
    (s.setTgt t).commits = s.commits := rfl
@[simp] theorem State.setTgt_expertWait (s : State) (t : Nat) :
    (s.setTgt t).expertWait = s.expertWait := rfl
@[simp] theorem State.setTgt_score (s : State) (t : Nat) :
    (s.setTgt t).score = s.score := rfl
@[simp] theorem State.setTgt_keys (s : State) (t : Nat) :
    (s.setTgt t).keys = s.keys := rfl
@[simp] theorem State.setTgt_sense (s : State) (t : Nat) :
    (s.setTgt t).sense = s.sense := rfl
@[simp] theorem State.setTgt_tune (s : State) (t : Nat) :
    (s.setTgt t).tune = s.tune := rfl
@[simp] theorem State.setTgt_jrnl (s : State) (t : Nat) :
    (s.setTgt t).jrnl = s.jrnl := rfl
@[simp] theorem State.setTgt_intake (s : State) (t : Nat) :
    (s.setTgt t).intake = s.intake := rfl
@[simp] theorem State.setTgt_scan (s : State) (t : Nat) :
    (s.setTgt t).scan = s.scan := rfl
@[simp] theorem State.setTgt_pipe (s : State) (t : Nat) :
    (s.setTgt t).pipe = s.pipe := rfl
@[simp] theorem State.setTgt_stave (s : State) (t : Nat) :
    (s.setTgt t).stave = s.stave := rfl
@[simp] theorem State.setTgt_face (s : State) (t : Nat) :
    (s.setTgt t).face = s.face := rfl
@[simp] theorem State.setTgt_ens (s : State) (t : Nat) :
    (s.setTgt t).ens = s.ens := rfl
@[simp] theorem State.setTgt_pending (s : State) (t : Nat) :
    (s.setTgt t).pending = s.pending := rfl
@[simp] theorem State.setVcoreAt_regs (s : State) (t : Option (BitVec 48)) :
    (s.setVcoreAt t).regs = s.regs := rfl
@[simp] theorem State.setVcoreAt_force (s : State) (t : Option (BitVec 48)) :
    (s.setVcoreAt t).force = s.force := rfl
@[simp] theorem State.setVcoreAt_metro (s : State) (t : Option (BitVec 48)) :
    (s.setVcoreAt t).metro = s.metro := rfl
@[simp] theorem State.setVcoreAt_edge (s : State) (t : Option (BitVec 48)) :
    (s.setVcoreAt t).edge = s.edge := rfl
@[simp] theorem State.setVcoreAt_hall (s : State) (t : Option (BitVec 48)) :
    (s.setVcoreAt t).hall = s.hall := rfl
@[simp] theorem State.setVcoreAt_banks (s : State) (t : Option (BitVec 48)) :
    (s.setVcoreAt t).banks = s.banks := rfl
@[simp] theorem State.setVcoreAt_hallGen (s : State) (t : Option (BitVec 48)) :
    (s.setVcoreAt t).hallGen = s.hallGen := rfl
@[simp] theorem State.setVcoreAt_ao (s : State) (t : Option (BitVec 48)) :
    (s.setVcoreAt t).ao = s.ao := rfl
@[simp] theorem State.setVcoreAt_flash (s : State) (t : Option (BitVec 48)) :
    (s.setVcoreAt t).flash = s.flash := rfl
@[simp] theorem State.setVcoreAt_fuses (s : State) (t : Option (BitVec 48)) :
    (s.setVcoreAt t).fuses = s.fuses := rfl
@[simp] theorem State.setVcoreAt_free (s : State) (t : Option (BitVec 48)) :
    (s.setVcoreAt t).free = s.free := rfl
@[simp] theorem State.setVcoreAt_pins (s : State) (t : Option (BitVec 48)) :
    (s.setVcoreAt t).pins = s.pins := rfl
@[simp] theorem State.setVcoreAt_tap (s : State) (t : Option (BitVec 48)) :
    (s.setVcoreAt t).tap = s.tap := rfl
@[simp] theorem State.setVcoreAt_flags (s : State) (t : Option (BitVec 48)) :
    (s.setVcoreAt t).flags = s.flags := rfl
@[simp] theorem State.setVcoreAt_boot (s : State) (t : Option (BitVec 48)) :
    (s.setVcoreAt t).boot = s.boot := rfl
@[simp] theorem State.setVcoreAt_portA (s : State) (t : Option (BitVec 48)) :
    (s.setVcoreAt t).portA = s.portA := rfl
@[simp] theorem State.setVcoreAt_portB (s : State) (t : Option (BitVec 48)) :
    (s.setVcoreAt t).portB = s.portB := rfl
@[simp] theorem State.setVcoreAt_crossing (s : State) (t : Option (BitVec 48)) :
    (s.setVcoreAt t).crossing = s.crossing := rfl
@[simp] theorem State.setVcoreAt_rings (s : State) (t : Option (BitVec 48)) :
    (s.setVcoreAt t).rings = s.rings := rfl
@[simp] theorem State.setVcoreAt_fetched (s : State) (t : Option (BitVec 48)) :
    (s.setVcoreAt t).fetched = s.fetched := rfl
@[simp] theorem State.setVcoreAt_commits (s : State) (t : Option (BitVec 48)) :
    (s.setVcoreAt t).commits = s.commits := rfl
@[simp] theorem State.setVcoreAt_expertWait (s : State) (t : Option (BitVec 48)) :
    (s.setVcoreAt t).expertWait = s.expertWait := rfl
@[simp] theorem State.setVcoreAt_score (s : State) (t : Option (BitVec 48)) :
    (s.setVcoreAt t).score = s.score := rfl
@[simp] theorem State.setVcoreAt_keys (s : State) (t : Option (BitVec 48)) :
    (s.setVcoreAt t).keys = s.keys := rfl
@[simp] theorem State.setVcoreAt_sense (s : State) (t : Option (BitVec 48)) :
    (s.setVcoreAt t).sense = s.sense := rfl
@[simp] theorem State.setVcoreAt_tune (s : State) (t : Option (BitVec 48)) :
    (s.setVcoreAt t).tune = s.tune := rfl
@[simp] theorem State.setVcoreAt_jrnl (s : State) (t : Option (BitVec 48)) :
    (s.setVcoreAt t).jrnl = s.jrnl := rfl
@[simp] theorem State.setVcoreAt_intake (s : State) (t : Option (BitVec 48)) :
    (s.setVcoreAt t).intake = s.intake := rfl
@[simp] theorem State.setVcoreAt_scan (s : State) (t : Option (BitVec 48)) :
    (s.setVcoreAt t).scan = s.scan := rfl
@[simp] theorem State.setVcoreAt_pipe (s : State) (t : Option (BitVec 48)) :
    (s.setVcoreAt t).pipe = s.pipe := rfl
@[simp] theorem State.setVcoreAt_stave (s : State) (t : Option (BitVec 48)) :
    (s.setVcoreAt t).stave = s.stave := rfl
@[simp] theorem State.setVcoreAt_face (s : State) (t : Option (BitVec 48)) :
    (s.setVcoreAt t).face = s.face := rfl
@[simp] theorem State.setVcoreAt_ens (s : State) (t : Option (BitVec 48)) :
    (s.setVcoreAt t).ens = s.ens := rfl
@[simp] theorem State.setVcoreAt_pending (s : State) (t : Option (BitVec 48)) :
    (s.setVcoreAt t).pending = s.pending := rfl
@[simp] theorem State.setJrnl_regs (s : State) (j : Jrnl) :
    (s.setJrnl j).regs = s.regs := rfl
@[simp] theorem State.setJrnl_force (s : State) (j : Jrnl) :
    (s.setJrnl j).force = s.force := rfl
@[simp] theorem State.setJrnl_metro (s : State) (j : Jrnl) :
    (s.setJrnl j).metro = s.metro := rfl
@[simp] theorem State.setJrnl_edge (s : State) (j : Jrnl) :
    (s.setJrnl j).edge = s.edge := rfl
@[simp] theorem State.setJrnl_hall (s : State) (j : Jrnl) :
    (s.setJrnl j).hall = s.hall := rfl
@[simp] theorem State.setJrnl_banks (s : State) (j : Jrnl) :
    (s.setJrnl j).banks = s.banks := rfl
@[simp] theorem State.setJrnl_hallGen (s : State) (j : Jrnl) :
    (s.setJrnl j).hallGen = s.hallGen := rfl
@[simp] theorem State.setJrnl_ao (s : State) (j : Jrnl) :
    (s.setJrnl j).ao = s.ao := rfl
@[simp] theorem State.setJrnl_flash (s : State) (j : Jrnl) :
    (s.setJrnl j).flash = s.flash := rfl
@[simp] theorem State.setJrnl_fuses (s : State) (j : Jrnl) :
    (s.setJrnl j).fuses = s.fuses := rfl
@[simp] theorem State.setJrnl_free (s : State) (j : Jrnl) :
    (s.setJrnl j).free = s.free := rfl
@[simp] theorem State.setJrnl_pins (s : State) (j : Jrnl) :
    (s.setJrnl j).pins = s.pins := rfl
@[simp] theorem State.setJrnl_tap (s : State) (j : Jrnl) :
    (s.setJrnl j).tap = s.tap := rfl
@[simp] theorem State.setJrnl_flags (s : State) (j : Jrnl) :
    (s.setJrnl j).flags = s.flags := rfl
@[simp] theorem State.setJrnl_ladder (s : State) (j : Jrnl) :
    (s.setJrnl j).ladder = s.ladder := rfl
@[simp] theorem State.setJrnl_boot (s : State) (j : Jrnl) :
    (s.setJrnl j).boot = s.boot := rfl
@[simp] theorem State.setJrnl_portA (s : State) (j : Jrnl) :
    (s.setJrnl j).portA = s.portA := rfl
@[simp] theorem State.setJrnl_portB (s : State) (j : Jrnl) :
    (s.setJrnl j).portB = s.portB := rfl
@[simp] theorem State.setJrnl_crossing (s : State) (j : Jrnl) :
    (s.setJrnl j).crossing = s.crossing := rfl
@[simp] theorem State.setJrnl_rings (s : State) (j : Jrnl) :
    (s.setJrnl j).rings = s.rings := rfl
@[simp] theorem State.setJrnl_fetched (s : State) (j : Jrnl) :
    (s.setJrnl j).fetched = s.fetched := rfl
@[simp] theorem State.setJrnl_commits (s : State) (j : Jrnl) :
    (s.setJrnl j).commits = s.commits := rfl
@[simp] theorem State.setJrnl_expertWait (s : State) (j : Jrnl) :
    (s.setJrnl j).expertWait = s.expertWait := rfl
@[simp] theorem State.setJrnl_score (s : State) (j : Jrnl) :
    (s.setJrnl j).score = s.score := rfl
@[simp] theorem State.setJrnl_keys (s : State) (j : Jrnl) :
    (s.setJrnl j).keys = s.keys := rfl
@[simp] theorem State.setJrnl_sense (s : State) (j : Jrnl) :
    (s.setJrnl j).sense = s.sense := rfl
@[simp] theorem State.setJrnl_tune (s : State) (j : Jrnl) :
    (s.setJrnl j).tune = s.tune := rfl
@[simp] theorem State.setJrnl_intake (s : State) (j : Jrnl) :
    (s.setJrnl j).intake = s.intake := rfl
@[simp] theorem State.setJrnl_scan (s : State) (j : Jrnl) :
    (s.setJrnl j).scan = s.scan := rfl
@[simp] theorem State.setJrnl_pipe (s : State) (j : Jrnl) :
    (s.setJrnl j).pipe = s.pipe := rfl
@[simp] theorem State.setJrnl_stave (s : State) (j : Jrnl) :
    (s.setJrnl j).stave = s.stave := rfl
@[simp] theorem State.setJrnl_face (s : State) (j : Jrnl) :
    (s.setJrnl j).face = s.face := rfl
@[simp] theorem State.setJrnl_ens (s : State) (j : Jrnl) :
    (s.setJrnl j).ens = s.ens := rfl
@[simp] theorem State.setJrnl_pending (s : State) (j : Jrnl) :
    (s.setJrnl j).pending = s.pending := rfl
@[simp] theorem State.setScan_regs (s : State) (x : Scan) :
    (s.setScan x).regs = s.regs := rfl
@[simp] theorem State.setScan_force (s : State) (x : Scan) :
    (s.setScan x).force = s.force := rfl
@[simp] theorem State.setScan_metro (s : State) (x : Scan) :
    (s.setScan x).metro = s.metro := rfl
@[simp] theorem State.setScan_edge (s : State) (x : Scan) :
    (s.setScan x).edge = s.edge := rfl
@[simp] theorem State.setScan_hall (s : State) (x : Scan) :
    (s.setScan x).hall = s.hall := rfl
@[simp] theorem State.setScan_banks (s : State) (x : Scan) :
    (s.setScan x).banks = s.banks := rfl
@[simp] theorem State.setScan_hallGen (s : State) (x : Scan) :
    (s.setScan x).hallGen = s.hallGen := rfl
@[simp] theorem State.setScan_ao (s : State) (x : Scan) :
    (s.setScan x).ao = s.ao := rfl
@[simp] theorem State.setScan_flash (s : State) (x : Scan) :
    (s.setScan x).flash = s.flash := rfl
@[simp] theorem State.setScan_fuses (s : State) (x : Scan) :
    (s.setScan x).fuses = s.fuses := rfl
@[simp] theorem State.setScan_free (s : State) (x : Scan) :
    (s.setScan x).free = s.free := rfl
@[simp] theorem State.setScan_pins (s : State) (x : Scan) :
    (s.setScan x).pins = s.pins := rfl
@[simp] theorem State.setScan_tap (s : State) (x : Scan) :
    (s.setScan x).tap = s.tap := rfl
@[simp] theorem State.setScan_flags (s : State) (x : Scan) :
    (s.setScan x).flags = s.flags := rfl
@[simp] theorem State.setScan_ladder (s : State) (x : Scan) :
    (s.setScan x).ladder = s.ladder := rfl
@[simp] theorem State.setScan_boot (s : State) (x : Scan) :
    (s.setScan x).boot = s.boot := rfl
@[simp] theorem State.setScan_portA (s : State) (x : Scan) :
    (s.setScan x).portA = s.portA := rfl
@[simp] theorem State.setScan_portB (s : State) (x : Scan) :
    (s.setScan x).portB = s.portB := rfl
@[simp] theorem State.setScan_crossing (s : State) (x : Scan) :
    (s.setScan x).crossing = s.crossing := rfl
@[simp] theorem State.setScan_rings (s : State) (x : Scan) :
    (s.setScan x).rings = s.rings := rfl
@[simp] theorem State.setScan_fetched (s : State) (x : Scan) :
    (s.setScan x).fetched = s.fetched := rfl
@[simp] theorem State.setScan_commits (s : State) (x : Scan) :
    (s.setScan x).commits = s.commits := rfl
@[simp] theorem State.setScan_expertWait (s : State) (x : Scan) :
    (s.setScan x).expertWait = s.expertWait := rfl
@[simp] theorem State.setScan_score (s : State) (x : Scan) :
    (s.setScan x).score = s.score := rfl
@[simp] theorem State.setScan_keys (s : State) (x : Scan) :
    (s.setScan x).keys = s.keys := rfl
@[simp] theorem State.setScan_sense (s : State) (x : Scan) :
    (s.setScan x).sense = s.sense := rfl
@[simp] theorem State.setScan_tune (s : State) (x : Scan) :
    (s.setScan x).tune = s.tune := rfl
@[simp] theorem State.setScan_jrnl (s : State) (x : Scan) :
    (s.setScan x).jrnl = s.jrnl := rfl
@[simp] theorem State.setScan_intake (s : State) (x : Scan) :
    (s.setScan x).intake = s.intake := rfl
@[simp] theorem State.setScan_pipe (s : State) (x : Scan) :
    (s.setScan x).pipe = s.pipe := rfl
@[simp] theorem State.setScan_stave (s : State) (x : Scan) :
    (s.setScan x).stave = s.stave := rfl
@[simp] theorem State.setScan_face (s : State) (x : Scan) :
    (s.setScan x).face = s.face := rfl
@[simp] theorem State.setScan_ens (s : State) (x : Scan) :
    (s.setScan x).ens = s.ens := rfl
@[simp] theorem State.setScan_pending (s : State) (x : Scan) :
    (s.setScan x).pending = s.pending := rfl
@[simp] theorem State.setStave_regs (s : State) (x : Stave) :
    (s.setStave x).regs = s.regs := rfl
@[simp] theorem State.setStave_force (s : State) (x : Stave) :
    (s.setStave x).force = s.force := rfl
@[simp] theorem State.setStave_metro (s : State) (x : Stave) :
    (s.setStave x).metro = s.metro := rfl
@[simp] theorem State.setStave_edge (s : State) (x : Stave) :
    (s.setStave x).edge = s.edge := rfl
@[simp] theorem State.setStave_hall (s : State) (x : Stave) :
    (s.setStave x).hall = s.hall := rfl
@[simp] theorem State.setStave_banks (s : State) (x : Stave) :
    (s.setStave x).banks = s.banks := rfl
@[simp] theorem State.setStave_hallGen (s : State) (x : Stave) :
    (s.setStave x).hallGen = s.hallGen := rfl
@[simp] theorem State.setStave_ao (s : State) (x : Stave) :
    (s.setStave x).ao = s.ao := rfl
@[simp] theorem State.setStave_flash (s : State) (x : Stave) :
    (s.setStave x).flash = s.flash := rfl
@[simp] theorem State.setStave_fuses (s : State) (x : Stave) :
    (s.setStave x).fuses = s.fuses := rfl
@[simp] theorem State.setStave_free (s : State) (x : Stave) :
    (s.setStave x).free = s.free := rfl
@[simp] theorem State.setStave_pins (s : State) (x : Stave) :
    (s.setStave x).pins = s.pins := rfl
@[simp] theorem State.setStave_tap (s : State) (x : Stave) :
    (s.setStave x).tap = s.tap := rfl
@[simp] theorem State.setStave_flags (s : State) (x : Stave) :
    (s.setStave x).flags = s.flags := rfl
@[simp] theorem State.setStave_ladder (s : State) (x : Stave) :
    (s.setStave x).ladder = s.ladder := rfl
@[simp] theorem State.setStave_boot (s : State) (x : Stave) :
    (s.setStave x).boot = s.boot := rfl
@[simp] theorem State.setStave_portA (s : State) (x : Stave) :
    (s.setStave x).portA = s.portA := rfl
@[simp] theorem State.setStave_portB (s : State) (x : Stave) :
    (s.setStave x).portB = s.portB := rfl
@[simp] theorem State.setStave_crossing (s : State) (x : Stave) :
    (s.setStave x).crossing = s.crossing := rfl
@[simp] theorem State.setStave_rings (s : State) (x : Stave) :
    (s.setStave x).rings = s.rings := rfl
@[simp] theorem State.setStave_fetched (s : State) (x : Stave) :
    (s.setStave x).fetched = s.fetched := rfl
@[simp] theorem State.setStave_commits (s : State) (x : Stave) :
    (s.setStave x).commits = s.commits := rfl
@[simp] theorem State.setStave_expertWait (s : State) (x : Stave) :
    (s.setStave x).expertWait = s.expertWait := rfl
@[simp] theorem State.setStave_score (s : State) (x : Stave) :
    (s.setStave x).score = s.score := rfl
@[simp] theorem State.setStave_keys (s : State) (x : Stave) :
    (s.setStave x).keys = s.keys := rfl
@[simp] theorem State.setStave_sense (s : State) (x : Stave) :
    (s.setStave x).sense = s.sense := rfl
@[simp] theorem State.setStave_tune (s : State) (x : Stave) :
    (s.setStave x).tune = s.tune := rfl
@[simp] theorem State.setStave_jrnl (s : State) (x : Stave) :
    (s.setStave x).jrnl = s.jrnl := rfl
@[simp] theorem State.setStave_intake (s : State) (x : Stave) :
    (s.setStave x).intake = s.intake := rfl
@[simp] theorem State.setStave_scan (s : State) (x : Stave) :
    (s.setStave x).scan = s.scan := rfl
@[simp] theorem State.setStave_pipe (s : State) (x : Stave) :
    (s.setStave x).pipe = s.pipe := rfl
@[simp] theorem State.setStave_face (s : State) (x : Stave) :
    (s.setStave x).face = s.face := rfl
@[simp] theorem State.setStave_ens (s : State) (x : Stave) :
    (s.setStave x).ens = s.ens := rfl
@[simp] theorem State.setStave_pending (s : State) (x : Stave) :
    (s.setStave x).pending = s.pending := rfl
@[simp] theorem State.setIntake_regs (s : State) (x : Intake) :
    (s.setIntake x).regs = s.regs := rfl
@[simp] theorem State.setIntake_force (s : State) (x : Intake) :
    (s.setIntake x).force = s.force := rfl
@[simp] theorem State.setIntake_metro (s : State) (x : Intake) :
    (s.setIntake x).metro = s.metro := rfl
@[simp] theorem State.setIntake_edge (s : State) (x : Intake) :
    (s.setIntake x).edge = s.edge := rfl
@[simp] theorem State.setIntake_hall (s : State) (x : Intake) :
    (s.setIntake x).hall = s.hall := rfl
@[simp] theorem State.setIntake_banks (s : State) (x : Intake) :
    (s.setIntake x).banks = s.banks := rfl
@[simp] theorem State.setIntake_hallGen (s : State) (x : Intake) :
    (s.setIntake x).hallGen = s.hallGen := rfl
@[simp] theorem State.setIntake_ao (s : State) (x : Intake) :
    (s.setIntake x).ao = s.ao := rfl
@[simp] theorem State.setIntake_flash (s : State) (x : Intake) :
    (s.setIntake x).flash = s.flash := rfl
@[simp] theorem State.setIntake_fuses (s : State) (x : Intake) :
    (s.setIntake x).fuses = s.fuses := rfl
@[simp] theorem State.setIntake_free (s : State) (x : Intake) :
    (s.setIntake x).free = s.free := rfl
@[simp] theorem State.setIntake_pins (s : State) (x : Intake) :
    (s.setIntake x).pins = s.pins := rfl
@[simp] theorem State.setIntake_tap (s : State) (x : Intake) :
    (s.setIntake x).tap = s.tap := rfl
@[simp] theorem State.setIntake_flags (s : State) (x : Intake) :
    (s.setIntake x).flags = s.flags := rfl
@[simp] theorem State.setIntake_ladder (s : State) (x : Intake) :
    (s.setIntake x).ladder = s.ladder := rfl
@[simp] theorem State.setIntake_boot (s : State) (x : Intake) :
    (s.setIntake x).boot = s.boot := rfl
@[simp] theorem State.setIntake_portA (s : State) (x : Intake) :
    (s.setIntake x).portA = s.portA := rfl
@[simp] theorem State.setIntake_portB (s : State) (x : Intake) :
    (s.setIntake x).portB = s.portB := rfl
@[simp] theorem State.setIntake_crossing (s : State) (x : Intake) :
    (s.setIntake x).crossing = s.crossing := rfl
@[simp] theorem State.setIntake_rings (s : State) (x : Intake) :
    (s.setIntake x).rings = s.rings := rfl
@[simp] theorem State.setIntake_fetched (s : State) (x : Intake) :
    (s.setIntake x).fetched = s.fetched := rfl
@[simp] theorem State.setIntake_commits (s : State) (x : Intake) :
    (s.setIntake x).commits = s.commits := rfl
@[simp] theorem State.setIntake_expertWait (s : State) (x : Intake) :
    (s.setIntake x).expertWait = s.expertWait := rfl
@[simp] theorem State.setIntake_score (s : State) (x : Intake) :
    (s.setIntake x).score = s.score := rfl
@[simp] theorem State.setIntake_keys (s : State) (x : Intake) :
    (s.setIntake x).keys = s.keys := rfl
@[simp] theorem State.setIntake_sense (s : State) (x : Intake) :
    (s.setIntake x).sense = s.sense := rfl
@[simp] theorem State.setIntake_tune (s : State) (x : Intake) :
    (s.setIntake x).tune = s.tune := rfl
@[simp] theorem State.setIntake_jrnl (s : State) (x : Intake) :
    (s.setIntake x).jrnl = s.jrnl := rfl
@[simp] theorem State.setIntake_scan (s : State) (x : Intake) :
    (s.setIntake x).scan = s.scan := rfl
@[simp] theorem State.setIntake_pipe (s : State) (x : Intake) :
    (s.setIntake x).pipe = s.pipe := rfl
@[simp] theorem State.setIntake_stave (s : State) (x : Intake) :
    (s.setIntake x).stave = s.stave := rfl
@[simp] theorem State.setIntake_face (s : State) (x : Intake) :
    (s.setIntake x).face = s.face := rfl
@[simp] theorem State.setIntake_ens (s : State) (x : Intake) :
    (s.setIntake x).ens = s.ens := rfl
@[simp] theorem State.setIntake_pending (s : State) (x : Intake) :
    (s.setIntake x).pending = s.pending := rfl
@[simp] theorem State.setFace_regs (s : State) (x : Face) :
    (s.setFace x).regs = s.regs := rfl
@[simp] theorem State.setFace_force (s : State) (x : Face) :
    (s.setFace x).force = s.force := rfl
@[simp] theorem State.setFace_metro (s : State) (x : Face) :
    (s.setFace x).metro = s.metro := rfl
@[simp] theorem State.setFace_edge (s : State) (x : Face) :
    (s.setFace x).edge = s.edge := rfl
@[simp] theorem State.setFace_hall (s : State) (x : Face) :
    (s.setFace x).hall = s.hall := rfl
@[simp] theorem State.setFace_banks (s : State) (x : Face) :
    (s.setFace x).banks = s.banks := rfl
@[simp] theorem State.setFace_hallGen (s : State) (x : Face) :
    (s.setFace x).hallGen = s.hallGen := rfl
@[simp] theorem State.setFace_ao (s : State) (x : Face) :
    (s.setFace x).ao = s.ao := rfl
@[simp] theorem State.setFace_flash (s : State) (x : Face) :
    (s.setFace x).flash = s.flash := rfl
@[simp] theorem State.setFace_fuses (s : State) (x : Face) :
    (s.setFace x).fuses = s.fuses := rfl
@[simp] theorem State.setFace_free (s : State) (x : Face) :
    (s.setFace x).free = s.free := rfl
@[simp] theorem State.setFace_pins (s : State) (x : Face) :
    (s.setFace x).pins = s.pins := rfl
@[simp] theorem State.setFace_tap (s : State) (x : Face) :
    (s.setFace x).tap = s.tap := rfl
@[simp] theorem State.setFace_flags (s : State) (x : Face) :
    (s.setFace x).flags = s.flags := rfl
@[simp] theorem State.setFace_ladder (s : State) (x : Face) :
    (s.setFace x).ladder = s.ladder := rfl
@[simp] theorem State.setFace_boot (s : State) (x : Face) :
    (s.setFace x).boot = s.boot := rfl
@[simp] theorem State.setFace_portA (s : State) (x : Face) :
    (s.setFace x).portA = s.portA := rfl
@[simp] theorem State.setFace_portB (s : State) (x : Face) :
    (s.setFace x).portB = s.portB := rfl
@[simp] theorem State.setFace_crossing (s : State) (x : Face) :
    (s.setFace x).crossing = s.crossing := rfl
@[simp] theorem State.setFace_rings (s : State) (x : Face) :
    (s.setFace x).rings = s.rings := rfl
@[simp] theorem State.setFace_fetched (s : State) (x : Face) :
    (s.setFace x).fetched = s.fetched := rfl
@[simp] theorem State.setFace_commits (s : State) (x : Face) :
    (s.setFace x).commits = s.commits := rfl
@[simp] theorem State.setFace_expertWait (s : State) (x : Face) :
    (s.setFace x).expertWait = s.expertWait := rfl
@[simp] theorem State.setFace_score (s : State) (x : Face) :
    (s.setFace x).score = s.score := rfl
@[simp] theorem State.setFace_keys (s : State) (x : Face) :
    (s.setFace x).keys = s.keys := rfl
@[simp] theorem State.setFace_sense (s : State) (x : Face) :
    (s.setFace x).sense = s.sense := rfl
@[simp] theorem State.setFace_tune (s : State) (x : Face) :
    (s.setFace x).tune = s.tune := rfl
@[simp] theorem State.setFace_jrnl (s : State) (x : Face) :
    (s.setFace x).jrnl = s.jrnl := rfl
@[simp] theorem State.setFace_intake (s : State) (x : Face) :
    (s.setFace x).intake = s.intake := rfl
@[simp] theorem State.setFace_scan (s : State) (x : Face) :
    (s.setFace x).scan = s.scan := rfl
@[simp] theorem State.setFace_pipe (s : State) (x : Face) :
    (s.setFace x).pipe = s.pipe := rfl
@[simp] theorem State.setFace_stave (s : State) (x : Face) :
    (s.setFace x).stave = s.stave := rfl
@[simp] theorem State.setFace_ens (s : State) (x : Face) :
    (s.setFace x).ens = s.ens := rfl
@[simp] theorem State.setFace_pending (s : State) (x : Face) :
    (s.setFace x).pending = s.pending := rfl
@[simp] theorem State.setEns_regs (s : State) (e : Ens) :
    (s.setEns e).regs = s.regs := rfl
@[simp] theorem State.setEns_force (s : State) (e : Ens) :
    (s.setEns e).force = s.force := rfl
@[simp] theorem State.setEns_metro (s : State) (e : Ens) :
    (s.setEns e).metro = s.metro := rfl
@[simp] theorem State.setEns_edge (s : State) (e : Ens) :
    (s.setEns e).edge = s.edge := rfl
@[simp] theorem State.setEns_hall (s : State) (e : Ens) :
    (s.setEns e).hall = s.hall := rfl
@[simp] theorem State.setEns_banks (s : State) (e : Ens) :
    (s.setEns e).banks = s.banks := rfl
@[simp] theorem State.setEns_hallGen (s : State) (e : Ens) :
    (s.setEns e).hallGen = s.hallGen := rfl
@[simp] theorem State.setEns_ao (s : State) (e : Ens) :
    (s.setEns e).ao = s.ao := rfl
@[simp] theorem State.setEns_flash (s : State) (e : Ens) :
    (s.setEns e).flash = s.flash := rfl
@[simp] theorem State.setEns_fuses (s : State) (e : Ens) :
    (s.setEns e).fuses = s.fuses := rfl
@[simp] theorem State.setEns_free (s : State) (e : Ens) :
    (s.setEns e).free = s.free := rfl
@[simp] theorem State.setEns_pins (s : State) (e : Ens) :
    (s.setEns e).pins = s.pins := rfl
@[simp] theorem State.setEns_tap (s : State) (e : Ens) :
    (s.setEns e).tap = s.tap := rfl
@[simp] theorem State.setEns_flags (s : State) (e : Ens) :
    (s.setEns e).flags = s.flags := rfl
@[simp] theorem State.setEns_ladder (s : State) (e : Ens) :
    (s.setEns e).ladder = s.ladder := rfl
@[simp] theorem State.setEns_boot (s : State) (e : Ens) :
    (s.setEns e).boot = s.boot := rfl
@[simp] theorem State.setEns_portA (s : State) (e : Ens) :
    (s.setEns e).portA = s.portA := rfl
@[simp] theorem State.setEns_portB (s : State) (e : Ens) :
    (s.setEns e).portB = s.portB := rfl
@[simp] theorem State.setEns_crossing (s : State) (e : Ens) :
    (s.setEns e).crossing = s.crossing := rfl
@[simp] theorem State.setEns_rings (s : State) (e : Ens) :
    (s.setEns e).rings = s.rings := rfl
@[simp] theorem State.setEns_fetched (s : State) (e : Ens) :
    (s.setEns e).fetched = s.fetched := rfl
@[simp] theorem State.setEns_commits (s : State) (e : Ens) :
    (s.setEns e).commits = s.commits := rfl
@[simp] theorem State.setEns_expertWait (s : State) (e : Ens) :
    (s.setEns e).expertWait = s.expertWait := rfl
@[simp] theorem State.setEns_score (s : State) (e : Ens) :
    (s.setEns e).score = s.score := rfl
@[simp] theorem State.setEns_keys (s : State) (e : Ens) :
    (s.setEns e).keys = s.keys := rfl
@[simp] theorem State.setEns_sense (s : State) (e : Ens) :
    (s.setEns e).sense = s.sense := rfl
@[simp] theorem State.setEns_tune (s : State) (e : Ens) :
    (s.setEns e).tune = s.tune := rfl
@[simp] theorem State.setEns_jrnl (s : State) (e : Ens) :
    (s.setEns e).jrnl = s.jrnl := rfl
@[simp] theorem State.setEns_intake (s : State) (e : Ens) :
    (s.setEns e).intake = s.intake := rfl
@[simp] theorem State.setEns_scan (s : State) (e : Ens) :
    (s.setEns e).scan = s.scan := rfl
@[simp] theorem State.setEns_pipe (s : State) (e : Ens) :
    (s.setEns e).pipe = s.pipe := rfl
@[simp] theorem State.setEns_stave (s : State) (e : Ens) :
    (s.setEns e).stave = s.stave := rfl
@[simp] theorem State.setEns_face (s : State) (e : Ens) :
    (s.setEns e).face = s.face := rfl
@[simp] theorem State.setEns_pending (s : State) (e : Ens) :
    (s.setEns e).pending = s.pending := rfl
@[simp] theorem State.setDesk_regs (s : State) (d : Nat) (u : DeskUse) :
    (s.setDesk d u).regs = s.regs := rfl
@[simp] theorem State.setDesk_force (s : State) (d : Nat) (u : DeskUse) :
    (s.setDesk d u).force = s.force := rfl
@[simp] theorem State.setDesk_metro (s : State) (d : Nat) (u : DeskUse) :
    (s.setDesk d u).metro = s.metro := rfl
@[simp] theorem State.setDesk_edge (s : State) (d : Nat) (u : DeskUse) :
    (s.setDesk d u).edge = s.edge := rfl
@[simp] theorem State.setDesk_hall (s : State) (d : Nat) (u : DeskUse) :
    (s.setDesk d u).hall = s.hall := rfl
@[simp] theorem State.setDesk_banks (s : State) (d : Nat) (u : DeskUse) :
    (s.setDesk d u).banks = s.banks := rfl
@[simp] theorem State.setDesk_hallGen (s : State) (d : Nat) (u : DeskUse) :
    (s.setDesk d u).hallGen = s.hallGen := rfl
@[simp] theorem State.setDesk_ao (s : State) (d : Nat) (u : DeskUse) :
    (s.setDesk d u).ao = s.ao := rfl
@[simp] theorem State.setDesk_flash (s : State) (d : Nat) (u : DeskUse) :
    (s.setDesk d u).flash = s.flash := rfl
@[simp] theorem State.setDesk_fuses (s : State) (d : Nat) (u : DeskUse) :
    (s.setDesk d u).fuses = s.fuses := rfl
@[simp] theorem State.setDesk_free (s : State) (d : Nat) (u : DeskUse) :
    (s.setDesk d u).free = s.free := rfl
@[simp] theorem State.setDesk_pins (s : State) (d : Nat) (u : DeskUse) :
    (s.setDesk d u).pins = s.pins := rfl
@[simp] theorem State.setDesk_tap (s : State) (d : Nat) (u : DeskUse) :
    (s.setDesk d u).tap = s.tap := rfl
@[simp] theorem State.setDesk_flags (s : State) (d : Nat) (u : DeskUse) :
    (s.setDesk d u).flags = s.flags := rfl
@[simp] theorem State.setDesk_ladder (s : State) (d : Nat) (u : DeskUse) :
    (s.setDesk d u).ladder = s.ladder := rfl
@[simp] theorem State.setDesk_boot (s : State) (d : Nat) (u : DeskUse) :
    (s.setDesk d u).boot = s.boot := rfl
@[simp] theorem State.setDesk_portA (s : State) (d : Nat) (u : DeskUse) :
    (s.setDesk d u).portA = s.portA := rfl
@[simp] theorem State.setDesk_portB (s : State) (d : Nat) (u : DeskUse) :
    (s.setDesk d u).portB = s.portB := rfl
@[simp] theorem State.setDesk_crossing (s : State) (d : Nat) (u : DeskUse) :
    (s.setDesk d u).crossing = s.crossing := rfl
@[simp] theorem State.setDesk_rings (s : State) (d : Nat) (u : DeskUse) :
    (s.setDesk d u).rings = s.rings := rfl
@[simp] theorem State.setDesk_fetched (s : State) (d : Nat) (u : DeskUse) :
    (s.setDesk d u).fetched = s.fetched := rfl
@[simp] theorem State.setDesk_commits (s : State) (d : Nat) (u : DeskUse) :
    (s.setDesk d u).commits = s.commits := rfl
@[simp] theorem State.setDesk_expertWait (s : State) (d : Nat) (u : DeskUse) :
    (s.setDesk d u).expertWait = s.expertWait := rfl
@[simp] theorem State.setDesk_score (s : State) (d : Nat) (u : DeskUse) :
    (s.setDesk d u).score = s.score := rfl
@[simp] theorem State.setDesk_keys (s : State) (d : Nat) (u : DeskUse) :
    (s.setDesk d u).keys = s.keys := rfl
@[simp] theorem State.setDesk_sense (s : State) (d : Nat) (u : DeskUse) :
    (s.setDesk d u).sense = s.sense := rfl
@[simp] theorem State.setDesk_tune (s : State) (d : Nat) (u : DeskUse) :
    (s.setDesk d u).tune = s.tune := rfl
@[simp] theorem State.setDesk_jrnl (s : State) (d : Nat) (u : DeskUse) :
    (s.setDesk d u).jrnl = s.jrnl := rfl
@[simp] theorem State.setDesk_intake (s : State) (d : Nat) (u : DeskUse) :
    (s.setDesk d u).intake = s.intake := rfl
@[simp] theorem State.setDesk_scan (s : State) (d : Nat) (u : DeskUse) :
    (s.setDesk d u).scan = s.scan := rfl
@[simp] theorem State.setDesk_pipe (s : State) (d : Nat) (u : DeskUse) :
    (s.setDesk d u).pipe = s.pipe := rfl
@[simp] theorem State.setDesk_stave (s : State) (d : Nat) (u : DeskUse) :
    (s.setDesk d u).stave = s.stave := rfl
@[simp] theorem State.setDesk_face (s : State) (d : Nat) (u : DeskUse) :
    (s.setDesk d u).face = s.face := rfl
@[simp] theorem State.setDesk_pending (s : State) (d : Nat) (u : DeskUse) :
    (s.setDesk d u).pending = s.pending := rfl
@[simp] theorem State.setItem_regs (s : State) (n : Nat) (v : TuneItem) :
    (s.setItem n v).regs = s.regs := rfl
@[simp] theorem State.setItem_force (s : State) (n : Nat) (v : TuneItem) :
    (s.setItem n v).force = s.force := rfl
@[simp] theorem State.setItem_metro (s : State) (n : Nat) (v : TuneItem) :
    (s.setItem n v).metro = s.metro := rfl
@[simp] theorem State.setItem_edge (s : State) (n : Nat) (v : TuneItem) :
    (s.setItem n v).edge = s.edge := rfl
@[simp] theorem State.setItem_hall (s : State) (n : Nat) (v : TuneItem) :
    (s.setItem n v).hall = s.hall := rfl
@[simp] theorem State.setItem_banks (s : State) (n : Nat) (v : TuneItem) :
    (s.setItem n v).banks = s.banks := rfl
@[simp] theorem State.setItem_hallGen (s : State) (n : Nat) (v : TuneItem) :
    (s.setItem n v).hallGen = s.hallGen := rfl
@[simp] theorem State.setItem_ao (s : State) (n : Nat) (v : TuneItem) :
    (s.setItem n v).ao = s.ao := rfl
@[simp] theorem State.setItem_flash (s : State) (n : Nat) (v : TuneItem) :
    (s.setItem n v).flash = s.flash := rfl
@[simp] theorem State.setItem_fuses (s : State) (n : Nat) (v : TuneItem) :
    (s.setItem n v).fuses = s.fuses := rfl
@[simp] theorem State.setItem_free (s : State) (n : Nat) (v : TuneItem) :
    (s.setItem n v).free = s.free := rfl
@[simp] theorem State.setItem_pins (s : State) (n : Nat) (v : TuneItem) :
    (s.setItem n v).pins = s.pins := rfl
@[simp] theorem State.setItem_tap (s : State) (n : Nat) (v : TuneItem) :
    (s.setItem n v).tap = s.tap := rfl
@[simp] theorem State.setItem_flags (s : State) (n : Nat) (v : TuneItem) :
    (s.setItem n v).flags = s.flags := rfl
@[simp] theorem State.setItem_ladder (s : State) (n : Nat) (v : TuneItem) :
    (s.setItem n v).ladder = s.ladder := rfl
@[simp] theorem State.setItem_boot (s : State) (n : Nat) (v : TuneItem) :
    (s.setItem n v).boot = s.boot := rfl
@[simp] theorem State.setItem_portA (s : State) (n : Nat) (v : TuneItem) :
    (s.setItem n v).portA = s.portA := rfl
@[simp] theorem State.setItem_portB (s : State) (n : Nat) (v : TuneItem) :
    (s.setItem n v).portB = s.portB := rfl
@[simp] theorem State.setItem_crossing (s : State) (n : Nat) (v : TuneItem) :
    (s.setItem n v).crossing = s.crossing := rfl
@[simp] theorem State.setItem_rings (s : State) (n : Nat) (v : TuneItem) :
    (s.setItem n v).rings = s.rings := rfl
@[simp] theorem State.setItem_fetched (s : State) (n : Nat) (v : TuneItem) :
    (s.setItem n v).fetched = s.fetched := rfl
@[simp] theorem State.setItem_commits (s : State) (n : Nat) (v : TuneItem) :
    (s.setItem n v).commits = s.commits := rfl
@[simp] theorem State.setItem_expertWait (s : State) (n : Nat) (v : TuneItem) :
    (s.setItem n v).expertWait = s.expertWait := rfl
@[simp] theorem State.setItem_score (s : State) (n : Nat) (v : TuneItem) :
    (s.setItem n v).score = s.score := rfl
@[simp] theorem State.setItem_keys (s : State) (n : Nat) (v : TuneItem) :
    (s.setItem n v).keys = s.keys := rfl
@[simp] theorem State.setItem_sense (s : State) (n : Nat) (v : TuneItem) :
    (s.setItem n v).sense = s.sense := rfl
@[simp] theorem State.setItem_jrnl (s : State) (n : Nat) (v : TuneItem) :
    (s.setItem n v).jrnl = s.jrnl := rfl
@[simp] theorem State.setItem_intake (s : State) (n : Nat) (v : TuneItem) :
    (s.setItem n v).intake = s.intake := rfl
@[simp] theorem State.setItem_scan (s : State) (n : Nat) (v : TuneItem) :
    (s.setItem n v).scan = s.scan := rfl
@[simp] theorem State.setItem_pipe (s : State) (n : Nat) (v : TuneItem) :
    (s.setItem n v).pipe = s.pipe := rfl
@[simp] theorem State.setItem_stave (s : State) (n : Nat) (v : TuneItem) :
    (s.setItem n v).stave = s.stave := rfl
@[simp] theorem State.setItem_face (s : State) (n : Nat) (v : TuneItem) :
    (s.setItem n v).face = s.face := rfl
@[simp] theorem State.setItem_ens (s : State) (n : Nat) (v : TuneItem) :
    (s.setItem n v).ens = s.ens := rfl
@[simp] theorem State.setItem_pending (s : State) (n : Nat) (v : TuneItem) :
    (s.setItem n v).pending = s.pending := rfl
@[simp] theorem State.setSense_regs (s : State) (x : Sense) :
    (s.setSense x).regs = s.regs := rfl
@[simp] theorem State.setSense_force (s : State) (x : Sense) :
    (s.setSense x).force = s.force := rfl
@[simp] theorem State.setSense_metro (s : State) (x : Sense) :
    (s.setSense x).metro = s.metro := rfl
@[simp] theorem State.setSense_edge (s : State) (x : Sense) :
    (s.setSense x).edge = s.edge := rfl
@[simp] theorem State.setSense_hall (s : State) (x : Sense) :
    (s.setSense x).hall = s.hall := rfl
@[simp] theorem State.setSense_banks (s : State) (x : Sense) :
    (s.setSense x).banks = s.banks := rfl
@[simp] theorem State.setSense_hallGen (s : State) (x : Sense) :
    (s.setSense x).hallGen = s.hallGen := rfl
@[simp] theorem State.setSense_ao (s : State) (x : Sense) :
    (s.setSense x).ao = s.ao := rfl
@[simp] theorem State.setSense_flash (s : State) (x : Sense) :
    (s.setSense x).flash = s.flash := rfl
@[simp] theorem State.setSense_fuses (s : State) (x : Sense) :
    (s.setSense x).fuses = s.fuses := rfl
@[simp] theorem State.setSense_free (s : State) (x : Sense) :
    (s.setSense x).free = s.free := rfl
@[simp] theorem State.setSense_pins (s : State) (x : Sense) :
    (s.setSense x).pins = s.pins := rfl
@[simp] theorem State.setSense_tap (s : State) (x : Sense) :
    (s.setSense x).tap = s.tap := rfl
@[simp] theorem State.setSense_flags (s : State) (x : Sense) :
    (s.setSense x).flags = s.flags := rfl
@[simp] theorem State.setSense_ladder (s : State) (x : Sense) :
    (s.setSense x).ladder = s.ladder := rfl
@[simp] theorem State.setSense_boot (s : State) (x : Sense) :
    (s.setSense x).boot = s.boot := rfl
@[simp] theorem State.setSense_portA (s : State) (x : Sense) :
    (s.setSense x).portA = s.portA := rfl
@[simp] theorem State.setSense_portB (s : State) (x : Sense) :
    (s.setSense x).portB = s.portB := rfl
@[simp] theorem State.setSense_crossing (s : State) (x : Sense) :
    (s.setSense x).crossing = s.crossing := rfl
@[simp] theorem State.setSense_rings (s : State) (x : Sense) :
    (s.setSense x).rings = s.rings := rfl
@[simp] theorem State.setSense_fetched (s : State) (x : Sense) :
    (s.setSense x).fetched = s.fetched := rfl
@[simp] theorem State.setSense_commits (s : State) (x : Sense) :
    (s.setSense x).commits = s.commits := rfl
@[simp] theorem State.setSense_expertWait (s : State) (x : Sense) :
    (s.setSense x).expertWait = s.expertWait := rfl
@[simp] theorem State.setSense_score (s : State) (x : Sense) :
    (s.setSense x).score = s.score := rfl
@[simp] theorem State.setSense_keys (s : State) (x : Sense) :
    (s.setSense x).keys = s.keys := rfl
@[simp] theorem State.setSense_tune (s : State) (x : Sense) :
    (s.setSense x).tune = s.tune := rfl
@[simp] theorem State.setSense_jrnl (s : State) (x : Sense) :
    (s.setSense x).jrnl = s.jrnl := rfl
@[simp] theorem State.setSense_intake (s : State) (x : Sense) :
    (s.setSense x).intake = s.intake := rfl
@[simp] theorem State.setSense_scan (s : State) (x : Sense) :
    (s.setSense x).scan = s.scan := rfl
@[simp] theorem State.setSense_pipe (s : State) (x : Sense) :
    (s.setSense x).pipe = s.pipe := rfl
@[simp] theorem State.setSense_stave (s : State) (x : Sense) :
    (s.setSense x).stave = s.stave := rfl
@[simp] theorem State.setSense_face (s : State) (x : Sense) :
    (s.setSense x).face = s.face := rfl
@[simp] theorem State.setSense_ens (s : State) (x : Sense) :
    (s.setSense x).ens = s.ens := rfl
@[simp] theorem State.setSense_pending (s : State) (x : Sense) :
    (s.setSense x).pending = s.pending := rfl
@[simp] theorem State.setPending_force (s : State) (page : Nat) (b : Bool) :
    (s.setPending page b).force = s.force := rfl
@[simp] theorem State.setPending_metro (s : State) (page : Nat) (b : Bool) :
    (s.setPending page b).metro = s.metro := rfl
@[simp] theorem State.setPending_edge (s : State) (page : Nat) (b : Bool) :
    (s.setPending page b).edge = s.edge := rfl
@[simp] theorem State.setPending_hall (s : State) (page : Nat) (b : Bool) :
    (s.setPending page b).hall = s.hall := rfl
@[simp] theorem State.setPending_banks (s : State) (page : Nat) (b : Bool) :
    (s.setPending page b).banks = s.banks := rfl
@[simp] theorem State.setPending_hallGen (s : State) (page : Nat) (b : Bool) :
    (s.setPending page b).hallGen = s.hallGen := rfl
@[simp] theorem State.setPending_ao (s : State) (page : Nat) (b : Bool) :
    (s.setPending page b).ao = s.ao := rfl
@[simp] theorem State.setPending_flash (s : State) (page : Nat) (b : Bool) :
    (s.setPending page b).flash = s.flash := rfl
@[simp] theorem State.setPending_fuses (s : State) (page : Nat) (b : Bool) :
    (s.setPending page b).fuses = s.fuses := rfl
@[simp] theorem State.setPending_free (s : State) (page : Nat) (b : Bool) :
    (s.setPending page b).free = s.free := rfl
@[simp] theorem State.setPending_pins (s : State) (page : Nat) (b : Bool) :
    (s.setPending page b).pins = s.pins := rfl
@[simp] theorem State.setPending_tap (s : State) (page : Nat) (b : Bool) :
    (s.setPending page b).tap = s.tap := rfl
@[simp] theorem State.setPending_flags (s : State) (page : Nat) (b : Bool) :
    (s.setPending page b).flags = s.flags := rfl
@[simp] theorem State.setPending_ladder (s : State) (page : Nat) (b : Bool) :
    (s.setPending page b).ladder = s.ladder := rfl
@[simp] theorem State.setPending_boot (s : State) (page : Nat) (b : Bool) :
    (s.setPending page b).boot = s.boot := rfl
@[simp] theorem State.setPending_portA (s : State) (page : Nat) (b : Bool) :
    (s.setPending page b).portA = s.portA := rfl
@[simp] theorem State.setPending_portB (s : State) (page : Nat) (b : Bool) :
    (s.setPending page b).portB = s.portB := rfl
@[simp] theorem State.setPending_crossing (s : State) (page : Nat) (b : Bool) :
    (s.setPending page b).crossing = s.crossing := rfl
@[simp] theorem State.setPending_rings (s : State) (page : Nat) (b : Bool) :
    (s.setPending page b).rings = s.rings := rfl
@[simp] theorem State.setPending_fetched (s : State) (page : Nat) (b : Bool) :
    (s.setPending page b).fetched = s.fetched := rfl
@[simp] theorem State.setPending_commits (s : State) (page : Nat) (b : Bool) :
    (s.setPending page b).commits = s.commits := rfl
@[simp] theorem State.setPending_expertWait (s : State) (page : Nat) (b : Bool) :
    (s.setPending page b).expertWait = s.expertWait := rfl
@[simp] theorem State.setPending_score (s : State) (page : Nat) (b : Bool) :
    (s.setPending page b).score = s.score := rfl
@[simp] theorem State.setPending_keys (s : State) (page : Nat) (b : Bool) :
    (s.setPending page b).keys = s.keys := rfl
@[simp] theorem State.setPending_sense (s : State) (page : Nat) (b : Bool) :
    (s.setPending page b).sense = s.sense := rfl
@[simp] theorem State.setPending_tune (s : State) (page : Nat) (b : Bool) :
    (s.setPending page b).tune = s.tune := rfl
@[simp] theorem State.setPending_jrnl (s : State) (page : Nat) (b : Bool) :
    (s.setPending page b).jrnl = s.jrnl := rfl
@[simp] theorem State.setPending_intake (s : State) (page : Nat) (b : Bool) :
    (s.setPending page b).intake = s.intake := rfl
@[simp] theorem State.setPending_scan (s : State) (page : Nat) (b : Bool) :
    (s.setPending page b).scan = s.scan := rfl
@[simp] theorem State.setPending_pipe (s : State) (page : Nat) (b : Bool) :
    (s.setPending page b).pipe = s.pipe := rfl
@[simp] theorem State.setPending_stave (s : State) (page : Nat) (b : Bool) :
    (s.setPending page b).stave = s.stave := rfl
@[simp] theorem State.setPending_face (s : State) (page : Nat) (b : Bool) :
    (s.setPending page b).face = s.face := rfl
@[simp] theorem State.setPending_ens (s : State) (page : Nat) (b : Bool) :
    (s.setPending page b).ens = s.ens := rfl
@[simp] theorem State.setPending_pending (s : State) (page : Nat) (b : Bool) :
    (s.setPending page b).pending = s.pending := rfl
@[simp] theorem State.setRingPend_force (s : State) (r : Nat) (b : Bool) :
    (s.setRingPend r b).force = s.force := rfl
@[simp] theorem State.setRingPend_metro (s : State) (r : Nat) (b : Bool) :
    (s.setRingPend r b).metro = s.metro := rfl
@[simp] theorem State.setRingPend_edge (s : State) (r : Nat) (b : Bool) :
    (s.setRingPend r b).edge = s.edge := rfl
@[simp] theorem State.setRingPend_hall (s : State) (r : Nat) (b : Bool) :
    (s.setRingPend r b).hall = s.hall := rfl
@[simp] theorem State.setRingPend_banks (s : State) (r : Nat) (b : Bool) :
    (s.setRingPend r b).banks = s.banks := rfl
@[simp] theorem State.setRingPend_hallGen (s : State) (r : Nat) (b : Bool) :
    (s.setRingPend r b).hallGen = s.hallGen := rfl
@[simp] theorem State.setRingPend_ao (s : State) (r : Nat) (b : Bool) :
    (s.setRingPend r b).ao = s.ao := rfl
@[simp] theorem State.setRingPend_flash (s : State) (r : Nat) (b : Bool) :
    (s.setRingPend r b).flash = s.flash := rfl
@[simp] theorem State.setRingPend_fuses (s : State) (r : Nat) (b : Bool) :
    (s.setRingPend r b).fuses = s.fuses := rfl
@[simp] theorem State.setRingPend_free (s : State) (r : Nat) (b : Bool) :
    (s.setRingPend r b).free = s.free := rfl
@[simp] theorem State.setRingPend_pins (s : State) (r : Nat) (b : Bool) :
    (s.setRingPend r b).pins = s.pins := rfl
@[simp] theorem State.setRingPend_tap (s : State) (r : Nat) (b : Bool) :
    (s.setRingPend r b).tap = s.tap := rfl
@[simp] theorem State.setRingPend_flags (s : State) (r : Nat) (b : Bool) :
    (s.setRingPend r b).flags = s.flags := rfl
@[simp] theorem State.setRingPend_ladder (s : State) (r : Nat) (b : Bool) :
    (s.setRingPend r b).ladder = s.ladder := rfl
@[simp] theorem State.setRingPend_boot (s : State) (r : Nat) (b : Bool) :
    (s.setRingPend r b).boot = s.boot := rfl
@[simp] theorem State.setRingPend_portA (s : State) (r : Nat) (b : Bool) :
    (s.setRingPend r b).portA = s.portA := rfl
@[simp] theorem State.setRingPend_portB (s : State) (r : Nat) (b : Bool) :
    (s.setRingPend r b).portB = s.portB := rfl
@[simp] theorem State.setRingPend_crossing (s : State) (r : Nat) (b : Bool) :
    (s.setRingPend r b).crossing = s.crossing := rfl
@[simp] theorem State.setRingPend_rings (s : State) (r : Nat) (b : Bool) :
    (s.setRingPend r b).rings = s.rings := rfl
@[simp] theorem State.setRingPend_fetched (s : State) (r : Nat) (b : Bool) :
    (s.setRingPend r b).fetched = s.fetched := rfl
@[simp] theorem State.setRingPend_commits (s : State) (r : Nat) (b : Bool) :
    (s.setRingPend r b).commits = s.commits := rfl
@[simp] theorem State.setRingPend_expertWait (s : State) (r : Nat) (b : Bool) :
    (s.setRingPend r b).expertWait = s.expertWait := rfl
@[simp] theorem State.setRingPend_score (s : State) (r : Nat) (b : Bool) :
    (s.setRingPend r b).score = s.score := rfl
@[simp] theorem State.setRingPend_keys (s : State) (r : Nat) (b : Bool) :
    (s.setRingPend r b).keys = s.keys := rfl
@[simp] theorem State.setRingPend_sense (s : State) (r : Nat) (b : Bool) :
    (s.setRingPend r b).sense = s.sense := rfl
@[simp] theorem State.setRingPend_tune (s : State) (r : Nat) (b : Bool) :
    (s.setRingPend r b).tune = s.tune := rfl
@[simp] theorem State.setRingPend_jrnl (s : State) (r : Nat) (b : Bool) :
    (s.setRingPend r b).jrnl = s.jrnl := rfl
@[simp] theorem State.setRingPend_intake (s : State) (r : Nat) (b : Bool) :
    (s.setRingPend r b).intake = s.intake := rfl
@[simp] theorem State.setRingPend_scan (s : State) (r : Nat) (b : Bool) :
    (s.setRingPend r b).scan = s.scan := rfl
@[simp] theorem State.setRingPend_pipe (s : State) (r : Nat) (b : Bool) :
    (s.setRingPend r b).pipe = s.pipe := rfl
@[simp] theorem State.setRingPend_stave (s : State) (r : Nat) (b : Bool) :
    (s.setRingPend r b).stave = s.stave := rfl
@[simp] theorem State.setRingPend_face (s : State) (r : Nat) (b : Bool) :
    (s.setRingPend r b).face = s.face := rfl
@[simp] theorem State.setRingPend_ens (s : State) (r : Nat) (b : Bool) :
    (s.setRingPend r b).ens = s.ens := rfl
@[simp] theorem State.setRingPend_pending (s : State) (r : Nat) (b : Bool) :
    (s.setRingPend r b).pending = s.pending := rfl
@[simp] theorem State.await_regs (s : State) (v : Verb) (w : Wait) (timeout : Nat) :
    (s.await v w timeout).regs = s.regs := rfl
@[simp] theorem State.await_force (s : State) (v : Verb) (w : Wait) (timeout : Nat) :
    (s.await v w timeout).force = s.force := rfl
@[simp] theorem State.await_metro (s : State) (v : Verb) (w : Wait) (timeout : Nat) :
    (s.await v w timeout).metro = s.metro := rfl
@[simp] theorem State.await_edge (s : State) (v : Verb) (w : Wait) (timeout : Nat) :
    (s.await v w timeout).edge = s.edge := rfl
@[simp] theorem State.await_hall (s : State) (v : Verb) (w : Wait) (timeout : Nat) :
    (s.await v w timeout).hall = s.hall := rfl
@[simp] theorem State.await_banks (s : State) (v : Verb) (w : Wait) (timeout : Nat) :
    (s.await v w timeout).banks = s.banks := rfl
@[simp] theorem State.await_hallGen (s : State) (v : Verb) (w : Wait) (timeout : Nat) :
    (s.await v w timeout).hallGen = s.hallGen := rfl
@[simp] theorem State.await_ao (s : State) (v : Verb) (w : Wait) (timeout : Nat) :
    (s.await v w timeout).ao = s.ao := rfl
@[simp] theorem State.await_flash (s : State) (v : Verb) (w : Wait) (timeout : Nat) :
    (s.await v w timeout).flash = s.flash := rfl
@[simp] theorem State.await_fuses (s : State) (v : Verb) (w : Wait) (timeout : Nat) :
    (s.await v w timeout).fuses = s.fuses := rfl
@[simp] theorem State.await_free (s : State) (v : Verb) (w : Wait) (timeout : Nat) :
    (s.await v w timeout).free = s.free := rfl
@[simp] theorem State.await_pins (s : State) (v : Verb) (w : Wait) (timeout : Nat) :
    (s.await v w timeout).pins = s.pins := rfl
@[simp] theorem State.await_tap (s : State) (v : Verb) (w : Wait) (timeout : Nat) :
    (s.await v w timeout).tap = s.tap := rfl
@[simp] theorem State.await_flags (s : State) (v : Verb) (w : Wait) (timeout : Nat) :
    (s.await v w timeout).flags = s.flags := rfl
@[simp] theorem State.await_ladder (s : State) (v : Verb) (w : Wait) (timeout : Nat) :
    (s.await v w timeout).ladder = s.ladder := rfl
@[simp] theorem State.await_boot (s : State) (v : Verb) (w : Wait) (timeout : Nat) :
    (s.await v w timeout).boot = s.boot := rfl
@[simp] theorem State.await_portA (s : State) (v : Verb) (w : Wait) (timeout : Nat) :
    (s.await v w timeout).portA = s.portA := rfl
@[simp] theorem State.await_portB (s : State) (v : Verb) (w : Wait) (timeout : Nat) :
    (s.await v w timeout).portB = s.portB := rfl
@[simp] theorem State.await_crossing (s : State) (v : Verb) (w : Wait) (timeout : Nat) :
    (s.await v w timeout).crossing = s.crossing := rfl
@[simp] theorem State.await_fetched (s : State) (v : Verb) (w : Wait) (timeout : Nat) :
    (s.await v w timeout).fetched = s.fetched := rfl
@[simp] theorem State.await_commits (s : State) (v : Verb) (w : Wait) (timeout : Nat) :
    (s.await v w timeout).commits = s.commits := rfl
@[simp] theorem State.await_expertWait (s : State) (v : Verb) (w : Wait) (timeout : Nat) :
    (s.await v w timeout).expertWait = s.expertWait := rfl
@[simp] theorem State.await_score (s : State) (v : Verb) (w : Wait) (timeout : Nat) :
    (s.await v w timeout).score = s.score := rfl
@[simp] theorem State.await_keys (s : State) (v : Verb) (w : Wait) (timeout : Nat) :
    (s.await v w timeout).keys = s.keys := rfl
@[simp] theorem State.await_sense (s : State) (v : Verb) (w : Wait) (timeout : Nat) :
    (s.await v w timeout).sense = s.sense := rfl
@[simp] theorem State.await_tune (s : State) (v : Verb) (w : Wait) (timeout : Nat) :
    (s.await v w timeout).tune = s.tune := rfl
@[simp] theorem State.await_jrnl (s : State) (v : Verb) (w : Wait) (timeout : Nat) :
    (s.await v w timeout).jrnl = s.jrnl := rfl
@[simp] theorem State.await_intake (s : State) (v : Verb) (w : Wait) (timeout : Nat) :
    (s.await v w timeout).intake = s.intake := rfl
@[simp] theorem State.await_scan (s : State) (v : Verb) (w : Wait) (timeout : Nat) :
    (s.await v w timeout).scan = s.scan := rfl
@[simp] theorem State.await_pipe (s : State) (v : Verb) (w : Wait) (timeout : Nat) :
    (s.await v w timeout).pipe = s.pipe := rfl
@[simp] theorem State.await_stave (s : State) (v : Verb) (w : Wait) (timeout : Nat) :
    (s.await v w timeout).stave = s.stave := rfl
@[simp] theorem State.await_face (s : State) (v : Verb) (w : Wait) (timeout : Nat) :
    (s.await v w timeout).face = s.face := rfl
@[simp] theorem State.await_ens (s : State) (v : Verb) (w : Wait) (timeout : Nat) :
    (s.await v w timeout).ens = s.ens := rfl
@[simp] theorem State.await_pending (s : State) (v : Verb) (w : Wait) (timeout : Nat) :
    (s.await v w timeout).pending = s.pending := rfl
@[simp] theorem State.finish_regs (s : State) (r : Nat) :
    (s.finish r).regs = s.regs := by
  unfold State.finish
  dsimp only
  split <;> rfl
@[simp] theorem State.finish_force (s : State) (r : Nat) :
    (s.finish r).force = s.force := by
  unfold State.finish
  dsimp only
  split <;> rfl
@[simp] theorem State.finish_metro (s : State) (r : Nat) :
    (s.finish r).metro = s.metro := by
  unfold State.finish
  dsimp only
  split <;> rfl
@[simp] theorem State.finish_edge (s : State) (r : Nat) :
    (s.finish r).edge = s.edge := by
  unfold State.finish
  dsimp only
  split <;> rfl
@[simp] theorem State.finish_hall (s : State) (r : Nat) :
    (s.finish r).hall = s.hall := by
  unfold State.finish
  dsimp only
  split <;> rfl
@[simp] theorem State.finish_banks (s : State) (r : Nat) :
    (s.finish r).banks = s.banks := by
  unfold State.finish
  dsimp only
  split <;> rfl
@[simp] theorem State.finish_hallGen (s : State) (r : Nat) :
    (s.finish r).hallGen = s.hallGen := by
  unfold State.finish
  dsimp only
  split <;> rfl
@[simp] theorem State.finish_ao (s : State) (r : Nat) :
    (s.finish r).ao = s.ao := by
  unfold State.finish
  dsimp only
  split <;> rfl
@[simp] theorem State.finish_flash (s : State) (r : Nat) :
    (s.finish r).flash = s.flash := by
  unfold State.finish
  dsimp only
  split <;> rfl
@[simp] theorem State.finish_fuses (s : State) (r : Nat) :
    (s.finish r).fuses = s.fuses := by
  unfold State.finish
  dsimp only
  split <;> rfl
@[simp] theorem State.finish_free (s : State) (r : Nat) :
    (s.finish r).free = s.free := by
  unfold State.finish
  dsimp only
  split <;> rfl
@[simp] theorem State.finish_pins (s : State) (r : Nat) :
    (s.finish r).pins = s.pins := by
  unfold State.finish
  dsimp only
  split <;> rfl
@[simp] theorem State.finish_tap (s : State) (r : Nat) :
    (s.finish r).tap = s.tap := by
  unfold State.finish
  dsimp only
  split <;> rfl
@[simp] theorem State.finish_flags (s : State) (r : Nat) :
    (s.finish r).flags = s.flags := by
  unfold State.finish
  dsimp only
  split <;> rfl
@[simp] theorem State.finish_ladder (s : State) (r : Nat) :
    (s.finish r).ladder = s.ladder := by
  unfold State.finish
  dsimp only
  split <;> rfl
@[simp] theorem State.finish_boot (s : State) (r : Nat) :
    (s.finish r).boot = s.boot := by
  unfold State.finish
  dsimp only
  split <;> rfl
@[simp] theorem State.finish_portA (s : State) (r : Nat) :
    (s.finish r).portA = s.portA := by
  unfold State.finish
  dsimp only
  split <;> rfl
@[simp] theorem State.finish_portB (s : State) (r : Nat) :
    (s.finish r).portB = s.portB := by
  unfold State.finish
  dsimp only
  split <;> rfl
@[simp] theorem State.finish_crossing (s : State) (r : Nat) :
    (s.finish r).crossing = s.crossing := by
  unfold State.finish
  dsimp only
  split <;> rfl
@[simp] theorem State.finish_fetched (s : State) (r : Nat) :
    (s.finish r).fetched = s.fetched := by
  unfold State.finish
  dsimp only
  split <;> rfl
@[simp] theorem State.finish_commits (s : State) (r : Nat) :
    (s.finish r).commits = s.commits := by
  unfold State.finish
  dsimp only
  split <;> rfl
@[simp] theorem State.finish_expertWait (s : State) (r : Nat) :
    (s.finish r).expertWait = s.expertWait := by
  unfold State.finish
  dsimp only
  split <;> rfl
@[simp] theorem State.finish_score (s : State) (r : Nat) :
    (s.finish r).score = s.score := by
  unfold State.finish
  dsimp only
  split <;> rfl
@[simp] theorem State.finish_keys (s : State) (r : Nat) :
    (s.finish r).keys = s.keys := by
  unfold State.finish
  dsimp only
  split <;> rfl
@[simp] theorem State.finish_sense (s : State) (r : Nat) :
    (s.finish r).sense = s.sense := by
  unfold State.finish
  dsimp only
  split <;> rfl
@[simp] theorem State.finish_tune (s : State) (r : Nat) :
    (s.finish r).tune = s.tune := by
  unfold State.finish
  dsimp only
  split <;> rfl
@[simp] theorem State.finish_jrnl (s : State) (r : Nat) :
    (s.finish r).jrnl = s.jrnl := by
  unfold State.finish
  dsimp only
  split <;> rfl
@[simp] theorem State.finish_intake (s : State) (r : Nat) :
    (s.finish r).intake = s.intake := by
  unfold State.finish
  dsimp only
  split <;> rfl
@[simp] theorem State.finish_scan (s : State) (r : Nat) :
    (s.finish r).scan = s.scan := by
  unfold State.finish
  dsimp only
  split <;> rfl
@[simp] theorem State.finish_pipe (s : State) (r : Nat) :
    (s.finish r).pipe = s.pipe := by
  unfold State.finish
  dsimp only
  split <;> rfl
@[simp] theorem State.finish_stave (s : State) (r : Nat) :
    (s.finish r).stave = s.stave := by
  unfold State.finish
  dsimp only
  split <;> rfl
@[simp] theorem State.finish_face (s : State) (r : Nat) :
    (s.finish r).face = s.face := by
  unfold State.finish
  dsimp only
  split <;> rfl
@[simp] theorem State.finish_ens (s : State) (r : Nat) :
    (s.finish r).ens = s.ens := by
  unfold State.finish
  dsimp only
  split <;> rfl
@[simp] theorem State.finish_pending (s : State) (r : Nat) :
    (s.finish r).pending = s.pending := by
  unfold State.finish
  dsimp only
  split <;> rfl
@[simp] theorem State.complete_regs (s : State) (v : Verb) (st : Status) (res : List Word) :
    (s.complete v st res).regs = s.regs := by
  unfold State.complete
  split
  · exact State.finish_regs s v.ring
  · rfl
@[simp] theorem State.complete_force (s : State) (v : Verb) (st : Status) (res : List Word) :
    (s.complete v st res).force = s.force := by
  unfold State.complete
  split
  · exact State.finish_force s v.ring
  · rfl
@[simp] theorem State.complete_metro (s : State) (v : Verb) (st : Status) (res : List Word) :
    (s.complete v st res).metro = s.metro := by
  unfold State.complete
  split
  · exact State.finish_metro s v.ring
  · rfl
@[simp] theorem State.complete_edge (s : State) (v : Verb) (st : Status) (res : List Word) :
    (s.complete v st res).edge = s.edge := by
  unfold State.complete
  split
  · exact State.finish_edge s v.ring
  · rfl
@[simp] theorem State.complete_hall (s : State) (v : Verb) (st : Status) (res : List Word) :
    (s.complete v st res).hall = s.hall := by
  unfold State.complete
  split
  · exact State.finish_hall s v.ring
  · rfl
@[simp] theorem State.complete_banks (s : State) (v : Verb) (st : Status) (res : List Word) :
    (s.complete v st res).banks = s.banks := by
  unfold State.complete
  split
  · exact State.finish_banks s v.ring
  · rfl
@[simp] theorem State.complete_hallGen (s : State) (v : Verb) (st : Status) (res : List Word) :
    (s.complete v st res).hallGen = s.hallGen := by
  unfold State.complete
  split
  · exact State.finish_hallGen s v.ring
  · rfl
@[simp] theorem State.complete_ao (s : State) (v : Verb) (st : Status) (res : List Word) :
    (s.complete v st res).ao = s.ao := by
  unfold State.complete
  split
  · exact State.finish_ao s v.ring
  · rfl
@[simp] theorem State.complete_flash (s : State) (v : Verb) (st : Status) (res : List Word) :
    (s.complete v st res).flash = s.flash := by
  unfold State.complete
  split
  · exact State.finish_flash s v.ring
  · rfl
@[simp] theorem State.complete_fuses (s : State) (v : Verb) (st : Status) (res : List Word) :
    (s.complete v st res).fuses = s.fuses := by
  unfold State.complete
  split
  · exact State.finish_fuses s v.ring
  · rfl
@[simp] theorem State.complete_free (s : State) (v : Verb) (st : Status) (res : List Word) :
    (s.complete v st res).free = s.free := by
  unfold State.complete
  split
  · exact State.finish_free s v.ring
  · rfl
@[simp] theorem State.complete_pins (s : State) (v : Verb) (st : Status) (res : List Word) :
    (s.complete v st res).pins = s.pins := by
  unfold State.complete
  split
  · exact State.finish_pins s v.ring
  · rfl
@[simp] theorem State.complete_tap (s : State) (v : Verb) (st : Status) (res : List Word) :
    (s.complete v st res).tap = s.tap := by
  unfold State.complete
  split
  · exact State.finish_tap s v.ring
  · rfl
@[simp] theorem State.complete_flags (s : State) (v : Verb) (st : Status) (res : List Word) :
    (s.complete v st res).flags = s.flags := by
  unfold State.complete
  split
  · exact State.finish_flags s v.ring
  · rfl
@[simp] theorem State.complete_ladder (s : State) (v : Verb) (st : Status) (res : List Word) :
    (s.complete v st res).ladder = s.ladder := by
  unfold State.complete
  split
  · exact State.finish_ladder s v.ring
  · rfl
@[simp] theorem State.complete_boot (s : State) (v : Verb) (st : Status) (res : List Word) :
    (s.complete v st res).boot = s.boot := by
  unfold State.complete
  split
  · exact State.finish_boot s v.ring
  · rfl
@[simp] theorem State.complete_portA (s : State) (v : Verb) (st : Status) (res : List Word) :
    (s.complete v st res).portA = s.portA := by
  unfold State.complete
  split
  · exact State.finish_portA s v.ring
  · rfl
@[simp] theorem State.complete_portB (s : State) (v : Verb) (st : Status) (res : List Word) :
    (s.complete v st res).portB = s.portB := by
  unfold State.complete
  split
  · exact State.finish_portB s v.ring
  · rfl
@[simp] theorem State.complete_crossing (s : State) (v : Verb) (st : Status) (res : List Word) :
    (s.complete v st res).crossing = s.crossing := by
  unfold State.complete
  split
  · exact State.finish_crossing s v.ring
  · rfl
@[simp] theorem State.complete_fetched (s : State) (v : Verb) (st : Status) (res : List Word) :
    (s.complete v st res).fetched = s.fetched := by
  unfold State.complete
  split
  · exact State.finish_fetched s v.ring
  · rfl
@[simp] theorem State.complete_commits (s : State) (v : Verb) (st : Status) (res : List Word) :
    (s.complete v st res).commits = s.commits := by
  unfold State.complete
  split
  · exact State.finish_commits s v.ring
  · rfl
@[simp] theorem State.complete_expertWait (s : State) (v : Verb) (st : Status) (res : List Word) :
    (s.complete v st res).expertWait = s.expertWait := by
  unfold State.complete
  split
  · exact State.finish_expertWait s v.ring
  · rfl
@[simp] theorem State.complete_score (s : State) (v : Verb) (st : Status) (res : List Word) :
    (s.complete v st res).score = s.score := by
  unfold State.complete
  split
  · exact State.finish_score s v.ring
  · rfl
@[simp] theorem State.complete_keys (s : State) (v : Verb) (st : Status) (res : List Word) :
    (s.complete v st res).keys = s.keys := by
  unfold State.complete
  split
  · exact State.finish_keys s v.ring
  · rfl
@[simp] theorem State.complete_sense (s : State) (v : Verb) (st : Status) (res : List Word) :
    (s.complete v st res).sense = s.sense := by
  unfold State.complete
  split
  · exact State.finish_sense s v.ring
  · rfl
@[simp] theorem State.complete_tune (s : State) (v : Verb) (st : Status) (res : List Word) :
    (s.complete v st res).tune = s.tune := by
  unfold State.complete
  split
  · exact State.finish_tune s v.ring
  · rfl
@[simp] theorem State.complete_jrnl (s : State) (v : Verb) (st : Status) (res : List Word) :
    (s.complete v st res).jrnl = s.jrnl := by
  unfold State.complete
  split
  · exact State.finish_jrnl s v.ring
  · rfl
@[simp] theorem State.complete_intake (s : State) (v : Verb) (st : Status) (res : List Word) :
    (s.complete v st res).intake = s.intake := by
  unfold State.complete
  split
  · exact State.finish_intake s v.ring
  · rfl
@[simp] theorem State.complete_scan (s : State) (v : Verb) (st : Status) (res : List Word) :
    (s.complete v st res).scan = s.scan := by
  unfold State.complete
  split
  · exact State.finish_scan s v.ring
  · rfl
@[simp] theorem State.complete_pipe (s : State) (v : Verb) (st : Status) (res : List Word) :
    (s.complete v st res).pipe = s.pipe := by
  unfold State.complete
  split
  · exact State.finish_pipe s v.ring
  · rfl
@[simp] theorem State.complete_stave (s : State) (v : Verb) (st : Status) (res : List Word) :
    (s.complete v st res).stave = s.stave := by
  unfold State.complete
  split
  · exact State.finish_stave s v.ring
  · rfl
@[simp] theorem State.complete_face (s : State) (v : Verb) (st : Status) (res : List Word) :
    (s.complete v st res).face = s.face := by
  unfold State.complete
  split
  · exact State.finish_face s v.ring
  · rfl
@[simp] theorem State.complete_ens (s : State) (v : Verb) (st : Status) (res : List Word) :
    (s.complete v st res).ens = s.ens := by
  unfold State.complete
  split
  · exact State.finish_ens s v.ring
  · rfl
@[simp] theorem State.complete_pending (s : State) (v : Verb) (st : Status) (res : List Word) :
    (s.complete v st res).pending = s.pending := by
  unfold State.complete
  split
  · exact State.finish_pending s v.ring
  · rfl
@[simp] theorem State.defer_regs (s : State) (v : Verb) (w : Wait) (timeout : Nat) :
    (s.defer v w timeout).regs = s.regs := by
  unfold State.defer
  dsimp only
  split <;> rfl
@[simp] theorem State.defer_force (s : State) (v : Verb) (w : Wait) (timeout : Nat) :
    (s.defer v w timeout).force = s.force := by
  unfold State.defer
  dsimp only
  split <;> rfl
@[simp] theorem State.defer_metro (s : State) (v : Verb) (w : Wait) (timeout : Nat) :
    (s.defer v w timeout).metro = s.metro := by
  unfold State.defer
  dsimp only
  split <;> rfl
@[simp] theorem State.defer_edge (s : State) (v : Verb) (w : Wait) (timeout : Nat) :
    (s.defer v w timeout).edge = s.edge := by
  unfold State.defer
  dsimp only
  split <;> rfl
@[simp] theorem State.defer_hall (s : State) (v : Verb) (w : Wait) (timeout : Nat) :
    (s.defer v w timeout).hall = s.hall := by
  unfold State.defer
  dsimp only
  split <;> rfl
@[simp] theorem State.defer_banks (s : State) (v : Verb) (w : Wait) (timeout : Nat) :
    (s.defer v w timeout).banks = s.banks := by
  unfold State.defer
  dsimp only
  split <;> rfl
@[simp] theorem State.defer_hallGen (s : State) (v : Verb) (w : Wait) (timeout : Nat) :
    (s.defer v w timeout).hallGen = s.hallGen := by
  unfold State.defer
  dsimp only
  split <;> rfl
@[simp] theorem State.defer_ao (s : State) (v : Verb) (w : Wait) (timeout : Nat) :
    (s.defer v w timeout).ao = s.ao := by
  unfold State.defer
  dsimp only
  split <;> rfl
@[simp] theorem State.defer_flash (s : State) (v : Verb) (w : Wait) (timeout : Nat) :
    (s.defer v w timeout).flash = s.flash := by
  unfold State.defer
  dsimp only
  split <;> rfl
@[simp] theorem State.defer_fuses (s : State) (v : Verb) (w : Wait) (timeout : Nat) :
    (s.defer v w timeout).fuses = s.fuses := by
  unfold State.defer
  dsimp only
  split <;> rfl
@[simp] theorem State.defer_free (s : State) (v : Verb) (w : Wait) (timeout : Nat) :
    (s.defer v w timeout).free = s.free := by
  unfold State.defer
  dsimp only
  split <;> rfl
@[simp] theorem State.defer_pins (s : State) (v : Verb) (w : Wait) (timeout : Nat) :
    (s.defer v w timeout).pins = s.pins := by
  unfold State.defer
  dsimp only
  split <;> rfl
@[simp] theorem State.defer_tap (s : State) (v : Verb) (w : Wait) (timeout : Nat) :
    (s.defer v w timeout).tap = s.tap := by
  unfold State.defer
  dsimp only
  split <;> rfl
@[simp] theorem State.defer_flags (s : State) (v : Verb) (w : Wait) (timeout : Nat) :
    (s.defer v w timeout).flags = s.flags := by
  unfold State.defer
  dsimp only
  split <;> rfl
@[simp] theorem State.defer_ladder (s : State) (v : Verb) (w : Wait) (timeout : Nat) :
    (s.defer v w timeout).ladder = s.ladder := by
  unfold State.defer
  dsimp only
  split <;> rfl
@[simp] theorem State.defer_boot (s : State) (v : Verb) (w : Wait) (timeout : Nat) :
    (s.defer v w timeout).boot = s.boot := by
  unfold State.defer
  dsimp only
  split <;> rfl
@[simp] theorem State.defer_portA (s : State) (v : Verb) (w : Wait) (timeout : Nat) :
    (s.defer v w timeout).portA = s.portA := by
  unfold State.defer
  dsimp only
  split <;> rfl
@[simp] theorem State.defer_portB (s : State) (v : Verb) (w : Wait) (timeout : Nat) :
    (s.defer v w timeout).portB = s.portB := by
  unfold State.defer
  dsimp only
  split <;> rfl
@[simp] theorem State.defer_crossing (s : State) (v : Verb) (w : Wait) (timeout : Nat) :
    (s.defer v w timeout).crossing = s.crossing := by
  unfold State.defer
  dsimp only
  split <;> rfl
@[simp] theorem State.defer_fetched (s : State) (v : Verb) (w : Wait) (timeout : Nat) :
    (s.defer v w timeout).fetched = s.fetched := by
  unfold State.defer
  dsimp only
  split <;> rfl
@[simp] theorem State.defer_commits (s : State) (v : Verb) (w : Wait) (timeout : Nat) :
    (s.defer v w timeout).commits = s.commits := by
  unfold State.defer
  dsimp only
  split <;> rfl
@[simp] theorem State.defer_expertWait (s : State) (v : Verb) (w : Wait) (timeout : Nat) :
    (s.defer v w timeout).expertWait = s.expertWait := by
  unfold State.defer
  dsimp only
  split <;> rfl
@[simp] theorem State.defer_score (s : State) (v : Verb) (w : Wait) (timeout : Nat) :
    (s.defer v w timeout).score = s.score := by
  unfold State.defer
  dsimp only
  split <;> rfl
@[simp] theorem State.defer_keys (s : State) (v : Verb) (w : Wait) (timeout : Nat) :
    (s.defer v w timeout).keys = s.keys := by
  unfold State.defer
  dsimp only
  split <;> rfl
@[simp] theorem State.defer_sense (s : State) (v : Verb) (w : Wait) (timeout : Nat) :
    (s.defer v w timeout).sense = s.sense := by
  unfold State.defer
  dsimp only
  split <;> rfl
@[simp] theorem State.defer_tune (s : State) (v : Verb) (w : Wait) (timeout : Nat) :
    (s.defer v w timeout).tune = s.tune := by
  unfold State.defer
  dsimp only
  split <;> rfl
@[simp] theorem State.defer_jrnl (s : State) (v : Verb) (w : Wait) (timeout : Nat) :
    (s.defer v w timeout).jrnl = s.jrnl := by
  unfold State.defer
  dsimp only
  split <;> rfl
@[simp] theorem State.defer_intake (s : State) (v : Verb) (w : Wait) (timeout : Nat) :
    (s.defer v w timeout).intake = s.intake := by
  unfold State.defer
  dsimp only
  split <;> rfl
@[simp] theorem State.defer_scan (s : State) (v : Verb) (w : Wait) (timeout : Nat) :
    (s.defer v w timeout).scan = s.scan := by
  unfold State.defer
  dsimp only
  split <;> rfl
@[simp] theorem State.defer_pipe (s : State) (v : Verb) (w : Wait) (timeout : Nat) :
    (s.defer v w timeout).pipe = s.pipe := by
  unfold State.defer
  dsimp only
  split <;> rfl
@[simp] theorem State.defer_stave (s : State) (v : Verb) (w : Wait) (timeout : Nat) :
    (s.defer v w timeout).stave = s.stave := by
  unfold State.defer
  dsimp only
  split <;> rfl
@[simp] theorem State.defer_face (s : State) (v : Verb) (w : Wait) (timeout : Nat) :
    (s.defer v w timeout).face = s.face := by
  unfold State.defer
  dsimp only
  split <;> rfl
@[simp] theorem State.defer_ens (s : State) (v : Verb) (w : Wait) (timeout : Nat) :
    (s.defer v w timeout).ens = s.ens := by
  unfold State.defer
  dsimp only
  split <;> rfl
@[simp] theorem State.defer_pending (s : State) (v : Verb) (w : Wait) (timeout : Nat) :
    (s.defer v w timeout).pending = s.pending := by
  unfold State.defer
  dsimp only
  split <;> rfl
@[simp] theorem State.completeRing_regs (s : State) (r : Nat) (st : Status) (res : List Word) :
    (s.completeRing r st res).regs = s.regs := by
  unfold State.completeRing
  split
  · exact State.complete_regs s _ st res
  · rfl
@[simp] theorem State.completeRing_force (s : State) (r : Nat) (st : Status) (res : List Word) :
    (s.completeRing r st res).force = s.force := by
  unfold State.completeRing
  split
  · exact State.complete_force s _ st res
  · rfl
@[simp] theorem State.completeRing_metro (s : State) (r : Nat) (st : Status) (res : List Word) :
    (s.completeRing r st res).metro = s.metro := by
  unfold State.completeRing
  split
  · exact State.complete_metro s _ st res
  · rfl
@[simp] theorem State.completeRing_edge (s : State) (r : Nat) (st : Status) (res : List Word) :
    (s.completeRing r st res).edge = s.edge := by
  unfold State.completeRing
  split
  · exact State.complete_edge s _ st res
  · rfl
@[simp] theorem State.completeRing_hall (s : State) (r : Nat) (st : Status) (res : List Word) :
    (s.completeRing r st res).hall = s.hall := by
  unfold State.completeRing
  split
  · exact State.complete_hall s _ st res
  · rfl
@[simp] theorem State.completeRing_banks (s : State) (r : Nat) (st : Status) (res : List Word) :
    (s.completeRing r st res).banks = s.banks := by
  unfold State.completeRing
  split
  · exact State.complete_banks s _ st res
  · rfl
@[simp] theorem State.completeRing_hallGen (s : State) (r : Nat) (st : Status) (res : List Word) :
    (s.completeRing r st res).hallGen = s.hallGen := by
  unfold State.completeRing
  split
  · exact State.complete_hallGen s _ st res
  · rfl
@[simp] theorem State.completeRing_ao (s : State) (r : Nat) (st : Status) (res : List Word) :
    (s.completeRing r st res).ao = s.ao := by
  unfold State.completeRing
  split
  · exact State.complete_ao s _ st res
  · rfl
@[simp] theorem State.completeRing_flash (s : State) (r : Nat) (st : Status) (res : List Word) :
    (s.completeRing r st res).flash = s.flash := by
  unfold State.completeRing
  split
  · exact State.complete_flash s _ st res
  · rfl
@[simp] theorem State.completeRing_fuses (s : State) (r : Nat) (st : Status) (res : List Word) :
    (s.completeRing r st res).fuses = s.fuses := by
  unfold State.completeRing
  split
  · exact State.complete_fuses s _ st res
  · rfl
@[simp] theorem State.completeRing_free (s : State) (r : Nat) (st : Status) (res : List Word) :
    (s.completeRing r st res).free = s.free := by
  unfold State.completeRing
  split
  · exact State.complete_free s _ st res
  · rfl
@[simp] theorem State.completeRing_pins (s : State) (r : Nat) (st : Status) (res : List Word) :
    (s.completeRing r st res).pins = s.pins := by
  unfold State.completeRing
  split
  · exact State.complete_pins s _ st res
  · rfl
@[simp] theorem State.completeRing_tap (s : State) (r : Nat) (st : Status) (res : List Word) :
    (s.completeRing r st res).tap = s.tap := by
  unfold State.completeRing
  split
  · exact State.complete_tap s _ st res
  · rfl
@[simp] theorem State.completeRing_flags (s : State) (r : Nat) (st : Status) (res : List Word) :
    (s.completeRing r st res).flags = s.flags := by
  unfold State.completeRing
  split
  · exact State.complete_flags s _ st res
  · rfl
@[simp] theorem State.completeRing_ladder (s : State) (r : Nat) (st : Status) (res : List Word) :
    (s.completeRing r st res).ladder = s.ladder := by
  unfold State.completeRing
  split
  · exact State.complete_ladder s _ st res
  · rfl
@[simp] theorem State.completeRing_boot (s : State) (r : Nat) (st : Status) (res : List Word) :
    (s.completeRing r st res).boot = s.boot := by
  unfold State.completeRing
  split
  · exact State.complete_boot s _ st res
  · rfl
@[simp] theorem State.completeRing_portA (s : State) (r : Nat) (st : Status) (res : List Word) :
    (s.completeRing r st res).portA = s.portA := by
  unfold State.completeRing
  split
  · exact State.complete_portA s _ st res
  · rfl
@[simp] theorem State.completeRing_portB (s : State) (r : Nat) (st : Status) (res : List Word) :
    (s.completeRing r st res).portB = s.portB := by
  unfold State.completeRing
  split
  · exact State.complete_portB s _ st res
  · rfl
@[simp] theorem State.completeRing_crossing (s : State) (r : Nat) (st : Status) (res : List Word) :
    (s.completeRing r st res).crossing = s.crossing := by
  unfold State.completeRing
  split
  · exact State.complete_crossing s _ st res
  · rfl
@[simp] theorem State.completeRing_fetched (s : State) (r : Nat) (st : Status) (res : List Word) :
    (s.completeRing r st res).fetched = s.fetched := by
  unfold State.completeRing
  split
  · exact State.complete_fetched s _ st res
  · rfl
@[simp] theorem State.completeRing_commits (s : State) (r : Nat) (st : Status) (res : List Word) :
    (s.completeRing r st res).commits = s.commits := by
  unfold State.completeRing
  split
  · exact State.complete_commits s _ st res
  · rfl
@[simp] theorem State.completeRing_expertWait (s : State) (r : Nat) (st : Status) (res : List Word) :
    (s.completeRing r st res).expertWait = s.expertWait := by
  unfold State.completeRing
  split
  · exact State.complete_expertWait s _ st res
  · rfl
@[simp] theorem State.completeRing_score (s : State) (r : Nat) (st : Status) (res : List Word) :
    (s.completeRing r st res).score = s.score := by
  unfold State.completeRing
  split
  · exact State.complete_score s _ st res
  · rfl
@[simp] theorem State.completeRing_keys (s : State) (r : Nat) (st : Status) (res : List Word) :
    (s.completeRing r st res).keys = s.keys := by
  unfold State.completeRing
  split
  · exact State.complete_keys s _ st res
  · rfl
@[simp] theorem State.completeRing_sense (s : State) (r : Nat) (st : Status) (res : List Word) :
    (s.completeRing r st res).sense = s.sense := by
  unfold State.completeRing
  split
  · exact State.complete_sense s _ st res
  · rfl
@[simp] theorem State.completeRing_tune (s : State) (r : Nat) (st : Status) (res : List Word) :
    (s.completeRing r st res).tune = s.tune := by
  unfold State.completeRing
  split
  · exact State.complete_tune s _ st res
  · rfl
@[simp] theorem State.completeRing_jrnl (s : State) (r : Nat) (st : Status) (res : List Word) :
    (s.completeRing r st res).jrnl = s.jrnl := by
  unfold State.completeRing
  split
  · exact State.complete_jrnl s _ st res
  · rfl
@[simp] theorem State.completeRing_intake (s : State) (r : Nat) (st : Status) (res : List Word) :
    (s.completeRing r st res).intake = s.intake := by
  unfold State.completeRing
  split
  · exact State.complete_intake s _ st res
  · rfl
@[simp] theorem State.completeRing_scan (s : State) (r : Nat) (st : Status) (res : List Word) :
    (s.completeRing r st res).scan = s.scan := by
  unfold State.completeRing
  split
  · exact State.complete_scan s _ st res
  · rfl
@[simp] theorem State.completeRing_pipe (s : State) (r : Nat) (st : Status) (res : List Word) :
    (s.completeRing r st res).pipe = s.pipe := by
  unfold State.completeRing
  split
  · exact State.complete_pipe s _ st res
  · rfl
@[simp] theorem State.completeRing_stave (s : State) (r : Nat) (st : Status) (res : List Word) :
    (s.completeRing r st res).stave = s.stave := by
  unfold State.completeRing
  split
  · exact State.complete_stave s _ st res
  · rfl
@[simp] theorem State.completeRing_face (s : State) (r : Nat) (st : Status) (res : List Word) :
    (s.completeRing r st res).face = s.face := by
  unfold State.completeRing
  split
  · exact State.complete_face s _ st res
  · rfl
@[simp] theorem State.completeRing_ens (s : State) (r : Nat) (st : Status) (res : List Word) :
    (s.completeRing r st res).ens = s.ens := by
  unfold State.completeRing
  split
  · exact State.complete_ens s _ st res
  · rfl
@[simp] theorem State.completeRing_pending (s : State) (r : Nat) (st : Status) (res : List Word) :
    (s.completeRing r st res).pending = s.pending := by
  unfold State.completeRing
  split
  · exact State.complete_pending s _ st res
  · rfl
@[simp] theorem State.setPort_regs (s : State) (p : Port) (v : PortSt) :
    (s.setPort p v).regs = s.regs := by
  cases p <;> rfl
@[simp] theorem State.setPort_force (s : State) (p : Port) (v : PortSt) :
    (s.setPort p v).force = s.force := by
  cases p <;> rfl
@[simp] theorem State.setPort_metro (s : State) (p : Port) (v : PortSt) :
    (s.setPort p v).metro = s.metro := by
  cases p <;> rfl
@[simp] theorem State.setPort_edge (s : State) (p : Port) (v : PortSt) :
    (s.setPort p v).edge = s.edge := by
  cases p <;> rfl
@[simp] theorem State.setPort_crossing (s : State) (p : Port) (v : PortSt) :
    (s.setPort p v).crossing = s.crossing := by
  cases p <;> rfl
@[simp] theorem State.setPort_hall (s : State) (p : Port) (v : PortSt) :
    (s.setPort p v).hall = s.hall := by
  cases p <;> rfl
@[simp] theorem State.setPort_banks (s : State) (p : Port) (v : PortSt) :
    (s.setPort p v).banks = s.banks := by
  cases p <;> rfl
@[simp] theorem State.setPort_hallGen (s : State) (p : Port) (v : PortSt) :
    (s.setPort p v).hallGen = s.hallGen := by
  cases p <;> rfl
@[simp] theorem State.setPort_ao (s : State) (p : Port) (v : PortSt) :
    (s.setPort p v).ao = s.ao := by
  cases p <;> rfl
@[simp] theorem State.setPort_flash (s : State) (p : Port) (v : PortSt) :
    (s.setPort p v).flash = s.flash := by
  cases p <;> rfl
@[simp] theorem State.setPort_fuses (s : State) (p : Port) (v : PortSt) :
    (s.setPort p v).fuses = s.fuses := by
  cases p <;> rfl
@[simp] theorem State.setPort_free (s : State) (p : Port) (v : PortSt) :
    (s.setPort p v).free = s.free := by
  cases p <;> rfl
@[simp] theorem State.setPort_pins (s : State) (p : Port) (v : PortSt) :
    (s.setPort p v).pins = s.pins := by
  cases p <;> rfl
@[simp] theorem State.setPort_tap (s : State) (p : Port) (v : PortSt) :
    (s.setPort p v).tap = s.tap := by
  cases p <;> rfl
@[simp] theorem State.setPort_flags (s : State) (p : Port) (v : PortSt) :
    (s.setPort p v).flags = s.flags := by
  cases p <;> rfl
@[simp] theorem State.setPort_ladder (s : State) (p : Port) (v : PortSt) :
    (s.setPort p v).ladder = s.ladder := by
  cases p <;> rfl
@[simp] theorem State.setPort_boot (s : State) (p : Port) (v : PortSt) :
    (s.setPort p v).boot = s.boot := by
  cases p <;> rfl
@[simp] theorem State.setPort_rings (s : State) (p : Port) (v : PortSt) :
    (s.setPort p v).rings = s.rings := by
  cases p <;> rfl
@[simp] theorem State.setPort_fetched (s : State) (p : Port) (v : PortSt) :
    (s.setPort p v).fetched = s.fetched := by
  cases p <;> rfl
@[simp] theorem State.setPort_commits (s : State) (p : Port) (v : PortSt) :
    (s.setPort p v).commits = s.commits := by
  cases p <;> rfl
@[simp] theorem State.setPort_expertWait (s : State) (p : Port) (v : PortSt) :
    (s.setPort p v).expertWait = s.expertWait := by
  cases p <;> rfl
@[simp] theorem State.setPort_score (s : State) (p : Port) (v : PortSt) :
    (s.setPort p v).score = s.score := by
  cases p <;> rfl
@[simp] theorem State.setPort_keys (s : State) (p : Port) (v : PortSt) :
    (s.setPort p v).keys = s.keys := by
  cases p <;> rfl
@[simp] theorem State.setPort_sense (s : State) (p : Port) (v : PortSt) :
    (s.setPort p v).sense = s.sense := by
  cases p <;> rfl
@[simp] theorem State.setPort_tune (s : State) (p : Port) (v : PortSt) :
    (s.setPort p v).tune = s.tune := by
  cases p <;> rfl
@[simp] theorem State.setPort_jrnl (s : State) (p : Port) (v : PortSt) :
    (s.setPort p v).jrnl = s.jrnl := by
  cases p <;> rfl
@[simp] theorem State.setPort_intake (s : State) (p : Port) (v : PortSt) :
    (s.setPort p v).intake = s.intake := by
  cases p <;> rfl
@[simp] theorem State.setPort_scan (s : State) (p : Port) (v : PortSt) :
    (s.setPort p v).scan = s.scan := by
  cases p <;> rfl
@[simp] theorem State.setPort_pipe (s : State) (p : Port) (v : PortSt) :
    (s.setPort p v).pipe = s.pipe := by
  cases p <;> rfl
@[simp] theorem State.setPort_stave (s : State) (p : Port) (v : PortSt) :
    (s.setPort p v).stave = s.stave := by
  cases p <;> rfl
@[simp] theorem State.setPort_face (s : State) (p : Port) (v : PortSt) :
    (s.setPort p v).face = s.face := by
  cases p <;> rfl
@[simp] theorem State.setPort_ens (s : State) (p : Port) (v : PortSt) :
    (s.setPort p v).ens = s.ens := by
  cases p <;> rfl
@[simp] theorem State.setPort_pending (s : State) (p : Port) (v : PortSt) :
    (s.setPort p v).pending = s.pending := by
  cases p <;> rfl
@[simp] theorem State.putHall_regs (s : State) (a : Nat) (b : Byte) :
    (s.putHall a b).regs = s.regs := by
  unfold State.putHall
  split <;> rfl
@[simp] theorem State.putHall_force (s : State) (a : Nat) (b : Byte) :
    (s.putHall a b).force = s.force := by
  unfold State.putHall
  split <;> rfl
@[simp] theorem State.putHall_metro (s : State) (a : Nat) (b : Byte) :
    (s.putHall a b).metro = s.metro := by
  unfold State.putHall
  split <;> rfl
@[simp] theorem State.putHall_edge (s : State) (a : Nat) (b : Byte) :
    (s.putHall a b).edge = s.edge := by
  unfold State.putHall
  split <;> rfl
@[simp] theorem State.putHall_banks (s : State) (a : Nat) (b : Byte) :
    (s.putHall a b).banks = s.banks := by
  unfold State.putHall
  split <;> rfl
@[simp] theorem State.putHall_hallGen (s : State) (a : Nat) (b : Byte) :
    (s.putHall a b).hallGen = s.hallGen := by
  unfold State.putHall
  split <;> rfl
@[simp] theorem State.putHall_ao (s : State) (a : Nat) (b : Byte) :
    (s.putHall a b).ao = s.ao := by
  unfold State.putHall
  split <;> rfl
@[simp] theorem State.putHall_flash (s : State) (a : Nat) (b : Byte) :
    (s.putHall a b).flash = s.flash := by
  unfold State.putHall
  split <;> rfl
@[simp] theorem State.putHall_fuses (s : State) (a : Nat) (b : Byte) :
    (s.putHall a b).fuses = s.fuses := by
  unfold State.putHall
  split <;> rfl
@[simp] theorem State.putHall_free (s : State) (a : Nat) (b : Byte) :
    (s.putHall a b).free = s.free := by
  unfold State.putHall
  split <;> rfl
@[simp] theorem State.putHall_pins (s : State) (a : Nat) (b : Byte) :
    (s.putHall a b).pins = s.pins := by
  unfold State.putHall
  split <;> rfl
@[simp] theorem State.putHall_tap (s : State) (a : Nat) (b : Byte) :
    (s.putHall a b).tap = s.tap := by
  unfold State.putHall
  split <;> rfl
@[simp] theorem State.putHall_flags (s : State) (a : Nat) (b : Byte) :
    (s.putHall a b).flags = s.flags := by
  unfold State.putHall
  split <;> rfl
@[simp] theorem State.putHall_ladder (s : State) (a : Nat) (b : Byte) :
    (s.putHall a b).ladder = s.ladder := by
  unfold State.putHall
  split <;> rfl
@[simp] theorem State.putHall_boot (s : State) (a : Nat) (b : Byte) :
    (s.putHall a b).boot = s.boot := by
  unfold State.putHall
  split <;> rfl
@[simp] theorem State.putHall_portA (s : State) (a : Nat) (b : Byte) :
    (s.putHall a b).portA = s.portA := by
  unfold State.putHall
  split <;> rfl
@[simp] theorem State.putHall_portB (s : State) (a : Nat) (b : Byte) :
    (s.putHall a b).portB = s.portB := by
  unfold State.putHall
  split <;> rfl
@[simp] theorem State.putHall_crossing (s : State) (a : Nat) (b : Byte) :
    (s.putHall a b).crossing = s.crossing := by
  unfold State.putHall
  split <;> rfl
@[simp] theorem State.putHall_rings (s : State) (a : Nat) (b : Byte) :
    (s.putHall a b).rings = s.rings := by
  unfold State.putHall
  split <;> rfl
@[simp] theorem State.putHall_fetched (s : State) (a : Nat) (b : Byte) :
    (s.putHall a b).fetched = s.fetched := by
  unfold State.putHall
  split <;> rfl
@[simp] theorem State.putHall_commits (s : State) (a : Nat) (b : Byte) :
    (s.putHall a b).commits = s.commits := by
  unfold State.putHall
  split <;> rfl
@[simp] theorem State.putHall_expertWait (s : State) (a : Nat) (b : Byte) :
    (s.putHall a b).expertWait = s.expertWait := by
  unfold State.putHall
  split <;> rfl
@[simp] theorem State.putHall_score (s : State) (a : Nat) (b : Byte) :
    (s.putHall a b).score = s.score := by
  unfold State.putHall
  split <;> rfl
@[simp] theorem State.putHall_keys (s : State) (a : Nat) (b : Byte) :
    (s.putHall a b).keys = s.keys := by
  unfold State.putHall
  split <;> rfl
@[simp] theorem State.putHall_sense (s : State) (a : Nat) (b : Byte) :
    (s.putHall a b).sense = s.sense := by
  unfold State.putHall
  split <;> rfl
@[simp] theorem State.putHall_tune (s : State) (a : Nat) (b : Byte) :
    (s.putHall a b).tune = s.tune := by
  unfold State.putHall
  split <;> rfl
@[simp] theorem State.putHall_jrnl (s : State) (a : Nat) (b : Byte) :
    (s.putHall a b).jrnl = s.jrnl := by
  unfold State.putHall
  split <;> rfl
@[simp] theorem State.putHall_intake (s : State) (a : Nat) (b : Byte) :
    (s.putHall a b).intake = s.intake := by
  unfold State.putHall
  split <;> rfl
@[simp] theorem State.putHall_scan (s : State) (a : Nat) (b : Byte) :
    (s.putHall a b).scan = s.scan := by
  unfold State.putHall
  split <;> rfl
@[simp] theorem State.putHall_pipe (s : State) (a : Nat) (b : Byte) :
    (s.putHall a b).pipe = s.pipe := by
  unfold State.putHall
  split <;> rfl
@[simp] theorem State.putHall_stave (s : State) (a : Nat) (b : Byte) :
    (s.putHall a b).stave = s.stave := by
  unfold State.putHall
  split <;> rfl
@[simp] theorem State.putHall_face (s : State) (a : Nat) (b : Byte) :
    (s.putHall a b).face = s.face := by
  unfold State.putHall
  split <;> rfl
@[simp] theorem State.putHall_ens (s : State) (a : Nat) (b : Byte) :
    (s.putHall a b).ens = s.ens := by
  unfold State.putHall
  split <;> rfl
@[simp] theorem State.putHall_pending (s : State) (a : Nat) (b : Byte) :
    (s.putHall a b).pending = s.pending := by
  unfold State.putHall
  split <;> rfl

end Sys2Proof.Machine
end

