-- ==== Sys2Proof/Laws/Ops.lean ====
section
/-!
SUPPORT. The named operations over registers, rings and memories: a read after a write, and a write leaves the rest alone.
-/

namespace Sys2Proof.Machine

/-! ### Registers -/

@[simp] theorem State.reg_setReg_self (s : State) (a : Nat) (v : Word) : (s.setReg a v).reg a = v :=
  Cells.get_put_self porWord s.regs a v

theorem State.reg_setReg (s : State) (a b : Nat) (v : Word) : (s.setReg a v).reg b = if b = a then v else s.reg b :=
  Cells.get_put porWord s.regs a b v

theorem State.reg_setReg_other (s : State) (a b : Nat) (v : Word) (h : b ≠ a) : (s.setReg a v).reg b = s.reg b :=
  Cells.get_put_other porWord s.regs a b v h

theorem State.reg_setFld_other (s : State) (a hi lo v b : Nat) (h : b ≠ a) : (s.setFld a hi lo v).reg b = s.reg b :=
  State.reg_setReg_other s a b _ h

theorem State.reg_setFlag_other (s : State) (a n : Nat) (x : Bool) (b : Nat) (h : b ≠ a) :
    (s.setFlag a n x).reg b = s.reg b := State.reg_setReg_other s a b _ h

theorem State.reg_hostSet (s : State) (a : Nat) (v : Word) (b : Nat) :
    (s.hostSet a v).reg b = if b = a then hostWord a (s.reg a) v else s.reg b := State.reg_setReg s a b _

@[simp] theorem State.fld_setFld (s : State) (a hi lo v : Nat) (hb : hi < 32) (hl : lo ≤ hi) :
    (s.setFld a hi lo v).fld a hi lo = v % 2 ^ (hi + 1 - lo) := by
  simp [State.fld, State.setFld, hb, hl]

@[simp] theorem State.flag_setFlag (s : State) (a n : Nat) (x : Bool) (hn : n < 32) : (s.setFlag a n x).flag a n = x := by
  simp [State.flag, State.setFlag, hn]

theorem State.flag_setFlag_other (s : State) (a n : Nat) (x : Bool) (b m : Nat) (hn : n < 32) (h : b ≠ a ∨ m ≠ n) :
    (s.setFlag a n x).flag b m = s.flag b m := by
  unfold State.flag State.setFlag
  rw [State.reg_setReg]
  split
  · rename_i e
    subst e
    exact bit_withBit_other _ _ _ _ hn (by simpa using h)
  · rfl

theorem State.flag_setFld_other (s : State) (a hi lo v b m : Nat) (hb : hi < 32) (hl : lo ≤ hi)
    (h : b ≠ a ∨ m < lo ∨ hi < m) : (s.setFld a hi lo v).flag b m = s.flag b m := by
  unfold State.flag State.setFld
  rw [State.reg_setReg]
  split
  · rename_i e
    subst e
    exact bit_withField_other _ _ _ _ _ hb hl (by simpa using h)
  · rfl

theorem State.fld_setFlag_other (s : State) (a n : Nat) (x : Bool) (b hi lo : Nat) (hn : n < 32)
    (h : b ≠ a ∨ n < lo ∨ hi < n) : (s.setFlag a n x).fld b hi lo = s.fld b hi lo := by
  unfold State.fld State.setFlag
  rw [State.reg_setReg]
  split
  · rename_i e
    subst e
    exact field_withBit_other _ _ _ _ _ hn (by simpa using h)
  · rfl

theorem State.fld_setFld_other (s : State) (a hi lo v b hi' lo' : Nat) (hb : hi < 32) (hl : lo ≤ hi)
    (h : b ≠ a ∨ hi < lo' ∨ hi' < lo) : (s.setFld a hi lo v).fld b hi' lo' = s.fld b hi' lo' := by
  unfold State.fld State.setFld
  rw [State.reg_setReg]
  split
  · rename_i e
    subst e
    exact field_withField_other _ _ _ _ _ _ hb hl (by simpa using h)
  · rfl

theorem State.fld_bump (s : State) (a hi lo : Nat) (hb : hi < 32) (hl : lo ≤ hi) :
    (s.bump a hi lo).fld a hi lo = (s.fld a hi lo + 1) % 2 ^ (hi + 1 - lo) := State.fld_setFld s a hi lo _ hb hl

/-- A state with the registers of s reads as s. -/
theorem State.reg_of_regs {s t : State} (h : t.regs = s.regs) (a : Nat) : t.reg a = s.reg a := by
  unfold State.reg; rw [h]

theorem State.fld_of_regs {s t : State} (h : t.regs = s.regs) (a hi lo : Nat) : t.fld a hi lo = s.fld a hi lo := by
  unfold State.fld; rw [State.reg_of_regs h]

theorem State.flag_of_regs {s t : State} (h : t.regs = s.regs) (a n : Nat) : t.flag a n = s.flag a n := by
  unfold State.flag; rw [State.reg_of_regs h]

@[simp] theorem State.reg_setRing (s : State) (r : Nat) (v : RingSt) (a : Nat) : (s.setRing r v).reg a = s.reg a := rfl
@[simp] theorem State.reg_post (s : State) (r : Nat) (e : OutEntry) (a : Nat) : (s.post r e).reg a = s.reg a := rfl
@[simp] theorem State.reg_await (s : State) (v : Verb) (w : Wait) (n a : Nat) : (s.await v w n).reg a = s.reg a := rfl
@[simp] theorem State.reg_complete (s : State) (v : Verb) (st : Status) (res : List Word) (a : Nat) :
    (s.complete v st res).reg a = s.reg a := State.reg_of_regs (State.complete_regs s v st res) a
@[simp] theorem State.fld_complete (s : State) (v : Verb) (st : Status) (res : List Word) (a hi lo : Nat) :
    (s.complete v st res).fld a hi lo = s.fld a hi lo := State.fld_of_regs (State.complete_regs s v st res) a hi lo
@[simp] theorem State.flag_complete (s : State) (v : Verb) (st : Status) (res : List Word) (a n : Nat) :
    (s.complete v st res).flag a n = s.flag a n := State.flag_of_regs (State.complete_regs s v st res) a n
@[simp] theorem State.reg_defer (s : State) (v : Verb) (w : Wait) (n a : Nat) : (s.defer v w n).reg a = s.reg a :=
  State.reg_of_regs (State.defer_regs s v w n) a
@[simp] theorem State.flag_defer (s : State) (v : Verb) (w : Wait) (n a m : Nat) : (s.defer v w n).flag a m = s.flag a m :=
  State.flag_of_regs (State.defer_regs s v w n) a m
@[simp] theorem State.fld_defer (s : State) (v : Verb) (w : Wait) (n a hi lo : Nat) :
    (s.defer v w n).fld a hi lo = s.fld a hi lo := State.fld_of_regs (State.defer_regs s v w n) a hi lo
@[simp] theorem State.reg_completeRing (s : State) (r : Nat) (st : Status) (res : List Word) (a : Nat) :
    (s.completeRing r st res).reg a = s.reg a := State.reg_of_regs (State.completeRing_regs s r st res) a
@[simp] theorem State.flag_completeRing (s : State) (r : Nat) (st : Status) (res : List Word) (a n : Nat) :
    (s.completeRing r st res).flag a n = s.flag a n := State.flag_of_regs (State.completeRing_regs s r st res) a n
@[simp] theorem State.fld_completeRing (s : State) (r : Nat) (st : Status) (res : List Word) (a hi lo : Nat) :
    (s.completeRing r st res).fld a hi lo = s.fld a hi lo := State.fld_of_regs (State.completeRing_regs s r st res) a hi lo

/-! ### RW/S words in force -/

@[simp] theorem State.inForce_setForce_self (s : State) (a : Nat) (v : Word) : (s.setForce a v).inForce a = v :=
  Cells.get_put_self porWord s.force a v

theorem State.inForce_setForce_other (s : State) (a b : Nat) (v : Word) (h : b ≠ a) :
    (s.setForce a v).inForce b = s.inForce b := Cells.get_put_other porWord s.force a b v h

/-! ### Rings -/

@[simp] theorem State.ring_setRing_self (s : State) (r : Nat) (v : RingSt) : (s.setRing r v).ring r = v :=
  Cells.get_put_self _ s.rings r v

theorem State.ring_setRing (s : State) (r q : Nat) (v : RingSt) :
    (s.setRing r v).ring q = if q = r then v else s.ring q := Cells.get_put _ s.rings r q v

theorem State.ring_setRing_other (s : State) (r q : Nat) (v : RingSt) (h : q ≠ r) : (s.setRing r v).ring q = s.ring q :=
  Cells.get_put_other _ s.rings r q v h

@[simp] theorem State.ring_setReg (s : State) (a : Nat) (v : Word) (r : Nat) : (s.setReg a v).ring r = s.ring r := rfl
@[simp] theorem State.ring_setFld (s : State) (a hi lo v r : Nat) : (s.setFld a hi lo v).ring r = s.ring r := rfl
@[simp] theorem State.ring_setFlag (s : State) (a n : Nat) (b : Bool) (r : Nat) : (s.setFlag a n b).ring r = s.ring r := rfl

/-! ### Memories -/

/-- A Hall byte reads as written where the lease allows the write, and every other byte reads as before (R28). -/
theorem State.hallRaw_putHall (s : State) (a : Nat) (b : Byte) (x : Nat) :
    (s.putHall a b).hallRaw x = if x = a ∧ s.leased a = true then b else s.hallRaw x := by
  unfold State.putHall
  by_cases hl : s.leased a = true
  · simp only [hl, if_true, and_true]
    exact Cells.get_insert _ s.hall a x b
  · simp [hl]

@[simp] theorem State.aoWord_setAo_self (s : State) (i : Nat) (v : Word) : (s.setAo i v).aoWord i = v :=
  Cells.get_put_self _ s.ao i v

theorem State.aoWord_setAo_other (s : State) (i j : Nat) (v : Word) (h : j ≠ i) : (s.setAo i v).aoWord j = s.aoWord j :=
  Cells.get_put_other _ s.ao i j v h

/-- A blown word holds what it held and the bits blown (R233). -/
@[simp] theorem State.fuseWord_blow_self (s : State) (i : Nat) (v : BitVec 56) (c : BitVec 8) :
    (s.blow i v c).fuseWord i = s.fuseWord i ||| v := by
  have e : (c ++ v).setWidth 56 = v := by
    apply BitVec.eq_of_getLsbD_eq
    intro j hj
    rw [BitVec.getLsbD_setWidth, BitVec.getLsbD_append]
    simp [hj]
  simp [State.fuseWord, State.blow, Cells.get_put_self, BitVec.setWidth_or, e]

theorem State.fuseWord_blow_other (s : State) (i j : Nat) (v : BitVec 56) (c : BitVec 8) (h : j ≠ i) :
    (s.blow i v c).fuseWord j = s.fuseWord j := by
  simp [State.fuseWord, State.blow, Cells.get_put_other _ _ _ _ _ h]

end Sys2Proof.Machine
end

