-- ==== Sys2Proof/Laws/Raise.lean ====
section
/-!
SUPPORT. Everything that the raise of an event can do: it writes EV_PEND and pending flags, adds entries to the outboxes of
rings, and adds the raise to those still to be counted.
-/

namespace Sys2Proof.Machine

/-- The state with all that a raise may write cleared. -/
def State.quiet (s : State) : State := { s with regs := [], flags := [], counting := [], rings := [] }

/-- A ring whose outbox has grown and which is else the same. -/
structure RingGrown (q0 q : RingSt) : Prop where
  finished : q.finished = q0.finished
  unsignalled : q.unsignalled = q0.unsignalled
  coalFrom : q.coalFrom = q0.coalFrom
  cur : q.cur = q0.cur
  enabling : q.enabling = q0.enabling
  setupBy : q.setupBy = q0.setupBy
  outbox : ∃ es, q.outbox = q0.outbox ++ es

theorem RingGrown.refl (q : RingSt) : RingGrown q q := ⟨rfl, rfl, rfl, rfl, rfl, rfl, [], by simp⟩

theorem RingGrown.trans {a b c : RingSt} (h : RingGrown a b) (k : RingGrown b c) : RingGrown a c := by
  obtain ⟨es, he⟩ := h.outbox
  obtain ⟨fs, hf⟩ := k.outbox
  exact ⟨k.finished.trans h.finished, k.unsignalled.trans h.unsignalled, k.coalFrom.trans h.coalFrom, k.cur.trans h.cur,
    k.enabling.trans h.enabling, k.setupBy.trans h.setupBy, es ++ fs, by rw [hf, he, List.append_assoc]⟩

/-- s differs from s0 in nothing but what a raise may write. -/
structure Raised (s0 s : State) : Prop where
  same : s.quiet = s0.quiet
  reg : ∀ a, raiseReg a = false → s.reg a = s0.reg a
  ring : ∀ r, RingGrown (s0.ring r) (s.ring r)

theorem Raised.refl (s : State) : Raised s s := ⟨rfl, fun _ _ => rfl, fun _ => RingGrown.refl _⟩

theorem Raised.setReg {s0 s : State} (h : Raised s0 s) (a : Nat) (v : Word) (ha : raiseReg a = true) :
    Raised s0 (s.setReg a v) :=
  ⟨h.same, fun b hb => by
    rw [State.reg_setReg_other s a b v (fun e => by rw [e, ha] at hb; cases hb)]
    exact h.reg b hb, h.ring⟩

theorem Raised.post {s0 s : State} (h : Raised s0 s) (r : Nat) (e : OutEntry) : Raised s0 (s.post r e) :=
  ⟨h.same, h.reg, fun q => by
    unfold State.post
    rw [State.ring_setRing]
    split
    · rename_i hq
      subst hq
      exact (h.ring q).trans ⟨rfl, rfl, rfl, rfl, rfl, rfl, [e], rfl⟩
    · exact h.ring q⟩

theorem Raised.setFlags {s0 s : State} (h : Raised s0 s) (fs : List EvFlag) : Raised s0 { s with flags := fs } :=
  ⟨h.same, h.reg, h.ring⟩

theorem Raised.setCounting {s0 s : State} (h : Raised s0 s) (rs : List Raise) : Raised s0 { s with counting := rs } :=
  ⟨h.same, h.reg, h.ring⟩

theorem Raised.ite {s0 a b : State} {c : Prop} [Decidable c] (ha : Raised s0 a) (hb : Raised s0 b) :
    Raised s0 (if c then a else b) := by split <;> assumption

/-- An event number of the fabric (R136: 128 events). -/
theorem raiseReg_evPend (e : Nat) (h : e < 128) : raiseReg (Reg.CUE_EV_PEND + 4 * (e / 32)) = true := by
  have : e / 32 < 4 := by omega
  have h1 : Reg.CUE_EV_PEND ≤ Reg.CUE_EV_PEND + 4 * (e / 32) := Nat.le_add_right _ _
  have h2 : Reg.CUE_EV_PEND + 4 * (e / 32) < Reg.CUE_EV_PEND + 16 := by omega
  simp [raiseReg, h2]

theorem Raised.deliverFlag {s0 s : State} (h : Raised s0 s) (f : EvFlag) (hf : f.event < 128) :
    Raised s0 (s.deliverFlag f) := by
  have h1 : Raised s0 (if bit (s.route f.event) 9 && !f.ringOnly then s.setEvPend f.event else s) :=
    Raised.ite (h.setReg _ _ (raiseReg_evPend _ hf)) h
  unfold State.deliverFlag
  exact Raised.ite (Raised.ite (h1.post _ _) (h1.setFlags _)) h1

theorem Raised.routeRaise {s0 s : State} (h : Raised s0 s) (e : Nat) (he : e < 128) (arg : Word) :
    Raised s0 (s.routeRaise e arg) := by
  have h1 : Raised s0 (if bit (s.route e) 9 then s.setEvPend e else s) :=
    Raised.ite (h.setReg _ _ (raiseReg_evPend _ he)) h
  unfold State.routeRaise
  exact Raised.ite (Raised.ite (Raised.ite (h1.setFlags _) h1) (h.deliverFlag _ he)) (h.setFlags _)

/-- What a raise does, all of it. -/
theorem State.raise_raised (s : State) (e : Nat) (he : e < 128) (arg : Word) : Raised s (s.raise e arg) :=
  ((Raised.refl s).routeRaise e he arg).setCounting _

theorem State.reg_raise (s : State) (e : Nat) (he : e < 128) (arg : Word) (a : Nat) (ha : raiseReg a = false) :
    (s.raise e arg).reg a = s.reg a := (s.raise_raised e he arg).reg a ha

theorem State.flag_raise (s : State) (e : Nat) (he : e < 128) (arg : Word) (a n : Nat) (ha : raiseReg a = false) :
    (s.raise e arg).flag a n = s.flag a n := by
  unfold State.flag
  rw [State.reg_raise s e he arg a ha]

theorem State.fld_raise (s : State) (e : Nat) (he : e < 128) (arg : Word) (a hi lo : Nat) (ha : raiseReg a = false) :
    (s.raise e arg).fld a hi lo = s.fld a hi lo := by
  unfold State.fld
  rw [State.reg_raise s e he arg a ha]

@[simp] theorem State.raise_force (s : State) (e : Nat) (he : e < 128) (arg : Word) :
    (s.raise e arg).force = s.force := by
  have h := congrArg State.force (s.raise_raised e he arg).same
  exact h
@[simp] theorem State.raise_metro (s : State) (e : Nat) (he : e < 128) (arg : Word) :
    (s.raise e arg).metro = s.metro := by
  have h := congrArg State.metro (s.raise_raised e he arg).same
  exact h
@[simp] theorem State.raise_hall (s : State) (e : Nat) (he : e < 128) (arg : Word) :
    (s.raise e arg).hall = s.hall := by
  have h := congrArg State.hall (s.raise_raised e he arg).same
  exact h
@[simp] theorem State.raise_banks (s : State) (e : Nat) (he : e < 128) (arg : Word) :
    (s.raise e arg).banks = s.banks := by
  have h := congrArg State.banks (s.raise_raised e he arg).same
  exact h
@[simp] theorem State.raise_ao (s : State) (e : Nat) (he : e < 128) (arg : Word) :
    (s.raise e arg).ao = s.ao := by
  have h := congrArg State.ao (s.raise_raised e he arg).same
  exact h
@[simp] theorem State.raise_jrnl (s : State) (e : Nat) (he : e < 128) (arg : Word) :
    (s.raise e arg).jrnl = s.jrnl := by
  have h := congrArg State.jrnl (s.raise_raised e he arg).same
  exact h
@[simp] theorem State.raise_face (s : State) (e : Nat) (he : e < 128) (arg : Word) :
    (s.raise e arg).face = s.face := by
  have h := congrArg State.face (s.raise_raised e he arg).same
  exact h
@[simp] theorem State.raise_hallGen (s : State) (e : Nat) (he : e < 128) (arg : Word) :
    (s.raise e arg).hallGen = s.hallGen := by
  have h := congrArg State.hallGen (s.raise_raised e he arg).same
  exact h
@[simp] theorem State.raise_flash (s : State) (e : Nat) (he : e < 128) (arg : Word) :
    (s.raise e arg).flash = s.flash := by
  have h := congrArg State.flash (s.raise_raised e he arg).same
  exact h
@[simp] theorem State.raise_fuses (s : State) (e : Nat) (he : e < 128) (arg : Word) :
    (s.raise e arg).fuses = s.fuses := by
  have h := congrArg State.fuses (s.raise_raised e he arg).same
  exact h
@[simp] theorem State.raise_free (s : State) (e : Nat) (he : e < 128) (arg : Word) :
    (s.raise e arg).free = s.free := by
  have h := congrArg State.free (s.raise_raised e he arg).same
  exact h
@[simp] theorem State.raise_pins (s : State) (e : Nat) (he : e < 128) (arg : Word) :
    (s.raise e arg).pins = s.pins := by
  have h := congrArg State.pins (s.raise_raised e he arg).same
  exact h
@[simp] theorem State.raise_tap (s : State) (e : Nat) (he : e < 128) (arg : Word) :
    (s.raise e arg).tap = s.tap := by
  have h := congrArg State.tap (s.raise_raised e he arg).same
  exact h
@[simp] theorem State.raise_ladder (s : State) (e : Nat) (he : e < 128) (arg : Word) :
    (s.raise e arg).ladder = s.ladder := by
  have h := congrArg State.ladder (s.raise_raised e he arg).same
  exact h
@[simp] theorem State.raise_boot (s : State) (e : Nat) (he : e < 128) (arg : Word) :
    (s.raise e arg).boot = s.boot := by
  have h := congrArg State.boot (s.raise_raised e he arg).same
  exact h
@[simp] theorem State.raise_portA (s : State) (e : Nat) (he : e < 128) (arg : Word) :
    (s.raise e arg).portA = s.portA := by
  have h := congrArg State.portA (s.raise_raised e he arg).same
  exact h
@[simp] theorem State.raise_portB (s : State) (e : Nat) (he : e < 128) (arg : Word) :
    (s.raise e arg).portB = s.portB := by
  have h := congrArg State.portB (s.raise_raised e he arg).same
  exact h
@[simp] theorem State.raise_fetched (s : State) (e : Nat) (he : e < 128) (arg : Word) :
    (s.raise e arg).fetched = s.fetched := by
  have h := congrArg State.fetched (s.raise_raised e he arg).same
  exact h
@[simp] theorem State.raise_commits (s : State) (e : Nat) (he : e < 128) (arg : Word) :
    (s.raise e arg).commits = s.commits := by
  have h := congrArg State.commits (s.raise_raised e he arg).same
  exact h
@[simp] theorem State.raise_expertWait (s : State) (e : Nat) (he : e < 128) (arg : Word) :
    (s.raise e arg).expertWait = s.expertWait := by
  have h := congrArg State.expertWait (s.raise_raised e he arg).same
  exact h
@[simp] theorem State.raise_score (s : State) (e : Nat) (he : e < 128) (arg : Word) :
    (s.raise e arg).score = s.score := by
  have h := congrArg State.score (s.raise_raised e he arg).same
  exact h
@[simp] theorem State.raise_keys (s : State) (e : Nat) (he : e < 128) (arg : Word) :
    (s.raise e arg).keys = s.keys := by
  have h := congrArg State.keys (s.raise_raised e he arg).same
  exact h
@[simp] theorem State.raise_sense (s : State) (e : Nat) (he : e < 128) (arg : Word) :
    (s.raise e arg).sense = s.sense := by
  have h := congrArg State.sense (s.raise_raised e he arg).same
  exact h
@[simp] theorem State.raise_tune (s : State) (e : Nat) (he : e < 128) (arg : Word) :
    (s.raise e arg).tune = s.tune := by
  have h := congrArg State.tune (s.raise_raised e he arg).same
  exact h
@[simp] theorem State.raise_intake (s : State) (e : Nat) (he : e < 128) (arg : Word) :
    (s.raise e arg).intake = s.intake := by
  have h := congrArg State.intake (s.raise_raised e he arg).same
  exact h
@[simp] theorem State.raise_scan (s : State) (e : Nat) (he : e < 128) (arg : Word) :
    (s.raise e arg).scan = s.scan := by
  have h := congrArg State.scan (s.raise_raised e he arg).same
  exact h
@[simp] theorem State.raise_pipe (s : State) (e : Nat) (he : e < 128) (arg : Word) :
    (s.raise e arg).pipe = s.pipe := by
  have h := congrArg State.pipe (s.raise_raised e he arg).same
  exact h
@[simp] theorem State.raise_stave (s : State) (e : Nat) (he : e < 128) (arg : Word) :
    (s.raise e arg).stave = s.stave := by
  have h := congrArg State.stave (s.raise_raised e he arg).same
  exact h
@[simp] theorem State.raise_ens (s : State) (e : Nat) (he : e < 128) (arg : Word) :
    (s.raise e arg).ens = s.ens := by
  have h := congrArg State.ens (s.raise_raised e he arg).same
  exact h
@[simp] theorem State.raise_pending (s : State) (e : Nat) (he : e < 128) (arg : Word) :
    (s.raise e arg).pending = s.pending := by
  have h := congrArg State.pending (s.raise_raised e he arg).same
  exact h
end Sys2Proof.Machine
end

