-- ==== Sys2Proof/Laws/Rows.lean ====
section
/-!
SUPPORT. Which row of the command table a buffered word belongs to, register by register, and the front word taken by its row.
-/

set_option linter.unusedSimpArgs false

namespace Sys2Proof.Machine

/-- Letting words into the crossing unit changes ports and crossing unit alone. -/
theorem State.crossAll_frame (s : State) : ∃ a b c, s.crossAll = { s with portA := a, portB := b, crossing := c } := by
  have one : ∀ (s : State) (p : Port), ∃ a b c, s.cross p = { s with portA := a, portB := b, crossing := c } := by
    intro s p
    unfold State.cross
    split
    · cases p <;> (simp only [State.setPort]; split <;> exact ⟨_, _, _, rfl⟩)
    · exact ⟨_, _, _, rfl⟩
  have all : ∀ (l : List Nat) (s : State), ∃ a b c,
      l.foldl (fun s _ => (s.cross .a).cross .b) s = { s with portA := a, portB := b, crossing := c } := by
    intro l
    induction l with
    | nil => intro s; exact ⟨_, _, _, rfl⟩
    | cons x l ih =>
      intro s
      obtain ⟨a, b, c, h⟩ := one s .a
      obtain ⟨a', b', c', h'⟩ := one (s.cross .a) .b
      obtain ⟨a2, b2, c2, h2⟩ := ih ((s.cross .a).cross .b)
      exact ⟨a2, b2, c2, by rw [List.foldl_cons, h2, h', h]⟩
  exact all _ s

/-- Taking a word changes ports and crossing unit alone. -/
theorem State.nextWord_frame {s t : State} {p : Port} {f : BufWord → Bool} {w : BufWord} (h : s.nextWord p f = some (w, t)) :
    f w = true ∧ ∃ a b c, t = { s with portA := a, portB := b, crossing := c } := by
  have front : s.frontWord p f = some (w, t) → f w = true ∧ ∃ a b c, t = { s with portA := a, portB := b, crossing := c } := by
    intro h
    unfold State.frontWord at h
    split at h
    · split at h
      · rename_i hc
        simp only [Option.some.injEq, Prod.mk.injEq] at h
        obtain ⟨rfl, rfl⟩ := h
        simp only [Bool.and_eq_true] at hc
        obtain ⟨a, b, c, hx⟩ := State.crossAll_frame (s.setPort p { s.port p with wbuf := _ })
        refine ⟨hc.1, a, b, c, ?_⟩
        rw [hx]
        cases p <;> rfl
      · cases h
    · cases h
  unfold State.nextWord at h
  split at h
  · split at h
    · rename_i hc
      simp only [Option.some.injEq, Prod.mk.injEq] at h
      obtain ⟨rfl, rfl⟩ := h
      obtain ⟨a, b, c, hx⟩ := State.crossAll_frame { s with crossing := s.crossing.erase _ }
      exact ⟨hc, a, b, c, by rw [hx]⟩
    · exact front h
  · exact front h

/-- A word that is taken leaves ports and crossing unit alone changed. -/
theorem fronted_frame {s t : State} {p : Port} {w : BufWord} (h : fronted s p w t = true) :
    ∃ a b c, t = { s with portA := a, portB := b, crossing := c } := by
  simp only [fronted, Bool.and_eq_true, beq_iff_eq] at h
  exact (State.nextWord_frame h.1).2

/-- The word taken and applied by its own row. -/
theorem State.takeWord_fronted {s t : State} {p : Port} {w : BufWord} {r : WordRow} (h : fronted s p w t = true)
    (hr : rowOf w = r) : s.takeWord p r = t.applyWord w := by
  simp only [fronted, Bool.and_eq_true, beq_iff_eq, Bool.not_eq_true', hr] at h
  simp [State.takeWord, h.1, h.2]

theorem rowOf_ladderReqGo {w : BufWord} (h : w.off = Reg.DEV_LADDER_REQ) (hv : bit w.val 31 = true) : rowOf w = .ladderReqGo := by
  have hg : regionOf Reg.DEV_LADDER_REQ = .page := by decide
  have hm : isMode Reg.DEV_LADDER_REQ = false := by decide
  unfold rowOf
  rw [h, hg]
  simp only [pageRow, hm]
  simp [Reg.CUE_RESUME, Reg.DEV_LADDER_REQ, Reg.DEV_RESET_REQ, Reg.DEV_WDOG_KICK, Reg.ENS_COMMIT, Reg.ENS_DESK_RETEST,
    Reg.ENS_DESK_TEST, Reg.ENS_ISSUE, Reg.FACE_COMMIT, Reg.FACE_REQ, Reg.FACE_WALL_HI, Reg.HPORT_PERM_LOCK,
    Reg.INTAKE_COMMIT, Reg.INTAKE_OPEN, Reg.INTAKE_PRESENT, Reg.JRNL_CMD, Reg.KEYS_COMMIT, Reg.KEYS_POP,
    Reg.PIPE_COMMIT, Reg.SCAN_COMMIT, Reg.SCAN_REQ, Reg.SCORE_START, Reg.SCORE_STOP, Reg.SENSE_COMMIT,
    Reg.STAVE_COMMIT, Reg.STAVE_REQ, Reg.TUNE_REQ, hv]

theorem rowOf_resetSystem {w : BufWord} (h : w.off = Reg.DEV_RESET_REQ) (hv : bit w.val 1 = true) : rowOf w = .resetSystem := by
  have hg : regionOf Reg.DEV_RESET_REQ = .page := by decide
  have hm : isMode Reg.DEV_RESET_REQ = false := by decide
  unfold rowOf
  rw [h, hg]
  simp only [pageRow, hm]
  simp [Reg.CUE_RESUME, Reg.DEV_LADDER_REQ, Reg.DEV_RESET_REQ, Reg.DEV_WDOG_KICK, Reg.ENS_COMMIT, Reg.ENS_DESK_RETEST,
    Reg.ENS_DESK_TEST, Reg.ENS_ISSUE, Reg.FACE_COMMIT, Reg.FACE_REQ, Reg.FACE_WALL_HI, Reg.HPORT_PERM_LOCK,
    Reg.INTAKE_COMMIT, Reg.INTAKE_OPEN, Reg.INTAKE_PRESENT, Reg.JRNL_CMD, Reg.KEYS_COMMIT, Reg.KEYS_POP,
    Reg.PIPE_COMMIT, Reg.SCAN_COMMIT, Reg.SCAN_REQ, Reg.SCORE_START, Reg.SCORE_STOP, Reg.SENSE_COMMIT,
    Reg.STAVE_COMMIT, Reg.STAVE_REQ, Reg.TUNE_REQ, hv]

theorem rowOf_resetCore {w : BufWord} (h : w.off = Reg.DEV_RESET_REQ) (hv : bit w.val 1 = false ∧ bit w.val 0 = true) : rowOf w = .resetCore := by
  have hg : regionOf Reg.DEV_RESET_REQ = .page := by decide
  have hm : isMode Reg.DEV_RESET_REQ = false := by decide
  unfold rowOf
  rw [h, hg]
  simp only [pageRow, hm]
  simp [Reg.CUE_RESUME, Reg.DEV_LADDER_REQ, Reg.DEV_RESET_REQ, Reg.DEV_WDOG_KICK, Reg.ENS_COMMIT, Reg.ENS_DESK_RETEST,
    Reg.ENS_DESK_TEST, Reg.ENS_ISSUE, Reg.FACE_COMMIT, Reg.FACE_REQ, Reg.FACE_WALL_HI, Reg.HPORT_PERM_LOCK,
    Reg.INTAKE_COMMIT, Reg.INTAKE_OPEN, Reg.INTAKE_PRESENT, Reg.JRNL_CMD, Reg.KEYS_COMMIT, Reg.KEYS_POP,
    Reg.PIPE_COMMIT, Reg.SCAN_COMMIT, Reg.SCAN_REQ, Reg.SCORE_START, Reg.SCORE_STOP, Reg.SENSE_COMMIT,
    Reg.STAVE_COMMIT, Reg.STAVE_REQ, Reg.TUNE_REQ, hv]

theorem rowOf_wdogKick {w : BufWord} (h : w.off = Reg.DEV_WDOG_KICK) : rowOf w = .wdogKick := by
  have hg : regionOf Reg.DEV_WDOG_KICK = .page := by decide
  have hm : isMode Reg.DEV_WDOG_KICK = false := by decide
  unfold rowOf
  rw [h, hg]
  simp only [pageRow, hm]
  simp [Reg.CUE_RESUME, Reg.DEV_LADDER_REQ, Reg.DEV_RESET_REQ, Reg.DEV_WDOG_KICK, Reg.ENS_COMMIT, Reg.ENS_DESK_RETEST,
    Reg.ENS_DESK_TEST, Reg.ENS_ISSUE, Reg.FACE_COMMIT, Reg.FACE_REQ, Reg.FACE_WALL_HI, Reg.HPORT_PERM_LOCK,
    Reg.INTAKE_COMMIT, Reg.INTAKE_OPEN, Reg.INTAKE_PRESENT, Reg.JRNL_CMD, Reg.KEYS_COMMIT, Reg.KEYS_POP,
    Reg.PIPE_COMMIT, Reg.SCAN_COMMIT, Reg.SCAN_REQ, Reg.SCORE_START, Reg.SCORE_STOP, Reg.SENSE_COMMIT,
    Reg.STAVE_COMMIT, Reg.STAVE_REQ, Reg.TUNE_REQ]

theorem rowOf_permLock {w : BufWord} (h : w.off = Reg.HPORT_PERM_LOCK) (hv : bit w.val 0 = true) : rowOf w = .permLock := by
  have hg : regionOf Reg.HPORT_PERM_LOCK = .page := by decide
  have hm : isMode Reg.HPORT_PERM_LOCK = false := by decide
  unfold rowOf
  rw [h, hg]
  simp only [pageRow, hm]
  simp [Reg.CUE_RESUME, Reg.DEV_LADDER_REQ, Reg.DEV_RESET_REQ, Reg.DEV_WDOG_KICK, Reg.ENS_COMMIT, Reg.ENS_DESK_RETEST,
    Reg.ENS_DESK_TEST, Reg.ENS_ISSUE, Reg.FACE_COMMIT, Reg.FACE_REQ, Reg.FACE_WALL_HI, Reg.HPORT_PERM_LOCK,
    Reg.INTAKE_COMMIT, Reg.INTAKE_OPEN, Reg.INTAKE_PRESENT, Reg.JRNL_CMD, Reg.KEYS_COMMIT, Reg.KEYS_POP,
    Reg.PIPE_COMMIT, Reg.SCAN_COMMIT, Reg.SCAN_REQ, Reg.SCORE_START, Reg.SCORE_STOP, Reg.SENSE_COMMIT,
    Reg.STAVE_COMMIT, Reg.STAVE_REQ, Reg.TUNE_REQ, hv]

theorem rowOf_cueResume {w : BufWord} (h : w.off = Reg.CUE_RESUME) (hv : bit w.val 31 = true) : rowOf w = .cueResume := by
  have hg : regionOf Reg.CUE_RESUME = .page := by decide
  have hm : isMode Reg.CUE_RESUME = false := by decide
  unfold rowOf
  rw [h, hg]
  simp only [pageRow, hm]
  simp [Reg.CUE_RESUME, Reg.DEV_LADDER_REQ, Reg.DEV_RESET_REQ, Reg.DEV_WDOG_KICK, Reg.ENS_COMMIT, Reg.ENS_DESK_RETEST,
    Reg.ENS_DESK_TEST, Reg.ENS_ISSUE, Reg.FACE_COMMIT, Reg.FACE_REQ, Reg.FACE_WALL_HI, Reg.HPORT_PERM_LOCK,
    Reg.INTAKE_COMMIT, Reg.INTAKE_OPEN, Reg.INTAKE_PRESENT, Reg.JRNL_CMD, Reg.KEYS_COMMIT, Reg.KEYS_POP,
    Reg.PIPE_COMMIT, Reg.SCAN_COMMIT, Reg.SCAN_REQ, Reg.SCORE_START, Reg.SCORE_STOP, Reg.SENSE_COMMIT,
    Reg.STAVE_COMMIT, Reg.STAVE_REQ, Reg.TUNE_REQ, hv]

theorem rowOf_scoreStart {w : BufWord} (h : w.off = Reg.SCORE_START) : rowOf w = .scoreStart := by
  have hg : regionOf Reg.SCORE_START = .page := by decide
  have hm : isMode Reg.SCORE_START = false := by decide
  unfold rowOf
  rw [h, hg]
  simp only [pageRow, hm]
  simp [Reg.CUE_RESUME, Reg.DEV_LADDER_REQ, Reg.DEV_RESET_REQ, Reg.DEV_WDOG_KICK, Reg.ENS_COMMIT, Reg.ENS_DESK_RETEST,
    Reg.ENS_DESK_TEST, Reg.ENS_ISSUE, Reg.FACE_COMMIT, Reg.FACE_REQ, Reg.FACE_WALL_HI, Reg.HPORT_PERM_LOCK,
    Reg.INTAKE_COMMIT, Reg.INTAKE_OPEN, Reg.INTAKE_PRESENT, Reg.JRNL_CMD, Reg.KEYS_COMMIT, Reg.KEYS_POP,
    Reg.PIPE_COMMIT, Reg.SCAN_COMMIT, Reg.SCAN_REQ, Reg.SCORE_START, Reg.SCORE_STOP, Reg.SENSE_COMMIT,
    Reg.STAVE_COMMIT, Reg.STAVE_REQ, Reg.TUNE_REQ]

theorem rowOf_scoreStop {w : BufWord} (h : w.off = Reg.SCORE_STOP) : rowOf w = .scoreStop := by
  have hg : regionOf Reg.SCORE_STOP = .page := by decide
  have hm : isMode Reg.SCORE_STOP = false := by decide
  unfold rowOf
  rw [h, hg]
  simp only [pageRow, hm]
  simp [Reg.CUE_RESUME, Reg.DEV_LADDER_REQ, Reg.DEV_RESET_REQ, Reg.DEV_WDOG_KICK, Reg.ENS_COMMIT, Reg.ENS_DESK_RETEST,
    Reg.ENS_DESK_TEST, Reg.ENS_ISSUE, Reg.FACE_COMMIT, Reg.FACE_REQ, Reg.FACE_WALL_HI, Reg.HPORT_PERM_LOCK,
    Reg.INTAKE_COMMIT, Reg.INTAKE_OPEN, Reg.INTAKE_PRESENT, Reg.JRNL_CMD, Reg.KEYS_COMMIT, Reg.KEYS_POP,
    Reg.PIPE_COMMIT, Reg.SCAN_COMMIT, Reg.SCAN_REQ, Reg.SCORE_START, Reg.SCORE_STOP, Reg.SENSE_COMMIT,
    Reg.STAVE_COMMIT, Reg.STAVE_REQ, Reg.TUNE_REQ]

theorem rowOf_keysPop {w : BufWord} (h : w.off = Reg.KEYS_POP) : rowOf w = .keysPop := by
  have hg : regionOf Reg.KEYS_POP = .page := by decide
  have hm : isMode Reg.KEYS_POP = false := by decide
  unfold rowOf
  rw [h, hg]
  simp only [pageRow, hm]
  simp [Reg.CUE_RESUME, Reg.DEV_LADDER_REQ, Reg.DEV_RESET_REQ, Reg.DEV_WDOG_KICK, Reg.ENS_COMMIT, Reg.ENS_DESK_RETEST,
    Reg.ENS_DESK_TEST, Reg.ENS_ISSUE, Reg.FACE_COMMIT, Reg.FACE_REQ, Reg.FACE_WALL_HI, Reg.HPORT_PERM_LOCK,
    Reg.INTAKE_COMMIT, Reg.INTAKE_OPEN, Reg.INTAKE_PRESENT, Reg.JRNL_CMD, Reg.KEYS_COMMIT, Reg.KEYS_POP,
    Reg.PIPE_COMMIT, Reg.SCAN_COMMIT, Reg.SCAN_REQ, Reg.SCORE_START, Reg.SCORE_STOP, Reg.SENSE_COMMIT,
    Reg.STAVE_COMMIT, Reg.STAVE_REQ, Reg.TUNE_REQ]

theorem rowOf_keysCommit {w : BufWord} (h : w.off = Reg.KEYS_COMMIT) (hv : bit w.val 0 = true) : rowOf w = .keysCommit := by
  have hg : regionOf Reg.KEYS_COMMIT = .page := by decide
  have hm : isMode Reg.KEYS_COMMIT = false := by decide
  unfold rowOf
  rw [h, hg]
  simp only [pageRow, hm]
  simp [Reg.CUE_RESUME, Reg.DEV_LADDER_REQ, Reg.DEV_RESET_REQ, Reg.DEV_WDOG_KICK, Reg.ENS_COMMIT, Reg.ENS_DESK_RETEST,
    Reg.ENS_DESK_TEST, Reg.ENS_ISSUE, Reg.FACE_COMMIT, Reg.FACE_REQ, Reg.FACE_WALL_HI, Reg.HPORT_PERM_LOCK,
    Reg.INTAKE_COMMIT, Reg.INTAKE_OPEN, Reg.INTAKE_PRESENT, Reg.JRNL_CMD, Reg.KEYS_COMMIT, Reg.KEYS_POP,
    Reg.PIPE_COMMIT, Reg.SCAN_COMMIT, Reg.SCAN_REQ, Reg.SCORE_START, Reg.SCORE_STOP, Reg.SENSE_COMMIT,
    Reg.STAVE_COMMIT, Reg.STAVE_REQ, Reg.TUNE_REQ, hv]

theorem rowOf_senseCommit {w : BufWord} (h : w.off = Reg.SENSE_COMMIT) (hv : bit w.val 0 = true) : rowOf w = .senseCommit := by
  have hg : regionOf Reg.SENSE_COMMIT = .page := by decide
  have hm : isMode Reg.SENSE_COMMIT = false := by decide
  unfold rowOf
  rw [h, hg]
  simp only [pageRow, hm]
  simp [Reg.CUE_RESUME, Reg.DEV_LADDER_REQ, Reg.DEV_RESET_REQ, Reg.DEV_WDOG_KICK, Reg.ENS_COMMIT, Reg.ENS_DESK_RETEST,
    Reg.ENS_DESK_TEST, Reg.ENS_ISSUE, Reg.FACE_COMMIT, Reg.FACE_REQ, Reg.FACE_WALL_HI, Reg.HPORT_PERM_LOCK,
    Reg.INTAKE_COMMIT, Reg.INTAKE_OPEN, Reg.INTAKE_PRESENT, Reg.JRNL_CMD, Reg.KEYS_COMMIT, Reg.KEYS_POP,
    Reg.PIPE_COMMIT, Reg.SCAN_COMMIT, Reg.SCAN_REQ, Reg.SCORE_START, Reg.SCORE_STOP, Reg.SENSE_COMMIT,
    Reg.STAVE_COMMIT, Reg.STAVE_REQ, Reg.TUNE_REQ, hv]

theorem rowOf_tuneReq {w : BufWord} (h : w.off = Reg.TUNE_REQ) : rowOf w = .tuneReq := by
  have hg : regionOf Reg.TUNE_REQ = .page := by decide
  have hm : isMode Reg.TUNE_REQ = false := by decide
  unfold rowOf
  rw [h, hg]
  simp only [pageRow, hm]
  simp [Reg.CUE_RESUME, Reg.DEV_LADDER_REQ, Reg.DEV_RESET_REQ, Reg.DEV_WDOG_KICK, Reg.ENS_COMMIT, Reg.ENS_DESK_RETEST,
    Reg.ENS_DESK_TEST, Reg.ENS_ISSUE, Reg.FACE_COMMIT, Reg.FACE_REQ, Reg.FACE_WALL_HI, Reg.HPORT_PERM_LOCK,
    Reg.INTAKE_COMMIT, Reg.INTAKE_OPEN, Reg.INTAKE_PRESENT, Reg.JRNL_CMD, Reg.KEYS_COMMIT, Reg.KEYS_POP,
    Reg.PIPE_COMMIT, Reg.SCAN_COMMIT, Reg.SCAN_REQ, Reg.SCORE_START, Reg.SCORE_STOP, Reg.SENSE_COMMIT,
    Reg.STAVE_COMMIT, Reg.STAVE_REQ, Reg.TUNE_REQ]

theorem rowOf_jrnlCmd {w : BufWord} (h : w.off = Reg.JRNL_CMD) (hv : bit w.val 31 = true) : rowOf w = .jrnlCmd := by
  have hg : regionOf Reg.JRNL_CMD = .page := by decide
  have hm : isMode Reg.JRNL_CMD = false := by decide
  unfold rowOf
  rw [h, hg]
  simp only [pageRow, hm]
  simp [Reg.CUE_RESUME, Reg.DEV_LADDER_REQ, Reg.DEV_RESET_REQ, Reg.DEV_WDOG_KICK, Reg.ENS_COMMIT, Reg.ENS_DESK_RETEST,
    Reg.ENS_DESK_TEST, Reg.ENS_ISSUE, Reg.FACE_COMMIT, Reg.FACE_REQ, Reg.FACE_WALL_HI, Reg.HPORT_PERM_LOCK,
    Reg.INTAKE_COMMIT, Reg.INTAKE_OPEN, Reg.INTAKE_PRESENT, Reg.JRNL_CMD, Reg.KEYS_COMMIT, Reg.KEYS_POP,
    Reg.PIPE_COMMIT, Reg.SCAN_COMMIT, Reg.SCAN_REQ, Reg.SCORE_START, Reg.SCORE_STOP, Reg.SENSE_COMMIT,
    Reg.STAVE_COMMIT, Reg.STAVE_REQ, Reg.TUNE_REQ, hv]

theorem rowOf_dsiCommit {w : BufWord} (h : w.off = Reg.INTAKE_COMMIT) (hv : bit w.val 0 = true) : rowOf w = .dsiCommit := by
  have hg : regionOf Reg.INTAKE_COMMIT = .page := by decide
  have hm : isMode Reg.INTAKE_COMMIT = false := by decide
  unfold rowOf
  rw [h, hg]
  simp only [pageRow, hm]
  simp [Reg.CUE_RESUME, Reg.DEV_LADDER_REQ, Reg.DEV_RESET_REQ, Reg.DEV_WDOG_KICK, Reg.ENS_COMMIT, Reg.ENS_DESK_RETEST,
    Reg.ENS_DESK_TEST, Reg.ENS_ISSUE, Reg.FACE_COMMIT, Reg.FACE_REQ, Reg.FACE_WALL_HI, Reg.HPORT_PERM_LOCK,
    Reg.INTAKE_COMMIT, Reg.INTAKE_OPEN, Reg.INTAKE_PRESENT, Reg.JRNL_CMD, Reg.KEYS_COMMIT, Reg.KEYS_POP,
    Reg.PIPE_COMMIT, Reg.SCAN_COMMIT, Reg.SCAN_REQ, Reg.SCORE_START, Reg.SCORE_STOP, Reg.SENSE_COMMIT,
    Reg.STAVE_COMMIT, Reg.STAVE_REQ, Reg.TUNE_REQ, hv]

theorem rowOf_openGo {w : BufWord} (h : w.off = Reg.INTAKE_OPEN) (hv : bit w.val 31 = true) : rowOf w = .openGo := by
  have hg : regionOf Reg.INTAKE_OPEN = .page := by decide
  have hm : isMode Reg.INTAKE_OPEN = false := by decide
  unfold rowOf
  rw [h, hg]
  simp only [pageRow, hm]
  simp [Reg.CUE_RESUME, Reg.DEV_LADDER_REQ, Reg.DEV_RESET_REQ, Reg.DEV_WDOG_KICK, Reg.ENS_COMMIT, Reg.ENS_DESK_RETEST,
    Reg.ENS_DESK_TEST, Reg.ENS_ISSUE, Reg.FACE_COMMIT, Reg.FACE_REQ, Reg.FACE_WALL_HI, Reg.HPORT_PERM_LOCK,
    Reg.INTAKE_COMMIT, Reg.INTAKE_OPEN, Reg.INTAKE_PRESENT, Reg.JRNL_CMD, Reg.KEYS_COMMIT, Reg.KEYS_POP,
    Reg.PIPE_COMMIT, Reg.SCAN_COMMIT, Reg.SCAN_REQ, Reg.SCORE_START, Reg.SCORE_STOP, Reg.SENSE_COMMIT,
    Reg.STAVE_COMMIT, Reg.STAVE_REQ, Reg.TUNE_REQ, hv]

theorem rowOf_presentGo {w : BufWord} (h : w.off = Reg.INTAKE_PRESENT) (hv : bit w.val 31 = true) : rowOf w = .presentGo := by
  have hg : regionOf Reg.INTAKE_PRESENT = .page := by decide
  have hm : isMode Reg.INTAKE_PRESENT = false := by decide
  unfold rowOf
  rw [h, hg]
  simp only [pageRow, hm]
  simp [Reg.CUE_RESUME, Reg.DEV_LADDER_REQ, Reg.DEV_RESET_REQ, Reg.DEV_WDOG_KICK, Reg.ENS_COMMIT, Reg.ENS_DESK_RETEST,
    Reg.ENS_DESK_TEST, Reg.ENS_ISSUE, Reg.FACE_COMMIT, Reg.FACE_REQ, Reg.FACE_WALL_HI, Reg.HPORT_PERM_LOCK,
    Reg.INTAKE_COMMIT, Reg.INTAKE_OPEN, Reg.INTAKE_PRESENT, Reg.JRNL_CMD, Reg.KEYS_COMMIT, Reg.KEYS_POP,
    Reg.PIPE_COMMIT, Reg.SCAN_COMMIT, Reg.SCAN_REQ, Reg.SCORE_START, Reg.SCORE_STOP, Reg.SENSE_COMMIT,
    Reg.STAVE_COMMIT, Reg.STAVE_REQ, Reg.TUNE_REQ, hv]

theorem rowOf_scanCommit {w : BufWord} (h : w.off = Reg.SCAN_COMMIT) (hv : bit w.val 0 = true) : rowOf w = .scanCommit := by
  have hg : regionOf Reg.SCAN_COMMIT = .page := by decide
  have hm : isMode Reg.SCAN_COMMIT = false := by decide
  unfold rowOf
  rw [h, hg]
  simp only [pageRow, hm]
  simp [Reg.CUE_RESUME, Reg.DEV_LADDER_REQ, Reg.DEV_RESET_REQ, Reg.DEV_WDOG_KICK, Reg.ENS_COMMIT, Reg.ENS_DESK_RETEST,
    Reg.ENS_DESK_TEST, Reg.ENS_ISSUE, Reg.FACE_COMMIT, Reg.FACE_REQ, Reg.FACE_WALL_HI, Reg.HPORT_PERM_LOCK,
    Reg.INTAKE_COMMIT, Reg.INTAKE_OPEN, Reg.INTAKE_PRESENT, Reg.JRNL_CMD, Reg.KEYS_COMMIT, Reg.KEYS_POP,
    Reg.PIPE_COMMIT, Reg.SCAN_COMMIT, Reg.SCAN_REQ, Reg.SCORE_START, Reg.SCORE_STOP, Reg.SENSE_COMMIT,
    Reg.STAVE_COMMIT, Reg.STAVE_REQ, Reg.TUNE_REQ, hv]

theorem rowOf_scanWake {w : BufWord} (h : w.off = Reg.SCAN_REQ) (hv : bit w.val 0 = true) : rowOf w = .scanWake := by
  have hg : regionOf Reg.SCAN_REQ = .page := by decide
  have hm : isMode Reg.SCAN_REQ = false := by decide
  unfold rowOf
  rw [h, hg]
  simp only [pageRow, hm]
  simp [Reg.CUE_RESUME, Reg.DEV_LADDER_REQ, Reg.DEV_RESET_REQ, Reg.DEV_WDOG_KICK, Reg.ENS_COMMIT, Reg.ENS_DESK_RETEST,
    Reg.ENS_DESK_TEST, Reg.ENS_ISSUE, Reg.FACE_COMMIT, Reg.FACE_REQ, Reg.FACE_WALL_HI, Reg.HPORT_PERM_LOCK,
    Reg.INTAKE_COMMIT, Reg.INTAKE_OPEN, Reg.INTAKE_PRESENT, Reg.JRNL_CMD, Reg.KEYS_COMMIT, Reg.KEYS_POP,
    Reg.PIPE_COMMIT, Reg.SCAN_COMMIT, Reg.SCAN_REQ, Reg.SCORE_START, Reg.SCORE_STOP, Reg.SENSE_COMMIT,
    Reg.STAVE_COMMIT, Reg.STAVE_REQ, Reg.TUNE_REQ, hv]

theorem rowOf_scanSrEnter {w : BufWord} (h : w.off = Reg.SCAN_REQ) (hv : bit w.val 0 = false ∧ bit w.val 1 = true) : rowOf w = .scanSrEnter := by
  have hg : regionOf Reg.SCAN_REQ = .page := by decide
  have hm : isMode Reg.SCAN_REQ = false := by decide
  unfold rowOf
  rw [h, hg]
  simp only [pageRow, hm]
  simp [Reg.CUE_RESUME, Reg.DEV_LADDER_REQ, Reg.DEV_RESET_REQ, Reg.DEV_WDOG_KICK, Reg.ENS_COMMIT, Reg.ENS_DESK_RETEST,
    Reg.ENS_DESK_TEST, Reg.ENS_ISSUE, Reg.FACE_COMMIT, Reg.FACE_REQ, Reg.FACE_WALL_HI, Reg.HPORT_PERM_LOCK,
    Reg.INTAKE_COMMIT, Reg.INTAKE_OPEN, Reg.INTAKE_PRESENT, Reg.JRNL_CMD, Reg.KEYS_COMMIT, Reg.KEYS_POP,
    Reg.PIPE_COMMIT, Reg.SCAN_COMMIT, Reg.SCAN_REQ, Reg.SCORE_START, Reg.SCORE_STOP, Reg.SENSE_COMMIT,
    Reg.STAVE_COMMIT, Reg.STAVE_REQ, Reg.TUNE_REQ, hv]

theorem rowOf_pipeCommit {w : BufWord} (h : w.off = Reg.PIPE_COMMIT) (hv : bit w.val 0 = true) : rowOf w = .pipeCommit := by
  have hg : regionOf Reg.PIPE_COMMIT = .page := by decide
  have hm : isMode Reg.PIPE_COMMIT = false := by decide
  unfold rowOf
  rw [h, hg]
  simp only [pageRow, hm]
  simp [Reg.CUE_RESUME, Reg.DEV_LADDER_REQ, Reg.DEV_RESET_REQ, Reg.DEV_WDOG_KICK, Reg.ENS_COMMIT, Reg.ENS_DESK_RETEST,
    Reg.ENS_DESK_TEST, Reg.ENS_ISSUE, Reg.FACE_COMMIT, Reg.FACE_REQ, Reg.FACE_WALL_HI, Reg.HPORT_PERM_LOCK,
    Reg.INTAKE_COMMIT, Reg.INTAKE_OPEN, Reg.INTAKE_PRESENT, Reg.JRNL_CMD, Reg.KEYS_COMMIT, Reg.KEYS_POP,
    Reg.PIPE_COMMIT, Reg.SCAN_COMMIT, Reg.SCAN_REQ, Reg.SCORE_START, Reg.SCORE_STOP, Reg.SENSE_COMMIT,
    Reg.STAVE_COMMIT, Reg.STAVE_REQ, Reg.TUNE_REQ, hv]

theorem rowOf_staveCommit {w : BufWord} (h : w.off = Reg.STAVE_COMMIT) (hv : bit w.val 0 = true) : rowOf w = .staveCommit := by
  have hg : regionOf Reg.STAVE_COMMIT = .page := by decide
  have hm : isMode Reg.STAVE_COMMIT = false := by decide
  unfold rowOf
  rw [h, hg]
  simp only [pageRow, hm]
  simp [Reg.CUE_RESUME, Reg.DEV_LADDER_REQ, Reg.DEV_RESET_REQ, Reg.DEV_WDOG_KICK, Reg.ENS_COMMIT, Reg.ENS_DESK_RETEST,
    Reg.ENS_DESK_TEST, Reg.ENS_ISSUE, Reg.FACE_COMMIT, Reg.FACE_REQ, Reg.FACE_WALL_HI, Reg.HPORT_PERM_LOCK,
    Reg.INTAKE_COMMIT, Reg.INTAKE_OPEN, Reg.INTAKE_PRESENT, Reg.JRNL_CMD, Reg.KEYS_COMMIT, Reg.KEYS_POP,
    Reg.PIPE_COMMIT, Reg.SCAN_COMMIT, Reg.SCAN_REQ, Reg.SCORE_START, Reg.SCORE_STOP, Reg.SENSE_COMMIT,
    Reg.STAVE_COMMIT, Reg.STAVE_REQ, Reg.TUNE_REQ, hv]

theorem rowOf_staveRetrain {w : BufWord} (h : w.off = Reg.STAVE_REQ) (hv : bit w.val 0 = true) : rowOf w = .staveRetrain := by
  have hg : regionOf Reg.STAVE_REQ = .page := by decide
  have hm : isMode Reg.STAVE_REQ = false := by decide
  unfold rowOf
  rw [h, hg]
  simp only [pageRow, hm]
  simp [Reg.CUE_RESUME, Reg.DEV_LADDER_REQ, Reg.DEV_RESET_REQ, Reg.DEV_WDOG_KICK, Reg.ENS_COMMIT, Reg.ENS_DESK_RETEST,
    Reg.ENS_DESK_TEST, Reg.ENS_ISSUE, Reg.FACE_COMMIT, Reg.FACE_REQ, Reg.FACE_WALL_HI, Reg.HPORT_PERM_LOCK,
    Reg.INTAKE_COMMIT, Reg.INTAKE_OPEN, Reg.INTAKE_PRESENT, Reg.JRNL_CMD, Reg.KEYS_COMMIT, Reg.KEYS_POP,
    Reg.PIPE_COMMIT, Reg.SCAN_COMMIT, Reg.SCAN_REQ, Reg.SCORE_START, Reg.SCORE_STOP, Reg.SENSE_COMMIT,
    Reg.STAVE_COMMIT, Reg.STAVE_REQ, Reg.TUNE_REQ, hv]

theorem rowOf_staveCrack {w : BufWord} (h : w.off = Reg.STAVE_REQ) (hv : bit w.val 0 = false ∧ bit w.val 1 = true) : rowOf w = .staveCrack := by
  have hg : regionOf Reg.STAVE_REQ = .page := by decide
  have hm : isMode Reg.STAVE_REQ = false := by decide
  unfold rowOf
  rw [h, hg]
  simp only [pageRow, hm]
  simp [Reg.CUE_RESUME, Reg.DEV_LADDER_REQ, Reg.DEV_RESET_REQ, Reg.DEV_WDOG_KICK, Reg.ENS_COMMIT, Reg.ENS_DESK_RETEST,
    Reg.ENS_DESK_TEST, Reg.ENS_ISSUE, Reg.FACE_COMMIT, Reg.FACE_REQ, Reg.FACE_WALL_HI, Reg.HPORT_PERM_LOCK,
    Reg.INTAKE_COMMIT, Reg.INTAKE_OPEN, Reg.INTAKE_PRESENT, Reg.JRNL_CMD, Reg.KEYS_COMMIT, Reg.KEYS_POP,
    Reg.PIPE_COMMIT, Reg.SCAN_COMMIT, Reg.SCAN_REQ, Reg.SCORE_START, Reg.SCORE_STOP, Reg.SENSE_COMMIT,
    Reg.STAVE_COMMIT, Reg.STAVE_REQ, Reg.TUNE_REQ, hv]

theorem rowOf_staveRecover {w : BufWord} (h : w.off = Reg.STAVE_REQ) (hv : bit w.val 0 = false ∧ bit w.val 1 = false ∧ bit w.val 2 = true) : rowOf w = .staveRecover := by
  have hg : regionOf Reg.STAVE_REQ = .page := by decide
  have hm : isMode Reg.STAVE_REQ = false := by decide
  unfold rowOf
  rw [h, hg]
  simp only [pageRow, hm]
  simp [Reg.CUE_RESUME, Reg.DEV_LADDER_REQ, Reg.DEV_RESET_REQ, Reg.DEV_WDOG_KICK, Reg.ENS_COMMIT, Reg.ENS_DESK_RETEST,
    Reg.ENS_DESK_TEST, Reg.ENS_ISSUE, Reg.FACE_COMMIT, Reg.FACE_REQ, Reg.FACE_WALL_HI, Reg.HPORT_PERM_LOCK,
    Reg.INTAKE_COMMIT, Reg.INTAKE_OPEN, Reg.INTAKE_PRESENT, Reg.JRNL_CMD, Reg.KEYS_COMMIT, Reg.KEYS_POP,
    Reg.PIPE_COMMIT, Reg.SCAN_COMMIT, Reg.SCAN_REQ, Reg.SCORE_START, Reg.SCORE_STOP, Reg.SENSE_COMMIT,
    Reg.STAVE_COMMIT, Reg.STAVE_REQ, Reg.TUNE_REQ, hv]

theorem rowOf_wallHi {w : BufWord} (h : w.off = Reg.FACE_WALL_HI) : rowOf w = .wallHi := by
  have hg : regionOf Reg.FACE_WALL_HI = .page := by decide
  have hm : isMode Reg.FACE_WALL_HI = false := by decide
  unfold rowOf
  rw [h, hg]
  simp only [pageRow, hm]
  simp [Reg.CUE_RESUME, Reg.DEV_LADDER_REQ, Reg.DEV_RESET_REQ, Reg.DEV_WDOG_KICK, Reg.ENS_COMMIT, Reg.ENS_DESK_RETEST,
    Reg.ENS_DESK_TEST, Reg.ENS_ISSUE, Reg.FACE_COMMIT, Reg.FACE_REQ, Reg.FACE_WALL_HI, Reg.HPORT_PERM_LOCK,
    Reg.INTAKE_COMMIT, Reg.INTAKE_OPEN, Reg.INTAKE_PRESENT, Reg.JRNL_CMD, Reg.KEYS_COMMIT, Reg.KEYS_POP,
    Reg.PIPE_COMMIT, Reg.SCAN_COMMIT, Reg.SCAN_REQ, Reg.SCORE_START, Reg.SCORE_STOP, Reg.SENSE_COMMIT,
    Reg.STAVE_COMMIT, Reg.STAVE_REQ, Reg.TUNE_REQ]

theorem rowOf_faceRepaint {w : BufWord} (h : w.off = Reg.FACE_REQ) (hv : bit w.val 0 = true) : rowOf w = .faceRepaint := by
  have hg : regionOf Reg.FACE_REQ = .page := by decide
  have hm : isMode Reg.FACE_REQ = false := by decide
  unfold rowOf
  rw [h, hg]
  simp only [pageRow, hm]
  simp [Reg.CUE_RESUME, Reg.DEV_LADDER_REQ, Reg.DEV_RESET_REQ, Reg.DEV_WDOG_KICK, Reg.ENS_COMMIT, Reg.ENS_DESK_RETEST,
    Reg.ENS_DESK_TEST, Reg.ENS_ISSUE, Reg.FACE_COMMIT, Reg.FACE_REQ, Reg.FACE_WALL_HI, Reg.HPORT_PERM_LOCK,
    Reg.INTAKE_COMMIT, Reg.INTAKE_OPEN, Reg.INTAKE_PRESENT, Reg.JRNL_CMD, Reg.KEYS_COMMIT, Reg.KEYS_POP,
    Reg.PIPE_COMMIT, Reg.SCAN_COMMIT, Reg.SCAN_REQ, Reg.SCORE_START, Reg.SCORE_STOP, Reg.SENSE_COMMIT,
    Reg.STAVE_COMMIT, Reg.STAVE_REQ, Reg.TUNE_REQ, hv]

theorem rowOf_faceCommit {w : BufWord} (h : w.off = Reg.FACE_COMMIT) (hv : bit w.val 0 = true) : rowOf w = .faceCommit := by
  have hg : regionOf Reg.FACE_COMMIT = .page := by decide
  have hm : isMode Reg.FACE_COMMIT = false := by decide
  unfold rowOf
  rw [h, hg]
  simp only [pageRow, hm]
  simp [Reg.CUE_RESUME, Reg.DEV_LADDER_REQ, Reg.DEV_RESET_REQ, Reg.DEV_WDOG_KICK, Reg.ENS_COMMIT, Reg.ENS_DESK_RETEST,
    Reg.ENS_DESK_TEST, Reg.ENS_ISSUE, Reg.FACE_COMMIT, Reg.FACE_REQ, Reg.FACE_WALL_HI, Reg.HPORT_PERM_LOCK,
    Reg.INTAKE_COMMIT, Reg.INTAKE_OPEN, Reg.INTAKE_PRESENT, Reg.JRNL_CMD, Reg.KEYS_COMMIT, Reg.KEYS_POP,
    Reg.PIPE_COMMIT, Reg.SCAN_COMMIT, Reg.SCAN_REQ, Reg.SCORE_START, Reg.SCORE_STOP, Reg.SENSE_COMMIT,
    Reg.STAVE_COMMIT, Reg.STAVE_REQ, Reg.TUNE_REQ, hv]

theorem rowOf_ensCommit {w : BufWord} (h : w.off = Reg.ENS_COMMIT) (hv : bit w.val 0 = true) : rowOf w = .ensCommit := by
  have hg : regionOf Reg.ENS_COMMIT = .page := by decide
  have hm : isMode Reg.ENS_COMMIT = false := by decide
  unfold rowOf
  rw [h, hg]
  simp only [pageRow, hm]
  simp [Reg.CUE_RESUME, Reg.DEV_LADDER_REQ, Reg.DEV_RESET_REQ, Reg.DEV_WDOG_KICK, Reg.ENS_COMMIT, Reg.ENS_DESK_RETEST,
    Reg.ENS_DESK_TEST, Reg.ENS_ISSUE, Reg.FACE_COMMIT, Reg.FACE_REQ, Reg.FACE_WALL_HI, Reg.HPORT_PERM_LOCK,
    Reg.INTAKE_COMMIT, Reg.INTAKE_OPEN, Reg.INTAKE_PRESENT, Reg.JRNL_CMD, Reg.KEYS_COMMIT, Reg.KEYS_POP,
    Reg.PIPE_COMMIT, Reg.SCAN_COMMIT, Reg.SCAN_REQ, Reg.SCORE_START, Reg.SCORE_STOP, Reg.SENSE_COMMIT,
    Reg.STAVE_COMMIT, Reg.STAVE_REQ, Reg.TUNE_REQ, hv]

theorem rowOf_deskTest {w : BufWord} (h : w.off = Reg.ENS_DESK_TEST) : rowOf w = .deskTest := by
  have hg : regionOf Reg.ENS_DESK_TEST = .page := by decide
  have hm : isMode Reg.ENS_DESK_TEST = false := by decide
  unfold rowOf
  rw [h, hg]
  simp only [pageRow, hm]
  simp [Reg.CUE_RESUME, Reg.DEV_LADDER_REQ, Reg.DEV_RESET_REQ, Reg.DEV_WDOG_KICK, Reg.ENS_COMMIT, Reg.ENS_DESK_RETEST,
    Reg.ENS_DESK_TEST, Reg.ENS_ISSUE, Reg.FACE_COMMIT, Reg.FACE_REQ, Reg.FACE_WALL_HI, Reg.HPORT_PERM_LOCK,
    Reg.INTAKE_COMMIT, Reg.INTAKE_OPEN, Reg.INTAKE_PRESENT, Reg.JRNL_CMD, Reg.KEYS_COMMIT, Reg.KEYS_POP,
    Reg.PIPE_COMMIT, Reg.SCAN_COMMIT, Reg.SCAN_REQ, Reg.SCORE_START, Reg.SCORE_STOP, Reg.SENSE_COMMIT,
    Reg.STAVE_COMMIT, Reg.STAVE_REQ, Reg.TUNE_REQ]

theorem rowOf_deskRetest {w : BufWord} (h : w.off = Reg.ENS_DESK_RETEST) : rowOf w = .deskRetest := by
  have hg : regionOf Reg.ENS_DESK_RETEST = .page := by decide
  have hm : isMode Reg.ENS_DESK_RETEST = false := by decide
  unfold rowOf
  rw [h, hg]
  simp only [pageRow, hm]
  simp [Reg.CUE_RESUME, Reg.DEV_LADDER_REQ, Reg.DEV_RESET_REQ, Reg.DEV_WDOG_KICK, Reg.ENS_COMMIT, Reg.ENS_DESK_RETEST,
    Reg.ENS_DESK_TEST, Reg.ENS_ISSUE, Reg.FACE_COMMIT, Reg.FACE_REQ, Reg.FACE_WALL_HI, Reg.HPORT_PERM_LOCK,
    Reg.INTAKE_COMMIT, Reg.INTAKE_OPEN, Reg.INTAKE_PRESENT, Reg.JRNL_CMD, Reg.KEYS_COMMIT, Reg.KEYS_POP,
    Reg.PIPE_COMMIT, Reg.SCAN_COMMIT, Reg.SCAN_REQ, Reg.SCORE_START, Reg.SCORE_STOP, Reg.SENSE_COMMIT,
    Reg.STAVE_COMMIT, Reg.STAVE_REQ, Reg.TUNE_REQ]

theorem rowOf_issueGo {w : BufWord} (h : w.off = Reg.ENS_ISSUE) (hv : bit w.val 31 = true) : rowOf w = .issueGo := by
  have hg : regionOf Reg.ENS_ISSUE = .page := by decide
  have hm : isMode Reg.ENS_ISSUE = false := by decide
  unfold rowOf
  rw [h, hg]
  simp only [pageRow, hm]
  simp [Reg.CUE_RESUME, Reg.DEV_LADDER_REQ, Reg.DEV_RESET_REQ, Reg.DEV_WDOG_KICK, Reg.ENS_COMMIT, Reg.ENS_DESK_RETEST,
    Reg.ENS_DESK_TEST, Reg.ENS_ISSUE, Reg.FACE_COMMIT, Reg.FACE_REQ, Reg.FACE_WALL_HI, Reg.HPORT_PERM_LOCK,
    Reg.INTAKE_COMMIT, Reg.INTAKE_OPEN, Reg.INTAKE_PRESENT, Reg.JRNL_CMD, Reg.KEYS_COMMIT, Reg.KEYS_POP,
    Reg.PIPE_COMMIT, Reg.SCAN_COMMIT, Reg.SCAN_REQ, Reg.SCORE_START, Reg.SCORE_STOP, Reg.SENSE_COMMIT,
    Reg.STAVE_COMMIT, Reg.STAVE_REQ, Reg.TUNE_REQ, hv]

/-- MODE of a page. -/
theorem rowOf_mode {w : BufWord} {p : Nat} (hp : p < 15) (h : w.off = modeReg p) :
    rowOf w = if bit w.val 0 then .modeExpert else .modeBasic := by
  have h1 : regionOf (modeReg p) = .page := by
    have : modeReg p < 0xF000 := by unfold modeReg; omega
    simp [regionOf, this]
  have h2 : isMode (modeReg p) = true := by
    have : modeReg p < 0xF000 := by unfold modeReg; omega
    have h3 : modeReg p % 0x1000 = 0xBC := by unfold modeReg; omega
    simp [isMode, this, h3]
  unfold rowOf
  rw [h, h1]
  simp [pageRow, h2]

/-- Word 1 of a lease. -/
theorem rowOf_lease {w : BufWord} {l : Nat} (hl : l < 32) (h : w.off = Reg.DEV_LEASE_W1 + 8 * l) :
    rowOf w = if bit w.val 16 then .leaseEnable else .leaseDisable := by
  have e1 : Reg.DEV_LEASE_W1 = 0x100004 := by decide
  have e0 : Reg.DEV_LEASE_W0 = 0x100000 := by decide
  have h1 : regionOf (0x100004 + 8 * l) = .table := by
    unfold regionOf
    rw [if_neg (by omega), if_neg (by omega), if_pos (by omega)]
  unfold rowOf
  rw [h, e1, h1]
  simp only [tableRow, e0]
  rw [if_pos (by omega)]

/-- Word 1 of a ring. -/
theorem rowOf_ring {w : BufWord} {r : Nat} (hr : r < 256) (h : w.off = ringWord r 1) :
    rowOf w = if bit w.val 31 then .ringEnable else .ringDisable := by
  have e1 : Reg.CUE_RING_W0 = 0x120000 := by decide
  have e0 : Reg.DEV_LEASE_W0 = 0x100000 := by decide
  have h0 : w.off = 0x120000 + 16 * r + 4 := by rw [h]; simp [ringWord, e1]
  have h1 : regionOf (0x120000 + 16 * r + 4) = .table := by
    unfold regionOf
    rw [if_neg (by omega), if_neg (by omega), if_pos (by omega)]
  unfold rowOf
  rw [h0, h1]
  simp only [tableRow, e0, e1]
  rw [if_neg (by omega), if_pos (by omega)]

/-- Word 4 of a surface. -/
theorem rowOf_surface {w : BufWord} {n : Nat} (hn : n < 8) (h : w.off = surfWord n 4) :
    rowOf w = if bit w.val 31 then .surfaceEnable else .surfaceDisable := by
  have e2 : Reg.INTAKE_SURF_W0 = 0x180000 := by decide
  have e1 : Reg.CUE_RING_W0 = 0x120000 := by decide
  have e0 : Reg.DEV_LEASE_W0 = 0x100000 := by decide
  have h0 : w.off = 0x180000 + 32 * n + 16 := by rw [h]; simp [surfWord, e2]
  have h1 : regionOf (0x180000 + 32 * n + 16) = .table := by
    unfold regionOf
    rw [if_neg (by omega), if_neg (by omega), if_pos (by omega)]
  unfold rowOf
  rw [h0, h1]
  simp only [tableRow, e0, e1, e2]
  rw [if_neg (by omega), if_neg (by omega), if_pos (by omega)]

/-- A doorbell. -/
theorem rowOf_doorbell {w : BufWord} {r : Nat} (hr : r < 256) (h : w.off = 0x10000 + 4 * r) : rowOf w = .doorbell := by
  have h1 : regionOf (0x10000 + 4 * r) = .doorbell := by
    unfold regionOf
    rw [if_neg (by omega), if_pos (by omega)]
  unfold rowOf
  rw [h, h1]

end Sys2Proof.Machine
end

