-- ==== Sys2Proof/Laws/Verbs.lean ====
section
/-!
SUPPORT. What running a verb does, case by case, and how its completion stands in the state.
-/

namespace Sys2Proof.Machine

/-- A ring that holds no such entry that has not begun: nothing happens. -/
theorem State.runVerb_none {s : State} {r code : Nat} (right : Right) (ok : State → Verb → Bool) (body : State → Verb → State)
    (h : s.freshVerb r code = none) : s.runVerb r code right ok body = s := by
  simp [State.runVerb, h]

/-- The owner may not issue the verb. -/
theorem State.runVerb_noPermission {s : State} {r code : Nat} {right : Right} (ok : State → Verb → Bool)
    (body : State → Verb → State) {v : Verb} (h : s.freshVerb r code = some v) (hr : right s v = false) :
    s.runVerb r code right ok body = s.complete v .noPermission := by
  simp [State.runVerb, h, hr]

/-- The checks of a verb in their order, with the page's mode by name. -/
theorem State.runVerb_some {s : State} {r code : Nat} (right : Right) (ok : State → Verb → Bool) (body : State → Verb → State)
    {v : Verb} (h : s.freshVerb r code = some v) :
    s.runVerb r code right ok body =
      if !right s v then s.complete v .noPermission
      else if v.busy then s.complete v .busy
      else if !ok s v then s.complete v .badArg
      else body s v := by
  unfold State.runVerb
  rw [h]

/-- The page of the verb does not take verbs. -/
theorem State.runVerb_busy {s : State} {r code : Nat} {right : Right} (ok : State → Verb → Bool)
    (body : State → Verb → State) {v : Verb} (h : s.freshVerb r code = some v) (hr : right s v = true)
    (hb : v.busy = true) : s.runVerb r code right ok body = s.complete v .busy := by
  simp [State.runVerb_some right ok body h, hr, hb]

theorem admitted_iff {s : State} {ring : BitVec 8} {code : Nat} {right : Right} {v : Verb} :
    admitted s ring code right v = true ↔
      s.freshVerb ring.toNat code = some v ∧ right s v = true ∧ v.busy = false := by
  simp [admitted, and_assoc]

/-- An admitted verb whose arguments are out of order. -/
theorem State.runVerb_badArg {s : State} {ring : BitVec 8} {code : Nat} {right : Right} {ok : State → Verb → Bool}
    (body : State → Verb → State) {v : Verb} (h : admitted s ring code right v = true) (ha : ok s v = false) :
    s.runVerb ring.toNat code right ok body = s.complete v .badArg := by
  obtain ⟨h1, h2, h3⟩ := admitted_iff.1 h
  simp [State.runVerb_some right ok body h1, h2, h3, ha]

/-- An admitted verb whose arguments are in order runs. -/
theorem State.runVerb_body {s : State} {ring : BitVec 8} {code : Nat} {right : Right} {ok : State → Verb → Bool}
    (body : State → Verb → State) {v : Verb} (h : admitted s ring code right v = true) (ha : ok s v = true) :
    s.runVerb ring.toNat code right ok body = body s v := by
  obtain ⟨h1, h2, h3⟩ := admitted_iff.1 h
  simp [State.runVerb_some right ok body h1, h2, h3, ha]

/-- A fresh verb has the code it was asked for and stands on its ring. -/
theorem State.freshVerb_code {s : State} {r code : Nat} {v : Verb} (h : s.freshVerb r code = some v) :
    v.code = code ∧ v.ring = r ∧ ∃ f, (s.ring r).cur = some f ∧ f.started = false ∧ v.index = f.index := by
  unfold State.freshVerb at h
  split at h
  · rename_i f hf
    split at h
    · rename_i hc
      simp only [Bool.and_eq_true, Bool.not_eq_true', beq_iff_eq] at hc
      simp only [State.verbOf, hf, Option.map_some, Option.some.injEq] at h
      subst h
      exact ⟨hc.2, rfl, f, hf, hc.1.1, rfl⟩
    · cases h
  · cases h

/-- Adding an entry to an outbox leaves every entry in execution. -/
@[simp] theorem State.post_cur (s : State) (r : Nat) (e : OutEntry) (q : Nat) : ((s.post r e).ring q).cur = (s.ring q).cur := by
  unfold State.post
  rw [State.ring_setRing]
  split
  · rename_i h
    rw [h]
  · rfl

@[simp] theorem State.pairNow_post (s : State) (q : Nat) (e : OutEntry) (r : Nat) : (s.post q e).pairNow r = s.pairNow r := by
  unfold State.pairNow
  rw [State.post_cur]
  rfl

/-- An entry added to an outbox is its last. -/
@[simp] theorem State.post_last (s : State) (r : Nat) (e : OutEntry) : ((s.post r e).ring r).outbox.getLast? = some e := by
  simp [State.post]

/-- What a final completion leaves. -/
theorem State.complete_answered (s : State) (v : Verb) (st : Status) (res : List Word) :
    answered (s.complete v st res) v st res = true := by
  unfold answered State.complete
  split
  · unfold State.finish
    simp only
    split
    · simp
    · rename_i h
      simp [h]
  · simp [Verb.entry]

/-- A verb that waits. -/
theorem State.await_waitsFor {s : State} {v : Verb} {f : Fetched} (w : Wait) (n : Nat) (h : (s.ring v.ring).cur = some f) :
    waitsFor (s.await v w n) v w = true := by
  simp [waitsFor, State.await, h]

theorem State.defer_waitsFor {s : State} {v : Verb} {f : Fetched} (w : Wait) (n : Nat) (h : (s.ring v.ring).cur = some f) :
    waitsFor (s.defer v w n) v w = true := by
  have hw := State.await_waitsFor w n h
  unfold State.defer
  split
  · exact hw
  · unfold waitsFor at hw ⊢
    rw [State.post_cur]
    exact hw

/-- A step in order executes. -/
theorem State.runStep_body {s : State} {task : BitVec 4} {op : Nat} {named w : Word} {bad : State → Word → Bool}
    (body : State → Word → State) (h : atStep s task op w = true) (hk : stepKnown op = true)
    (hw : within w (named ||| 0xFC000000#32) = true) (hb : bad (stepped s task) w = false) :
    s.runStep task.toNat op named bad body = body (stepped s task) w := by
  simp only [atStep, Bool.and_eq_true, beq_iff_eq, bne_iff_ne, ne_eq] at h
  obtain ⟨⟨⟨⟨⟨h1, h2⟩, h3⟩, h6⟩, h4⟩, h5⟩ := h
  have h2' : (s.fld (taskStat task.toNat) 12 11 == 3) = false := by simpa using h2
  have h3' : ((s.task task.toNat).ranAt == some s.edge) = false := by simpa using h3
  have h6' : s.turnOver task.toNat = false := by simpa using h6
  unfold stepped at hb ⊢
  simp only [State.runStep, h4, h1, h2', h3', h6', h5, hk, hw, hb, Bool.not_true, Bool.or_self, Bool.false_eq_true, if_false, ne_eq,
    not_true_eq_false]

/-- A step with a bit set that it does not name, or out of order in its own check, is malformed (R147). -/
theorem State.runStep_malformed {s : State} {task : BitVec 4} {op : Nat} {named w : Word} {bad : State → Word → Bool}
    (body : State → Word → State) (h : atStep s task op w = true) (hk : stepKnown op = true)
    (hw : within w (named ||| 0xFC000000#32) = false ∨ bad (stepped s task) w = true) :
    s.runStep task.toNat op named bad body = (stepped s task).malformed task.toNat := by
  simp only [atStep, Bool.and_eq_true, beq_iff_eq, bne_iff_ne, ne_eq] at h
  obtain ⟨⟨⟨⟨⟨h1, h2⟩, h3⟩, h6⟩, h4⟩, h5⟩ := h
  have h2' : (s.fld (taskStat task.toNat) 12 11 == 3) = false := by simpa using h2
  have h3' : ((s.task task.toNat).ranAt == some s.edge) = false := by simpa using h3
  have h6' : s.turnOver task.toNat = false := by simpa using h6
  have hx : (!within w (named ||| 0xFC000000#32) || bad (stepped s task) w) = true := by
    rcases hw with hw | hw <;> simp [hw]
  unfold stepped at hx ⊢
  simp only [State.runStep, h4, h1, h2', h3', h6', h5, hk, hx, Bool.not_true, Bool.or_self, Bool.false_eq_true, if_false, if_true,
    ne_eq, not_true_eq_false]

end Sys2Proof.Machine
end

