-- ==== Sys2Proof/Tests/Slice0.lean ====
section
/-!
SUPPORT. The author's own tests: terms that WellFormed refuses, one witness for the hypotheses of every statement, and small
checks of single steps.
-/

namespace Sys2Proof.Tests

-- One theorem is checked after the other, since each of them waits for the kernel.
set_option Elab.async false

open Sys2Proof Sys2Proof.Machine

/-! ### Small states -/

/-- Registers written one after the other. -/
def regsAt (l : List (Nat × Word)) (s : State) : State := l.foldl (fun t e => t.setReg e.1 e.2) s

/-- Words in force written one after the other. -/
def forceAt (l : List (Nat × Word)) (s : State) : State := l.foldl (fun t e => t.setForce e.1 e.2) s

/-- A released part in TUTTI whose CORE runs. -/
def up : State := { State.reset with boot := { step := .released }, ladder := { core := .fastRc } }

/-- The verb of an entry of ring 0, by its code and arguments. -/
def vb (code : Nat) (args : List Word) : Verb := { ring := 0, owner := 0, words := word code :: args, index := 0 }

/-- A state whose ring 0 has fetched that entry. -/
def held (code : Nat) (args : List Word) (s : State) : State :=
  s.setRing 0 { s.ring 0 with cur := some { words := word code :: args, index := 0 } }

/-- The verb is admitted from ring 0 and its arguments lie within their masks. -/
def takes (s : State) (code : Nat) (right : Right) (args masks : List Word) : Bool :=
  admitted (held code args s) 0#8 code right (vb code args) && (vb code args).argsWithin masks

/-- A state with one word of port A on its way: in the write buffer, or across to the AO domain. -/
def fronts (off : Nat) (val : Word) (s : State) : State :=
  let w : BufWord := { client := 0, off := off, val := val }
  if isAoTarget off then { s with crossing := [{ port := .a, word := w, edges := 0 }] }
  else { s with portA := { s.portA with wbuf := [w] } }

/-- That word is the one applied next. -/
def isFront (off : Nat) (val : Word) (s : State) : Bool :=
  let t := fronts off val s
  let w : BufWord := { client := 0, off := off, val := val }
  (t.nextWord .a (fun x => rowOf x == rowOf w)).any (fun e => e.1 == w && fronted t .a w e.2)

/-- All argument bits. -/
def ones : Word := 0xFFFFFFFF#32

/-- Lease 0 over the first 64 KB of the Hall: rings of client 0. -/
def leasedUp : State := regsAt [(Reg.DEV_LEASE_W0, 0x00100000#32), (Reg.DEV_LEASE_W1, 0x10100#32)] { up with banks := 1#48 }

/-! ### Witnesses: the queue, verbs and rings -/

/-- A command may wait at the front of a queue, and a step of reset is answered. -/
theorem wit_StepRunsFrontCommand : step { State.reset with pending := [.writeEnable] } = exec .writeEnable State.reset := rfl

theorem wit_StepKeepsMemoryForm : Memory.wf State.reset = true ∧ step State.reset = .next State.reset.aoTick :=
  ⟨by decide +kernel, rfl⟩

theorem wit_CommandsKeepFactoryAndQueue : Memory.wf State.reset = true ∧ ∃ t, exec .writeEnable State.reset = .next t :=
  ⟨by decide +kernel, _, rfl⟩

/-- An entry of NOP, one of a client without the PAGE bit, one on a page in EXPERT and one with an argument that NOP has not. -/
theorem wit_VerbsAreCheckedAndCompleted :
    up.freshVerb 0 0x00 = none ∧
    ((held 0x07 [] (regsAt [(Reg.HPORT_PERM_0, 0#32)] up)).freshVerb 0 0x07 = some (vb 0x07 []) ∧
      pageRight 2 (regsAt [(Reg.HPORT_PERM_0, 0#32)] up) (vb 0x07 []) = false) ∧
    ((up.setRing 0 { up.ring 0 with cur := some { words := [7#32], index := 0, busy := true } }).freshVerb 0 0x07 =
        some { vb 0x07 [] with busy := true } ∧ pageRight 2 up { vb 0x07 [] with busy := true } = true) ∧
    (admitted (held 0x00 [1#32] up) 0#8 0x00 anyOwner (vb 0x00 [1#32]) = true ∧ (vb 0x00 [1#32]).argsWithin [] = false) := by
  decide +kernel

/-- A ring 9 that is halted, and doorbells of an enabled COMMAND ring 1, an enabled EVENT ring 2 and a disabled ring. -/
theorem wit_GeneralVerbsAndDoorbells :
    takes up 0x00 anyOwner [] [] = true ∧ takes up 0x01 anyOwner [ones, ones, ones, ones] [ones, ones, ones, ones] = true ∧
    takes up 0x06 clientZero [0x7F7F#32, 0x7FF#32] [0x7F7F#32, 0x7FF#32] = true ∧
    takes up 0x07 (pageRight 2) [1#32] [ones, ones, ones, ones] = true ∧
    (takes (regsAt [(ringWord 9 3, 0x2000#32)] up) 0x05 ringRight [0x109#32] [0x1FF#32] = true ∧
      (regsAt [(ringWord 9 3, 0x2000#32)] up).ringHalted 9 = true ∧ (regsAt [(ringWord 9 3, 0x2000#32)] up).ringEn 9 = false) ∧
    (takes (regsAt [(ringWord 9 1, 0x80000003#32), (ringWord 9 3, 0x2000#32)] up) 0x05 ringRight [9#32] [0x1FF#32] = true ∧
      (regsAt [(ringWord 9 1, 0x80000003#32)] up).ringEn 9 = true ∧
      (regsAt [(ringWord 9 1, 0x80000003#32)] up).ringCovered 9 = false) ∧
    (takes up 0x05 ringRight [9#32] [0x1FF#32] = true ∧ up.ringHalted 9 = false) ∧
    (isFront Reg.CUE_RESUME 0x80000009#32 up = true ∧ (regsAt [(ringWord 9 3, 0x2000#32)] up).ringHalted 9 = true) ∧
    (isFront 0x10004 7#32 up = true ∧ (regsAt [(ringWord 1 1, 0x80000003#32)] up).doorbellFault 1 7#32 = 0 ∧
      (regsAt [(ringWord 1 1, 0x80000003#32)] up).isSubmission 1 = true) ∧
    ((regsAt [(ringWord 1 1, 0x80000023#32)] up).doorbellFault 1 7#32 = 0 ∧
      (regsAt [(ringWord 1 1, 0x80000023#32)] up).isSubmission 1 = false) ∧
    (up.doorbellFault 1 7#32 ≠ 0 ∧ up.flag Reg.CUE_DB_LOG 31 = false) ∧
    ((regsAt [(Reg.CUE_DB_LOG, 0x80000000#32)] up).doorbellFault 1 7#32 ≠ 0 ∧
      (regsAt [(Reg.CUE_DB_LOG, 0x80000000#32)] up).flag Reg.CUE_DB_LOG 31 = true) := by decide +kernel

/-- A FENCE of ring 0 that waits for two entries of ring 1. -/
def fencing (finished timeout : Nat) (regs : List (Nat × Word)) : State :=
  ((regsAt regs up).setRing 1 { finished := finished }).setRing 0
    { cur := some { words := [2#32, 1#32], index := 0, started := true, waiting := some (.fence 1 2), timeout := timeout } }

theorem wit_FencesWaitForTheirEntries :
    takes up 0x02 anyOwner [1#32, 0xFFFF#32] [0xFF#32, 0xFFFF#32] = true ∧
    (((fencing 2 0 []).ring 0).cur.bind (·.waiting) = some (.fence 1 2) ∧ (fencing 2 0 []).verbOf 0 = some (vb 2 [1#32]) ∧
      2 ≤ ((fencing 2 0 []).ring 1).finished) ∧
    (((fencing 1 0 [(ringWord 1 3, 0x2000#32)]).ring 1).finished < 2 ∧
      (fencing 1 0 [(ringWord 1 3, 0x2000#32)]).ringHalted 1 = true) ∧
    (((fencing 1 0 []).ring 1).finished < 2 ∧ (fencing 1 0 []).ringHalted 1 = false) ∧
    (((fencing 1 1 []).ring 1).finished < 2 ∧ 1 ≤ ({ fencing 1 1 [] with edge := 1#48 } : State).elapsed 0#48) ∧
    ((fencing 1 0 [(ringWord 1 1, 0x80000003#32)]).isSubmission 1 = true ∧
      ((fencing 1 0 [(ringWord 1 1, 0x80000003#32)]).ring 1).outbox = [] ∧
      ((fencing 1 0 [(ringWord 1 1, 0x80000003#32)]).ring 1).setupBy = none ∧
      (fencing 1 0 [(ringWord 1 1, 0x80000003#32)]).fencesOn 1 = [0]) ∧
    (((fencing 1 0 []).ring 0).cur.isSome = true ∧ (fencing 1 0 []).ringType 0 = 0) := by decide +kernel

/-- Ring 1 as an EVENT ring of 8 entries at 0x1000 in lease 0, still disabled. -/
def eventRing : State := regsAt [(ringWord 1 0, 0x1000#32), (ringWord 1 1, 0x23#32)] leasedUp

/-- Ring 2 as a COMPLETION ring, enabled, and ring 1 as a COMMAND ring paired with it. -/
def paired (w1 : Word) : State :=
  regsAt [(ringWord 2 0, 0x2000#32), (ringWord 2 1, 0x80000013#32), (ringWord 1 0, 0x1000#32), (ringWord 1 1, w1)] leasedUp

theorem wit_RingsAreSetUpAndStopped :
    up.ringCheck 1 true = false ∧
    ((paired 0x20003#32).ringCheck 1 true = true ∧ (paired 0x20003#32).isSubmission 1 = true) ∧
    (eventRing.ringCheck 1 true = true ∧ eventRing.isSubmission 1 = false) ∧
    (isFront (ringWord 1 1) 0x80000023#32 (regsAt [(ringWord 1 1, 0x80000023#32)] eventRing) = true ∧
      (regsAt [(ringWord 1 1, 0x80000023#32)] eventRing).ringBusy 1 = true) ∧
    (isFront (ringWord 1 1) 0x80000023#32 eventRing = true ∧ eventRing.ringBusy 1 = false) ∧
    ((paired 0x80020003#32).ringBusy 2 = true ∧ (paired 0x80020003#32).ringType 2 = 1 ∧
      (paired 0x80020003#32).pairedBy 2 = true) ∧
    (takes eventRing 0x03 setupRight [1#32, 0x1000#32, 0x80000023#32, 0#32] [0xFF#32, 0x7FFFFF#32, 0x83FF3FFF#32, ones] = true ∧
      (eventRing.enableRing 1 true).flag (ringWord 1 3) 15 = false ∧ (eventRing.enableRing 1 true).ringEn 1 = false) ∧
    ((paired 0x20003#32).enableRing 1 true).ringEn 1 = true ∧ (up.enableRing 1 true).flag (ringWord 1 3) 15 = true ∧
    takes up 0x04 ringRight [1#32] [0xFF#32] = true ∧
    ((eventRing.enableRing 1 true).ring 1).enabling = true ∧ ((eventRing.enableRing 1 true).ring 1).setupBy = none ∧
    (((eventRing.setRing 1 { enabling := true, setupBy := some 0 }).ring 1).setupBy = some 0) ∧
    (((up.post 1 (.event 4 1 0#32 0#48)).ring 1).setupBy = none ∧ (up.post 1 (.event 4 1 0#32 0#48)).fencesOn 1 = [] ∧
      ((up.post 1 (.event 4 1 0#32 0#48)).ring 1).outbox = [.event 4 1 0#32 0#48]) := by decide +kernel

/-- Ring 1 as an enabled COMMAND ring with one entry announced, its completions to ring 2. -/
def announcedRing (base : Word) (regs : List (Nat × Word)) : State :=
  regsAt ([(ringWord 1 0, base), (Reg.CUE_DOORBELL + 4, 1#32)] ++ regs) (paired 0x80020003#32)

/-- A MESSAGE SEND ring 1 whose entry goes to ring 3. -/
def sender (w1 w3 : Word) (last : Word) : State :=
  (regsAt [(ringWord 1 1, 0x80020053#32), (ringWord 1 2, 0x03000000#32), (ringWord 3 1, w1), (ringWord 3 3, w3)] leasedUp).setRing
    1 { cur := some { words := List.replicate 7 0#32 ++ [last], index := 0, peer := 3 } }

theorem wit_EntriesAreFetchedAndSent :
    ((announcedRing 0x1000#32 []).fetchReady 1 = true ∧ (announcedRing 0x1000#32 []).ringType 1 ≠ 4 ∧
      (announcedRing 0x1000#32 []).pairHolds 1 = false ∧ (announcedRing 0x1000#32 []).fetchTurn 1 = true ∧
      (announcedRing 0x1000#32 []).ringCovered 1 = true) ∧
    (announcedRing 0x1000#32 [(ringWord 2 3, 0x2000#32)]).pairHolds 1 = true ∧
    ((announcedRing 0x20000#32 []).fetchReady 1 = true ∧ (announcedRing 0x20000#32 []).ringCovered 1 = false) ∧
    ({ announcedRing 0x1000#32 [(ringWord 4 1, 0x80020003#32), (Reg.CUE_DOORBELL + 16, 1#32)] with fetched := 2 } :
      State).fetchTurn 1 = false ∧
    (entryMalformed 0 [0x200#32] = true ∧ entryMalformed 0 [0#32] = false) ∧
    ((sender 0#32 0#32 0#32).ringType 1 = 5 ∧
      ((sender 0#32 0#32 0#32).ringEn 3 && (sender 0#32 0#32 0#32).ringType 3 == 5 &&
        (sender 0#32 0#32 0#32).flag (ringWord 3 1) 7) = false) ∧
    (((sender 0x800000D3#32 0x2000#32 0#32).ringEn 3 && (sender 0x800000D3#32 0x2000#32 0#32).ringType 3 == 5 &&
      (sender 0x800000D3#32 0x2000#32 0#32).flag (ringWord 3 1) 7) = true ∧
      (sender 0x800000D3#32 0x2000#32 0#32).ringHalted 3 = true) ∧
    ((sender 0x800000D3#32 0#32 1#32).ringHalted 3 = false ∧ (sender 0x800000D3#32 0#32 1#32).ringRoom 3 = true ∧
      ((sender 0x800000D3#32 0#32 1#32).ring 3).cutOff.contains 1 = false ∧
      ((sender 0x800000D3#32 0#32 1#32).ring 1).cur.all (fun f => !(sender 0x800000D3#32 0#32 1#32).messageAhead f) = true) := by
  decide +kernel

theorem wit_EntriesAreWrittenInOrder :
    (((announcedRing 0x1000#32 []).post 2 (.completion 1 2 0 0 1 [] true)).hallOn = true ∧
      ((announcedRing 0x1000#32 []).post 2 (.completion 1 2 0 0 1 [] true)).ringEn 2 = true ∧
      ((announcedRing 0x1000#32 []).post 2 (.completion 1 2 0 0 1 [] true)).ringHalted 2 = false ∧
      ((announcedRing 0x1000#32 []).post 2 (.completion 1 2 0 0 1 [] true)).queued 2 = [.completion 1 2 0 0 1 [] true] ∧
      (announcedRing 0x1000#32 []).ringCovered 2 = true ∧
      (announcedRing 0x1000#32 []).ringUsed 2 < (announcedRing 0x1000#32 []).ringSize 2 - 1) ∧
    (announcedRing 0x1000#32 [(ringWord 2 0, 0x20000#32)]).ringCovered 2 = false ∧
    (announcedRing 0x1000#32 [(ringWord 2 3, 7#32)]).ringSize 2 - 1 ≤ (announcedRing 0x1000#32 [(ringWord 2 3, 7#32)]).ringUsed 2 ∧
    (({ (regsAt [(ringWord 2 1, 0x81000013#32), (ringWord 2 2, 0x100#32)] up).setRing 2 { unsignalled := 1 } with
        edge := 1#48 } : State).coalDue 2 = true ∧
      ((regsAt [(ringWord 2 1, 0x81000013#32), (ringWord 2 2, 0x100#32)] up).setRing 2 { unsignalled := 1 }).flag (ringWord 2 1) 24
        = true) := by decide +kernel

/-! ### Witnesses: starts, resets and the ladder -/

/-- A part at a step of the start. -/
def starting (b : BootStep) : State := { State.reset with boot := { step := b } }

/-- A released part whose ladder stands at a state, with a target, a move and a step. -/
def lad (cur tgt : Nat) (moving : Bool) (st : MoveStep) : State :=
  regsAt [(Reg.DEV_LADDER_STATE, word (cur + 16 * tgt + 128 * moving.toNat))] { up with ladder := { core := .fastRc, step := st } }

/-- The same part at a later tick. -/
def later (n : Nat) (s : State) : State := { s with metro := BitVec.ofNat 48 n, edge := BitVec.ofNat 48 n }

/-- A fold whose step leaves boot as it was leaves it so. -/
theorem foldl_boot {α : Type} {f : State → α → State} (hf : ∀ s x, (f s x).boot = s.boot) :
    ∀ (l : List α) (s : State), (l.foldl f s).boot = s.boot
  | [], _ => rfl
  | x :: l, s => (foldl_boot hf l (f s x)).trans (hf s x)

theorem fuseLoad_boot (s : State) (x y z : Bool) : (s.fuseLoad x y z).boot = s.boot := by
  unfold State.fuseLoad
  refine (foldl_boot (fun s n => ?_) _ _).trans ?_
  · unfold State.setApplied State.setItem
    dsimp only
    split <;> simp only [State.setFlag_boot, State.setFld_boot, State.setReg_boot]
  · simp only [State.setFlag_boot, State.setReg_boot]
    exact foldl_boot (fun s n => by simp) _ _

theorem tacetMv_ge (s : State) : 2999 < s.tacetMv := by
  unfold State.tacetMv
  omega

/-- A cold start below the TACET threshold, and one at it. -/
theorem wit_ThePartStarts (s : State) (h : s.boot.cold = true) : ∃ s1 : State, s1 = s.fuseLoad false false false ∧
    (s1.boot.cold = true ∧ 2999 < s1.tacetMv) ∧ ¬(s1.boot.cold = true ∧ s1.tacetMv < s1.tacetMv) :=
  ⟨_, rfl, ⟨(congrArg Boot.cold (fuseLoad_boot s false false false)).trans h, tacetMv_ge _⟩, fun h => Nat.lt_irrefl _ h.2⟩

/-- The start from reset is one of them. -/
theorem wit_ThePartStartsCold : (State.reset.startClock.setReg Reg.DEV_BOOT_STATUS 0#32).boot.cold = true := by decide +kernel

theorem wit_ThePartStartsAndIsReleased :
    (State.reset.boot.step = .por ∧ State.reset.boot.sysHeld = false) ∧
    ((later 65536 (starting .supplies)).suppliesOk = false ∧
      65536 ≤ (later 65536 (starting .supplies)).elapsed (later 65536 (starting .supplies)).boot.b3At) ∧
    (({ starting .supplies with sense := { rails := [(1, 1), (2, 1), (4, 1), (5, 1)] } } : State).suppliesOk = true ∧
      (starting .supplies).jrnl.busy = none) ∧
    ((later 256 (starting .tuning)).releaseDue = true ∧ (later 256 (starting .tuning)).flag Reg.DEV_BOOT_STATUS 12 = false) ∧
    ((regsAt [(Reg.DEV_BOOT_STATUS, 0x1000#32)] (later 256 (starting .tuning))).releaseDue = true ∧
      (regsAt [(Reg.DEV_BOOT_STATUS, 0x1000#32)] (later 256 (starting .tuning))).flag Reg.DEV_BOOT_STATUS 12 = true) ∧
    (starting .reset).releaseDue = false ∧
    (({ up with boot := { step := .released, railsLeft := [3], railWait := true } } : State).boot.railWait = true ∧
      4096 ≤ (later 4096 up).elapsed (later 4096 up).boot.railAt ∧ (later 4095 up).elapsed (later 4095 up).boot.railAt < 4096) ∧
    (up.aoRuns = true ∧ up.flag Reg.DEV_AO_CLK 0 = false) ∧
    ((regsAt [(Reg.DEV_AO_CLK, 1#32)] up).aoRuns = true ∧ (regsAt [(Reg.DEV_AO_CLK, 1#32)] up).flag Reg.DEV_AO_CLK 0 = true) ∧
    (up.boot.step = .released ∧ up.ladder.core = .fastRc ∧ up.cur ≤ 1 ∧ up.boot.coreHeld = false) ∧
    State.reset.boot.step ≠ .released := by decide +kernel

/-- POR asks for nothing: the register of an unlisted offset has no undefined field. -/
theorem wit_PorLeavesPorValues : Reg.DEV_PAD_PULL ≠ Reg.DEV_LADDER_STATE ∧
    (regSpec Reg.DEV_PAD_PULL).all (fun r => r.undef == 0#32) = true := by decide +kernel

theorem wit_ResetsAreAskedForAndApplied :
    up.boot.sysHeld = false ∧ State.reset.boot.step = .por ∧ ¬(up.boot.step = .por ∨ up.boot.step = .tacet) ∧
    (({ up with boot := { step := .released, sysHeld := true } } : State).boot.sysHeld = true ∧ up.elapsed up.boot.sysUntil < 2 ^ 47) ∧
    (isFront Reg.DEV_RESET_REQ 0x77400002#32 up = true ∧ field 0x77400002#32 31 16 = 0x7740 ∧ bit 0x77400002#32 1 = true) ∧
    (takes up 0x14 clientZero [1#32] [1#32] = true ∧ ((held 0x14 [1#32] up).ring 0).cur.isSome = true) ∧
    (lad 2 2 false .none).cur = 2 ∧
    (up.boot.step = .released ∧ up.cur ≤ 1 ∧ up.boot.coreHeld = false ∧ up.boot.coreWaiting = none ∧ up.moving = false ∧
      (lad 0 2 true .jobsIdle).moving = true ∧ (lad 0 2 true .jobsIdle).cur ≤ 1) ∧
    (isFront Reg.DEV_RESET_REQ 0x77400001#32 up = true ∧ bit 0x77400001#32 1 = false ∧ bit 0x77400001#32 0 = true) ∧
    (({ lad 0 2 true .jobsIdle with boot := { step := .released, coreWaiting := some 6 } } : State).boot.coreWaiting = some 6 ∧
      (lad 1 1 false .none).moving = false ∧ (lad 2 2 false .none).moving = false) ∧
    (({ up with boot := { step := .released, coreHeld := true } } : State).boot.coreHeld = true ∧
      up.elapsed up.boot.coreUntil < 2 ^ 47) := by decide +kernel

theorem wit_WatchdogAndTacetExits :
    (takes up 0x15 clientZero [0xD0FFFFFF#32] [0xD0FFFFFF#32] = true ∧ up.flag Reg.DEV_WDOG_CFG 30 = false ∧
      takes (regsAt [(Reg.DEV_WDOG_CFG, 0x40000000#32)] up) 0x15 clientZero [0#32] [0xD0FFFFFF#32] = true ∧
      (regsAt [(Reg.DEV_WDOG_CFG, 0x40000000#32)] up).flag Reg.DEV_WDOG_CFG 30 = true) ∧
    takes up 0x16 kickRight [] [] = true ∧
    (isFront Reg.DEV_WDOG_KICK 0xA5C3#32 up = true ∧ field 0xA5C3#32 15 0 = 0xA5C3 ∧ field 0xA5C2#32 15 0 ≠ 0xA5C3) ∧
    (regsAt [(Reg.DEV_WDOG_CFG, 0x80000020#32), (Reg.DEV_WDOG_STATUS, 16#32)] up).wdogEarlyDue = true ∧
    ((regsAt [(Reg.DEV_WDOG_CFG, 0x90000020#32), (Reg.DEV_WDOG_STATUS, 32#32)] up).wdogExpired = true ∧
      (regsAt [(Reg.DEV_WDOG_CFG, 0x90000020#32), (Reg.DEV_WDOG_STATUS, 32#32)] up).flag Reg.DEV_WDOG_CFG 28 = true) ∧
    ((regsAt [(Reg.DEV_WDOG_CFG, 0x80000020#32), (Reg.DEV_WDOG_STATUS, 32#32)] up).wdogExpired = true ∧
      (regsAt [(Reg.DEV_WDOG_CFG, 0x80000020#32), (Reg.DEV_WDOG_STATUS, 32#32)] up).flag Reg.DEV_WDOG_CFG 28 = false) ∧
    ((starting .tacet).boot.step = .tacet ∧ (regsAt [(Reg.DEV_TACET_CFG, 0x10000#32)] (starting .tacet)).tacetMv = 3000 ∧
      (let s := regsAt [(Reg.DEV_TACET_CFG, 2#32)] (starting .tacet)
       max 1 (s.fld Reg.DEV_TACET_CFG 15 0) ≤ ([2999, 3000, 3001].reverse.takeWhile (fun v => decide (s.tacetMv ≤ v))).length ∧
         ([3000, 2999, 3000].reverse.takeWhile (fun v => decide (s.tacetMv ≤ v))).length < max 1 (s.fld Reg.DEV_TACET_CFG 15 0)) ∧
      (regsAt [(Reg.DEV_TACET_CFG, 0x10000#32)] (starting .tacet)).flag Reg.DEV_TACET_CFG 16 = true ∧
      (regsAt [(Reg.DEV_TACET_CFG, 0#32)] (starting .tacet)).flag Reg.DEV_TACET_CFG 16 = false) := by decide +kernel

theorem wit_LadderRequestsBeginMoves :
    (up.moving = false ∧ max 0 up.ceil = up.cur ∧ max 2 up.ceil ≠ up.cur) ∧
    takes up 0x10 (pageRight 0) [5#32] [7#32] = true ∧
    (isFront Reg.DEV_LADDER_REQ 0x80000005#32 up = true ∧ bit 0x80000005#32 31 = true ∧ field 0x80000005#32 2 0 ≤ 5 ∧
      5 < field 0x80000006#32 2 0 ∧ (lad 0 2 true .jobsIdle).moving = true) ∧
    takes up 0x11 clientZero [0x377#32, 0#32, 0#32, 0#32] [0x377#32, 0x87FFFFFF#32, 0xFFFFFF#32, 0x0FF1FFFF#32] = true ∧
    takes up 0x12 clientZero [0xF#32, 0#32] [0xF#32, 0x03FF03FF#32] = true ∧
    takes up 0x13 clientZero [1#32, 1#32] [ones, 1#32] = true := by decide +kernel

theorem wit_TheLadderWakesAndIdles :
    ((regsAt [(Reg.DEV_ALARM_CTL, 1#32)] up).alarmDue = true ∧ up.alarmDue = false) ∧
    (2 ≤ (lad 2 2 false .none).cur ∧ (lad 4 4 false .none).cur ≤ 4 ∧ up.cur < 2) ∧
    ((forceAt [(Reg.INTAKE_DSI_CFG, 1#32)] (lad 2 2 false .none)).lanesSeen = true) ∧
    (up.ladder.wakeDue = false ∧ ({ up with ladder := { core := .fastRc, wakeDue := true } } : State).ladder.wakeDue = true) ∧
    ((regsAt [(Reg.DEV_IDLE, 0x80000000#32)] { up with ladder := { core := .fastRc, idleCount := 1 } }).idleDue = true ∧
      (regsAt [(Reg.DEV_IDLE, 0x80000000#32)] up).fld Reg.DEV_IDLE 26 24 = 0 ∧
      (regsAt [(Reg.DEV_IDLE, 0x85000000#32)] { up with ladder := { core := .fastRc, idleCount := 1 } }).idleDue = true ∧
      (regsAt [(Reg.DEV_IDLE, 0x85000000#32)] up).fld Reg.DEV_IDLE 26 24 = 5 ∧ up.idleDue = false) ∧
    ((lad 2 2 false .none).boot.step = .released ∧ wakeWatched 5 (lad 2 2 false .none).cur = true ∧
      (regsAt [(Reg.DEV_WAKE_TGT, 0#32)] (lad 2 2 false .none)).fld Reg.DEV_WAKE_TGT 11 10 ≠ 3 ∧
      max ((regsAt [(Reg.DEV_WAKE_TGT, 0#32)] (lad 2 2 false .none)).fld Reg.DEV_WAKE_TGT 11 10) up.ceil < (lad 2 2 false .none).cur ∧
      (lad 2 2 false .none).ladder.wokeAt ≠ some (lad 2 2 false .none).edge ∧ ¬((lad 2 2 false .none).moving = true)) := by
  decide +kernel

/-- A part in PIANO with CORE stopped whose bus 0 has a transfer. -/
def bursting : State :=
  { lad 2 2 false .none with
    ladder := { core := .stopped }
    score := { buses := [(0, [{ task := 0, step := 0, target := 0, wlen := 0, rlen := 0, timeout := 0, wbuf := 0, rbuf := 0,
                                read := false, toRing := false, queued := 0#48, sending := [] }])] } }

theorem wit_BurstsAndVcoreAreServed :
    bursting.burstReady = true ∧ up.burstReady = false ∧
    (({ lad 2 2 false .none with ladder := { core := .burst, burstOn := true } } : State).ladder.burstOn = true ∧
      ({ lad 2 2 false .none with ladder := { core := .burst, burstOn := true } } : State).burstWanted = false ∧
      (lad 2 2 false .none).stave.step = .none) ∧
    (later 32768 (lad 4 4 false .none)).refillDue = true ∧
    (({ up with ladder := { core := .fastRc, vcoreAt := some 0#48 } } : State).ladder.vcoreAt = some 0#48 ∧
      ((regsAt [(Reg.DEV_VCORE_CFG, 0x00010010#32)] up).fld Reg.DEV_VCORE_CFG 9 0 + 9) / 10 * 10 ≤ 20 ∧
      19 < ((regsAt [(Reg.DEV_VCORE_CFG, 0x00010010#32)] up).fld Reg.DEV_VCORE_CFG 9 0 + 9) / 10 * 10 ∧
      up.boot.step ≠ .por ∧ up.boot.step ≠ .tacet ∧ up.boot.sysHeld = false ∧
      max 1 ((regsAt [(Reg.DEV_VCORE_CFG, 0x00010010#32)] up).fld Reg.DEV_VCORE_CFG 25 16) ≤ (later 1 up).elapsed 0#48 ∧
      up.elapsed 0#48 < max 1 ((regsAt [(Reg.DEV_VCORE_CFG, 0x00010010#32)] up).fld Reg.DEV_VCORE_CFG 25 16)) := by
  decide +kernel

/-- A job that runs. -/
def aJob (phase : JobPhase) : Job := { id := 0, slot := 0, ring := some 1, index := 0, words := [], owner := 0, block := [], phase := phase }

theorem wit_DescentsFollowTheirSteps :
    (({ lad 0 2 true .jobsIdle with boot := { step := .tuning } } : State).boot.step ≠ .released ∧
      (lad 0 2 true .jobsIdle).boot.step = .released) ∧
    ((lad 0 2 true .jobsIdle).ladder.step = .jobsIdle ∧
      ((lad 0 2 true .jobsIdle).jobsAtD2 2 false).jobsDone 2 = true ∧
      ({ lad 0 2 true .jobsIdle with ens := { jobs := [aJob .running] } } : State).forced = false ∧
      ({ lad 0 2 true .jobsIdle with ens := { jobs := [aJob .running] } } : State).jobsDone 2 = false) ∧
    ((lad 0 1 true .frame).ladder.step = .frame ∧ (lad 0 1 true .frame).atFrame = true ∧ (lad 0 1 true .frame).tgt = 1 ∧
      (lad 0 2 true .frame).tgt ≠ 1) ∧
    ((lad 1 2 true .panel).ladder.step = .panel ∧ (lad 1 2 true .panel).atFrame = true ∧
      ({ lad 1 2 true .panel with scan := { running := true, frameOn := true } } : State).atFrame = false) ∧
    ((lad 1 2 true .coreStop).ladder.step = .coreStop ∧ (lad 1 2 true .coreStop).cur ≤ 1 ∧ (lad 1 2 true .coreStop).ens.jobs = [] ∧
      2 ≤ (lad 2 3 true .coreStop).cur ∧ (lad 2 3 true .coreStop).ladder.burstOn = false ∧ (lad 2 3 true .coreStop).stepD8.tgt = 3 ∧
      (lad 2 4 true .coreStop).stepD8.tgt ≠ 3 ∧
      ({ lad 2 3 true .coreStop with ladder := { core := .burst, step := .coreStop, burstOn := true } } : State).ladder.burstOn = true ∧
      (lad 1 2 true .coreStop).d7Ready = true ∧ (lad 1 2 true .coreStop).stepD7.tgt = 2 ∧
      (lad 1 3 true .coreStop).stepD7.tgt ≠ 2 ∧ (lad 1 3 true .coreStop).stepD7.stepD8.tgt = 3 ∧
      (lad 1 4 true .coreStop).stepD7.stepD8.tgt ≠ 3) ∧
    ((lad 3 4 true .fermata).ladder.step = .fermata ∧ (lad 3 4 true .fermata).ladder.burstOn = false ∧
      (lad 3 4 true .fermata).face.pushing = none ∧ (lad 3 4 true .fermata).stave.step = .none ∧
      (lad 3 4 true .fermata).stepD9.tgt = 4 ∧ (lad 4 5 true .fermata).tgt ≠ 4 ∧ (lad 4 5 true .fermata).lit = false ∧
      (regsAt [(Reg.STAVE_PWR_STATE, 2#32)] (lad 4 5 true .fermata)).lit = true ∧
      (let s := regsAt [(Reg.STAVE_PWR_STATE, 2#32), (Reg.FACE_STATUS, 0x100#32)] (lad 3 4 true .fermata)
       s.cur ≠ 4 ∧ s.lit = true ∧ s.flag Reg.FACE_STATUS 8 = true)) ∧
    ((lad 4 5 true .task1).ladder.step = .task1 ∧ (lad 4 5 true .task1).running 1 = false ∧
      (regsAt [(Reg.SCORE_RUN, 2#32)] (lad 4 5 true .task1)).running 1 = true ∧
      65536 ≤ (later 65536 (lad 4 5 true .task1)).elapsed (later 65536 (lad 4 5 true .task1)).ladder.d10At ∧
      (lad 4 5 true .task1).tgt = 5) := by decide +kernel

theorem wit_HallIsLostBelowPiano : (announcedRing 0x1000#32 []).ringEn 1 = true ∧ (announcedRing 0x1000#32 []).isSubmission 1 = true ∧
    (announcedRing 0x1000#32 []).announced 1 = true ∧
    ({ announcedRing 0x1000#32 [] with ladder := { core := .stopped } } : State).coreOn = false := by decide +kernel

theorem wit_AscentsFollowTheirSteps :
    (lad 2 0 true .coreStart).ladder.step = .coreStart ∧ (lad 3 2 true .banks).ladder.step = .banks ∧ (lad 3 2 true .banks).tgt ≤ 2 ∧
    (lad 4 3 true .banks).ladder.step = .banks ∧ 3 ≤ (lad 4 3 true .banks).tgt ∧
    (lad 2 0 true .pllSwitch).ladder.step = .pllSwitch ∧ up.ladder.step ≠ .pllSwitch ∧ (lad 1 0 true .pllSwitch).cur ≤ 1 ∧
    2 ≤ (lad 2 0 true .pllSwitch).cur := by decide +kernel

/-! ### Witnesses: modes, commits, boundaries and leases -/

/-- Ring 0 waits since tick 0, with a timeout. -/
def waits (w : Wait) (timeout : Nat) (s : State) : State :=
  s.setRing 0 { cur := some { words := [0x83#32], index := 0, started := true, waiting := some w, timeout := timeout } }

theorem wit_ModesSwitchAndCommitsApply :
    (isFront (modeReg 14) 1#32 up = true ∧ bit 1#32 0 = true) ∧
    (isFront (modeReg 0) 0#32 up = true ∧ bit 0#32 0 = false ∧ up.flag (modeReg 0) 0 = false ∧
      (regsAt [(modeReg 0, 1#32)] up).flag (modeReg 0) 0 = true) ∧
    isFront (modeReg 13) 0#32 up = true ∧
    (up.verbExecuting 10 = false ∧ (waits (.commit 10 none) 1 up).verbExecuting 10 = true) ∧
    (Memory.wf up = true ∧ pageOf Reg.PIPE_BRIGHT = 10 ∧ isShadow Reg.PIPE_BRIGHT = true) ∧
    (up.pendingOn 10 = false ∧ (up.goCommit 10).pendingOn (pageOf Reg.PIPE_BRIGHT) = true) := by decide +kernel

theorem wit_BoundariesServeTheirPages :
    (up.coreOn = true ∧ ({ up with scan := { running := true, frameOn := true } } : State).scan.frameOn = true ∧
      ({ up with scan := { running := true, frameOn := true } } : State).sinceReal 0 = true ∧ up.scan.running = false) ∧
    ((later 32768 up).synthDue = true ∧ up.synthDue = false) ∧ (later 1 { up with sense := { roundAt := some 1#48 } }).adcIdle = true ∧
    (((waits .ladder 0 up).ring 0).cur.bind (·.waiting) = some .ladder ∧ up.elapsed 0#48 < 1) ∧
    (((waits (.present 0) 1 up).ring 0).cur.bind (·.waiting) = some (.present 0) ∧
      (up.setSurf 0 { queued := some { buf := 0, rect := none, source := .verb, ring := some 0 } }).presentQueued 0 0 = true ∧
      up.presentQueued 0 0 = false) ∧
    (((waits (.commit 10 none) 1 up).ring 0).cur.bind (·.waiting) = some (.commit 10 none) ∧ 1 ≤ (later 1 up).elapsed 0#48 ∧
      [({ page := 10, toBasic := false, ring := some 1 } : BoundaryReq)].any (fun q => q.page == 10 && !q.toBasic) = true ∧
      ([] : List BoundaryReq).any (fun q => q.page == 10 && !q.toBasic) = false) := by decide +kernel

theorem wit_LeasesAreCheckedAndPowered :
    (up.leaseCheck 0 = false ∧ (regsAt [(leaseWord 31 0, 0x00010000#32)] up).leaseCheck 31 = true ∧ up.cur ≤ 2) ∧
    (isFront (leaseWord 0 1) 0x11100#32 leasedUp = true ∧ bit 0x11100#32 16 = true ∧ leasedUp.leaseEn 0 = true ∧
      up.leaseEn 0 = false ∧ bit 0x100#32 16 = false) ∧
    (takes leasedUp 0x1C clientZero [0#32, 0#32, 0#32] [0x1F#32, 0x07FF07FF#32, 0x0101133F#32] = true ∧
      takes leasedUp 0x1C clientZero [0#32, 0#32, 0x10100#32] [0x1F#32, 0x07FF07FF#32, 0x0101133F#32] = true ∧
      leasedUp.reg (leaseWord 0 0) ≠ 0#32 ∧
      takes up 0x1C clientZero [0#32, 0x10000#32, 0x10100#32] [0x1F#32, 0x07FF07FF#32, 0x0101133F#32] = true) ∧
    (takes up 0x1D clientZero [0x2AAAAAAA#32, 0xFFF#32] [0x3FFFFFFF#32, 0xFFF#32] = true ∧
      ∀ g, g < 15 → field 0x2AAAAAAA#32 (2 * g + 1) (2 * g) ≠ 3) := by decide +kernel

/-! ### Witnesses: ports, the alias and permissions -/

theorem wit_PortSelectsAreAnsweredOrLogged :
    (up.flag Reg.HPORT_ERR_LOG 31 = false ∧ (regsAt [(Reg.HPORT_ERR_LOG, 0x80000000#32)] up).flag Reg.HPORT_ERR_LOG 31 = true) ∧
    State.reset.portsAnswer = false ∧ up.portsAnswer = true ∧ up.portA.armed = false ∧ up.portA.wbuf = [] ∧
    ({ up with portA := { armed := true } } : State).portA.armed = true ∧
    selectOf .a 0xEE#8 0x12#8 = none ∧ (selectOf .a 0xEE#8 0x11#8).isSome = true ∧ selectOf .b 0x03#8 0#8 = none ∧
    (selectOf .b 0x0B#8 0#8).isSome = true := by decide +kernel

/-- Page 0 in EXPERT. -/
def expert : State := regsAt [(modeReg 0, 1#32)] up

/-- A port whose write buffer is full. -/
def full : State := { expert with portA := { wbuf := List.replicate 64 { client := 0, off := Reg.DEV_IDLE, val := 0#32 } } }

theorem wit_AliasWordsAreReadAndStored :
    up.accessCause .a 48 0 false 0#32 ≠ 0 ∧
    (up.accessCause .a 0 Reg.DEV_IDLE false 0#32 = 0 ∧ regionOf Reg.DEV_IDLE ≠ .journal) ∧ up.accessCause .b 0 0 true 0#32 ≠ 0 ∧
    (expert.accessCause .a 0 Reg.DEV_IDLE true 0#32 = 0 ∧ (regSpec Reg.DEV_IDLE).isSome = true ∧ (expert.port .a).wbuf.length < 64) ∧
    (full.accessCause .a 0 Reg.DEV_IDLE true 0#32 = 0 ∧ 64 ≤ (full.port .a).wbuf.length ∧
      full.frontWord .a (fun _ => true) = none) ∧
    (({ expert with portA := { wbuf := List.replicate 64 { client := 0, off := modeReg 0, val := 0#32 } } } : State).frontWord .a
      (fun _ => true)).isSome = true ∧ up.onTheWay .a = [] ∧
    (up.portsAnswer = true ∧ (0#24).toNat % 4 = 0 ∧ (1#24).toNat % 4 ≠ 0) ∧
    (isFront 0xA00000 1#32 up = true ∧ regionOf 0xA00000 = .atlas) ∧ (isFront 0xA08000 1#32 up = true ∧ regionOf 0xA08000 = .steps) ∧
    regionOf 0xA0A000 = .bufs ∧ (isFront 0x201000 1#32 leasedUp = true ∧ regionOf 0x201000 = .hall ∧ leasedUp.leased 0x1000 = true) ∧
    isFront Reg.DEV_IDLE 1#32 up = true := by decide +kernel

theorem wit_PermissionsAreSetAndLocked :
    takes up 0x18 clientZero [0x13F#32, 0xF#32] [0x13F#32, 0xF#32] = true ∧
    (takes up 0x17 clientZero [1#32, 1#32] [0x3F#32, 0xF7FFF#32] = true ∧ field 1#32 5 0 ≠ 0 ∧ up.flag Reg.HPORT_PERM_LOCK 0 = false) ∧
    (takes (regsAt [(Reg.HPORT_PERM_LOCK, 1#32)] up) 0x17 clientZero [1#32, 1#32] [0x3F#32, 0xF7FFF#32] = true ∧
      (regsAt [(Reg.HPORT_PERM_LOCK, 1#32)] up).flag Reg.HPORT_PERM_LOCK 0 = true) ∧
    takes up 0x1A clientZero [] [] = true ∧ (isFront Reg.HPORT_PERM_LOCK 1#32 up = true ∧ bit 1#32 0 = true) ∧
    ((regsAt [(Reg.HPORT_PERM_LOCK, 2#32)] up).boot.step = .released ∧
      (regsAt [(Reg.HPORT_PERM_LOCK, 2#32)] up).flag Reg.HPORT_PERM_LOCK 1 = true ∧
      65536 ≤ (later 65536 (regsAt [(Reg.HPORT_PERM_LOCK, 2#32)] up)).elapsed up.boot.releasedAt) ∧
    up.flag Reg.HPORT_PERM_LOCK 1 = false ∧ takes up 0x19 clientZero [] [] = true := by decide +kernel

/-! ### Witnesses: the Score -/

/-- Task 0 runs and stands at a step. -/
def task (w : Word) (regs : List (Nat × Word)) (s : State) : State := (regsAt ((Reg.SCORE_RUN, 1#32) :: regs) s).setAo aoSteps w

/-- That step may run now. -/
def runs (op : Nat) (operand : Nat) : Bool := atStep (task (word (2 ^ 26 * op + operand)) [] up) 0#4 op (word (2 ^ 26 * op + operand))

theorem wit_MalformedStepsHaltTheirTask :
    (stepRow (.haltStep 0#4) = some (0#4, 0, 0#32) ∧ runs 0 1 = true ∧ within 1#32 (0#32 ||| 0xFC000000#32) = false) ∧
    (up.running 0 = false ∧ (task 0#32 [(taskStat 0, 0x1800#32)] up).fld (taskStat 0) 12 11 = 3 ∧
      (((task 0#32 [] up).setTask 0 { ranAt := some 0#48 }).task 0).ranAt = some up.edge ∧
      ({ up with score := { lastStep := some (0#48, 1) } } : State).turnOver 0 = true) ∧
    ((task 0xFC000000#32 [] up).running 0 = true ∧ (task 0xFC000000#32 [] up).fld (taskStat 0) 12 11 ≠ 3 ∧
      ((task 0xFC000000#32 [] up).task 0).ranAt ≠ some up.edge ∧ (task 0xFC000000#32 [] up).turnOver 0 = false ∧
      stepKnown (field ((task 0xFC000000#32 [] up).stepWord 0) 31 26) = false) := by decide +kernel

theorem wit_ScoreStepsComplete :
    (runs 0 0 = true ∧ within 0#32 0xFC000000#32 = true) ∧ runs 1 0x4B = true ∧ field (word (2 ^ 26 + 0x4B)) 5 0 ≤ 11 ∧
    (runs 2 0x26 = true ∧ pinKnown 0x26 = true) ∧ runs 3 5 = true ∧
    (runs 4 0 = true ∧ (task (word (2 ^ 28)) [] up).inputCount 0 0 < max 1 0 ∧
      max 1 0 ≤ (task (word (2 ^ 28)) [(taskCnt 0, 1#32)] up).inputCount 0 0 ∧
      atStep (task (word (2 ^ 28)) [(taskCnt 0, 1#32)] up) 0#4 4 (word (2 ^ 28)) = true) ∧
    runs 5 0x1F = true ∧
    (runs 0x18 0 = true ∧ branchBad 0x60000000#32 = false ∧ field 0x60000000#32 12 11 ≠ 1 ∧
      (task 0x60000000#32 [] up).branchHolds 0 0x60000000#32 false = true ∧ bit 0x60000000#32 19 = false ∧
      (task 0x60008000#32 [] up).branchHolds 0 0x60008000#32 false = false ∧ branchBad 0x60008000#32 = false ∧
      bit 0x60080000#32 19 = true ∧ branchBad 0x60080000#32 = false ∧
      (task 0x60080000#32 [] up).branchHolds 0 0x60080000#32 false = true ∧ atStep (task 0x60080000#32 [] up) 0#4 0x18 0x60080000#32
        = true) ∧
    (runs 0x18 0x800 = true ∧ branchBad 0x60000800#32 = false ∧ field 0x60000800#32 12 11 = 1) ∧
    (runs 0x19 3 = true ∧ (task 0x64000003#32 [] up).flag (taskStat 0) 14 = false) ∧
    (atStep (task 0x64000003#32 [(taskStat 0, 0x4000#32)] up) 0#4 0x19 0x64000003#32 = true ∧
      (task 0x64000003#32 [(taskStat 0, 0x4000#32)] up).flag (taskStat 0) 14 = true) ∧
    atStep (task 0x68000000#32 [(taskStat 0, 0x4000#32)] up) 0#4 0x1A 0x68000000#32 = true ∧
    (runs 0x1B 0x1003 = true ∧ (task 0x6C001003#32 [] up).flag (taskStat 0) 15 = false ∧ within 0x6C001003#32 0xFC07FFFF#32 = true) ∧
    (runs 0x10 0x12 = true ∧ bit 0x40000012#32 3 = false) ∧
    (runs 0x10 0x8 = true ∧ bit 0x40000008#32 3 = true ∧ field 0x40000008#32 25 15 = 0) ∧
    (runs 0x11 0xA000 = true ∧ field 0x4400A000#32 15 11 ≤ 20 ∧ field 0x4400A000#32 10 0 + (field 0x4400A000#32 15 11 + 3) / 4 ≤ 2048) ∧
    (runs 0x20 5 = true ∧ field 0x80000005#32 2 0 ≤ 5) := by decide +kernel

/-- A transfer of task 0 queued at tick 0. -/
def aXfer (timeout : Nat) : BusXfer :=
  { task := 0, step := 0, target := 0, wlen := 0, rlen := 0, timeout := timeout, wbuf := 0, rbuf := 0, read := false,
    toRing := false, queued := 0#48, sending := [] }

/-- A part with that transfer on bus 0. -/
def onBus (timeout : Nat) : State := { up with score := { buses := [(0, [aXfer timeout])] } }

theorem wit_BusStepsAndTransfersEnd :
    (runs 8 0 = true ∧ (task 0x20000000#32 [] up).busBad false false 0x20000000#32 = false) ∧
    (atStep ((task 0x24000000#32 [] up).setBuf 0 0x2000#32) 0#4 9 0x24000000#32 = true ∧
      ((task 0x24000000#32 [] up).setBuf 0 0x2000#32).busBad false true 0x24000000#32 = false) ∧
    (atStep ((task 0x28000000#32 [] up).setBuf 0 0x2000#32) 0#4 10 0x28000000#32 = true ∧
      ((task 0x28000000#32 [] up).setBuf 0 0x2000#32).busBad false true 0x28000000#32 = false) ∧
    (runs 12 0x1000 = true ∧ (task 0x30001000#32 [] up).busBad true false 0x30001000#32 = false) ∧
    (runs 13 0x1000 = true ∧ (task 0x34001000#32 [] up).busBad true false 0x34001000#32 = false) ∧
    (up.busEn 0 = true ∧ (regsAt [(Reg.BUS_I2C_CFG, 0#32)] up).busEn 0 = false) ∧
    ((onBus 0).bus 0 = [aXfer 0] ∧ up.coreOn = true) ∧
    ((onBus 5).xferOf 0 = some (0, aXfer 5) ∧ 5 ≤ (later 5 (onBus 5)).elapsed 0#48 ∧ (onBus 5).elapsed 0#48 < 5) ∧
    ((onBus 5).elapsed 0#48 < (aXfer 5).timeout ∧ (aXfer 5).timeout ≤ (later 5 (onBus 5)).elapsed (aXfer 5).queued) ∧
    (((up.setTask 0 { busEnd := some { cause := 2 } }).task 0).busEnd = some { cause := 2 } ∧
      ((up.setTask 0 { busEnd := some { cause := 0 }, stopping := true }).task 0).stopping = true) ∧
    (let s := State.setTask (later 9 (task 0x10000400#32 [] up)) 0 { waitFrom := some 0#48 }
     s.waitExpired 0 = true ∧ atStep s 0#4 4 0x10000400#32 = true ∧ within 0x10000400#32 0xFFFFFC7F#32 = true ∧
       s.inputCount 0 (field 0x10000400#32 1 0) < max 1 (field 0x10000400#32 5 2) ∧ up.waitExpired 0 = false) ∧
    (let s := State.setTask (later 9 (task 0x08000440#32 [] up)) 0 { waitFrom := some 0#48 }
     s.waitExpired 0 = true ∧ atStep s 0#4 2 0x08000440#32 = true ∧ within 0x08000440#32 0xFFFFFC7F#32 = true ∧
       pinKnown (field 0x08000440#32 5 0) = true ∧ ((stepped s 0#4).samplePin 0 false).pinReads 0 false ≠ bit 0x08000440#32 6) ∧
    (up.sintSees 0 true = true ∧
      ({ up with score := { sint := [(0, some { level := true, at_ := 0#48 })] } } : State).sintSees 0 true = false) := by
  decide +kernel

theorem wit_ScoreVerbsComplete :
    takes up 0x20 (pageRight 3) [0xFF#32] [0xFF#32] = true ∧ takes up 0x21 (pageRight 3) [0xFFFF#32] [0xFFFF#32] = true ∧
    (up.running 15 = false ∧ (task 0#32 [] up).running 0 = true) ∧ takes up 0x22 (pageRight 3) [1#32] [0xFFFF#32] = true ∧
    isFront Reg.SCORE_START 1#32 up = true ∧ isFront Reg.SCORE_STOP 1#32 up = true ∧
    (takes up 0x23 (pageRight 3) [0x507FB#32, 1#32, 2#32, 3#32, 4#32, 5#32] (0x707FF#32 :: List.replicate 5 0xFFFFFFFF#32) = true ∧
      field 0x507FB#32 18 16 = 5 ∧ field 0x507FB#32 10 0 + 5 ≤ 2048) ∧
    (takes up 0x24 (pageRight 3) [0x7FC#32] [0x7FF#32] = true ∧ field 0x7FC#32 10 0 + 3 ≤ 2047) ∧
    (takes up 0x25 (pageRight 14) [0#32, 2#32] [0x7#32, 0xFFFFFFFF#32] = true ∧ within 2#32 (busMask 0) = true ∧
      ¬(field 2#32 1 0 = 3)) := by decide +kernel

/-! ### Witnesses: keys -/

/-- Key source 64 (KBTN0) enabled, with debounces of 2 readings and a STUCK of 1. -/
def keysUp (regs : List (Nat × Word)) : State :=
  forceAt [(Reg.KEYS_CFG, 0x0F010000#32), (Reg.KEYS_SCAN_CFG, 0x01220000#32)] (regsAt regs up)

/-- The key FIFO drains to ring 2, an enabled EVENT ring. -/
def draining (cur : Nat) (fifo : List (BitVec 64)) : State :=
  { forceAt [(Reg.KEYS_FIFO_CFG, 0x01010200#32)] (regsAt [(ringWord 2 0, 0x2000#32), (ringWord 2 1, 0x80000023#32),
      (Reg.DEV_LADDER_STATE, word cur)] leasedUp) with keys := { fifo := fifo, fifoAt := fifo.map fun _ => 0#48 } }

theorem wit_ScansAndCountsOfTheKeys :
    (up.scanDue = true ∧ ({ up with keys := { scanAt := some 0#48 } } : State).scanDue = false) ∧
    (up.keysOn = true ∧ State.reset.keysOn = false ∧
      max up.scanRows 1 ≤ (later 1 up).elapsed 0#48 ∧ up.elapsed 0#48 < max up.scanRows 1) ∧
    ((keysUp []).keyOn 64 = true ∧ up.keyOn 71 = false ∧ up.isMasked 64 = false ∧ (up.setMasked 64 true).isMasked 64 = true ∧
      (up.setHeld 64 true).isHeld 64 = true ∧ up.isHeld 64 = false) ∧
    (up.keyOn 71 = false ∧ (keysUp []).keyOn 64 = true ∧ (keysUp []).isMasked 64 = false ∧ (keysUp []).isHeld 64 = false ∧
      ((keysUp []).key 64).count + 1 < max 1 ((keysUp []).ffld Reg.KEYS_SCAN_CFG 19 16)) ∧
    (max 1 ((keysUp []).ffld Reg.KEYS_SCAN_CFG 19 16) ≤ (((keysUp []).setKey 64 { count := 1 }).key 64).count + 1) ∧
    ((((keysUp []).setHeld 64 true).setKey 64 { count := 1 }).isHeld 64 = true ∧
      (((keysUp []).setHeld 64 true).setKey 64 { count := 1 }).keyOn 64 = true ∧
      (((keysUp []).setHeld 64 true).setKey 64 { count := 1 }).isMasked 64 = false ∧
      max 1 ((keysUp []).ffld Reg.KEYS_SCAN_CFG 23 20) ≤ (((keysUp []).setKey 64 { count := 1 }).key 64).count + 1) ∧
    ((later 32768 ((keysUp []).setHeld 64 true)).isHeld 64 = true ∧ (keysUp []).ffld Reg.KEYS_SCAN_CFG 31 24 ≠ 0 ∧
      (keysUp []).ffld Reg.KEYS_SCAN_CFG 31 24 * 32768 ≤ (later 32768 (keysUp [])).elapsed ((keysUp []).key 64).since) ∧
    (((regsAt [(itemStat 5, 0x80#32)] up).setItem 5 { (up.item 5) with measuring := true }).tuning 5 = true ∧
      (((regsAt [(itemStat 5, 0x80#32)] up).setItem 5 { (up.item 5) with measuring := true }).item 5).measuring = true ∧
      up.tuning 5 = false ∧ 4 ≤ (later 4 up).elapsed up.keys.gapAt ∧ (later 3 up).elapsed up.keys.gapAt < 4) ∧
    ((keysUp []).keysOn = true ∧ (keysUp []).vddioUp = true ∧ (keysUp []).fflag Reg.KEYS_CFG 24 = true ∧ up.fflag Reg.KEYS_CFG 25 = false ∧
      (encPlace false false + 4 - encPlace ((keysUp []).enc 0).a ((keysUp []).enc 0).b) % 4 = 0 ∧
      (encPlace true true + 4 - encPlace ((keysUp []).enc 0).a ((keysUp []).enc 0).b) % 4 = 2 ∧
      (encPlace true false + 4 - encPlace ((keysUp []).enc 0).a ((keysUp []).enc 0).b) % 4 ∈ [1, 3]) ∧
    ((keysUp []).fflag Reg.KEYS_CFG 26 = true ∧ up.fflag Reg.KEYS_CFG 26 = false ∧ (keysUp []).ffld (pulseCfg 0) 17 16 ≠ 1 ∧
      ((keysUp []).pulse 0).last = none ∧
      (((keysUp []).setPulse 0 { last := some 0#48 }).pulse 0).last = some 0#48 ∧
      (forceAt [(pulseCfg 0, 5#32)] (keysUp [])).elapsed 0#48 < (forceAt [(pulseCfg 0, 5#32)] (keysUp [])).ffld (pulseCfg 0) 15 0) ∧
    ((later 1024 (forceAt [(pulseCfg 0, 0x01000000#32)] ((keysUp []).setPulse 0 { last := some 0#48 }))).pulseStopped 0 = true ∧
      up.pulseStopped 0 = false) ∧
    ({ up with keys := { late := [(0x4B, 1), (0x4A, 2)] } } : State).keys.late = [(0x4B, 1), (0x4A, 2)] ∧
    ((later (2 ^ 32) up).timebaseDue = true ∧ up.timebaseDue = false) := by decide +kernel

theorem wit_KeyFifoKeepsItsOrder : up.keys.fifo.length ≤ 62 ∧ up.keys.fifo = [] ∧ (draining 0 (List.replicate 63 0#64)).keys.fifo.length
    = 63 ∧ (draining 0 (List.replicate 64 0#64)).keys.fifo.length = 64 ∧ (draining 0 [0#64]).keys.fifo ≠ [] := by decide +kernel

theorem wit_KeysAreReadAndSet :
    (isFront Reg.KEYS_POP 1#32 up = true ∧ up.fflag Reg.KEYS_FIFO_CFG 16 = false ∧ isFront Reg.KEYS_POP 1#32 (draining 0 []) = true ∧
      (draining 0 []).fflag Reg.KEYS_FIFO_CFG 16 = true) ∧
    ((draining 0 [0#64]).drainOpen = true ∧ ((draining 0 [0#64]).ring 2).outbox = [] ∧ (draining 0 [0#64]).ringCovered 2 = true ∧
      up.drainOpen = false ∧ (regsAt [(ringWord 2 0, 0x20000#32)] (draining 0 [0#64])).ringCovered 2 = false ∧
      (regsAt [(ringWord 2 0, 0x20000#32)] (draining 0 [0#64])).drainOpen = true) ∧
    ((later 64 (draining 2 [0#64])).drainWaited = true ∧ up.drainWaited = false) ∧
    takes up 0x30 (pageRight 4) [0xFF#32] [0xFF#32] = true ∧
    (takes up 0x31 (pageRight 4) [0#32, 1#32] [0xFF#32, 0xFFFFFFFF#32] = true ∧ stageable 4 (Reg.KEYS_CFG - 0x4000) 1#32 = true) ∧
    (takes up 0x32 (pageRight 4) [1#32] [0x1#32] = true ∧ takes (draining 0 []) 0x32 (pageRight 4) [1#32] [0x1#32] = true ∧
      takes up 0x32 (pageRight 4) [] [0x1#32] = true) ∧
    takes up 0x33 (pageRight 4) [0x1FF#32] [0x1FF#32] = true ∧
    (takes up 0x34 (pageRight 4) [0xFF#32] [0xFF#32] = true ∧ takes up 0x34 (pageRight 4) [0x47#32] [0xFF#32] = true) ∧
    takes up 0x35 (pageRight 4) [0x1#32, ones, 0xFFFF#32] [0x1#32, 0xFFFFFFFF#32, 0xFFFF#32] = true ∧
    ((waits (.pulseTotal 0 1#32 2#32) 0 up).ring 0).cur = 
      some { words := [0x83#32], index := 0, started := true, waiting := some (.pulseTotal 0 1#32 2#32) } := by
  decide +kernel

/-! ### Witnesses: battery and thermal -/

/-- A part whose charger input shows SUP_REQ guarded, with a rail LOW since tick 0. -/
def guards : State :=
  { forceAt [(Reg.SENSE_SUPPLY_CFG, 0x00010100#32)] up with
    pins := { up.pins with supReq := true }, sense := { lowSince := [(1, 0#48)] } }

theorem wit_SenseResultsAndVerbs :
    (up.roundDue = true ∧ ({ up with sense := { roundAt := some 0#48 } } : State).roundDue = false) ∧
    (up.senseOn = true ∧ ({ up with sense := { left := [0] } } : State).sense.left = [0] ∧
      ({ up with sense := { left := [0] } } : State).sense.convAt ≠ some up.edge ∧ State.reset.senseOn = false ∧
      ({ up with sense := { left := [0], convAt := some up.edge } } : State).sense.convAt = some up.edge) ∧
    ((later 4096 up).metro.toNat % 4096 = 0 ∧ (later 4096 up).sense.ibatAt ≠ some (later 4096 up).metro ∧
      up.boot.step ≠ .por ∧ up.boot.step ≠ .tacet ∧ (forceAt [(Reg.SENSE_CFG, 0x400#32)] up).canSample = true ∧
      (forceAt [(Reg.SENSE_CFG, 0#32)] up).canSample = false) ∧
    ((later 32 { up with sense := { pmFrom := some 0#48 } }).pmDue = true ∧ up.pmDue = false) ∧
    (Cells.get (fun _ => 0) up.sense.rails 0 = 0 ∧ [2949, 2950, 4600, 4601].map (up.railClass 0) = [2, 1, 1, 3] ∧
      up.dwellClass 0 [2949] = none ∧ up.dwellClass 0 (List.replicate 255 2949) = some 2 ∧
      up.dwellClass 0 [2949, 2950] = none ∧ guards.guarded = true ∧
      (forceAt [(Reg.SENSE_SUPPLY_CFG, 0#32)] up).guarded = false) ∧
    (up.ladder.ceilThermal ≤ 5 ∧ up.ladder.ceilBattery ≤ 5) ∧
    ((later 1 guards).senseOn = true ∧ (later 1 guards).guarded = true ∧ (later 1 guards).suppliesAwaited = false ∧
      (later 1 guards).lostRails ≠ [] ∧ up.lostRails = [] ∧ (starting .supplies).suppliesAwaited = true) ∧
    (!up.pins.chgStat) ≠ up.pins.chgStat ∧ takes up 0x40 (pageRight 5) [3#32] [0x3#32] = true ∧
    (takes up 0x41 (pageRight 5) [4#32, 1#32] [0xFF#32, 0xFFFFFFFF#32] = true ∧ stageable 5 4 1#32 = true) ∧
    takes up 0x42 (pageRight 5) [0xF#32, 0x3FFFFFFF#32, 0x77F#32] [0xF#32, 0x3FFFFFFF#32, 0x77F#32] = true ∧
    (takes up 0x43 (pageRight 5) [0x00061B01#32, 1#32, 2#32, 3#32, 4#32, 5#32, 6#32]
        (0x00073F01#32 :: List.replicate 6 0xFFFF#32) = true ∧ field 0x00061B01#32 18 16 = 6 ∧
      field 0x00061B01#32 13 8 + 6 = 33) ∧
    takes up 0x44 (pageRight 5) [1#32, ones, 0xFFFF#32] [0x1#32, 0xFFFFFFFF#32, 0xFFFF#32] = true ∧
    takes up 0x45 (pageRight 5) [7#32] [0x7#32] = true := by decide +kernel

/-- Slot 0 with a debounce of two samples. -/
def slot (w0 w1 stat : Word) : State := forceAt [(slotWord 0 0, w0), (slotWord 0 1, w1)] (regsAt [(slotWord 0 1, stat)] up)

theorem wit_SlotsDebounceTheirSamples :
    (slot 0x08000000#32 0#32 0#32).slotCrosses 0 (signed 16 0) = false ∧
    ((slot 0x08000000#32 0#32 0#32).slotCrosses 0 (signed 16 1) = true ∧
      (slot 0x08000000#32 0#32 0#32).fld (slotWord 0 1) 23 20 + 1 < max 1 ((slot 0x08000000#32 0#32 0#32).ffld (slotWord 0 0) 29 26)) ∧
    ((slot 0x08000000#32 0#32 0x100000#32).slotCrosses 0 (signed 16 1) = true ∧
      max 1 ((slot 0x08000000#32 0#32 0x100000#32).ffld (slotWord 0 0) 29 26) ≤
        (slot 0x08000000#32 0#32 0x100000#32).fld (slotWord 0 1) 23 20 + 1) ∧
    ((slot 0#32 0#32 0#32).fflag (slotWord 0 1) 4 = false ∧ (slot 0#32 0x10#32 0#32).fflag (slotWord 0 1) 4 = true ∧
      (slot 0#32 0#32 0#32).slotAsserted 0 = false ∧ (slot 0#32 0#32 0x10000#32).slotAsserted 0 = true) ∧
    (let s := (regsAt [(resultReg 8, 0x80000000#32)] up).setSense { fresh := [8] }
     s.slotHears 13 = true ∧ (∀ m, m < 16 → m ≠ 13 → s.slotHears m = false) ∧ up.sense.fresh = []) ∧
    (let s := (forceAt [(slotWord 12 1, 0x28#32)] (regsAt [(resultReg 8, 0x80000000#32)] up)).setSense { fresh := [8] }
     s.slotHears 12 = true ∧ s.slotHears 13 = true ∧ (∀ k, k < 16 → k ≠ 12 → k ≠ 13 → s.slotHears k = false)) := by decide +kernel

/-! ### Witnesses: tuning and fuses -/

/-- Tuning item n with its CFG, STAT and state. -/
def itm (n : Nat) (cfg stat : Word) (f : TuneItem → TuneItem) (s : State) : State :=
  (regsAt [(itemCfg n, cfg), (itemStat n, stat)] s).setItem n (f (s.item n))

theorem wit_TuningRunsStartAndEnd :
    (itm 1 0#32 0#32 id up).flag (itemCfg 1) 0 = false ∧
    ((itm 1 1#32 0x80#32 id up).flag (itemCfg 1) 0 = true ∧ (itm 1 1#32 0x80#32 id up).tuning 1 = true ∧
      ((itm 1 1#32 0x80#32 id up).item 1).measuring = false) ∧
    ((itm 1 1#32 0x80#32 (fun x => { x with measuring := true }) up).tuning 1 = true ∧
      ((itm 1 1#32 0x80#32 (fun x => { x with measuring := true }) up).item 1).measuring = true) ∧
    (up.aoOn = true ∧ State.reset.aoOn = false ∧ measureTicks 1 ≤ (later 32768 up).elapsed 0#48 ∧ up.elapsed 0#48 < measureTicks 1) ∧
    ((itm 4 1#32 0#32 id (lad 2 2 false .none)).tuning 4 = false ∧ 2 ≤ (itm 4 1#32 0#32 id (lad 2 2 false .none)).cur) ∧
    ((itm 1 1#32 0#32 id up).tuning 1 = false ∧ ¬(1 = 4 ∨ 1 = 6)) ∧
    ((up.judge 1 [46875]).2.2 = true ∧ (up.judge 1 [0]).2.2 = false ∧ up.applyAtOnce 1 = false ∧
      (itm 1 1#32 0x80#32 (fun x => { x with measuring := true, trig := 0 }) (starting .tuning)).applyAtOnce 1 = true) ∧
    ((itm 1 1#32 0x80#32 (fun x => { x with timeout := 5 }) up).tuning 1 = true ∧
      0 < ((itm 1 1#32 0x80#32 (fun x => { x with timeout := 5 }) up).item 1).timeout ∧
      5 ≤ (later 5 up).elapsed ((itm 1 1#32 0x80#32 (fun x => { x with timeout := 5 }) up).item 1).from_ ∧
      up.elapsed ((itm 1 1#32 0x80#32 (fun x => { x with timeout := 5 }) up).item 1).from_ < 5) ∧
    ((later 32768 (itm 1 0x101#32 0#32 (fun x => { x with endAt := some 0#48 }) up)).periodDue 1 = true ∧ up.periodDue 1 = false) := by
  decide +kernel

theorem wit_TapsAndSecondsStep :
    ((itm 1 1#32 0#32 (fun x => { x with measuring := true }) up).item 1).measuring = true ∧
    (((itm 1 1#32 0#32 (fun x => { x with target := [0] }) up).item 1).measuring = false ∧
      ((itm 1 1#32 0#32 (fun x => { x with target := [0] }) up).item 1).applied ≠
        ((itm 1 1#32 0#32 (fun x => { x with target := [0] }) up).item 1).target ∧
      up.itemBoundary 1 = true ∧ (lad 2 2 false .none).itemBoundary 4 = false) ∧
    ((later 0x2000 up).atSecond = true ∧ (regsAt [(Reg.DEV_AO_CLK, 0#32)] up).flag Reg.DEV_AO_CLK 0 = false ∧
      (regsAt [(Reg.DEV_AO_CLK, 1#32)] up).flag Reg.DEV_AO_CLK 0 = true ∧
      clampInt (-4) 4 ((-2048 + ((later 0x2000 up).tapStep 0 |>.item 0).applied.getD 0 0).tdiv 1024) < 0 ∧
      0 ≤ clampInt (-4) 4 ((0 + ((later 0x2000 up).tapStep 0 |>.item 0).applied.getD 0 0).tdiv 1024)) ∧ up.atSecond = false ∧
    ({ up with tune := { up.tune with hold := some 1 } } : State).tune.hold = some (0 + 1) ∧
    ({ up with tune := { up.tune with hold := some 0 } } : State).tune.hold = some 0 := by decide +kernel

/-- A part whose VBAT reads 3600 mV. -/
def charged : State := regsAt [(Reg.SENSE_RESULT, 0x80000E10#32)] up

theorem wit_TuneVerbsAndFuses :
    takes up 0x50 (pageRight 6) [7#32] [0x7#32] = true ∧
    (takes up 0x51 (pageRight 6) [1#32, 1#32] [0xF#32, 0xFFFFFFFF#32] = true ∧ within 1#32 (tuneMask 1) = true ∧ bit 1#32 0 = true ∧
      takes up 0x51 (pageRight 6) [1#32, 0#32] [0xF#32, 0xFFFFFFFF#32] = true ∧ bit 0#32 0 = false ∧
      takes up 0x51 (pageRight 6) [8#32, 0xFFF#32] [0xF#32, 0xFFFFFFFF#32] = true ∧ within 0xFFF#32 (tuneMask 8) = true ∧
      takes up 0x51 (pageRight 6) [9#32, 0xFFFF#32] [0xF#32, 0xFFFFFFFF#32] = true ∧ within 0xFFFF#32 (tuneMask 9) = true) ∧
    takes up 0x52 (pageRight 6) [7#32] [0x7#32] = true ∧ takes up 0x53 (pageRight 6) [0xFF#32] [0xFF#32] = true ∧
    takes up 0x54 (pageRight 6) [7#32] [0x7#32] = true ∧ isFront Reg.TUNE_REQ 0xFF#32 up = true ∧
    (takes up 0x55 clientZero [13#32, ones, 0xFFFFFF#32] [0xF#32, 0xFFFFFFFF#32, 0xFFFFFF#32] = true ∧ field 13#32 3 0 ≤ 13) ∧
    (takes up 0x56 clientZero [0xF05E#32] [0xFFFF#32] = true ∧ up.fuseReady = false ∧ charged.fuseReady = true) ∧
    (regsAt [(Reg.TUNE_FUSE_STATUS, 16#32)] up).flag Reg.TUNE_FUSE_STATUS 4 = true ∧ up.fusePlan.length = 16 ∧
    up.flag Reg.TUNE_FUSE_STATUS 4 = false := by
  decide +kernel

/-! ### Witnesses: the journal -/

theorem wit_FlashWordsOnlyLoseBits : up.jrnl.torn = [] ∧ 26 ≠ (27 : Nat) ∧ 1023 < 1024 := by decide +kernel

/-- A journal with one item. -/
def withItem (ops : List JOp) (origin : JOrigin) (busy : Option JBusy) (s : State) : State :=
  { s with jrnl := { items := [{ id := 1, prio := 3, ops := ops, origin := origin }], busy := busy } }

/-- A journal whose counter 0 has one unsaved count. -/
def counting (tab : Word) : State :=
  { regsAt [(Reg.JRNL_CTR_TAB, tab), (Reg.JRNL_CTR_UNSAVED, 1#32)] up with jrnl := { based := [0] } }

/-- A journal in which sector 127 is FULL and every other record sector waits for its erase. -/
def crowded : State :=
  { regsAt [(Reg.JRNL_CFG, 0x01000000#32)] up with
    flash := [(127 * 1024 + 3, 0xFFFFFFFD#32)], jrnl := { awaiting := (List.range 101).map (fun i => 26 + i) } }

theorem wit_TheJournalWritesWords :
    (let s := withItem [.program 26632 0#32] .cmd (some (.word 1 26632 0#32)) up
     s.jrnl.busy = some (.word 1 26632 0#32) ∧
       ((State.endWord { s with jrnl := { s.jrnl with busy := none } } 26632 0#32 true 0#32).jrnl.items.find? (fun j => j.id == 1)).map
         (·.ops) = some [.program 26632 0#32]) ∧
    (let r : JRec := verbRec [] []
     let s := withItem [.write [(8, 0#32)] r .copy 26 32] .cmd (some (.word 1 26632 0#32)) up
     (((State.endWord { s with jrnl := { s.jrnl with busy := none } } 26632 0#32 false 0#32).verifyFailure 26).jrnl.items.find?
       (fun j => j.id == 1)).map (·.ops) = some [.write [(8, 0#32)] r .copy 26 32]) ∧
    up.jrnl.busy = none ∧
    ({ up with jrnl := { busy := some (.bits 0 2056 0#32) } } : State).jrnl.busy = some (.bits 0 2056 0#32) ∧
    (let s := withItem [.pulse 26 1 15] .cmd (some (.pulse 1 26)) up
     s.jrnl.busy = some (.pulse 1 26) ∧ (s.jrnl.items.find? (fun j => j.id == 1)).map (·.ops) = some [.pulse 26 1 15]) := by
  decide +kernel

theorem wit_TheJournalDoesItsWork :
    ((counting 0#32).arrayFree = true ∧ (counting 0#32).nextBits = some 0 ∧ (counting 0#32).stripWord 0 = some (2056, ones)) ∧
    (({ up with jrnl := { readonly := true } } : State).arrayFree = false ∧ up.nextBits = none) ∧
    ((withItem [.erase 26] .part none charged).arrayFree = true ∧ (withItem [.erase 26] .part none charged).nextBits = none ∧
      (withItem [.erase 26] .part none charged).nextItem.map (·.ops) = some [.erase 26]) ∧ up.nextItem = none ∧
    ((lad 3 3 false .none).cur = 3 ∧ (lad 4 4 false .none).cur = 4) ∧
    ((List.range 8).find? (counting 0x7F000000#32).rollDue = some 0 ∧ ∀ c, c < 8 → up.rollDue c = false) ∧
    (up.cmdCompactLate = none ∧ up.compactDue = false ∧ crowded.cmdCompactLate = none ∧ crowded.compactDue = true) ∧
    ((later 65536 (withItem [.freshCount] .cmd none up)).cmdCompactLate.isSome = true) ∧
    ((counting 0#32).unsaved 0 = 1 ∧ (counting 0#32).unsaved 0 < 2 ^ 32 ∧
      (counting 0#32).durable 0 + 1 < 2 ^ 48) := by decide +kernel

theorem wit_JournalVerbsAreQueued :
    (takes leasedUp 0x60 journalRight [6#32, 0x1000#32, 16#32, 0#32] [ones, ones, ones, ones] = true ∧
      journalArgs leasedUp (vb 0x60 [6#32, 0x1000#32, 16#32, 0#32]) = true) ∧
    (takes leasedUp 0x61 journalRight [1#32, 0x1000#32, 16#32] [ones, ones, ones] = true ∧
      journalArgs leasedUp (vb 0x61 [1#32, 0x1000#32, 16#32]) = true) ∧
    journalArgs up (vb 0x62 [0xFF#32, 0#32]) = true ∧ journalArgs up (vb 0x63 [1#32]) = true ∧ journalArgs up (vb 0x64 []) = true ∧
    journalArgs up (vb 0x65 [0#32, 0#32, 0#32, 0#32]) = true ∧ journalArgs up (vb 0x66 [0#32, 1#32]) = true ∧
    journalArgs up (vb 0x67 [7#32]) = true ∧ journalArgs up (vb 0x68 [0xFF#32]) = true ∧
    ([0x62, 0x63, 0x64, 0x65, 0x66, 0x67, 0x68].all (fun c => takes up c journalRight [] [])) = true ∧
    (up.jrnl.readonly = false ∧ ({ up with jrnl := { readonly := true } } : State).jrnl.readonly = true) ∧
    (isFront Reg.JRNL_CMD 0x80000067#32 up = true ∧ bit 0x80000067#32 31 = true ∧ up.cmdBusy = false ∧
      (withItem [] .cmd none up).cmdBusy = true) := by decide +kernel

/-! ### Witnesses: pixel intake -/

/-- The DSI link on in a mode (VC1 accepted), with surface 0 of 2 by 2 pixels enabled and perhaps an open buffer. -/
def dsi (cfg : Word) (ob : Option Nat) : State :=
  (forceAt [(Reg.INTAKE_DSI_CFG, cfg)] (regsAt [(surfWord 0 4, 0xC0002002#32), (surfWord 0 5, 1#32)] up)).setSurf 0 { openBuf := ob }

/-- A frame of video at a place of its line. -/
def vframe (line px : Nat) (full : Bool) : VideoFrame := { surf := 0, buf := 0, line := line, px := px, full := full }

/-- That frame under way. -/
def showing (line px : Nat) (full : Bool) : State := { dsi 5#32 (some 0) with intake := { (dsi 5#32 (some 0)).intake with
  video := some (vframe line px full) } }

theorem wit_PacketsSetTheReceiver :
    (packetChannel .vSyncStart = some 0#1 ∧ up.dsiOn = false ∧ (dsi 1#32 none).dsiOn = true ∧
      packetChannel (.nullBlanking 1#1) = some 1#1 ∧ channelOpen (dsi 1#32 none) 1#1 = false ∧
      channelOpen (dsi 1#32 none) 0#1 = true ∧ channelOpen (dsi 9#32 none) 1#1 = true) ∧
    ((received (dsi 1#32 none)).dsiFault 0).intake.video = none ∧ (showing 0 0 false).intake.video = some (vframe 0 0 false) ∧
    ((dsi 1#32 none).flag Reg.INTAKE_STATUS 4 = false ∧ (regsAt [(Reg.INTAKE_STATUS, 16#32)] up).flag Reg.INTAKE_STATUS 4 = true) := by
  decide +kernel

theorem wit_PixelsReachTheirBuffer :
    (channelOpen (dsi 5#32 none) 0#1 = true ∧ (dsi 5#32 none).video = true ∧ (dsi 5#32 none).intake.video = none ∧
      (dsi 5#32 none).chanSurf 0 = 0 ∧ (dsi 5#32 none).surfEn 0 = true ∧ (dsi 5#32 none).flag (surfWord 0 4) 30 = true ∧
      (dsi 5#32 none).surfFmt 0 < 3 ∧ ((dsi 5#32 (some 0)).surf 0).openBuf = some 0 ∧ ((dsi 5#32 none).surf 0).openBuf = none ∧
      (dsi 5#32 none).openable 0 = some 0 ∧ (dsi 0x15#32 none).chanSurf 0 = 1 ∧ (dsi 0x15#32 none).surfEn 1 = false) ∧
    (let s := { dsi 5#32 none with intake := { (dsi 5#32 none).intake with
       copies := [{ surf := 0, dst := 0, src := 1, region := { x0 := 0, y0 := 0, x1 := 1, y1 := 1 } },
         { surf := 0, dst := 1, src := 2, region := { x0 := 0, y0 := 0, x1 := 1, y1 := 1 } },
         { surf := 0, dst := 2, src := 1, region := { x0 := 0, y0 := 0, x1 := 1, y1 := 1 } }] } }
     s.openable 0 = none ∧ (s.surf 0).openBuf = none) ∧
    (channelOpen (showing 0 0 true) 0#1 = true ∧ (vframe 0 0 true).full = true ∧ 0 < (vframe 0 1 false).px ∧
      (vframe 0 0 false).px = 0) ∧
    (((showing 0 0 false).surf 0).openBuf = some 0 ∧ streamFormat .rgb30 = (showing 0 0 false).surfFmt 0 ∧
      0 + [(⟨0, 0, 0⟩ : Rgb)].length < (showing 0 0 false).surfW 0 ∧
      0 + [(⟨0, 0, 0⟩ : Rgb), ⟨0, 0, 0⟩].length = (showing 0 0 false).surfW 0 ∧ 0 + 1 < (showing 0 0 false).surfH 0 ∧
      (showing 1 0 false).surfH 0 ≤ 1 + 1) ∧
    ((dsi 1#32 (some 0)).video = false ∧ ((dsi 1#32 (some 0)).chan 0).dropping = false ∧ (dsi 1#32 (some 0)).surfFmt 0 < 3 ∧
      [0#8, 0#8, 0#8, 0#8].length % pixelBytes ((dsi 1#32 (some 0)).surfFmt 0) = 0) := by decide +kernel

/-- A read request waits on the link. -/
def asked (r : ReadReq) : State := { dsi 1#32 none with intake := { (dsi 1#32 none).intake with readReq := some r } }

theorem wit_TheDsiLinkAnswers :
    (up.dsiOn = false ∧ (dsi 1#32 none).dsiOn = true ∧ (dsi 1#32 none).intake.readReq = none) ∧
    ((asked .powerMode).intake.readReq = some .powerMode ∧ (asked (.pixelFormat 1)).intake.readReq = some (.pixelFormat 1) ∧
      (asked (.register 0)).intake.readReq = some (.register 0) ∧ (regSpec 0).isSome = true ∧
      (asked .bad).intake.readReq = some .bad ∧ (asked .scanline).intake.readReq = some .scanline) ∧
    ((dsi 1#32 none).lanesSeen = true ∧ up.lanesSeen = false ∧
      (dsi 1#32 none).flag Reg.INTAKE_STATUS 1 = false ∧ (regsAt [(Reg.INTAKE_STATUS, 2#32)] up).flag Reg.INTAKE_STATUS 1 = true) ∧
    (({ up with intake := { fences := [(7, 0)] } } : State).intake.fences = [(7, 0)] ∧ up.intake.fences = []) ∧
    (({ regsAt [(Reg.INTAKE_STATUS, 4#32), (Reg.INTAKE_TE_CFG, 1#32)] up with intake := { teArmed := some 0#48 } } : State).teReady
      = true ∧ up.teReady = false ∧ up.pins.dsiTe = false) ∧
    (let s : State := { up with pins := { up.pins with dsiTe := true } }
     s.pins.dsiTe = true ∧ s.usPassed s.intake.teFrom s.intake.teWidth = true ∧
       ({ s with intake := { s.intake with teWidth := 250 } } : State).usPassed s.intake.teFrom 250 = false) := by decide +kernel

/-- Lease 0 for surfaces, and surface 0 of two buffers of 2 by 2 pixels stored but not enabled. -/
def surfaced : State := regsAt [(Reg.DEV_LEASE_W0, 0x00100000#32), (Reg.DEV_LEASE_W1, 0x10000#32), (surfWord 0 1, 0x100#32),
  (surfWord 0 4, 0x2002#32), (surfWord 0 5, 1#32)] up

theorem wit_SurfacesAreOpenedAndPresented :
    (surfaced.surfCheck 0 = true ∧ up.surfCheck 7 = false) ∧
    (isFront (surfWord 7 4) 0x80000000#32 up = true ∧ up.surfEn 7 = false ∧ isFront (surfWord 0 4) 0x80000000#32 (dsi 1#32 none)
      = true ∧ (dsi 1#32 none).surfEn 0 = true) ∧
    (takes up 0x70 surfaceRight [0#32, 0#32, 0x100#32, 0#32, 0#32, 0x2002#32, 1#32]
      [0x7#32, 0x7FFFFF#32, 0x7FFFFF#32, 0x7FFFFF#32, 0x7FFFFF#32, 0xFFFFFFFF#32, 0xFFFF03FF#32] = true) ∧
    takes up 0x71 surfaceRight [7#32] [0x7#32] = true ∧
    (takes (dsi 1#32 none) 0x73 surfaceRight [] [0x7#32] = true ∧ (dsi 1#32 none).openable 0 = some 0) ∧
    (takes (dsi 1#32 (some 0)) 0x72 surfaceRight [0#32, 0#32, 0x00010001#32] [0x107#32, 0x0FFF0FFF#32, 0x0FFF0FFF#32] = true ∧
      (rectOf 0#32 0x00010001#32).x0 ≤ (rectOf 0#32 0x00010001#32).x1 ∧
      ((dsi 1#32 (some 0)).surf 0).openBuf.isSome = true ∧ (dsi 1#32 (some 0)).surfEn 0 = true) ∧
    takes up 0x75 (pageRight 8) [7#32] [0x7#32] = true ∧
    takes up 0x74 (pageRight 8) [0x77F#32, 0xFFFFFF03#32] [0x77F#32, 0xFFFFFF03#32] = true ∧
    (isFront Reg.INTAKE_OPEN 0x80000000#32 up = true ∧ bit 0x80000000#32 31 = true ∧
      ({ up with intake := { openReg := some 0 } } : State).intake.openReg.isSome = true ∧ up.intake.openReg = none) ∧
    (isFront Reg.INTAKE_PRESENT 0x80000000#32 up = true ∧ (dsi 1#32 (some 0)).presentBusy = false ∧
      ((dsi 1#32 none).setSurf 0 { queued := some { buf := 0, rect := none, source := .register } }).presentBusy = true) ∧
    ({ up with intake := { copies := [{ surf := 0, dst := 1, src := 0, region := { x0 := 0, y0 := 0, x1 := 1, y1 := 1 } }] } } :
      State).intake.copies ≠ [] ∧ up.intake.copies = [] := by decide +kernel

/-! ### Witnesses: scan-out and the pipeline -/

/-- A part in self-refresh asked to resume, with a panel and a link state. -/
def resuming (panel link : Nat) : State :=
  { regsAt [(Reg.SCAN_STATE, 0x200#32), (Reg.STAVE_PWR_STATE, word panel), (Reg.STAVE_STATUS, word link)] up with
    scan := { wake := true } }

/-- The statistics of a frame. -/
def someStats : StatSet :=
  { frame := 1, gen := 2, count := 3, apl := 4, max := 5, hist := List.replicate 32 0, sigs := List.replicate 5 0#32 }

theorem wit_FramesStartAndAreCounted :
    (({ up with scan := { running := true } } : State).coreOn = true ∧
      ({ up with scan := { running := true } } : State).scan.frameOn = false ∧
      ({ up with scan := { running := true } } : State).ladderWaits = false ∧
      ({ up with scan := { running := true } } : State).sinceReal 0 = true ∧
      ({ up with scan := { running := true, lastReal := some 0#48, startUs := 250 } } : State).sinceReal 250 = false ∧ up.scan.running = false) ∧
    (({ up with scan := { ready := some someStats } } : State).scan.ready = some someStats ∧
      ({ up with scan := { ready := some someStats } } : State).sinceReal 0 = true ∧ someStats.sigs.length = 5 ∧
      someStats.hist.length = 32) ∧
    ((resuming 2 3).resumable = true ∧ (resuming 2 3).scan.wake = true ∧ (resuming 2 3).scan.trans = .none ∧
      (resuming 2 3).coreOn = true ∧ (resuming 2 3).cur ≤ 1 ∧ (resuming 2 3).face.pushing = none) ∧
    ((resuming 2 1).panel ≠ 5 ∧ (resuming 2 1).link = 1) ∧
    ((resuming 0 0).panel = 0 ∧ (resuming 0 0).link ≠ 4 ∧ (resuming 0 0).stave.step = .none) ∧
    ((resuming 2 0).panel ≠ 0 ∧ (resuming 2 0).link = 0) ∧ (resuming 5 0).panel = 5 ∧ 2 ≤ (resuming 2 3).link ∧
    up.resumable = false := by decide +kernel

/-- A transition at a step. -/
def trans (t : TransStep) : State := { up with scan := { trans := t } }

theorem wit_ScanSetsAreCheckedAndGuided :
    (regsAt [(Reg.SCAN_CLASS, 3#32)] up).scanCode (regsAt [(Reg.SCAN_CLASS, 3#32)] up).reg ≠ 0 ∧
    (up.scanCode up.reg = 0 ∧ up.scan.trans = .none ∧ seamless up.reg up.inForce = true) ∧
    (forceAt [(Reg.SCAN_CLASS, 1#32)] up).scanCode up.reg = 0 ∧
    seamless up.reg (forceAt [(Reg.SCAN_CLASS, 1#32)] up).inForce = false ∧ field (up.reg Reg.SCAN_CLASS) 1 0 = 0 ∧
    ((trans .g1).scan.trans = .g1 ∧ (trans .g1).poweringOff = false ∧ (trans .g1).usPassed (trans .g1).scan.transAt 1 = true) ∧
    ((trans .g4).coreOn = true ∧ (later 100000 (trans .g4)).g4Over = true ∧ (trans .g4).commits = []) ∧
    (regsAt [(Reg.PIPE_CFG, 0x200#32)] up).pipeCode (regsAt [(Reg.PIPE_CFG, 0x200#32)] up).reg
      (field (up.scanSet Reg.SCAN_ACTIVE) 11 0) (field (up.scanSet Reg.SCAN_ACTIVE) 27 16) ≠ 0 ∧ up.pipe.applied = false ∧
    ({ up with pipe := { up.pipe with applied := true } } : State).pipe.applied = true := by decide +kernel

theorem wit_ScanAndPipeVerbsComplete :
    takes up 0x76 (pageRight 9) [0xFF#32] [0xFF#32] = true ∧
    (takes up 0x77 (pageRight 9) [0x9000#32, 1#32] [0xFFFFFF#32, 0xFFFFFFFF#32] = true ∧ scanOffset (0x9000#32).toNat = true ∧
      aliasOk (0x9000#32).toNat 1#32 = true) ∧
    takes up 0x78 (pageRight 9) [] [] = true ∧
    (takes up 0x79 (pageRight 9) [3#32] [0x3#32] = true ∧ up.srAllowed = false ∧
      (forceAt [(Reg.SCAN_CLASS, 2#32), (Reg.SCAN_SR_CFG, 0x80000000#32)] up).srAllowed = true) ∧
    takes up 0x7A (pageRight 9) [0x1F#32] [0x1F#32] = true ∧
    (takes up 0x7B (pageRight 9) [8#32] [0xF#32] = true ∧ field 8#32 3 0 ≤ 8) ∧ takes up 0x7C (pageRight 9) [] [] = true ∧
    (isFront Reg.SCAN_COMMIT 1#32 up = true ∧ isFront Reg.SCAN_REQ 1#32 up = true ∧ isFront Reg.SCAN_REQ 2#32 up = true) ∧
    ((resuming 0 0).inSr = true ∧ up.inSr = false ∧ ({ up with scan := { running := true } } : State).scan.running = true) ∧
    takes up 0x80 (pageRight 10) [0xFF#32] [0xFF#32] = true ∧
    (takes up 0x81 (pageRight 10) [0xA044#32, 1#32] [0xFFFFFF#32, 0xFFFFFFFF#32] = true ∧ aliasOk (0xA044#32).toNat 1#32 = true) ∧
    (takes up 0x82 (pageRight 10) [0x1A0000#32, 1#32, 1#32] [0xFFFFFF#32, 7#32, ones] = true ∧
      (∀ i, i < 5 → if i < 1 then aliasOk (0x1A0000 + 4 * i) ((vb 0x82 [0x1A0000#32, 1#32, 1#32]).arg (2 + i)) = true
        else (vb 0x82 [0x1A0000#32, 1#32, 1#32]).arg (2 + i) = 0#32)) ∧
    takes up 0x83 (pageRight 10) [1#32] [0x1#32] = true ∧ takes up 0x84 (pageRight 10) [0x11FFF#32] [0x11FFF#32] = true ∧
    takes up 0x85 (pageRight 10) [] [] = true ∧
    ([Reg.PIPE_COMMIT, Reg.KEYS_COMMIT, Reg.SENSE_COMMIT, Reg.INTAKE_COMMIT, Reg.STAVE_COMMIT, Reg.FACE_COMMIT].all
      (fun a => isFront a 3#32 up)) = true ∧
    (up.pendingOn 9 = false ∧ (up.goCommit 9).pendingOn 9 = true) ∧ ((held 0x78 [] up).ring 0).cur.isSome = true ∧
    (let s := up.setRing 0 { cur := some { words := [0x84#32], index := 0, started := true, waiting := some (.staging 10) } }
     up.waiters (.staging 10) = [] ∧ s.waiters (.staging 10) = [0] ∧ (s.verbOf 0).map (·.code) = some 0x84) := by decide +kernel

/-! ### Witnesses: the Stave and the panel's power -/

/-- A part whose link and panel stand at states, with a power step begun at tick 0; 1 driver on lane 0, rails 0 and 2. -/
def stave (link panel : Nat) (st : PanelStep) (s : State) : State :=
  { forceAt [(Reg.STAVE_PWR_CFG, 0x00100005#32), (Reg.STAVE_PWR_ON, 0x00020001#32), (Reg.STAVE_PWR_OFF, 0x00020001#32),
      (Reg.STAVE_TRAIN_CFG, 0x01000000#32)]
      (regsAt [(Reg.STAVE_STATUS, word link), (Reg.STAVE_PWR_STATE, word panel)] s) with stave := { s.stave with step := st } }

theorem wit_TheStaveLinkTrainsAndRecovers :
    ((stave 1 1 .training up).coreOn = true ∧ (stave 1 1 .training up).link = 1 ∧
      (stave 1 1 .training up).ffld Reg.STAVE_TRAIN_CFG 7 0 ≤ 16 ∧ up.link ≠ 1) ∧
    ((stave 1 1 .training up).stave.tries < (stave 1 1 .training up).ffld Reg.STAVE_TRAIN_CFG 27 24 ∧
      (forceAt [(Reg.STAVE_TRAIN_CFG, 0#32)] (stave 1 1 .training up)).ffld Reg.STAVE_TRAIN_CFG 27 24 ≤ 0) ∧
    ((stave 2 2 .none up).link = 2 ∧ (stave 2 2 .none up).cur ≤ 1 ∧ (stave 2 2 .none up).coreOn = true) ∧
    ((stave 2 2 .none up).lanes.find? (fun l => l.lane == 0)).isSome = true ∧
    ((stave 2 2 .none up).panel ≠ 0 ∧ (stave 2 2 .none up).panel ≠ 4 ∧ (stave 2 2 .none up).lowering = false ∧
      (stave 2 4 (.lowering [(0, 1)]) up).lowering = true ∧
      (forceAt [(Reg.STAVE_FAULT_CFG, 0x100#32)] (stave 2 2 .none up)).fflag Reg.STAVE_FAULT_CFG 8 = true ∧
      (forceAt [(Reg.STAVE_FAULT_CFG, 0#32)] (stave 2 2 .none up)).fflag Reg.STAVE_FAULT_CFG 8 = false) := by decide +kernel

theorem wit_PanelRailsFollowTheirOrder :
    (let s := stave 0 1 (.raising [(0, 1), (2, 2)]) up
     s.stave.step = .raising ((0, 1) :: [(2, 2)]) ∧ s.coreOn = true ∧ s.elapsed s.stave.stepFrom < 1 ∧
       1 ≤ (later 1 s).elapsed s.stave.stepFrom ∧ s.pnlPg = false ∧ up.stave.step = .none ∧
       ({ s with pins := { up.pins with pg := 0x1000#13 } } : State).pnlPg = true) ∧
    ((stave 0 1 .waitPg up).stave.step = .waitPg ∧ (stave 0 1 .waitPg up).coreOn = true ∧
      (stave 0 1 .waitPg up).ffld Reg.STAVE_PWR_CFG 31 16 ≤ (later 16 (stave 0 1 .waitPg up)).elapsed 0#48 ∧
      (stave 0 1 .waitPg up).elapsed 0#48 < (stave 0 1 .waitPg up).ffld Reg.STAVE_PWR_CFG 31 16) ∧
    ((stave 2 2 .none up).stave.step = .none ∧ (stave 2 2 .none up).panel = 2 ∧ up.panel ≠ 2 ∧ up.panel ≠ 3) ∧
    (stave 0 1 .waitPg up).usedRails ≠ [] ∧
    ((stave 0 4 .discharge up).stave.step = .discharge ∧ (stave 0 4 .discharge up).coreOn = true ∧
      (later 1000000 (stave 0 4 .discharge up)).usPassed 0#48
        ((stave 0 4 .discharge up).ffld Reg.SCAN_SR_CFG 23 16 * (stave 0 4 .discharge up).baseUs) = true) ∧
    (let s := stave 0 4 (.lowering [(2, 2), (0, 1)]) up
     s.stave.step = .lowering ((2, 2) :: [(0, 1)]) ∧ s.elapsed s.stave.stepFrom < 2 ∧ 2 ≤ (later 2 s).elapsed s.stave.stepFrom ∧
       s.coreOn = true ∧ s.scan.trans ≠ .off ∧ ({ s with scan := { trans := .off } } : State).scan.trans = .off ∧
       up.lowering = false) := by decide +kernel

/-- A crack check under way since tick 0, its first result and the enable. -/
def checking (failedAt : Option (BitVec 48)) (cfg : Word) : State :=
  { forceAt [(Reg.STAVE_CRACK_CFG, cfg)] (stave 2 2 .none up) with stave := { checking := some 0#48, failedAt := failedAt } }

theorem wit_CrackChecksAndStaveVerbs :
    ((checking none 0x80010100#32).stave.checking = some 0#48 ∧ (later 8 (checking none 0x80010100#32)).usPassed 0#48 128 = true ∧
      (checking none 0x80010100#32).usPassed 0#48 128 = false ∧ (checking (some 0#48) 0#32).stave.failedAt ≠ none ∧
      up.stave.checking = none) ∧
    (let s := { later (60 * 32768) (checking none 0x80010100#32) with stave := { lastCheck := some 0#48 } }
     s.stave.lastCheck = some 0#48 ∧ s.fflag Reg.STAVE_CRACK_CFG 31 = true ∧ 0 < s.ffld Reg.STAVE_CRACK_CFG 23 16 ∧
       s.ffld Reg.STAVE_CRACK_CFG 23 16 * 60 * 32768 ≤ s.elapsed 0#48) ∧ up.stave.lastCheck = none ∧
    (let s : State := { later 40 up with stave := { failedAt := some 0#48, step := .crack } }
     s.stave.failedAt = some 0#48 ∧ s.stave.step = .crack ∧ s.stave.checking = none ∧ s.usPassed 0#48 1000 = true ∧
       s.coreOn = true ∧ (s.item 7).measuring = false ∧ up.usPassed 0#48 1000 = false) ∧
    (isFront Reg.STAVE_REQ 1#32 up = true ∧ isFront Reg.STAVE_REQ 2#32 up = true ∧ isFront Reg.STAVE_REQ 4#32 up = true) ∧
    takes up 0x86 (pageRight 11) [0xFF#32] [0xFF#32] = true ∧
    (takes up 0x87 (pageRight 11) [0xB000#32, 1#32] [0xFFFFFF#32, 0xFFFFFFFF#32] = true ∧ staveOffset (0xB000#32).toNat = true ∧
      aliasOk (0xB000#32).toNat 1#32 = true) ∧
    takes up 0x88 (pageRight 11) [] [] = true ∧ takes up 0x89 (pageRight 11) [] [] = true ∧
    (takes (stave 0 5 .none up) 0x8A (pageRight 11) [] [] = true ∧ (stave 0 5 .none up).panel = 5 ∧
      (stave 0 5 .none up).stave.step = .none) := by decide +kernel

/-! ### Witnesses: the Ostinato face -/

/-- FACE enabled with field 0 a seconds field of one 1 by 1 glyph, on a MEMORY panel that is ON with its link trained. -/
def faced (cls status : Word) (val : Word) (s : State) : State :=
  forceAt [(Reg.FACE_CFG, 1#32), (Reg.SCAN_CLASS, cls), (faceField 0 0, 0x80000000#32), (faceField 0 1, 0x11#32),
    (faceField 0 2, 0x0101#32), (Reg.SCAN_ACTIVE, 0x00100010#32)] (regsAt [(Reg.FACE_STATUS, status), (faceVal 0, val)]
      (stave 2 2 .none s))

theorem wit_FaceEvaluatesAndShows :
    (up.secondDue = false ∧ ({ up with face := { up.face with wall := 32768#48 } } : State).secondDue = true) ∧
    (let s := forceAt [(faceField 11 2, 0x840000#32)] up
     s.fflag (faceField 11 2) 23 = true ∧ s.ffld (faceField 11 2) 22 16 = (⟨4, 0#32, 1⟩ : Raise).event) ∧
    (up.faceEn 11 = false ∧ (faced 2#32 0#32 0#32 up).faceEn 0 = true ∧
      (faced 2#32 0#32 0#32 up).fld (faceVal 0) 26 0 = (faced 2#32 0#32 0#32 up).faceValue 0 ∧
      (faced 2#32 0#32 0#32 up).faceDue 0 = false ∧
      (faced 2#32 0#32 1#32 up).fld (faceVal 0) 26 0 ≠ (faced 2#32 0#32 1#32 up).faceValue 0) ∧
    ((faced 2#32 0#32 0#32 up).ffld (faceField 0 1) 3 0 = 1 ∧ (forceAt [(faceField 0 1, 2#32)] up).ffld (faceField 0 1) 3 0 = 2 ∧
      (forceAt [(faceField 0 1, 3#32)] up).ffld (faceField 0 1) 3 0 = 3) ∧
    (isFront Reg.FACE_WALL_HI 1#32 up = true ∧ isFront Reg.FACE_REQ 1#32 up = true ∧ bit 1#32 0 = true) ∧
    (({ up with face := { up.face with wallNext := some 5#48 } } : State).face.wallNext = some 5#48 ∧ up.face.wallNext = none) ∧
    ((faced 2#32 0#32 0x40000000#32 up).pushDue = true ∧ (faced 2#32 0#32 0x40000000#32 up).linkSends = true ∧
      up.pushDue = false ∧ (regsAt [(Reg.STAVE_STATUS, 1#32)] (faced 2#32 0#32 0x40000000#32 up)).pushDue = true ∧
      (regsAt [(Reg.STAVE_STATUS, 1#32)] (faced 2#32 0#32 0x40000000#32 up)).linkSends = false) ∧
    ((faced 1#32 0x100#32 0#32 up).fullDue = true ∧ (faced 1#32 0x100#32 0#32 up).linkSends = true ∧ up.fullDue = false) ∧
    (up.stave.step = .none ∧ up.panel = 0 ∧ (stave 0 2 .none up).panel = 2 ∧ (stave 0 2 .none up).link = 0 ∧
      (stave 1 1 .training up).stave.step ≠ .none) ∧
    (let p : FacePush := { shown := [(0, 59), (11, 2 ^ 27 - 1)], full := false, sig := 7#32 }
     ({ up with face := { up.face with pushing := some p } } : State).face.pushing = some p ∧
       up.usPassed p.at_ p.us = true ∧ up.usPassed ({ p with us := 250 } : FacePush).at_ 250 = false ∧
       (∀ e ∈ p.shown, e.1 < 12 ∧ e.2 < 2 ^ 27) ∧ (p.shown.map (·.1)).Nodup) ∧ up.face.pushing = none := by decide +kernel

theorem wit_FaceVerbsComplete :
    takes up 0x8B (pageRight 12) [0xFF#32] [0xFF#32] = true ∧
    (takes up 0x8C (pageRight 12) [0xC000#32, 1#32] [0xFFFFFF#32, 0xFFFFFFFF#32] = true ∧ faceOffset (0xC000#32).toNat = true ∧
      aliasOk (0xC000#32).toNat 1#32 = true ∧ up.pendingOn 12 = false ∧ (up.goCommit 12).pendingOn 12 = true) ∧
    (takes up 0x8C (pageRight 12) [word Reg.FACE_REQ, 1#32] [0xFFFFFF#32, 0xFFFFFFFF#32] = true ∧
      takes up 0x8C (pageRight 12) [word Reg.FACE_REQ, 0#32] [0xFFFFFF#32, 0xFFFFFFFF#32] = true) ∧
    takes up 0x8D (pageRight 12) [] [] = true ∧ takes up 0x8E (pageRight 12) [ones, 0xFFFF#32] [0xFFFFFFFF#32, 0xFFFF#32] = true ∧
    (takes up 0x8F (pageRight 12) [11#32] [0xF#32] = true ∧ field 11#32 3 0 ≤ 11) ∧
    (let s := regsAt [(faceField 0 0, 0x80000000#32), (faceField 1 0, 0x80000000#32)] up
     s.faceCode s.reg ≠ 0 ∧ bit (s.reg (faceField 0 0)) 31 = true ∧ field (s.reg (faceField 0 1)) 3 0 = 0 ∧
       (boxOf s.reg 0).meets (boxOf s.reg 1) = true) := by decide +kernel

/-! ### Witnesses: the Ensemble -/

/-- Ring 2 as a COMPLETION ring, enabled, and ring 1 as a JOB ring with one entry announced at a base. -/
def jobbing (base : Word) (regs : List (Nat × Word)) : State :=
  regsAt ([(ringWord 2 0, 0x2000#32), (ringWord 2 1, 0x80000013#32), (ringWord 1 0, base), (ringWord 1 1, 0x80020043#32),
    (Reg.CUE_DOORBELL + 4, 1#32)] ++ regs) leasedUp

/-- The block of a job of one MATMUL with two L2 tiles of one 32 by 32 desk tile each along N. -/
def someBlock : List Word := [0#32, 0x00400020#32, 0x00010001#32, 0#32, 0#32, 0#32, 0#32, 0#32]

/-- A part with one job. -/
def withJob (j : Job) (s : State) : State := { s with ens := { s.ens with jobs := [j], started := [j.id] } }

/-- A desk tile. -/
def aTile : Tile := { job := 0, op := 0, pos := 0, row := 0, col := 0 }

theorem wit_JobsEnterAndStart :
    ((jobbing 0x1000#32 []).jobReady 1 = true ∧ (jobbing 0x1000#32 []).pairHolds 1 = false ∧
      (jobbing 0x1000#32 []).fetchTurn 1 = true ∧ (jobbing 0x1000#32 []).ringCovered 1 = true ∧
      (jobbing 0x1000#32 [(ringWord 2 3, 0x2000#32)]).pairHolds 1 = true ∧ (jobbing 0x20000#32 []).ringCovered 1 = false ∧
      (jobbing 0x20000#32 []).jobReady 1 = true ∧ jobMalformed [0#32] = true ∧ jobMalformed [0xFE#32] = false) ∧
    (up.ens.jobs.length < 8 ∧ up.hasPage 0 13 = true ∧ (regsAt [(Reg.HPORT_PERM_0, 0#32)] up).hasPage 0 13 = false ∧
      jobBanks [0xFE#32] = 0 ∧ jobBanks [0xFE#32, 0#32, 0x1000#32] = 16 ∧ jobBlock [0xFE#32, 0#32, 0x1000#32] % 16 = 0) ∧
    (up.jobToStart = none ∧ (withJob { aJob .checked with words := [0xFE#32, 0#32, 0x100#32] } up).jobToStart =
      some { aJob .checked with words := [0xFE#32, 0#32, 0x100#32] }) ∧
    (let b : BadJob := { ring := 1, before := 0, index := 0, tag := 0, pair := 2 }
     up.ens.jobs = [] ∧ ({ up with ens := { badJobs := [b] } } : State).ens.badJobs = [b] ∧
       (withJob { aJob .checked with ring := some 1 } { up with ens := { badJobs := [{ b with before := 1 }] } }).jobsGiven (some 1) 1 = false) ∧
    (let s := regsAt [(ringWord 3 0, 0x1000#32), (ringWord 3 1, 0x80020043#32), (Reg.CUE_DOORBELL + 12, 1#32)] (jobbing 0x1000#32 [])
     s.jobReady 3 = true ∧ s.pairHolds 3 = false ∧ s.fetchTurn 3 = false) ∧
    (let j : Job := { aJob .running with block := someBlock, slot := 7 }
     (withJob j up).loadable 7 = some j ∧ (withJob j up).nextWork = none) ∧
    (let l : L2Tile := { pos := 0, panels := [{}] }
     let j : Job := { aJob .running with block := someBlock, flight := [l] }
     (withJob j up).nextWork.isSome = true ∧ (withJob j up).deskOpen 0 = true ∧ (withJob j up).ens.redo = []) ∧
    (up.loadable 7 = none ∧ up.jobsRun = true ∧ (lad 1 1 false .none).jobsRun = false) ∧
    (up.deskOpen 0 = true ∧ (up.setDesk 0 .test).deskOpen 0 = false ∧
      ({ up with ens := { redo := [(aTile, 3)] } } : State).deskOpen 0 = true ∧ up.ens.redo = []) := by decide +kernel

theorem wit_TilesEndOrAreRepeated :
    ((up.setDesk 0 (.tile aTile none)).desk 0 = .tile aTile none ∧
      ((up.setDesk 0 (.tile aTile none)).deskIdle 0).runningJob 0 = none ∧
      ((withJob (aJob .running) (up.setDesk 0 (.tile aTile (some 3)))).deskIdle 0).runningJob 0 = some (aJob .running)) ∧
    ((up.setDesk 0 (.tile aTile none)).deskDone 0 0 = true ∧
      ({ up with ens := { deskAt := [(0, some 0#48)] } } : State).deskDone 0 (250 * up.coreMHz) = false ∧
      (aJob .running).passes aTile [] = true ∧
      ({ aJob .running with block := someBlock, flight := [{ pos := 0, panels := [{}] }] } : Job).passes aTile [(1, 0)] = false) ∧
    ((aJob .running).ending = none ∧ ({ aJob .running with ending := some (0x1A, 0) } : Job).ending.isSome = true ∧
      (withJob (aJob .running) up).runningJob (aJob .running).id = some (aJob .running)) ∧
    (takes (jobbing 0x1000#32 []) 0x95 cancelRight [1#32] [0xFF#32] = true ∧ (jobbing 0x1000#32 []).ringEn 1 = true ∧
      (jobbing 0x1000#32 []).ringType 1 = 4) ∧
    ((withJob (aJob .checked) up).ens.jobs = [aJob .checked] ∧ (aJob .checked).phase = .checked) ∧
    (isFront Reg.ENS_ISSUE 0x80000000#32 up = true ∧ bit 0x80000000#32 31 = true ∧ up.ens.issue = none ∧
      (∀ j ∈ up.ens.jobs, j.ring ≠ none) ∧ ({ up with ens := { issue := some ([], 0) } } : State).ens.issue.isSome = true ∧
      jobMalformed [0#32, 0#32, 0#32, 0#32] = true ∧ jobMalformed [0xFE#32, 0#32, 0#32, 0#32] = false) := by decide +kernel

/-- Self-tests each minute. -/
def testing : State := forceAt [(Reg.ENS_CFG, 0x00010101#32)] up

/-- A live demura set with a lease in use, and a band under way. -/
def expanding (band : Option BandSt) : State :=
  { forceAt [(Reg.PIPE_CFG, 0x200#32), (Reg.SCAN_ACTIVE, 0x00200020#32)] up with ens := { used := 1, bandEnd := 2, band := band } }

theorem wit_DesksAreTestedAndLeased :
    (testing.coreOn = true ∧ testing.fflag Reg.ENS_CFG 16 = true ∧ 0 < testing.ffld Reg.ENS_CFG 15 8 ∧
      testing.elapsed testing.ens.dueFrom < testing.ffld Reg.ENS_CFG 15 8 * 60 * 32768 ∧
      testing.ffld Reg.ENS_CFG 15 8 * 60 * 32768 ≤ (later (60 * 32768) testing).elapsed testing.ens.dueFrom ∧
      ((List.range 16).map (fun k => (testing.ens.lastTested + 1 + k) % 16)).find? (fun d => !testing.deskRetired d) = some 0 ∧
      ∀ d, d < 16 → (regsAt [(Reg.ENS_RETIRED, 0xFFFF#32)] testing).deskRetired d = true) ∧
    (up.testing = none ∧ (up.setDesk 15 .test).testing = some 15 ∧ (up.setDesk 15 .test).deskRetired 15 = false) ∧
    (takes up 0x92 (pageRight 13) [0xFFFF#32, 0xFFFF#32] [0xFFFF#32, 0xFFFF#32] = true ∧
      takes up 0x93 (pageRight 13) [0xFFFF#32, 0#32] [0xFFFF#32, 0xFFFF#32] = true) ∧
    ((up.setDesk 15 .test).deskDone 15 0 = true ∧
      ({ up with ens := { deskAt := [(15, some 0#48)] } } : State).deskDone 15 (250 * up.coreMHz) = false ∧
      (Cells.find (up.askTests 256 1 false).ens.asks 256).isSome = true ∧ (Cells.find up.ens.asks 256).isSome = false ∧
      passOk [3, 0, -3] = true ∧ passOk [1] = false) ∧
    (isFront Reg.ENS_DESK_TEST 1#32 up = true ∧ isFront Reg.ENS_DESK_RETEST 1#32 up = true) ∧ up.testAllowed 0 = true ∧
    (up.bandDue = false ∧ (expanding none).bandDue = true) ∧
    (up.ens.band = none ∧ (expanding (some { band := 0 })).ens.band = some { band := 0 } ∧
      ((expanding (some { band := 0 })).setDesk 3 (.pass 0 none)).desk 3 = .pass 0 none ∧
      ((expanding (some { band := 0 })).setDesk 3 (.pass 0 (some 4))).desk 3 = .pass 0 (some 4)) ∧
    (expanding (some { band := 0, ran := 6 })).bandPasses ≤ 6 ∧
    takes up 0x90 (pageRight 13) [0x0001FF0F#32] [0x0001FF0F#32] = true ∧ takes up 0x91 (pageRight 13) [] [] = true ∧
    isFront Reg.ENS_COMMIT 1#32 up = true ∧ takes up 0x94 (pageRight 13) [1#32] [1#32] = true := by decide +kernel

/-! ### Witnesses: events, the TAP and the tick -/

/-- The route word of event 4. -/
def routed (w : Word) : State := regsAt [(Reg.CUE_ROUTE_0 + 16, w)] up

/-- Input 3 of task 15 bound to event 24 with its argument in buffer word 5, with a count and a word of TASK_STAT. -/
def bound (count stat : Nat) : State :=
  regsAt [(taskInput 15 3, 0x80598#32), (taskCnt 15, word (count * 4096)), (taskStat 15, word stat)] up

/-- Tick t counts what tick t - 1 raised; an event of CORE waits one edge more (R26, R143). -/
theorem test_counted_next_tick :
    (((bound 0 0).raise 24 7#32).fld (taskCnt 15) 15 12, ((bound 0 0).raise 24 7#32).countRaises.fld (taskCnt 15) 15 12,
      ((bound 0 0).raise 24 7#32).countRaises.buf 5) = (0, 1, 7#32) ∧
    ((bound 0 0).raise 4 7#32).countRaises.counting = [⟨4, 7#32, 1⟩] := by decide +kernel

theorem wit_EventsAreRoutedOrHeld :
    (raiseReg Reg.DEV_IDLE = false ∧ State.reset.coreOn = false ∧ (routed 0#32).coreOn = true ∧ ∀ g ∈ up.flags, g.event ≠ 4) ∧
    (bit ((routed 0#32).reg (Reg.CUE_ROUTE_0 + 16)) 8 = false ∧ bit ((routed 0#32).reg (Reg.CUE_ROUTE_0 + 16)) 9 = false ∧
      bit ((routed 0x200#32).reg (Reg.CUE_ROUTE_0 + 16)) 9 = true ∧ bit ((routed 0x102#32).reg (Reg.CUE_ROUTE_0 + 16)) 8 = true ∧
      (routed 0x103#32).takesEvents 3 = false ∧ (draining 0 []).takesEvents 2 = true) ∧
    (let g : EvFlag := { event := 4, count := 1, arg := 0#32, tick := 0#48, ringOnly := false }
     g ∈ [g] ∧ g.event = g.event ∧ ([g].map (·.event)).Nodup ∧ ∀ x ∈ ([] : List EvFlag), x.event ≠ g.event) ∧
    (up.inputTakes 15 3 24 = false ∧ (bound 0 0).inputTakes 15 3 24 = true ∧ (bound 0 0).fld (taskCnt 15) 15 12 = 0 ∧
      (bound 15 0).fld (taskCnt 15) 15 12 = 15 ∧ (bound 15 0).flag (taskStat 15) 13 = false ∧
      (bound 15 0x2000).flag (taskStat 15) 13 = true) := by decide +kernel

theorem wit_TheTapFollowsItsClock :
    (regsAt [(Reg.DEV_PAD_LEVEL, 0x80000000#32)] up).dbgLock = true ∧
    ((up.setRail 1 2).vddioUp = false ∧ up.vddioUp = true ∧ (starting .tuning).dbgLock = false ∧
      ({ up with boot := { step := .tacet } } : State).tapWorks = false) ∧ (up.dbgLock = false ∧ up.tapWorks = true) ∧
    ((up.setRail 1 2).padPowered .io = false ∧ up.padPowered .io = true ∧ up.extest = false) ∧
    (({ up with tap := { state := .shiftDr, ir := 0xF#4 } } : State).tap.state = .shiftDr ∧ boundarySelected 0xF#4 = false ∧
      boundarySelected 0#4 = true) ∧
    (({ up with tap := { state := .exit1Ir } } : State).tap.state.next true = .updateIr ∧
      ({ up with tap := { state := .captureDr, ir := 0#4 } } : State).tap.ir = 0#4) := by decide +kernel

theorem wit_AnEmptyQueueIsOneTick :
    up.pending = [] ∧ (up.tune.hold = none ∧ up.atSecond = false ∧ up.face.wallNext = none ∧ up.commits = [] ∧ up.wdogOn = false ∧
      (regsAt [(Reg.DEV_WDOG_CFG, 0x80000020#32)] up).wdogOn = true) ∧
    ({ up with tune := { up.tune with hold := some 1 } } : State).tune.hold = some (0 + 1) ∧ State.reset.boot.step = .por ∧
    (up.boot.step ≠ .por ∧ up.boot.step ≠ .tacet ∧ up.boot.sysHeld = false) ∧
    (regsAt [(Reg.DEV_WDOG_CFG, 0x80000020#32), (Reg.DEV_WDOG_STATUS, 32#32)] up).wdogExpired = true ∧
    (up.secondDue = false ∧ up.face.evals = [] ∧ up.counting = [] ∧
      ({ up with counting := [⟨4, 0#32, 2⟩] } : State).counting = [⟨4, 0#32, 2⟩]) := by decide +kernel

/-! ### Ill-formed commands are refused -/

theorem test_wf_bootBurst : Instr.wf (.bootBurst 0) = false ∧ Instr.wf (.bootBurst 17) = false ∧ Instr.wf (.bootBurst 16) = true := by decide

theorem test_wf_modeExpert : Instr.wf (.modeExpertTakeEffect 15#4) = false ∧ Instr.wf (.modeExpertTakeEffect 14#4) = true := by decide

theorem test_wf_hostWrite : Instr.wf (.hostWrite .a 0#8 0#24 [] 4) = false ∧ Instr.wf (.hostWrite .a 0#8 0#24 [] 3) = true := by decide

theorem test_wf_busTransferEnd : Instr.wf (.busTransferEnd 2#2 (.nack 1) false []) = false ∧
    Instr.wf (.busTransferEnd 2#2 .ok true []) = false ∧ Instr.wf (.busTransferEnd 2#2 .ok false []) = true := by decide

theorem test_wf_pmCountEnd : Instr.wf (.pmCountEnd [1, 2, 3]) = false ∧ Instr.wf (.pmCountEnd [1, 2, 3, 4]) = true := by decide

theorem test_wf_railClassChange : Instr.wf (.railClassChange 6#3 [1800]) = false ∧
    Instr.wf (.railClassChange 5#3 [1800]) = true := by decide

theorem test_wf_tuneRunEnd : Instr.wf (.tuneRunEnd 5#3 [0]) = false ∧ Instr.wf (.tuneRunEnd 1#3 [0, 0]) = false ∧
    Instr.wf (.tuneRunEnd 1#3 [0]) = true := by decide

theorem test_wf_genericRead : Instr.wf (.genericRead 0#1 [0#8, 0#8, 0#8]) = false ∧ Instr.wf (.genericRead 0#1 [0#8]) = true := by decide

theorem test_wf_genericLongWrite : Instr.wf (.genericLongWrite 0#1 [0xA2#8, 0#8, 0#8]) = false ∧
    Instr.wf (.genericLongWrite 0#1 [0xA2#8]) = true := by decide

theorem test_wf_packedPixelStream : Instr.wf (.packedPixelStream .rgb24 [⟨256, 0, 0⟩]) = false ∧
    Instr.wf (.packedPixelStream .rgb24 [⟨255, 0, 0⟩]) = true := by decide

/-! ### Steps and values of the spec's worked examples -/

/-- The next state of a step, the state itself where there is none. -/
def after (c : Instr) (s : State) : State :=
  match exec c s with
  | .next t => t
  | .fault _ => s
  | .refused _ => s

/-- A command at the front of the queue is taken from it. -/
theorem test_step_takes_front : (match step { up with pending := [.nop 0#8, .por] } with
    | .next t => t.pending
    | _ => []) = [.por] := by decide +kernel

/-- Chapter 01, the leases of a round watch: leases of 127 granules at granules 0 and 127 and of 16 at 256 power banks 0 to 8. -/
theorem test_leases_power_banks :
    ((State.enableLease (State.enableLease (State.enableLease (regsAt [(leaseWord 0 0, 0x007F0000#32), (leaseWord 0 1, 0x1001#32),
      (leaseWord 1 0, 0x007F007F#32), (leaseWord 1 1, 0x1001#32), (leaseWord 2 0, 0x00100100#32), (leaseWord 2 1, 0x0101#32)] up)
      0) 1) 2).banks) = 0x1FF#48 := by decide +kernel

/-- Chapter 06, the completion of an ECHO with TAG 1 and ARG0 0x5A5A: words 0, 1, 2 and 7 of entry 0. -/
theorem test_echo_completion :
    (let s0 := regsAt [(ringWord 1 0, 0x1000#32), (ringWord 1 1, 0x80000013#32), (ringWord 1 3, 0x1000#32), (ringWord 0 1, 0x80010003#32)] leasedUp
     let s1 := s0.setRing 0 { cur := some { words := [0x00010001#32, 0x5A5A#32], index := 0 } }
     let t := after (.entryWrite 1#8) (after (.echo 0#8) s1)
     [t.hallWord 0x1000, t.hallWord 0x1004, t.hallWord 0x1008, t.hallWord 0x101C]) =
      [0x00010001#32, 0#32, 0x5A5A#32, 0x80000000#32] := by decide +kernel

/-- Chapter 08, the rider's bicycle computer at the tick that ends the fourth scan. -/
def rider : State :=
  { forceAt [(Reg.KEYS_CFG, 0x0C0F0000#32), (Reg.KEYS_PULSE_STEP, 0x00021893#32), (Reg.KEYS_SCAN_CFG, 0x00440000#32)]
      (regsAt [(Reg.KEYS_PULSE_FRAC, 0xF000#32), (Reg.KEYS_PULSE_TOTAL, 0x1A2A#32)] up) with
    metro := 0x12345660#48
    edge := 0x12345660#48
    keys := { scanAt := some 0x1234565F#48, keys := [(0x41, { count := 3 })], pulses := [(0, { last := some 0x1234362E#48 })] } }

theorem test_press_entry : (after (.scanEnd ⟨1800, [], 2#8⟩) rider).keys.fifo = [0x0000104112345660#64] := by
  decide +kernel

theorem test_pulse_counts :
    ((after (.pulseEdge 0#1 true) rider).writePulses.keys.fifo, (after (.pulseEdge 0#1 true) rider).reg Reg.KEYS_PULSE_FRAC,
      (after (.pulseEdge 0#1 true) rider).reg Reg.KEYS_PULSE_TOTAL) = ([0x0203234A12345660#64], 0x0893#32, 0x1A2B#32) := by
  decide +kernel

/-- Chapter 02: 224 bumps, no place named twice, and 81 of them in the boundary register with three cells each. -/
theorem test_bumps :
    ((pads.map (·.bump) ++ powerBumps.map (·.2)).Nodup ∧ pads.length + powerBumps.length = 224 ∧ scannedPads.length = 81) := by
  decide +kernel

/-- Chapter 09, the watch in the sun: codes between points 10 and 11 of the NTC table. -/
theorem test_ntc_interpolation :
    (let s := forceAt [(Reg.SENSE_NTC0_PT + 40, 0x02EE#32), (Reg.SENSE_NTC0_PT + 44, 0x02AC#32)] up
     [5349, 5346, 5343, 5340, 5338, 5335].map (s.ntcValue 0)) = [720, 721, 721, 722, 722, 722] := by decide +kernel

/-- Chapter 10, the bicycle computer in the cold: six 1 s boundaries, of which the third inserts a tick. -/
def cold (applied acc metro : Int) : State :=
  { (regsAt [(Reg.DEV_AO_CLK, 1#32)] up).setItem 0 { (up.item 0) with applied := [applied], target := [456] } with
    metro := BitVec.ofInt 48 metro, tune := { (up.setItem 0 { (up.item 0) with applied := [applied], target := [456] }).tune with
      acc := acc } }

theorem test_second_without_insert :
    (let t := after .oneSecondBoundary (cold 292 0 0x0A3CA000)
     (t.reg Reg.TUNE_ITEM_APPLIED, t.tune.acc, t.metro)) = (0x144#32, 324, 0x0A3CA001#48) := by decide +kernel

theorem test_second_with_insert :
    (let t := after .oneSecondBoundary (cold 356 680 0x0A3DA000)
     (t.reg Reg.TUNE_ITEM_APPLIED, t.tune.acc, t.metro)) = (0x184#32, 44, 0x0A3DA002#48) := by decide +kernel

/-- Item 0 of the same example: T_AO of 5.0 °C gives RATE 456. -/
theorem test_crystal_rate :
    ((regsAt [(resultReg 3, 0x80120050#32)] (itm 0 0x3C01#32 0x80#32 id (regsAt [(Reg.DEV_AO_CLK, 1#32)] up))).measureStart 0).reg
      Reg.TUNE_ITEM_RESULT = 0x005001C8#32 := by decide +kernel

/-- Chapter 11, the rollover: the COUNTER_BASE record of 16 payload bytes takes 48 bytes. -/
theorem test_record_size : recSize 0x000552C5#32 16#32 = 48 := by decide +kernel

/-- The check value of CRC-32 (R234) and of CRC-16 (R350) over the digits 1 to 9, as their definitions are published. -/
theorem test_crcs :
    (crc32 ((List.range 9).map (fun i => BitVec.ofNat 8 (0x31 + i))), crc16 ((List.range 9).map (fun i => BitVec.ofNat 8 (0x31 + i))))
      = (0xCBF43926#32, 0x29B1) := by decide +kernel

/-- AES-CMAC over a block, with the key and the tag of the published test vector (RFC 4493, example 2). -/
theorem test_cmac :
    (let be := fun (n : Nat) => (List.range 16).map (fun i => BitVec.ofNat 8 (n >>> (8 * (15 - i))))
     cmac 0x3C4FCF098815F7ABA6D2AE2816157E2B (be 0x6BC1BEE22E409F96E93D7E117393172A) = be 0x070A16B46B4D4144F79BDD9DD04A287C) := by
  decide +kernel

/-- Chapter 14, one pixel: coarse demura, brightness at GAIN 3072 and dither. -/
theorem test_pixel_demura :
    [demuraWith (-40) 0 1967, demuraWith 12 (-3) 1266, demuraWith 0 5 730] = [1948, 1267, 735] := by decide

theorem test_pixel_brightness :
    (regsAt [(Reg.PIPE_GAIN_EFF, 3072#32)] up).brightness { r := 1948, g := 1267, b := 735 } = { r := 1461, g := 950, b := 551 } := by
  decide +kernel

theorem test_pixel_dither : [1461, 950, 551].map (ditherValue true 8 0 100 200) = [91, 59, 34] := by decide

/-- Chapter 16, the minute turns: 2031-03-14 11:00:00, a Friday. -/
theorem test_wall_fields :
    (let s : State := { forceAt [(faceField 0 1, 3#32), (faceField 1 1, 2#32), (faceField 2 1, 5#32), (faceField 3 1, 6#32),
        (faceField 4 1, 7#32), (faceField 5 1, 8#32)] up with face := { up.face with wall := 0x3AAF4F30#48 * 32768#48 } }
     (List.range 6).map s.faceValue) = [11, 0, 5, 14, 3, 31] := by decide +kernel

/-- Chapter 17: an accumulator of −300 with MULT 1 and SHIFT 3 gives −38. -/
theorem test_requantise : requantise (-300) 1 3 0 (-512) 511 true 0 = -38 := by decide +kernel

end Sys2Proof.Tests
end

section
/-!
SUPPORT for chapter 04 (R62, R86, R90 to R92): the watchdog's warning and its registers, what the count of a reset writes,
and what a TACET exit keeps of the state before it.
-/

namespace Sys2Proof.Machine

/-! ### The watchdog -/

/-- The warning once (R90): where it has not been given since the last kick or restart. -/
theorem State.wdogWarn_first {s : State} (h : s.boot.wdogEarlyDone = false) :
    s.wdogWarn = ((State.setFlag { s with boot := { s.boot with wdogEarlyDone := true } } Reg.DEV_WDOG_STATUS 24 true).raise 5
      (word (s.fld Reg.DEV_WDOG_CFG 23 0))) := by
  simp [State.wdogWarn, State.setBoot, h]

theorem State.flag_wdogWarn (s : State) {a : Nat} (n : Nat) (hr : raiseReg a = false) (ha : a ≠ Reg.DEV_WDOG_STATUS) :
    s.wdogWarn.flag a n = s.flag a n := by
  cases h : s.boot.wdogEarlyDone with
  | true => simp [State.wdogWarn, h]
  | false =>
    rw [State.wdogWarn_first h, State.flag_raise _ 5 (by decide) _ _ _ hr,
      State.flag_setFlag_other _ _ _ _ _ _ (by decide) (.inl ha)]
    rfl

/-- A warning that is due has not been given (R90). -/
theorem State.wdogEarlyDue_notDone {s : State} (h : s.wdogEarlyDue = true) : s.boot.wdogEarlyDone = false := by
  simp only [State.wdogEarlyDue, Bool.and_eq_true, Bool.not_eq_true'] at h
  exact h.1.2

/-- The word of WDOG_KICK, taken from its port, is its kick or its bad kick (R91). -/
theorem execWdogKickWrite_fronted {s t : State} {p : Port} {w : BufWord} (h : fronted s p w t = true)
    (hw : w.off = Reg.DEV_WDOG_KICK) : execWdogKickWrite p s = .next (t.writeWdogKick w.val) := by
  have hrow : rowOf w = .wdogKick := rowOf_wdogKick hw
  simp [execWdogKickWrite, State.takeWord_fronted h hrow, State.applyWord, hrow]

/-! ### The count of a reset -/

/-- The count of a reset: EPOCH, the cause, and the counter of its kind, which lies above the cause (R86). -/
theorem State.countReset_eq (s : State) (cause : Nat) : ∃ hi lo, hi < 32 ∧ lo ≤ hi ∧ 3 < lo ∧
    s.countReset cause =
      ((s.bump Reg.DEV_EPOCH 15 0).setFld Reg.DEV_RESET_CAUSE 3 0 cause).bumpSat Reg.DEV_RESET_CAUSE hi lo := by
  unfold State.countReset
  split
  · exact ⟨23, 16, by decide, by decide, by decide, rfl⟩
  · exact ⟨15, 8, by decide, by decide, by decide, rfl⟩

theorem State.reg_countReset_other (s : State) (cause : Nat) {a : Nat} (he : a ≠ Reg.DEV_EPOCH)
    (hc : a ≠ Reg.DEV_RESET_CAUSE) : (s.countReset cause).reg a = s.reg a := by
  obtain ⟨hi, lo, -, -, -, h⟩ := s.countReset_eq cause
  rw [h, State.bumpSat, State.reg_setFld_other _ _ _ _ _ _ hc, State.reg_setFld_other _ _ _ _ _ _ hc, State.bump,
    State.reg_setFld_other _ _ _ _ _ _ he]

theorem State.fld_countReset_cause (s : State) {cause : Nat} (hc : cause < 16) :
    (s.countReset cause).fld Reg.DEV_RESET_CAUSE 3 0 = cause := by
  obtain ⟨hi, lo, hb, hl, habove, h⟩ := s.countReset_eq cause
  rw [h, State.bumpSat, State.fld_setFld_other _ _ _ _ _ _ _ _ hb hl (.inr (.inr habove)),
    State.fld_setFld _ _ _ _ _ (by decide) (by decide)]
  exact Nat.mod_eq_of_lt hc

theorem State.reg_startLadder_other (s : State) {a : Nat} (h : a ≠ Reg.DEV_LADDER_STATE) : s.startLadder.reg a = s.reg a :=
  State.reg_setReg_other s _ a _ h

/-! ### What starting leaves alone -/

/-- A state without its registers, its count of free values, its pins and the step of its start: what making registers undefined,
counting a reset and starting leave alone. -/
def State.bare (s : State) : State := { s with regs := [], free := 0, pins := {}, boot := {} }

/-- States that are the same in this have the same Metronome, rings, Hall and AO memory. -/
theorem State.stores_of_bare {s t : State} (h : s.bare = t.bare) :
    s.metro = t.metro ∧ s.rings = t.rings ∧ s.hall = t.hall ∧ s.ao = t.ao :=
  ⟨show s.bare.metro = t.bare.metro by rw [h], show s.bare.rings = t.bare.rings by rw [h],
    show s.bare.hall = t.bare.hall by rw [h], show s.bare.ao = t.bare.ao by rw [h]⟩

theorem State.setReg_bare (s : State) (a : Nat) (v : Word) : (s.setReg a v).bare = s.bare := rfl
theorem State.setPins_bare (s : State) (p : Pins) : (s.setPins p).bare = s.bare := rfl
theorem State.setBoot_bare (s : State) (b : Boot) : (s.setBoot b).bare = s.bare := rfl
theorem State.startLadder_bare (s : State) : s.startLadder.bare = s.bare := s.setReg_bare _ _
theorem State.undefWord_bare (s : State) (r : RegSpec) (i : Nat) : (s.undefWord r i).bare = s.bare := rfl

/-- What each step of a fold leaves alone, the fold does. -/
theorem foldl_bare {α : Type} {f : State → α → State} (hf : ∀ s x, (f s x).bare = s.bare) (l : List α) (s : State) :
    (l.foldl f s).bare = s.bare :=
  List.foldlRecOn l f (motive := fun t => t.bare = s.bare) rfl fun t h x _ => (hf t x).trans h

theorem State.undefRegs_bare (s : State) : s.undefRegs.bare = s.bare := by
  unfold State.undefRegs
  exact foldl_bare (fun s r => foldl_bare (fun s i => s.undefWord_bare r i) _ s) _ s

theorem State.countReset_bare (s : State) (cause : Nat) : (s.countReset cause).bare = s.bare := by
  obtain ⟨hi, lo, -, -, -, h⟩ := s.countReset_eq cause
  simp only [h, State.bumpSat, State.bump, State.setFld, State.setReg_bare]

/-! ### A TACET exit -/

/-- The listed bits of registers, laid from s over the registers of u. -/
def State.keepOver (s u : State) (l : List (Nat × Word)) : State :=
  l.foldl (fun u e => u.setReg e.1 ((u.reg e.1 &&& ~~~e.2) ||| (s.reg e.1 &&& e.2))) u

theorem State.keepOver_bare (s u : State) (l : List (Nat × Word)) : (s.keepOver u l).bare = u.bare := by
  unfold State.keepOver
  refine foldl_bare (fun u e => ?_) l u
  rw [State.setReg_bare]

theorem State.reg_keepOver_other (s : State) {a : Nat} {l : List (Nat × Word)} (u : State) (h : a ∉ l.map Prod.fst) :
    (s.keepOver u l).reg a = u.reg a := by
  induction l generalizing u with
  | nil => rfl
  | cons e l ih =>
    simp only [List.map_cons, List.mem_cons, not_or] at h
    exact (ih _ h.2).trans (State.reg_setReg_other u e.1 a _ h.1)

/-- A register all of whose bits are listed reads as in s. -/
theorem State.reg_keepOver_whole (s : State) {a : Nat} {l : List (Nat × Word)} (u : State) (hd : (l.map Prod.fst).Nodup)
    (h : (a, BitVec.allOnes 32) ∈ l) : (s.keepOver u l).reg a = s.reg a := by
  induction l generalizing u with
  | nil => cases h
  | cons e l ih =>
    rw [List.map_cons, List.nodup_cons] at hd
    rcases List.mem_cons.1 h with rfl | h
    · refine (State.reg_keepOver_other s _ hd.1).trans ((State.reg_setReg_self ..).trans ?_)
      rw [BitVec.not_allOnes, BitVec.and_zero, BitVec.zero_or, BitVec.and_allOnes]
    · exact ih _ hd.2 h

/-- The part wiped by TACET, with the registers that TACET keeps laid over it (Table 3-2). -/
def State.tacetWiped (s : State) : State := s.keepOver s.cutJournal.wiped.undefRegs tacetKept

/-- A TACET exit counts a reset of cause 4 and starts the part from cold, its latches closed (R53, R62, R86). -/
theorem State.leaveTacet_eq (s : State) :
    s.leaveTacet = ((s.tacetWiped.countReset 4).startLadder.setPins { (s.tacetWiped.countReset 4).startLadder.pins with
      pseqLatched := 0xFFF#12, pnlLatched := 0xF#4, chgLatched := true }).setBoot
      { step := .reset, cold := true, startAt := s.edge } := by
  simp only [State.leaveTacet, State.tacetWiped, State.keepOver]

theorem State.reg_setPins (s : State) (p : Pins) (a : Nat) : (s.setPins p).reg a = s.reg a := rfl
theorem State.reg_setBoot (s : State) (b : Boot) (a : Nat) : (s.setBoot b).reg a = s.reg a := rfl

theorem State.reg_leaveTacet (s : State) (a : Nat) : s.leaveTacet.reg a = (s.tacetWiped.countReset 4).startLadder.reg a := by
  rw [State.leaveTacet_eq, State.reg_setBoot, State.reg_setPins]

/-- A register that TACET keeps whole, and that a start does not write, reads as before the exit (Table 3-2). -/
theorem State.reg_leaveTacet_kept (s : State) {a : Nat} (h : (a, BitVec.allOnes 32) ∈ tacetKept)
    (hs : a ∉ [Reg.DEV_EPOCH, Reg.DEV_RESET_CAUSE, Reg.DEV_LADDER_STATE]) : s.leaveTacet.reg a = s.reg a := by
  simp only [List.mem_cons, List.not_mem_nil, or_false, not_or] at hs
  obtain ⟨he, hc, hl⟩ := hs
  rw [State.reg_leaveTacet, State.reg_startLadder_other _ hl, State.reg_countReset_other _ _ he hc]
  exact State.reg_keepOver_whole s _ (by decide) h

theorem State.fld_leaveTacet_cause (s : State) : s.leaveTacet.fld Reg.DEV_RESET_CAUSE 3 0 = 4 := by
  have h : s.leaveTacet.reg Reg.DEV_RESET_CAUSE = (s.tacetWiped.countReset 4).reg Reg.DEV_RESET_CAUSE := by
    rw [State.reg_leaveTacet, State.reg_startLadder_other _ (by decide)]
  unfold State.fld
  rw [h]
  exact State.fld_countReset_cause _ (by decide)

theorem State.leaveTacet_boot (s : State) : s.leaveTacet.boot = { step := .reset, cold := true, startAt := s.edge } := by
  rw [State.leaveTacet_eq, State.setBoot]

theorem State.cutJournal_metro (s : State) : s.cutJournal.metro = s.metro := by
  simp only [State.cutJournal, State.setJrnl]
  split <;> rfl

/-- What a wiped part holds: the Metronome, which goes on, and no rings, Hall or AO memory. -/
theorem State.wiped_stores (s : State) :
    s.wiped.metro = s.metro ∧ s.wiped.rings = [] ∧ s.wiped.hall = [] ∧ s.wiped.ao = [] := ⟨rfl, rfl, rfl, rfl⟩

/-- A TACET exit wipes the part, but for its registers, pins and the step of its start. -/
theorem State.leaveTacet_bare (s : State) : s.leaveTacet.bare = s.cutJournal.wiped.bare := by
  rw [State.leaveTacet_eq, State.setBoot_bare, State.setPins_bare, State.startLadder_bare, State.countReset_bare, State.tacetWiped,
    State.keepOver_bare, State.undefRegs_bare]

theorem State.leaveTacet_stores (s : State) :
    s.leaveTacet.metro = s.metro ∧ s.leaveTacet.rings = [] ∧ s.leaveTacet.hall = [] ∧ s.leaveTacet.ao = [] := by
  obtain ⟨hm, hr, hh, ha⟩ := State.stores_of_bare s.leaveTacet_bare
  obtain ⟨wm, wr, wh, wa⟩ := s.cutJournal.wiped_stores
  exact ⟨hm.trans (wm.trans s.cutJournal_metro), hr.trans wr, hh.trans wh, ha.trans wa⟩

end Sys2Proof.Machine
end

section
/-!
PROOF of the watchdog's commands and of the ways out of TACET.
-/

namespace Sys2Proof.Machine

/-- WDOG_CONFIG takes effect unless LOCK is 1 (R92). -/
theorem execWdogConfig_admitted {ring : BitVec 8} {s : State} {v : Verb} (h : admitted s ring 0x15 clientZero v = true)
    (ha : v.argsWithin [0xD0FFFFFF#32] = true) :
    execWdogConfig ring s = .next (if s.flag Reg.DEV_WDOG_CFG 30 then s.complete v .halted
      else (s.hostSet Reg.DEV_WDOG_CFG (v.arg 0)).complete v .ok) :=
  congrArg Host.Outcome.next (State.runVerb_body _ h ha)

/-- A kick by verb (R91). -/
theorem execWdogKick_admitted {ring : BitVec 8} {s : State} {v : Verb} (h : admitted s ring 0x16 kickRight v = true)
    (ha : v.argsWithin [] = true) : execWdogKick ring s = .next (s.wdogRestart.complete v .ok) :=
  congrArg Host.Outcome.next (State.runVerb_body _ h ha)

/-- The reset of ACTION, which the warning does not touch (R90). -/
theorem execWdogExpiry_expired {s : State} (h : s.wdogExpired = true) :
    execWdogExpiry s = .next (if s.flag Reg.DEV_WDOG_CFG 28 then s.wdogWarn.systemReset 2 else s.wdogWarn.coreReset 5) := by
  have hf : s.wdogWarn.flag Reg.DEV_WDOG_CFG 28 = s.flag Reg.DEV_WDOG_CFG 28 := s.flag_wdogWarn 28 (by decide) (by decide)
  simp [execWdogExpiry, h, hf]

/-- In TACET the power key is held long enough or it is not (R62). -/
theorem execPowerKeyHold_tacet (mv : List Nat) {s : State} (h : s.boot.step = .tacet) :
    execPowerKeyHold mv s = .next (if s.tacetHold ≤ s.heldTicks mv then s.leaveTacet else s) := by
  simp [execPowerKeyHold, h]

/-- In TACET a rise of the battery above the threshold counts where it is allowed (R62). -/
theorem execVbatRise_tacet (vbat : Nat) {s : State} (h : s.boot.step = .tacet) :
    execVbatRise vbat s =
      .next (if s.flag Reg.DEV_TACET_CFG 16 = true ∧ s.tacetMv < vbat then s.leaveTacet else s) := by
  simp [execVbatRise, h]

/-- Settles O15: one lemma for each command, and what a TACET exit keeps register by register. -/
theorem watchdogAndTacetExits : Obligations.WatchdogAndTacetExits := by
  unfold Obligations.WatchdogAndTacetExits
  refine ⟨?config, fun _ _ _ h ha => execWdogKick_admitted h ha, ?kickWrite, ?early, ?expiry, ?powerKey, ?battery, ?exit⟩
  case config =>
    intro ring s v h ha
    have run := execWdogConfig_admitted h ha
    exact ⟨fun locked => run.trans (by rw [if_pos locked]), fun unlocked => run.trans (by simp [unlocked])⟩
  case kickWrite =>
    intro p s t w h hw
    have take := execWdogKickWrite_fronted h hw
    exact ⟨fun key => take.trans (congrArg _ (if_pos key)), fun wrong => take.trans (congrArg _ (if_neg wrong))⟩
  case early =>
    intro s due
    show execWdogEarly s = _
    rw [execWdogEarly, if_pos due, State.wdogWarn_first (State.wdogEarlyDue_notDone due)]
  case expiry =>
    intro s expired
    have run := execWdogExpiry_expired expired
    exact ⟨fun system => run.trans (by rw [if_pos system]), fun core => run.trans (by simp [core])⟩
  case powerKey =>
    intro mv s tacet
    have run := execPowerKeyHold_tacet mv tacet
    exact ⟨fun held => run.trans (congrArg _ (if_pos held)), fun short => run.trans (congrArg _ (if_neg (Nat.not_le.2 short)))⟩
  case battery =>
    intro vbat s tacet
    have run := execVbatRise_tacet vbat tacet
    exact ⟨fun allowed above => run.trans (by rw [if_pos ⟨allowed, above⟩]), fun barred => run.trans (by simp [barred])⟩
  case exit =>
    intro s
    obtain ⟨metro, empty⟩ := s.leaveTacet_stores
    exact ⟨s.fld_leaveTacet_cause, s.reg_leaveTacet_kept (by decide) (by decide), s.reg_leaveTacet_kept (by decide) (by decide),
      s.reg_leaveTacet_kept (by decide) (by decide), metro, s.leaveTacet_boot, empty⟩

end Sys2Proof.Machine
end

section
/-!
SUPPORT for chapter 06 (R134, R121): which rings a memory of rings lists for a FENCE, and what a ring that is disabled leaves to the
FENCEs that wait for it.
-/

namespace Sys2Proof.Machine

/-! ### Entries of a memory that a predicate selects -/

theorem Cells.mem_of_find {α : Type} {m : Cells α} {k : Nat} {v : α} (h : Cells.find m k = some v) : (k, v) ∈ m := by
  induction m with
  | nil => cases h
  | cons e rest ih =>
    unfold Cells.find at h
    split at h
    · rename_i hk
      obtain rfl := Option.some.inj h
      subst hk
      exact List.mem_cons_self
    · exact List.mem_cons_of_mem _ (ih h)

theorem Cells.filter_place {α : Type} {p : Nat × α → Bool} (m : Cells α) {k : Nat} {v : α} (hv : p (k, v) = false) :
    (Cells.place m k v).filter p = m.filter p := by
  induction m with
  | nil => simp [Cells.place, hv]
  | cons e rest ih =>
    unfold Cells.place
    split
    · exact List.filter_cons_of_neg (by simp [hv])
    · rw [List.filter_cons, List.filter_cons, ih]

theorem Cells.filter_erase {α : Type} {p : Nat × α → Bool} {m : Cells α} {k : Nat} (hk : ∀ e ∈ m, p e = true → e.1 ≠ k) :
    (Cells.erase m k).filter p = m.filter p := by
  rw [Cells.erase, List.filter_filter]
  refine List.filter_congr fun e he => ?_
  have hne := hk e he
  simpa using hne

/-- A write of a key with nothing selected there, before and after, leaves the selected entries and their order. -/
theorem Cells.filter_put {α : Type} [DecidableEq α] {p : Nat × α → Bool} (d : Nat → α) {m : Cells α} {k : Nat} {v : α}
    (hk : ∀ e ∈ m, p e = true → e.1 ≠ k) (hv : p (k, v) = false) : (Cells.put d m k v).filter p = m.filter p := by
  unfold Cells.put
  split
  · exact Cells.filter_erase hk
  · exact (Cells.filter_place _ hv).trans (Cells.filter_erase hk)

theorem Cells.erase_put {α : Type} [DecidableEq α] (d : Nat → α) (m : Cells α) (k : Nat) (v : α) :
    Cells.erase (Cells.put d m k v) k = Cells.erase m k := by
  have twice : Cells.erase (Cells.erase m k) k = Cells.erase m k := by simp [Cells.erase]
  unfold Cells.put
  split
  · exact twice
  · exact (Cells.filter_place _ (by simp)).trans twice

/-- Of two writes of one key the second counts. -/
theorem Cells.put_put {α : Type} [DecidableEq α] (d : Nat → α) (m : Cells α) (k : Nat) (v w : α) :
    Cells.put d (Cells.put d m k v) k w = Cells.put d m k w := by
  rw [Cells.put, Cells.insert, Cells.erase_put]
  rfl

/-! ### The rings that wait with a FENCE -/

/-- The entry in execution is a FENCE that waits for ring f. -/
def RingSt.fences (q : RingSt) (f : Nat) : Bool :=
  match q.cur with
  | some e => match e.waiting with
    | some (.fence t _) => t == f
    | _ => false
  | none => false

theorem State.fencesOn_eq (s : State) (f : Nat) : s.fencesOn f = (s.rings.filter (fun e => e.2.fences f)).map (·.1) := rfl

/-- A ring that waits with a FENCE is listed. -/
theorem State.mem_fencesOn {s : State} {q f : Nat} (h : (s.ring q).fences f = true) : q ∈ s.fencesOn f := by
  rw [State.fencesOn_eq, List.mem_map]
  unfold State.ring Cells.get at h
  cases listed : Cells.find s.rings q with
  | none => simp [listed, RingSt.fences] at h
  | some u => exact ⟨(q, u), List.mem_filter.2 ⟨Cells.mem_of_find listed, by simpa [listed] using h⟩, rfl⟩

/-- A write to a ring that waits with no FENCE for f, before and after, changes nothing in who does. -/
theorem State.fencesOn_setRing {s : State} {r f : Nat} {u : RingSt} (hr : r ∉ s.fencesOn f) (hu : u.fences f = false) :
    (s.setRing r u).fencesOn f = s.fencesOn f := by
  rw [State.fencesOn_eq] at hr
  have kept : ∀ e ∈ s.rings, e.2.fences f = true → e.1 ≠ r := fun e he hf same =>
    hr (List.mem_map.2 ⟨e, List.mem_filter.2 ⟨he, hf⟩, same⟩)
  rw [State.fencesOn_eq, State.fencesOn_eq]
  exact congrArg (List.map _) (Cells.filter_put (fun _ => ({} : RingSt)) kept hu)

/-! ### The verb of a ring -/

theorem State.completeRing_verbOf {s : State} {r : Nat} {v : Verb} (h : s.verbOf r = some v) (st : Status) (res : List Word) :
    s.completeRing r st res = s.complete v st res := by
  simp [State.completeRing, h]

theorem State.verbOf_congr {s t : State} {q : Nat} (hr : t.ring q = s.ring q) (ho : t.ringOwner q = s.ringOwner q) :
    t.verbOf q = s.verbOf q := by
  simp [State.verbOf, hr, ho]

/-- The one FENCE that waits for a ring is completed. -/
theorem State.endFences_single {s : State} {f q : Nat} {v : Verb} (hq : s.fencesOn f = [q]) (hv : s.verbOf q = some v)
    (st : Status) : s.endFences f st = s.complete v st := by
  simp [State.endFences, hq, State.completeRing_verbOf hv]

/-! ### A ring that is disabled -/

/-- A ring that is disabled, its entry in execution as it goes on, and the enabled SEND rings cut off from it. -/
def State.cutRing (s : State) (f : Nat) : RingSt :=
  { s.ring f with
    enabling := false, setupBy := none, cutOff := s.sendRings
    cur := (s.ring f).cur.map (fun e => { e with orphan := true, leftTo := some (e.leftTo.getD (s.ringOwner f, s.ringPair f)) }) }

/-- The state with ring f disabled, and its jobs as they go on, before anything that waits for it is answered. -/
def State.cut (s : State) (f : Nat) : State :=
  let t := (s.setFlag (ringWord f 1) 31 false).setRing f (s.cutRing f)
  { t with ens := { t.ens with jobs := t.ens.jobs.map (fun j =>
    if j.ring = some f then { j with orphan := true, leftTo := some (j.leftTo.getD (s.ringPair f)) } else j) } }

@[simp] theorem State.ring_cut (s : State) (f q : Nat) : (s.cut f).ring q = if q = f then s.cutRing f else s.ring q :=
  State.ring_setRing (s.setFlag (ringWord f 1) 31 false) f q _

theorem State.ringEn_cut (s : State) (f : Nat) : (s.cut f).ringEn f = false :=
  s.flag_setFlag (ringWord f 1) 31 false (by decide)

theorem State.ringOwner_cut (s : State) (f q : Nat) : (s.cut f).ringOwner q = s.ringOwner q :=
  s.fld_setFlag_other (ringWord f 1) 31 false (ringWord q 1) 13 8 (by decide) (by omega)

theorem State.verbOf_cut (s : State) {f q : Nat} (h : q ≠ f) : (s.cut f).verbOf q = s.verbOf q :=
  State.verbOf_congr (by simp [h]) (s.ringOwner_cut f q)

/-- A ring disabled waits with a FENCE for as long as it did. -/
theorem State.fences_cutRing (s : State) (f g : Nat) : (s.cutRing f).fences g = (s.ring f).fences g := by
  unfold RingSt.fences State.cutRing
  cases (s.ring f).cur <;> rfl

theorem State.fencesOn_cut {s : State} {f : Nat} (h : f ∉ s.fencesOn f) : (s.cut f).fencesOn f = s.fencesOn f := by
  have before : (s.ring f).fences f = false := Bool.eq_false_iff.2 fun waits => h (State.mem_fencesOn waits)
  exact State.fencesOn_setRing (s := s.setFlag (ringWord f 1) 31 false) h ((s.fences_cutRing f f).trans before)

/-- Ring f of the disabled state, written once more as it stands. -/
theorem State.setRing_cut (s : State) (f : Nat) : (s.cut f).setRing f (s.cutRing f) = s.cut f := by
  unfold State.cut State.setRing
  simp only [Cells.put_put]

/-- Nothing waits to be written to the ring, so nothing is turned back or dropped. -/
theorem State.unqueue_empty {s : State} {r : Nat} (h : (s.ring r).outbox = []) : s.unqueue r = s.setRing r (s.ring r) := by
  unfold State.unqueue
  generalize s.ring r = q at h ⊢
  cases q
  subst h
  rfl

theorem State.dropMessages_empty {s : State} {r : Nat} (h : (s.ring r).outbox = []) :
    s.dropMessages r = s.setRing r (s.ring r) := by
  unfold State.dropMessages
  generalize s.ring r = q at h ⊢
  cases q
  subst h
  rfl

/-- A disable where nothing waits for the ring but FENCEs. -/
theorem State.disableRing_idle {s : State} {f : Nat} (ho : (s.ring f).outbox = []) (hs : (s.ring f).setupBy = none) :
    s.disableRing f = (s.cut f).endFences f .badArg := by
  have own : (s.cut f).ring f = s.cutRing f := by simp
  have empty : ((s.cut f).ring f).outbox = [] := by rw [own]; exact ho
  have idle : ((s.cut f).unqueue f).dropMessages f = s.cut f := by
    have kept : (s.cut f).unqueue f = s.cut f := by rw [State.unqueue_empty empty, own, State.setRing_cut]
    rw [kept, State.dropMessages_empty empty, own, State.setRing_cut]
  have only : s.disableRing f = (((s.cut f).unqueue f).dropMessages f).endFences f .badArg := by
    simp only [State.disableRing, hs]
    rfl
  rw [only, idle]

end Sys2Proof.Machine
end

section
/-!
PROOF of what a FENCE waits for and how it ends (R134).
-/

namespace Sys2Proof.Machine

theorem execFence_admitted {ring : BitVec 8} {s : State} {v : Verb} (h : admitted s ring 0x02 anyOwner v = true)
    (ha : v.argsWithin [0xFF#32, 0xFFFF#32] = true) : execFence ring s = .next (s.fence v) :=
  congrArg Host.Outcome.next (State.runVerb_body _ h ha)

/-- A FENCE that waits ends with its entries, or with a halt of their ring, and otherwise waits on. -/
theorem execFenceComplete_waiting {ring : BitVec 8} {s : State} {v : Verb} {f : Fetched} {target mark : Nat}
    (hc : (s.ring ring.toNat).cur = some f) (hv : s.verbOf ring.toNat = some v) (hw : f.waiting = some (.fence target mark)) :
    execFenceComplete ring s = .next (
      if mark ≤ (s.ring target).finished then s.complete v .ok [word ((s.ring target).finished % s.ringSize target)]
      else if s.ringHalted target then s.complete v .halted
      else s) := by
  simp only [execFenceComplete, hc, hw, State.completeRing_verbOf hv]

/-- A FENCE whose time has passed before its entries have finished. -/
theorem execFenceTimeout_passed {ring : BitVec 8} {s : State} {v : Verb} {f : Fetched} {target mark : Nat}
    (hc : (s.ring ring.toNat).cur = some f) (hv : s.verbOf ring.toNat = some v) (hw : f.waiting = some (.fence target mark))
    (ht : 0 < f.timeout ∧ f.timeout ≤ s.elapsed f.since ∧ (s.ring target).finished < mark) :
    execFenceTimeout ring s = .next (s.complete v .timeout) := by
  simp only [execFenceTimeout, hc, hw, if_pos ht, State.completeRing_verbOf hv]

theorem State.unfinished_eq (s : State) (f : Nat) :
    s.unfinished f = if s.ringType f = 4 then (s.ens.jobs.filter (fun j => j.ring == some f && !j.orphan)).length
      else if ((s.ring f).cur.any (fun e => !e.orphan)) = true then 1 else 0 := by
  unfold State.unfinished
  cases (s.ring f).cur with
  | none => rfl
  | some e => cases orphan : e.orphan <;> simp [orphan]

/-- The one FENCE that waits for a ring is answered by its disable. -/
theorem State.disableRing_fenced {s : State} {f q : Nat} {v : Verb} (ho : (s.ring f).outbox = [])
    (hs : (s.ring f).setupBy = none) (hne : q ≠ f) (hq : s.fencesOn f = [q]) (hv : s.verbOf q = some v) :
    s.disableRing f = (s.cut f).complete v .badArg := by
  have apart : f ∉ s.fencesOn f := by simpa [hq] using hne.symm
  rw [State.disableRing_idle ho hs]
  exact State.endFences_single ((State.fencesOn_cut apart).trans hq) ((s.verbOf_cut hne).trans hv) _

/-- A ring that executes an entry is not ready for its next fetch (R124). -/
theorem State.fetchReady_executing {s : State} {r : Nat} (hc : (s.ring r).cur.isSome = true) (ht : s.ringType r = 0) :
    s.fetchReady r = false := by
  obtain ⟨f, hf⟩ := Option.isSome_iff_exists.1 hc
  simp [State.fetchReady, ht, hf]

theorem execEntryFetch_notReady {ring : BitVec 8} {s : State} (h : s.fetchReady ring.toNat = false) :
    execEntryFetch ring s = .next s := by
  simp [execEntryFetch, State.takeTurn, State.canFetch, State.fetch, h]

/-- Settles O8: FENCE's own effect, one lemma for each way in which a FENCE that waits ends (R134, log entries 30 and 55), and the
entry in execution that holds its ring's next fetch (R124). -/
theorem fencesWaitForTheirEntries : Obligations.FencesWaitForTheirEntries := by
  unfold Obligations.FencesWaitForTheirEntries
  refine ⟨?begins, ?waits, ?counts, ?disabled, ?holds⟩
  case begins =>
    rintro ring s v f h ha rfl
    exact execFence_admitted h ha
  case waits =>
    intro ring s v f target mark hc hv hw
    have run := execFenceComplete_waiting hc hv hw
    refine ⟨fun finished => run.trans (by rw [if_pos finished]), fun left halted => run.trans ?_, fun left running => run.trans ?_,
      fun timed passed left => execFenceTimeout_passed hc hv hw ⟨timed, passed, left⟩⟩
    · rw [if_neg (Nat.not_le.2 left), if_pos halted]
    · simp [Nat.not_le.2 left, running]
  case counts =>
    intro s f
    rw [State.fenceLeft, State.unfinished_eq]
  case disabled =>
    intro s f q v _ ho hs hne hq hv
    exact ⟨s.cut f, State.disableRing_fenced ho hs hne hq hv, s.ringEn_cut f⟩
  case holds =>
    intro ring s hc ht
    exact execEntryFetch_notReady (State.fetchReady_executing hc ht)

end Sys2Proof.Machine
end

section
/-!
SUPPORT for chapter 09 (R60, R202 to R204): what a raised event and a recognised wake source leave alone of the SENSE block,
what a sample of one slot leaves alone of the others, and the slots that sample at the end of a tick.
-/

namespace Sys2Proof.Machine

/-! ### What events and wakes leave of SENSE -/

/-- t holds what s holds in SENSE, in force, in the memories and in the registers from the SENSE results up. -/
structure SenseKept (s t : State) : Prop where
  force : t.force = s.force
  sense : t.sense = s.sense
  stores : storesSame s t
  reg : ∀ a, Reg.SENSE_RESULT ≤ a → t.reg a = s.reg a

theorem SenseKept.refl (s : State) : SenseKept s s := ⟨rfl, rfl, ⟨rfl, rfl, rfl, rfl⟩, fun _ _ => rfl⟩

theorem SenseKept.trans {s t u : State} (h : SenseKept s t) (k : SenseKept t u) : SenseKept s u :=
  have ⟨hhall, hbanks, hflash, hfuses⟩ := h.stores
  have ⟨khall, kbanks, kflash, kfuses⟩ := k.stores
  ⟨k.force.trans h.force, k.sense.trans h.sense, ⟨khall.trans hhall, kbanks.trans hbanks, kflash.trans hflash,
    kfuses.trans hfuses⟩, fun a ha => (k.reg a ha).trans (h.reg a ha)⟩

theorem SenseKept.ite {s t u : State} {c : Prop} [Decidable c] (ht : SenseKept s t) (hu : SenseKept s u) :
    SenseKept s (if c then t else u) := by
  split
  · exact ht
  · exact hu

theorem SenseKept.setReg {s t : State} (h : SenseKept s t) {a : Nat} (ha : a < Reg.SENSE_RESULT) (v : Word) :
    SenseKept s (t.setReg a v) :=
  ⟨h.force, h.sense, h.stores, fun b hb =>
    (State.reg_setReg_other t a b v (Nat.ne_of_gt (Nat.lt_of_lt_of_le ha hb))).trans (h.reg b hb)⟩

theorem SenseKept.setLadder {s t : State} (h : SenseKept s t) (x : Ladder) : SenseKept s (t.setLadder x) :=
  ⟨h.force, h.sense, h.stores, h.reg⟩

theorem SenseKept.completeRing {s t : State} (h : SenseKept s t) (r : Nat) (st : Status) (res : List Word) :
    SenseKept s (t.completeRing r st res) := by
  obtain ⟨force, sense, ⟨hall, banks, flash, fuses⟩, reg⟩ := h
  exact ⟨by simp [force], by simp [sense], ⟨by simp [hall], by simp [banks], by simp [flash], by simp [fuses]⟩,
    fun a ha => by simp [reg a ha]⟩

/-- The registers that a raise may write lie below the SENSE results. -/
theorem raiseReg_sense {a : Nat} (h : Reg.SENSE_RESULT ≤ a) : raiseReg a = false := by
  have above : Reg.CUE_EV_PEND + 16 ≤ a := Nat.le_trans (by decide) h
  simp [raiseReg, above]

theorem State.raise_senseKept (s : State) {e : Nat} (he : e < 128) (arg : Word) : SenseKept s (s.raise e arg) :=
  ⟨s.raise_force e he arg, s.raise_sense e he arg,
    ⟨s.raise_hall e he arg, s.raise_banks e he arg, s.raise_flash e he arg, s.raise_fuses e he arg⟩,
    fun _ ha => s.reg_raise e he arg _ (raiseReg_sense ha)⟩

theorem State.answerMove_senseKept (s : State) (st : Status) (res : List Word) : SenseKept s (s.answerMove st res) := by
  unfold State.answerMove
  split
  · exact ((SenseKept.refl s).setLadder _).completeRing _ st res
  · exact .refl s

/-- A move begun writes the ladder and its register alone. -/
theorem SenseKept.beginMove {s u : State} (h : SenseKept s u) (t : Nat) (x : Ladder) :
    SenseKept s (((u.setTgt t).setFlag Reg.DEV_LADDER_STATE 7 true).setLadder x) :=
  ((h.setReg (a := Reg.DEV_LADDER_STATE) (by decide) _).setReg (a := Reg.DEV_LADDER_STATE) (by decide) _).setLadder x

/-- SENSE is kept, and with it the current rung and the ceiling. -/
structure RungKept (s t : State) : Prop extends SenseKept s t where
  cur : t.cur = s.cur
  ceil : t.ceil = s.ceil

theorem RungKept.refl (s : State) : RungKept s s := ⟨.refl s, rfl, rfl⟩

theorem RungKept.setReg {s t : State} (h : RungKept s t) {a : Nat}
    (ha : a < Reg.SENSE_RESULT ∧ Reg.DEV_LADDER_STATE ≠ a ∧ Reg.DEV_FORCE ≠ a) (v : Word) : RungKept s (t.setReg a v) :=
  ⟨h.toSenseKept.setReg ha.1 v, (congrArg (field · 2 0) (t.reg_setReg_other a _ v ha.2.1)).trans h.cur,
    (congrArg (field · 2 0) (t.reg_setReg_other a _ v ha.2.2)).trans h.ceil⟩

theorem RungKept.setLadder {s t : State} (h : RungKept s t) (x : Ladder) : RungKept s (t.setLadder x) :=
  ⟨h.toSenseKept.setLadder x, h.cur, h.ceil⟩

/-- CORE's clock shows in FREQ, apart from CUR. -/
theorem RungKept.setCore {s t : State} (h : RungKept s t) (c : CoreClock) : RungKept s (t.setCore c) :=
  have k := h.setLadder { t.ladder with core := c }
  ⟨k.toSenseKept.setReg (a := Reg.DEV_LADDER_STATE) (by decide) _,
    (State.fld_setFld_other _ _ 10 8 _ _ 2 0 (by decide) (by decide) (by decide)).trans k.cur,
    (State.fld_setFld_other _ _ 10 8 _ _ 2 0 (by decide) (by decide) (by decide)).trans k.ceil⟩

/-- The end of a burst counts it and stops CORE (R66). -/
theorem State.endBurst_rungKept (s : State) : RungKept s s.endBurst := by
  unfold State.endBurst
  split
  · have counted (v w : Word) := ((RungKept.refl s).setReg (a := Reg.DEV_BURST_COUNT) (by decide) v).setReg
      (a := Reg.DEV_BURST_TICKS) (by decide) w
    exact ((counted _ _).setLadder _).setCore .stopped
  · exact .refl s

/-- A request of no verb for a rung above the current one, within the ceiling, begins a move and ends none (R54, R55). -/
theorem RungKept.request {s u : State} (h : RungKept s u) {target : Nat} (cause : MoveCause) (hc : s.ceil ≤ target)
    (ht : target < s.cur) : SenseKept s (u.request target cause none) := by
  have elsewhere : max target u.ceil ≠ u.cur := by rw [h.ceil, h.cur]; omega
  have fromRest := h.toSenseKept.beginMove (max target u.ceil)
  have superseding := (h.toSenseKept.trans (u.answerMove_senseKept .superseded [])).beginMove (max target u.ceil)
  unfold State.request
  simp only [if_neg elsewhere]
  exact .ite (fromRest _) (.ite (superseding _) (.ite (superseding _) (superseding _)))

/-- A wake source recognised writes its registers, ends a burst and begins a move; it moves up, so it ends none (R60). -/
theorem State.wake_senseKept (s : State) (b : Nat) : SenseKept s (s.wake b) := by
  unfold State.wake
  dsimp only
  split
  case isTrue => exact .refl s
  case isFalse watched =>
    have above : max (s.fld Reg.DEV_WAKE_TGT (2 * b + 1) (2 * b)) s.ceil < s.cur := by
      simp only [Bool.or_eq_true, decide_eq_true_eq, not_or] at watched
      exact Nat.lt_of_not_le watched.2
    have added : RungKept s (s.setFlag Reg.DEV_WAKE_SRC b true) :=
      (RungKept.refl s).setReg (a := Reg.DEV_WAKE_SRC) (by decide) _
    have recorded (v w : Word) := (s.endBurst_rungKept.setReg (a := Reg.DEV_WAKE_SRC) (by decide) v).setReg
      (a := Reg.DEV_WAKE_TICK) (by decide) w
    exact .ite (.ite (added.request .wake (Nat.le_max_right _ _) above) added.toSenseKept)
      (.ite (.refl s) (((recorded _ _).setLadder _).request .wake (Nat.le_max_right _ _) above))

/-! ### The words of a slot -/

theorem slotWord_ge (n w : Nat) : Reg.SENSE_SLOT_W0 ≤ slotWord n w := by
  unfold slotWord
  omega

theorem slotWord_ge_result (n w : Nat) : Reg.SENSE_RESULT ≤ slotWord n w :=
  Nat.le_trans (by decide) (slotWord_ge n w)

theorem slotWord_ne {m n : Nat} (h : m ≠ n) (w : Nat) : slotWord m w ≠ slotWord n w := by
  unfold slotWord
  omega

/-- The result registers lie among SENSE's own, below the slot words (Tables 9-9 and 9-11). -/
theorem resultReg_range : ∀ ch < 16, Reg.SENSE_RESULT ≤ resultReg ch ∧ resultReg ch < Reg.SENSE_SLOT_W0 := by decide

/-! ### What a sample leaves of the other slots -/

/-- In what slots sample by, t differs from s at most in the state of slot n: its COUNT and ASSERTED. -/
structure SlotOnly (n : Nat) (s t : State) : Prop where
  force : t.force = s.force
  fresh : t.sense.fresh = s.sense.fresh
  reg : ∀ a, Reg.SENSE_RESULT ≤ a → a ≠ slotWord n 1 → t.reg a = s.reg a
  refused : t.flag (slotWord n 1) 11 = s.flag (slotWord n 1) 11

theorem SlotOnly.trans {n : Nat} {s t u : State} (h : SlotOnly n s t) (k : SlotOnly n t u) : SlotOnly n s u :=
  ⟨k.force.trans h.force, k.fresh.trans h.fresh, fun a ha hn => (k.reg a ha hn).trans (h.reg a ha hn),
    k.refused.trans h.refused⟩

theorem SenseKept.slotOnly {s t : State} (h : SenseKept s t) (n : Nat) : SlotOnly n s t :=
  ⟨h.force, congrArg Sense.fresh h.sense, fun a ha _ => h.reg a ha, congrArg (bit · 11) (h.reg _ (slotWord_ge_result n 1))⟩

theorem State.setCount_slotOnly (s : State) (n c : Nat) : SlotOnly n s (s.setFld (slotWord n 1) 23 20 c) :=
  ⟨rfl, rfl, fun _ _ hn => s.reg_setFld_other _ _ _ _ _ hn,
    s.flag_setFld_other _ _ _ _ _ _ (by decide) (by decide) (.inr (.inl (by decide)))⟩

theorem State.setAsserted_slotOnly (s : State) (n : Nat) (on : Bool) : SlotOnly n s (s.setFlag (slotWord n 1) 16 on) :=
  ⟨rfl, rfl, fun _ _ hn => s.reg_setFlag_other _ _ _ _ hn, s.flag_setFlag_other _ _ _ _ _ (by decide) (.inr (by decide))⟩

theorem SlotOnly.asserted {n m : Nat} {s t : State} (h : SlotOnly n s t) (hm : m ≠ n) : t.slotAsserted m = s.slotAsserted m :=
  congrArg (bit · 16) (h.reg _ (slotWord_ge_result m 1) (slotWord_ne hm 1))

theorem SlotOnly.ffld {n : Nat} {s t : State} (h : SlotOnly n s t) (a hi lo : Nat) : t.ffld a hi lo = s.ffld a hi lo := by
  simp only [State.ffld, State.inForce, h.force]

theorem SlotOnly.slotOn {n : Nat} {s t : State} (h : SlotOnly n s t) (m : Nat) : t.slotOn m = s.slotOn m := by
  have err : t.flag (slotWord m 1) 11 = s.flag (slotWord m 1) 11 := by
    by_cases hm : m = n
    · exact hm ▸ h.refused
    · exact congrArg (bit · 11) (h.reg _ (slotWord_ge_result m 1) (slotWord_ne hm 1))
  simp only [State.slotOn, State.fflag, State.inForce, h.force, err]

theorem SlotOnly.result {n : Nat} {s t : State} (h : SlotOnly n s t) {ch : Nat} (hc : ch < 16) :
    t.reg (resultReg ch) = s.reg (resultReg ch) :=
  have ⟨above, below⟩ := resultReg_range ch hc
  h.reg _ above (Nat.ne_of_lt (Nat.lt_of_lt_of_le below (slotWord_ge n 1)))

/-- The VALUE that slot n samples: that of its channel's result. -/
def State.slotValue (s : State) (n : Nat) : Nat := s.fld (resultReg (s.ffld (slotWord n 1) 3 0)) 15 0

theorem SlotOnly.slotHears {n : Nat} {s t : State} (h : SlotOnly n s t) (m : Nat) : t.slotHears m = s.slotHears m := by
  have good : t.channelGood (s.ffld (slotWord m 1) 3 0) = s.channelGood (s.ffld (slotWord m 1) 3 0) := by
    simp only [State.channelGood, State.flag, h.result (field_lt (s.inForce (slotWord m 1)) 3 0), State.ffld]
  simp only [State.slotHears, h.slotOn, h.ffld, h.fresh, good]

theorem SlotOnly.slotValue {n : Nat} {s t : State} (h : SlotOnly n s t) (m : Nat) : t.slotValue m = s.slotValue m := by
  rw [State.slotValue, h.ffld]
  exact congrArg (field · 15 0) (h.result (field_lt (s.inForce (slotWord m 1)) 3 0))

/-! ### The condition of a slot (R203) -/

/-- LEVEL of slot n. -/
def State.slotLevel (s : State) (n : Nat) : Int := signed 16 (s.ffld (slotWord n 0) 15 0)

/-- The hysteresis of slot n: HYST, or the default of its channel where that is 0 (R201). -/
def State.slotHyst (s : State) (n : Nat) : Nat :=
  if s.ffld (slotWord n 0) 25 16 = 0 then defaultHyst (s.ffld (slotWord n 1) 3 0) else s.ffld (slotWord n 0) 25 16

theorem State.slotCrosses_above_clear {s : State} {n : Nat} (hd : s.fflag (slotWord n 1) 4 = false)
    (ha : s.slotAsserted n = false) (v : Int) : s.slotCrosses n v = decide (s.slotLevel n < v) := by
  simp only [State.slotCrosses, hd, ha]
  rfl

theorem State.slotCrosses_above_asserted {s : State} {n : Nat} (hd : s.fflag (slotWord n 1) 4 = false)
    (ha : s.slotAsserted n = true) (v : Int) : s.slotCrosses n v = decide (v < s.slotLevel n - s.slotHyst n) := by
  simp only [State.slotCrosses, hd, ha, State.slotHyst, apply_ite Nat.cast]
  rfl

theorem State.slotCrosses_below_clear {s : State} {n : Nat} (hd : s.fflag (slotWord n 1) 4 = true)
    (ha : s.slotAsserted n = false) (v : Int) : s.slotCrosses n v = decide (v < s.slotLevel n) := by
  simp only [State.slotCrosses, hd, ha]
  rfl

theorem State.slotCrosses_below_asserted {s : State} {n : Nat} (hd : s.fflag (slotWord n 1) 4 = true)
    (ha : s.slotAsserted n = true) (v : Int) : s.slotCrosses n v = decide (s.slotLevel n + s.slotHyst n < v) := by
  simp only [State.slotCrosses, hd, ha, State.slotHyst, apply_ite Nat.cast]
  rfl

/-! ### One sample (R203) -/

theorem State.slotSample_below {s : State} {n value : Nat} (h : s.slotCrosses n (signed 16 value) = false) :
    s.slotSample n value = s.setFld (slotWord n 1) 23 20 0 := by
  simp [State.slotSample, h]

theorem State.slotSample_short {s : State} {n value : Nat} (h : s.slotCrosses n (signed 16 value) = true)
    (hd : s.fld (slotWord n 1) 23 20 + 1 < max 1 (s.ffld (slotWord n 0) 29 26)) :
    s.slotSample n value = s.setFld (slotWord n 1) 23 20 (s.fld (slotWord n 1) 23 20 + 1) := by
  simp only [State.slotSample, if_pos h, if_neg (Nat.not_le.2 hd)]

theorem State.slotSample_reached {s : State} {n value : Nat} (h : s.slotCrosses n (signed 16 value) = true)
    (hd : max 1 (s.ffld (slotWord n 0) 29 26) ≤ s.fld (slotWord n 1) 23 20 + 1) :
    s.slotSample n value = s.slotChange n value (!s.slotAsserted n) := by
  simp only [State.slotSample, if_pos h, if_pos hd]

/-- A slot that has changed state, before its event and the wake source: ASSERTED, COUNT 0, and the slots to be looked at. -/
def State.slotFlipped (s : State) (n : Nat) (on : Bool) : State :=
  ((s.setFld (slotWord n 1) 23 20 0).setFlag (slotWord n 1) 16 on).setSense { s.sense with slotsDirty := true }

/-- A change of state with its event, and with WAKE where it asserts. -/
theorem State.slotChange_eq (s : State) (n value : Nat) (on : Bool) : s.slotChange n value on =
    if on && s.fflag (slotWord n 1) 6 then
      ((s.slotFlipped n on).raise (if on then 40 else 41) ((s.slotFlipped n on).slotArg n value)).wake 7
    else (s.slotFlipped n on).raise (if on then 40 else 41) ((s.slotFlipped n on).slotArg n value) := by
  have event : (if on then 40 else 41) < 128 := by cases on <;> decide
  have wakes : ((s.slotFlipped n on).raise (if on then 40 else 41) ((s.slotFlipped n on).slotArg n value)).fflag
      (slotWord n 1) 6 = s.fflag (slotWord n 1) 6 := by
    simp only [State.fflag, State.inForce, State.raise_force _ _ event]
    rfl
  rw [← wakes]
  rfl

theorem State.slotChange_senseKept (s : State) (n value : Nat) (on : Bool) :
    SenseKept (s.slotFlipped n on) (s.slotChange n value on) := by
  have raised := (s.slotFlipped n on).raise_senseKept (e := if on then 40 else 41) (by cases on <;> decide)
    ((s.slotFlipped n on).slotArg n value)
  rw [State.slotChange_eq]
  split
  · exact raised.trans (State.wake_senseKept _ 7)
  · exact raised

theorem State.slotFlipped_asserted (s : State) (n : Nat) (on : Bool) : (s.slotFlipped n on).slotAsserted n = on :=
  State.flag_setFlag _ _ 16 on (by decide)

theorem State.slotFlipped_count (s : State) (n : Nat) (on : Bool) : (s.slotFlipped n on).fld (slotWord n 1) 23 20 = 0 :=
  (State.fld_setFlag_other _ _ 16 on _ 23 20 (by decide) (.inr (.inl (by decide)))).trans
    (s.fld_setFld _ 23 20 0 (by decide) (by decide))

theorem State.slotFlipped_slotOnly (s : State) (n : Nat) (on : Bool) : SlotOnly n s (s.slotFlipped n on) :=
  have ⟨force, fresh, reg, refused⟩ := (s.setCount_slotOnly n 0).trans (State.setAsserted_slotOnly _ n on)
  ⟨force, fresh, reg, refused⟩

/-- A sample writes the state of its own slot alone, of all that slots sample by. -/
theorem State.slotSample_slotOnly (s : State) (n value : Nat) : SlotOnly n s (s.slotSample n value) := by
  unfold State.slotSample
  split
  · dsimp only
    split
    · exact (s.slotFlipped_slotOnly n _).trans ((s.slotChange_senseKept n value _).slotOnly n)
    · exact s.setCount_slotOnly n _
  · exact s.setCount_slotOnly n 0

/-! ### The slots of a tick (R202, R203) -/

/-- What is published has been sampled. -/
def State.sampled (t : State) : State := t.setSense { t.sense with fresh := [] }

/-- Where slots hear in t what they hear in s, the fold over all of them takes the samples of those that hear in s. -/
theorem foldl_slotSample {s : State} (l : List Nat) {t : State}
    (same : ∀ k, t.slotHears k = s.slotHears k ∧ t.slotValue k = s.slotValue k) :
    l.foldl (fun t k => if t.slotHears k then t.slotSample k (t.slotValue k) else t) t =
      (l.filter s.slotHears).foldl (fun t k => t.slotSample k (s.slotValue k)) t := by
  induction l generalizing t with
  | nil => rfl
  | cons n l ih =>
    obtain ⟨hears, value⟩ := same n
    rw [List.foldl_cons, hears, value]
    cases heard : s.slotHears n with
    | false => simpa [heard] using ih same
    | true =>
      have only := t.slotSample_slotOnly n (s.slotValue n)
      have next k : (t.slotSample n (s.slotValue n)).slotHears k = s.slotHears k ∧
          (t.slotSample n (s.slotValue n)).slotValue k = s.slotValue k :=
        ⟨(only.slotHears k).trans (same k).1, (only.slotValue k).trans (same k).2⟩
      simpa [heard] using ih next

/-- The slots that hear sample in ascending number, each the result as it stood before the first of them. -/
theorem State.sampleSlots_eq (s : State) : s.sampleSlots =
    (((List.range 16).filter s.slotHears).foldl (fun t k => t.slotSample k (s.slotValue k)) s).sampled :=
  congrArg State.sampled (foldl_slotSample (s := s) (List.range 16) fun _ => ⟨rfl, rfl⟩)

/-- Two rising lists with the same members are one list. -/
theorem rising_ext {l k : List Nat} (hl : l.Pairwise (· < ·)) (hk : k.Pairwise (· < ·)) (h : ∀ a, a ∈ l ↔ a ∈ k) : l = k :=
  ((List.perm_ext_iff_of_nodup (hl.imp Nat.ne_of_lt) (hk.imp Nat.ne_of_lt)).2 h).eq_of_pairwise
    (fun _ _ _ _ hab hba => absurd hba (Nat.lt_asymm hab)) hl hk

/-- The slots that hear, given as a rising list. -/
theorem State.sampleSlots_of_hearing {s : State} {l : List Nat} (rising : l.Pairwise (· < ·))
    (h : ∀ k, k ∈ l ↔ k < 16 ∧ s.slotHears k = true) :
    s.sampleSlots = (l.foldl (fun t k => t.slotSample k (s.slotValue k)) s).sampled := by
  have hearing : (List.range 16).filter s.slotHears = l :=
    rising_ext (List.pairwise_lt_range.filter _) rising (by simp [h])
  rw [State.sampleSlots_eq, hearing]

/-- A slot samples a good result that its channel published in this tick (R202). -/
theorem State.slotHears_iff (s : State) (n : Nat) : s.slotHears n = true ↔ s.slotOn n = true ∧
    s.ffld (slotWord n 1) 3 0 ∈ s.sense.fresh ∧ s.channelGood (s.ffld (slotWord n 1) 3 0) = true := by
  simp [State.slotHears, and_assoc]

theorem State.sampleSlots_idle {s : State} (h : s.sense.fresh = []) : s.sampleSlots = s := by
  have none_hears k : ¬ s.slotHears k = true := by simp [State.slotHears_iff, h]
  rw [State.sampleSlots_of_hearing (l := []) .nil (by simp [none_hears]), List.foldl_nil, State.sampled, ← h]
  rfl

end Sys2Proof.Machine
end

section
/-!
PROOF of how a threshold slot debounces its samples, and of the order in which slots sample.
-/

namespace Sys2Proof.Machine

/-- Settles O36: a sample by its three outcomes, the change of state through what its event and wake source leave of SENSE,
and the samples of a tick through the rising list of the slots that hear (R202 to R204, log entry 36). -/
theorem slotsDebounceTheirSamples : Obligations.SlotsDebounceTheirSamples := by
  unfold Obligations.SlotsDebounceTheirSamples
  intro s n value hn
  refine ⟨State.slotSample_below, State.slotSample_short, ?reached, ?crossing, s.slotHears_iff n, State.sampleSlots_idle, ?one,
    ?two⟩
  case reached =>
    intro crosses reached
    have changed := State.slotSample_reached crosses reached
    have kept := s.slotChange_senseKept n value (!s.slotAsserted n)
    rw [← changed] at kept
    have slot := kept.reg _ (slotWord_ge_result n 1)
    refine ⟨(congrArg (bit · 16) slot).trans (s.slotFlipped_asserted n _), (congrArg (field · 23 20) slot).trans
      (s.slotFlipped_count n _), congrArg Sense.slotsDirty kept.sense, kept.stores, fun m _ other =>
      (s.slotSample_slotOnly n value).asserted other, ?_⟩
    rintro s1 s2 rfl rfl
    rw [changed, State.slotChange_eq]
    cases s.slotAsserted n <;> rfl
  case crossing =>
    intro level hyst v hl hh
    obtain rfl : level = s.slotLevel n := hl
    obtain rfl : hyst = s.slotHyst n := hh
    refine ⟨fun above clear => ?_, fun above asserted => ?_, fun below clear => ?_, fun below asserted => ?_⟩
    · rw [State.slotCrosses_above_clear above clear, decide_eq_true_iff]
    · rw [State.slotCrosses_above_asserted above asserted, decide_eq_true_iff]
    · rw [State.slotCrosses_below_clear below clear, decide_eq_true_iff]
    · rw [State.slotCrosses_below_asserted below asserted, decide_eq_true_iff]
  case one =>
    intro hears others
    refine State.sampleSlots_of_hearing (l := [n]) (List.pairwise_singleton _ _) fun k => ?_
    rw [List.mem_singleton]
    refine ⟨?_, fun ⟨hk, heard⟩ => Decidable.byContradiction fun other => ?_⟩
    · rintro rfl
      exact ⟨hn, hears⟩
    · rw [others k hk other] at heard
      cases heard
  case two =>
    rintro m t before hm hears others rfl
    refine State.sampleSlots_of_hearing (l := [m, n]) (List.pairwise_pair.2 before) fun k => ?_
    rw [List.mem_cons, List.mem_singleton]
    refine ⟨?_, fun ⟨hk, heard⟩ => Decidable.byContradiction fun other => ?_⟩
    · rintro (rfl | rfl)
      · exact ⟨Nat.lt_trans before hn, hm⟩
      · exact ⟨hn, hears⟩
    · obtain ⟨notFirst, notSecond⟩ := not_or.1 other
      rw [others k hk notFirst notSecond] at heard
      cases heard

end Sys2Proof.Machine
end

section
/-!
SUPPORT for chapter 10 (R217, R219, R224, R225): what the tap step of an item writes, and that an alarm at a value which the
Metronome skips leaves the Metronome and the tuning state alone.
-/

namespace Sys2Proof.Machine

/-! ### One tap (R219) -/

/-- A tap ends at the target, or has its full size and goes toward it. -/
theorem tapMove_toward {d : Int} (a b : Int) (hd : 0 ≤ d) :
    tapMove d a b = b ∨ (tapMove d a b - a = d ∧ a < b) ∨ (tapMove d a b - a = -d ∧ b < a) := by
  unfold tapMove clampInt
  omega

theorem tapMove_step_le {d : Int} (a b : Int) (hd : 0 ≤ d) : tapMove d a b - a ≤ d ∧ -d ≤ tapMove d a b - a := by
  unfold tapMove clampInt
  omega

theorem tapMove_nearer {d : Int} (a b : Int) (hd : 0 ≤ d) : (tapMove d a b - b).natAbs ≤ (a - b).natAbs := by
  unfold tapMove clampInt
  omega

/-! ### The state of an item -/

@[simp] theorem State.item_setItem_self (s : State) (n : Nat) (v : TuneItem) : (s.setItem n v).item n = v :=
  Cells.get_put_self _ s.tune.items n v

/-- States that differ in what a raise may write alone have the same Metronome, step of the start and tuning state. -/
theorem State.of_quiet {s t : State} (h : t.quiet = s.quiet) : t.metro = s.metro ∧ t.boot = s.boot ∧ t.tune = s.tune :=
  ⟨show t.quiet.metro = s.quiet.metro by rw [h], show t.quiet.boot = s.quiet.boot by rw [h],
    show t.quiet.tune = s.quiet.tune by rw [h]⟩

theorem State.item_of_tune {s t : State} (h : t.tune = s.tune) (n : Nat) : t.item n = s.item n := by
  rw [State.item, h, State.item]

theorem State.aoOn_of_boot {s t : State} (h : t.boot = s.boot) : t.aoOn = s.aoOn := by
  simp only [State.aoOn, h]

/-! ### SETTLED (R219) -/

/-- SETTLED may stay as it is, fall, or rise with its event. -/
theorem State.settle_cases (s : State) (n : Nat) : s.settle n = s ∨ s.settle n = s.setFlag (itemStat n) 4 false ∨
    s.settle n = (s.setFlag (itemStat n) 4 true).raise 58 (word n) := by
  unfold State.settle
  dsimp only
  split
  · split
    · exact .inl rfl
    · exact .inr (.inr rfl)
  · exact .inr (.inl rfl)

theorem State.settle_quiet (s : State) (n : Nat) : (s.settle n).quiet = s.quiet := by
  rcases s.settle_cases n with h | h | h
  · rw [h]
  · rw [h]
    rfl
  · rw [h, (State.raise_raised _ 58 (by decide) _).same]
    rfl

theorem State.reg_settle_other (s : State) {n a : Nat} (hr : raiseReg a = false) (ha : a ≠ itemStat n) :
    (s.settle n).reg a = s.reg a := by
  rcases s.settle_cases n with h | h | h
  · rw [h]
  · rw [h, State.reg_setFlag_other _ _ _ _ _ ha]
  · rw [h, State.reg_raise _ 58 (by decide) _ _ hr, State.reg_setFlag_other _ _ _ _ _ ha]

/-! ### Applied fields -/

theorem State.setApplied_quiet (s : State) (n : Nat) (f : List Int) :
    (s.setApplied n f).quiet = (s.setItem n { s.item n with applied := f }).quiet := by
  unfold State.setApplied
  dsimp only
  split <;> rfl

/-- The applied fields are written to APPLIED, and for item 5 to the key threshold too. -/
theorem State.reg_setApplied (s : State) (n : Nat) (f : List Int) {a : Nat} (ha : a ≠ Reg.KEYS_THRESH) :
    (s.setApplied n f).reg a = if a = Reg.TUNE_ITEM_APPLIED + 4 * n then packItem n f else s.reg a := by
  have applied := (s.setItem n { s.item n with applied := f }).reg_setReg (Reg.TUNE_ITEM_APPLIED + 4 * n) a (packItem n f)
  unfold State.setApplied
  dsimp only
  split
  · exact (State.reg_setFld_other _ _ _ _ _ _ ha).trans applied
  · exact applied

/-! ### The tap step (R217, R219) -/

/-- The applied fields after one tap: of 32 for item 0. -/
def State.tapped (s : State) (n : Nat) : List Int :=
  List.zipWith (tapMove (if n = 0 then 32 else 1)) (s.item n).applied (s.item n).target

/-- An item that has nothing to step, or may not step: it measures, it is at its target, or the boundary is not its own. -/
def State.tapHeld (s : State) (n : Nat) : Prop :=
  (s.item n).measuring = true ∨ (s.item n).applied = (s.item n).target ∨ s.itemBoundary n = false

theorem State.tapStep_held {s : State} {n : Nat} (h : s.tapHeld n) : s.tapStep n = s :=
  if_pos (by simpa [State.tapHeld, or_assoc] using h)

theorem State.tapStep_free {s : State} {n : Nat} (h : ¬ s.tapHeld n) :
    s.tapStep n = (s.setApplied n (s.tapped n)).settle n :=
  if_neg (by simpa [State.tapHeld, or_assoc] using h)

theorem State.setApplied_settle_quiet (s : State) (n : Nat) (f : List Int) :
    ((s.setApplied n f).settle n).quiet = (s.setItem n { s.item n with applied := f }).quiet :=
  (State.settle_quiet _ n).trans (s.setApplied_quiet n f)

theorem State.item_setApplied_settle (s : State) (n : Nat) (f : List Int) :
    ((s.setApplied n f).settle n).item n = { s.item n with applied := f } := by
  obtain ⟨-, -, tune⟩ := State.of_quiet (s.setApplied_settle_quiet n f)
  exact (State.item_of_tune tune n).trans (s.item_setItem_self n _)

theorem State.reg_setApplied_settle (s : State) {n : Nat} (f : List Int) (hn : n < 8) :
    ((s.setApplied n f).settle n).reg (Reg.TUNE_ITEM_APPLIED + 4 * n) = packItem n f := by
  have own : ∀ m < 8, raiseReg (Reg.TUNE_ITEM_APPLIED + 4 * m) = false ∧ Reg.TUNE_ITEM_APPLIED + 4 * m ≠ itemStat m ∧
      Reg.TUNE_ITEM_APPLIED + 4 * m ≠ Reg.KEYS_THRESH := by decide
  obtain ⟨notRaise, notStat, notKeys⟩ := own n hn
  rw [State.reg_settle_other _ notRaise notStat, State.reg_setApplied s n f notKeys, if_pos rfl]

/-- A tap step leaves the Metronome, the step of the start, the accumulator and the choice of the AO clock's source alone. -/
theorem State.tapStep_timeKept (s : State) {n : Nat} (hn : n < 8) : (s.tapStep n).metro = s.metro ∧
    (s.tapStep n).boot = s.boot ∧ (s.tapStep n).tune.acc = s.tune.acc ∧
    (s.tapStep n).flag Reg.DEV_AO_CLK 0 = s.flag Reg.DEV_AO_CLK 0 := by
  by_cases held : s.tapHeld n
  · rw [State.tapStep_held held]
    exact ⟨rfl, rfl, rfl, rfl⟩
  · obtain ⟨metro, boot, tune⟩ := State.of_quiet (s.setApplied_settle_quiet n (s.tapped n))
    have apart : ∀ m < 8, Reg.DEV_AO_CLK ≠ itemStat m ∧ Reg.DEV_AO_CLK ≠ Reg.TUNE_ITEM_APPLIED + 4 * m := by decide
    obtain ⟨notStat, notApplied⟩ := apart n hn
    rw [State.tapStep_free held]
    refine ⟨metro, boot, (congrArg Tune.acc tune :), congrArg (bit · 0) ?_⟩
    rw [State.reg_settle_other _ (by decide) notStat, State.reg_setApplied s n _ (by decide), if_neg notApplied]

/-- Whose boundary it is (Table 10-1, R213, R221). -/
theorem State.itemBoundary_iff (s : State) {n : Nat} (hn : n < 8) : s.itemBoundary n = true ↔ s.aoOn = true ∧
    ((n = 4 ∨ n = 6) → s.cur ≤ 1) ∧ (n = 6 → s.flag Reg.INTAKE_DSI_CFG 0 = true ∧ s.fflag Reg.INTAKE_DSI_CFG 0 = true) ∧
    (n = 7 → s.pins.pg.getLsbD 12 = true) := by
  unfold State.itemBoundary
  split
  · simp
  · simp [and_comm]
  · simp
  · simp_all

/-! ### An alarm at a skipped value (R225) -/

/-- What the Metronome's advance writes: the Metronome and the tuning state. -/
def State.clock (s : State) : BitVec 48 × Tune := (s.metro, s.tune)

theorem State.completeRing_clock (s : State) (r : Nat) (st : Status) (res : List Word) :
    (s.completeRing r st res).clock = s.clock := by
  simp [State.clock]

theorem State.raise_clock (s : State) {e : Nat} (he : e < 128) (arg : Word) : (s.raise e arg).clock = s.clock := by
  simp [State.clock, he]

theorem State.answerMove_clock (s : State) (st : Status) (res : List Word) : (s.answerMove st res).clock = s.clock := by
  unfold State.answerMove
  split
  · exact State.completeRing_clock _ _ st res
  · rfl

theorem State.endBurst_clock (s : State) : s.endBurst.clock = s.clock := by
  unfold State.endBurst
  split <;> rfl

theorem State.settleRung_clock (s : State) : s.settleRung.clock = s.clock := by
  unfold State.settleRung
  dsimp only
  split
  · rfl
  · split <;> split <;> rfl

theorem State.endMove_clock (s : State) : s.endMove.clock = s.clock :=
  (State.raise_clock _ (by decide) _).trans s.settleRung_clock

/-- A request of no verb writes the ladder, after it has answered the move that it ends (R54, R55). -/
theorem State.request_clock (s : State) (target : Nat) (cause : MoveCause) :
    (s.request target cause none).clock = s.clock := by
  have answered := s.answerMove_clock .superseded []
  unfold State.request
  dsimp only
  split
  · split <;> rfl
  · split
    · exact answered
    · split
      · exact (State.endMove_clock _).trans answered
      · split
        · exact answered
        · exact answered

theorem State.wake_clock (s : State) (b : Nat) : (s.wake b).clock = s.clock := by
  unfold State.wake
  dsimp only
  split
  · rfl
  · split
    · split
      · exact State.request_clock _ _ _
      · rfl
    · split
      · rfl
      · exact (State.request_clock _ _ _).trans s.endBurst_clock

theorem State.skippedAlarm_clock (s : State) (k : Nat) : (s.skippedAlarm k).clock = s.clock := by
  unfold State.skippedAlarm
  split
  · exact (State.wake_clock _ 8).trans (State.raise_clock _ (by decide) _)
  · rfl

/-! ### The 1 s boundary (R224) -/

theorem State.oneSecond_uncorrected {s : State} (h : s.flag Reg.DEV_AO_CLK 0 = false ∨ s.aoOn = false) :
    s.oneSecond = { s.tapStep 0 with metro := s.metro + 1#48, tune := { (s.tapStep 0).tune with hold := none } } := by
  obtain ⟨metro, boot, -, source⟩ := s.tapStep_timeKept (n := 0) (by decide)
  have same : (!(s.tapStep 0).flag Reg.DEV_AO_CLK 0 || !(s.tapStep 0).aoOn) = true := by
    simpa [source, State.aoOn_of_boot boot] using h
  unfold State.oneSecond
  dsimp only
  rw [if_pos same, metro]

/-- On the crystal the Metronome holds for −k ticks, this one among them, or advances by 1 + k. -/
theorem State.oneSecond_corrected {s : State} (hx : s.flag Reg.DEV_AO_CLK 0 = true) (ho : s.aoOn = true) {acc k : Int}
    (hacc : acc = s.tune.acc + ((s.tapStep 0).item 0).applied.getD 0 0) (hk : k = clampInt (-4) 4 (acc.tdiv 1024)) :
    s.oneSecond.clock =
      if k < 0 then (s.metro, { (s.tapStep 0).tune with acc := acc - 1024 * k, hold := some (k.natAbs - 1) })
      else (s.metro + 1#48 + BitVec.ofNat 48 k.toNat, { (s.tapStep 0).tune with acc := acc - 1024 * k, hold := none }) := by
  obtain ⟨metro, boot, kept, source⟩ := s.tapStep_timeKept (n := 0) (by decide)
  have same : ¬ (!(s.tapStep 0).flag Reg.DEV_AO_CLK 0 || !(s.tapStep 0).aoOn) = true := by
    simp [source, State.aoOn_of_boot boot, hx, ho]
  rw [← kept] at hacc
  unfold State.oneSecond
  dsimp only
  rw [if_neg same, ← hacc, ← hk, ← metro]
  split
  · rfl
  · have alarm := State.skippedAlarm_clock { s.tapStep 0 with tune := { (s.tapStep 0).tune with acc := acc - 1024 * k } } k.toNat
    obtain ⟨metro', tune'⟩ := Prod.mk.inj alarm
    simp only [State.clock, metro', tune']

theorem execOneSecondBoundary_passed {s : State} (h : s.atSecond = true) :
    execOneSecondBoundary s = .next (State.oneSecond { s with edge := s.edge + 1#48 }) :=
  congrArg Host.Outcome.next (if_pos h)

theorem execOneSecondBoundary_clock {s : State} (h : s.atSecond = true) {metro : BitVec 48} {tune : Tune}
    (clock : (State.oneSecond { s with edge := s.edge + 1#48 }).clock = (metro, tune)) :
    ∃ t, execOneSecondBoundary s = .next t ∧ t.metro = metro ∧ t.tune.hold = tune.hold ∧ t.tune.acc = tune.acc := by
  obtain ⟨rfl, rfl⟩ := Prod.mk.inj clock
  exact ⟨_, execOneSecondBoundary_passed h, rfl, rfl, rfl⟩

theorem State.tune_of_bare {s t : State} (h : s.bare = t.bare) : s.tune = t.tune :=
  show s.bare.tune = t.bare.tune by rw [h]

theorem State.wiped_tune (s : State) : s.wiped.tune = {} := rfl

/-- POR clears the tuning state. -/
theorem execPor_tune (s : State) : ∃ t, execPor s = .next t ∧ t.tune = {} :=
  ⟨_, rfl, (State.tune_of_bare ((State.startLadder_bare _).trans (State.undefRegs_bare _))).trans
    s.cutJournal.cutFuses.wiped_tune⟩

end Sys2Proof.Machine
end

section
/-!
PROOF of how taps move toward their targets, and of the Metronome's correction at a 1 s boundary.
-/

namespace Sys2Proof.Machine

/-- Settles O38: the tap step by its two outcomes, and the 1 s boundary by one equation for the Metronome and the tuning state
(R217, R219, R221, R224, log entry 37). -/
theorem tapsAndSecondsStep : Obligations.TapsAndSecondsStep := by
  unfold Obligations.TapsAndSecondsStep
  refine ⟨fun _ a b hd => ⟨tapMove_toward a b hd, tapMove_step_le a b hd, tapMove_nearer a b hd⟩, ?taps,
    fun s _ hn => s.itemBoundary_iff hn, ?seconds, ?elsewhere, ?atSecond, ?holding, ?held, ?por⟩
  case taps =>
    intro s n hn
    refine ⟨State.tapStep_held, fun resting apart boundary => ?_⟩
    have free : ¬ s.tapHeld n := by simp [State.tapHeld, resting, apart, boundary]
    rw [State.tapStep_free free, State.item_setApplied_settle]
    exact ⟨rfl, rfl, s.reg_setApplied_settle _ hn⟩
  case seconds =>
    rintro s s1 second rfl acc k hacc hk
    have corrected crystal on :=
      State.oneSecond_corrected (s := { s with edge := s.edge + 1#48 }) crystal on hacc hk
    refine ⟨fun uncorrected => ?_, fun crystal on back => ?_, fun crystal on forth => ?_⟩
    · exact (execOneSecondBoundary_passed second).trans (congrArg Host.Outcome.next (State.oneSecond_uncorrected uncorrected))
    · exact execOneSecondBoundary_clock second ((corrected crystal on).trans (if_pos back))
    · exact execOneSecondBoundary_clock second ((corrected crystal on).trans (if_neg (Int.not_lt.2 forth)))
  case elsewhere =>
    intro s early
    exact congrArg Host.Outcome.next (if_neg (Bool.eq_false_iff.1 early))
  case atSecond =>
    intro s
    simp [State.atSecond]
  case holding =>
    intro s n hold
    unfold State.metroTick
    rw [hold]
    exact ⟨rfl, rfl⟩
  case held =>
    intro s hold
    unfold State.metroTick
    rw [hold]
    exact ⟨rfl, rfl⟩
  case por =>
    intro s
    obtain ⟨t, por, cleared⟩ := execPor_tune s
    exact ⟨t, por, congrArg Tune.acc cleared⟩

end Sys2Proof.Machine
end

section
/-!
PROOF of what holds of every command: it is answered, and it keeps the form of the memories, the factory fuses and the queue.
-/

namespace Sys2Proof.Machine

/-- Every command keeps the canonical form of the memories, the factory fuse words and the queue of the commands that wait. -/
theorem exec_keeps {s0 s t : State} (h : Keeps s0 s) (c : Instr) (e : exec c s = .next t) : Keeps s0 t :=
  match c with
  | .por => execPor_keeps h e
  | .startSequence vbat corrected factBad custBad => execStartSequence_keeps h vbat corrected factBad custBad e
  | .supplyStartTimeout => execSupplyStartTimeout_keeps h e
  | .bootBurst pulses => execBootBurst_keeps h pulses e
  | .hostRelease => execHostRelease_keeps h e
  | .bootRailStep => execBootRailStep_keeps h e
  | .bootRailPgTimeout => execBootRailPgTimeout_keeps h e
  | .crystalQualified => execCrystalQualified_keeps h e
  | .crystalLost => execCrystalLost_keeps h e
  | .pllLock => execPllLock_keeps h e
  | .resetNLow => execResetNLow_keeps h e
  | .systemResetEnd => execSystemResetEnd_keeps h e
  | .coreResetAfterMove => execCoreResetAfterMove_keeps h e
  | .coreResetEnd => execCoreResetEnd_keeps h e
  | .reset ring => execReset_keeps h ring e
  | .resetReqSystem port => execResetReqSystem_keeps h port e
  | .resetReqCore port => execResetReqCore_keeps h port e
  | .wdogConfig ring => execWdogConfig_keeps h ring e
  | .wdogKick ring => execWdogKick_keeps h ring e
  | .wdogKickWrite port => execWdogKickWrite_keeps h port e
  | .wdogEarly => execWdogEarly_keeps h e
  | .wdogExpiry => execWdogExpiry_keeps h e
  | .powerKeyHold vbat => execPowerKeyHold_keeps h vbat e
  | .vbatRise vbat => execVbatRise_keeps h vbat e
  | .ladderSet ring => execLadderSet_keeps h ring e
  | .ladderReqGo port => execLadderReqGo_keeps h port e
  | .ladderConfig ring => execLadderConfig_keeps h ring e
  | .ladderTune ring => execLadderTune_keeps h ring e
  | .alarmSet ring => execAlarmSet_keeps h ring e
  | .idleTimer => execIdleTimer_keeps h e
  | .descentJobsIdle => execDescentJobsIdle_keeps h e
  | .descentFrameStep => execDescentFrameStep_keeps h e
  | .descentPanelStep => execDescentPanelStep_keeps h e
  | .descentCoreStop => execDescentCoreStop_keeps h e
  | .descentFermataEntry => execDescentFermataEntry_keeps h e
  | .task1HaltedTacet => execTask1HaltedTacet_keeps h e
  | .task1Timeout => execTask1Timeout_keeps h e
  | .hostSelectWake port => execHostSelectWake_keeps h port e
  | .dsiLaneWake => execDsiLaneWake_keeps h e
  | .ascentCoreStart => execAscentCoreStart_keeps h e
  | .ascentPllSwitch => execAscentPllSwitch_keeps h e
  | .burstStart => execBurstStart_keeps h e
  | .burstEnd => execBurstEnd_keeps h e
  | .tokenRefill => execTokenRefill_keeps h e
  | .vcoreConfirmed mv => execVcoreConfirmed_keeps h mv e
  | .vcoreTimeout => execVcoreTimeout_keeps h e
  | .alarmMatch => execAlarmMatch_keeps h e
  | .hallLease ring => execHallLease_keeps h ring e
  | .leaseEnable port => execLeaseEnable_keeps h port e
  | .leaseDisable port => execLeaseDisable_keeps h port e
  | .padSet ring => execPadSet_keeps h ring e
  | .modeExpert port => execModeExpert_keeps h port e
  | .modeExpertTakeEffect page => execModeExpertTakeEffect_keeps h page e
  | .modeBasic port => execModeBasic_keeps h port e
  | .frameBoundary cycles => execFrameBoundary_keeps h cycles e
  | .syntheticFrameBoundary => execSyntheticFrameBoundary_keeps h e
  | .adcIdleBoundary => execAdcIdleBoundary_keeps h e
  | .linkIdleBoundary => execLinkIdleBoundary_keeps h e
  | .boundaryWaitTimeout ring => execBoundaryWaitTimeout_keeps h ring e
  | .hostRead port client off count clockKHz late => execHostRead_keeps h port client off count clockKHz late e
  | .hostWrite port client off ws tail => execHostWrite_keeps h port client off ws tail e
  | .registerWrite port => execRegisterWrite_keeps h port e
  | .readId port count => execReadId_keeps h port count e
  | .readStatus count => execReadStatus_keeps h count e
  | .writeEnable => execWriteEnable_keeps h e
  | .resetEnable => execResetEnable_keeps h e
  | .portReset => execPortReset_keeps h e
  | .portConfig ring => execPortConfig_keeps h ring e
  | .permSet ring => execPermSet_keeps h ring e
  | .permLock ring => execPermLock_keeps h ring e
  | .permLockWrite port => execPermLockWrite_keeps h port e
  | .permAutoLock => execPermAutoLock_keeps h e
  | .errClear ring => execErrClear_keeps h ring e
  | .doorbellWrite port => execDoorbellWrite_keeps h port e
  | .ringEnable port => execRingEnable_keeps h port e
  | .ringFillDone ring => execRingFillDone_keeps h ring e
  | .ringDisable port => execRingDisable_keeps h port e
  | .ringSetup ring => execRingSetup_keeps h ring e
  | .ringStop ring => execRingStop_keeps h ring e
  | .nop ring => execNop_keeps h ring e
  | .echo ring => execEcho_keeps h ring e
  | .fence ring => execFence_keeps h ring e
  | .fenceComplete ring => execFenceComplete_keeps h ring e
  | .fenceTimeout ring => execFenceTimeout_keeps h ring e
  | .resume ring => execResume_keeps h ring e
  | .cueResumeWrite port => execCueResumeWrite_keeps h port e
  | .eventRoute ring => execEventRoute_keeps h ring e
  | .irqAck ring => execIrqAck_keeps h ring e
  | .entryFetch ring => execEntryFetch_keeps h ring e
  | .entryWrite ring => execEntryWrite_keeps h ring e
  | .messageSend ring => execMessageSend_keeps h ring e
  | .coalTicksExpiry ring => execCoalTicksExpiry_keeps h ring e
  | .taskStart ring => execTaskStart_keeps h ring e
  | .taskHalt ring => execTaskHalt_keeps h ring e
  | .scoreStartWrite port => execScoreStartWrite_keeps h port e
  | .scoreStopWrite port => execScoreStopWrite_keeps h port e
  | .bufWrite ring => execBufWrite_keeps h ring e
  | .bufRead ring => execBufRead_keeps h ring e
  | .busConfig ring => execBusConfig_keeps h ring e
  | .scoreLoad ring => execScoreLoad_keeps h ring e
  | .haltStep task => execHaltStep_keeps h task e
  | .setPin task => execSetPin_keeps h task e
  | .waitPin task level => execWaitPin_keeps h task level e
  | .waitTicks task => execWaitTicks_keeps h task e
  | .waitInput task => execWaitInput_keeps h task e
  | .clearInput task => execClearInput_keeps h task e
  | .i2cWrite task => execI2cWrite_keeps h task e
  | .i2cRead task => execI2cRead_keeps h task e
  | .i2cReadToRing task => execI2cReadToRing_keeps h task e
  | .spiXfer task => execSpiXfer_keeps h task e
  | .spiXferToRing task => execSpiXferToRing_keeps h task e
  | .raiseEvent task => execRaiseEvent_keeps h task e
  | .postCue task => execPostCue_keeps h task e
  | .branchIf task level => execBranchIf_keeps h task level e
  | .callStep task => execCallStep_keeps h task e
  | .returnStep task => execReturnStep_keeps h task e
  | .loopStep task => execLoopStep_keeps h task e
  | .requestState task => execRequestState_keeps h task e
  | .scoreWaitTimeout sample => execScoreWaitTimeout_keeps h sample e
  | .busTransferEnd bus outcome recovered data => execBusTransferEnd_keeps h bus outcome recovered data e
  | .busStepTimeout task => execBusStepTimeout_keeps h task e
  | .sintEdge input rising => execSintEdge_keeps h input rising e
  | .scanStart => execScanStart_keeps h e
  | .scanEnd levels => execScanEnd_keeps h levels e
  | .leakMeasurement levels => execLeakMeasurement_keeps h levels e
  | .encoderTransition enc a b => execEncoderTransition_keeps h enc a b e
  | .pulseEdge input rising => execPulseEdge_keeps h input rising e
  | .pulseStopped input => execPulseStopped_keeps h input e
  | .timebase => execTimebase_keeps h e
  | .keysPop port => execKeysPop_keeps h port e
  | .keyDrain => execKeyDrain_keeps h e
  | .keysLoad ring => execKeysLoad_keeps h ring e
  | .keysSet ring => execKeysSet_keeps h ring e
  | .keysRead ring => execKeysRead_keeps h ring e
  | .keysDrain ring => execKeysDrain_keeps h ring e
  | .keysUnmask ring => execKeysUnmask_keeps h ring e
  | .pulseTotalSet ring => execPulseTotalSet_keeps h ring e
  | .keysCommitGo port => execKeysCommitGo_keeps h port e
  | .roundStart => execRoundStart_keeps h e
  | .conversion raw => execConversion_keeps h raw e
  | .ibatSample total => execIbatSample_keeps h total e
  | .pmCountEnd counts => execPmCountEnd_keeps h counts e
  | .railClassChange rail mv => execRailClassChange_keeps h rail mv e
  | .supplyLoss => execSupplyLoss_keeps h e
  | .chgStatChange level => execChgStatChange_keeps h level e
  | .senseRead ring => execSenseRead_keeps h ring e
  | .senseSet ring => execSenseSet_keeps h ring e
  | .slotSet ring => execSlotSet_keeps h ring e
  | .ntcTable ring => execNtcTable_keeps h ring e
  | .ccSet ring => execCcSet_keeps h ring e
  | .chgSet ring => execChgSet_keeps h ring e
  | .senseCommitGo port => execSenseCommitGo_keeps h port e
  | .tuneRun ring => execTuneRun_keeps h ring e
  | .tuneSet ring => execTuneSet_keeps h ring e
  | .tuneRead ring => execTuneRead_keeps h ring e
  | .tuneLoad ring => execTuneLoad_keeps h ring e
  | .tuneRebase ring => execTuneRebase_keeps h ring e
  | .tuneReqWrite port => execTuneReqWrite_keeps h port e
  | .tunePeriodTrigger item => execTunePeriodTrigger_keeps h item e
  | .tuneRunEnd item vals => execTuneRunEnd_keeps h item vals e
  | .tuneTimeout item => execTuneTimeout_keeps h item e
  | .oneSecondBoundary => execOneSecondBoundary_keeps h e
  | .fuseStage ring => execFuseStage_keeps h ring e
  | .fuseProgram ring => execFuseProgram_keeps h ring e
  | .fuseProgramDone failed => execFuseProgramDone_keeps h failed e
  | .jrnlAppend ring => execJrnlAppend_keeps h ring e
  | .jrnlRead ring => execJrnlRead_keeps h ring e
  | .jrnlFind ring => execJrnlFind_keeps h ring e
  | .jrnlDelete ring => execJrnlDelete_keeps h ring e
  | .jrnlCompact ring => execJrnlCompact_keeps h ring e
  | .counterSetup ring => execCounterSetup_keeps h ring e
  | .counterAdd ring => execCounterAdd_keeps h ring e
  | .counterRead ring => execCounterRead_keeps h ring e
  | .counterFlush ring => execCounterFlush_keeps h ring e
  | .jrnlCmdGo port => execJrnlCmdGo_keeps h port e
  | .wordProgramDone verified begun => execWordProgramDone_keeps h verified begun e
  | .eraseStart => execEraseStart_keeps h e
  | .erasePulseDone blank => execErasePulseDone_keeps h blank e
  | .counterProgram begun => execCounterProgram_keeps h begun e
  | .counterFlushTimer => execCounterFlushTimer_keeps h e
  | .counterRollover => execCounterRollover_keeps h e
  | .compaction => execCompaction_keeps h e
  | .vSyncStart => execVSyncStart_keeps h e
  | .hSyncStart => execHSyncStart_keeps h e
  | .syncEnd => execSyncEnd_keeps h e
  | .endOfTransmission => execEndOfTransmission_keeps h e
  | .nullBlanking vc => execNullBlanking_keeps h vc e
  | .colorModeOff vc => execColorModeOff_keeps h vc e
  | .colorModeOn vc => execColorModeOn_keeps h vc e
  | .shutDown vc => execShutDown_keeps h vc e
  | .turnOnPeripheral vc => execTurnOnPeripheral_keeps h vc e
  | .genericShortWrite vc => execGenericShortWrite_keeps h vc e
  | .genericRead vc params => execGenericRead_keeps h vc params e
  | .setMaximumReturnPacketSize vc size => execSetMaximumReturnPacketSize_keeps h vc size e
  | .genericLongWrite vc payload => execGenericLongWrite_keeps h vc payload e
  | .packedPixelStream fmt pixels => execPackedPixelStream_keeps h fmt pixels e
  | .dcsNop vc => execDcsNop_keeps h vc e
  | .softReset vc => execSoftReset_keeps h vc e
  | .getPowerMode vc => execGetPowerMode_keeps h vc e
  | .getPixelFormat vc => execGetPixelFormat_keeps h vc e
  | .enterSleepMode vc => execEnterSleepMode_keeps h vc e
  | .exitSleepMode vc => execExitSleepMode_keeps h vc e
  | .setDisplayOff vc => execSetDisplayOff_keeps h vc e
  | .setDisplayOn vc => execSetDisplayOn_keeps h vc e
  | .setColumnAddress vc sc ec => execSetColumnAddress_keeps h vc sc ec e
  | .setPageAddress vc sp ep => execSetPageAddress_keeps h vc sp ep e
  | .writeMemoryStart vc data => execWriteMemoryStart_keeps h vc data e
  | .writeMemoryContinue vc data => execWriteMemoryContinue_keeps h vc data e
  | .setTearOff vc => execSetTearOff_keeps h vc e
  | .setTearOn vc => execSetTearOn_keeps h vc e
  | .setPixelFormat vc code => execSetPixelFormat_keeps h vc code e
  | .setTearScanline vc => execSetTearScanline_keeps h vc e
  | .getScanline vc => execGetScanline_keeps h vc e
  | .dsiPresent vc full auto x0 y0 x1 y1 tag => execDsiPresent_keeps h vc full auto x0 y0 x1 y1 tag e
  | .dsiFence vc tag => execDsiFence_keeps h vc tag e
  | .dsiFenceComplete => execDsiFenceComplete_keeps h e
  | .setRegionHint vc x0 y0 x1 y1 => execSetRegionHint_keeps h vc x0 y0 x1 y1 e
  | .busTurnaround line => execBusTurnaround_keeps h line e
  | .ulpsEntry => execUlpsEntry_keeps h e
  | .ulpsExit => execUlpsExit_keeps h e
  | .teRise => execTeRise_keeps h e
  | .teFall => execTeFall_keeps h e
  | .surfaceSet ring => execSurfaceSet_keeps h ring e
  | .surfaceStop ring => execSurfaceStop_keeps h ring e
  | .surfaceEnable port => execSurfaceEnable_keeps h port e
  | .surfaceDisable port => execSurfaceDisable_keeps h port e
  | .surfaceOpen ring => execSurfaceOpen_keeps h ring e
  | .present ring => execPresent_keeps h ring e
  | .openGo port => execOpenGo_keeps h port e
  | .presentGo port => execPresentGo_keeps h port e
  | .intakeDsi ring => execIntakeDsi_keeps h ring e
  | .surfaceRead ring => execSurfaceRead_keeps h ring e
  | .dsiCommitGo port => execDsiCommitGo_keeps h port e
  | .copyForwardDone => execCopyForwardDone_keeps h e
  | .frameStart late underrun => execFrameStart_keeps h late underrun e
  | .statsPublish => execStatsPublish_keeps h e
  | .transitionSetInForce => execTransitionSetInForce_keeps h e
  | .transitionComplete late underrun => execTransitionComplete_keeps h late underrun e
  | .srResume late underrun => execSrResume_keeps h late underrun e
  | .scanReqWake port => execScanReqWake_keeps h port e
  | .scanReqSrEnter port => execScanReqSrEnter_keeps h port e
  | .scanCommitGo port => execScanCommitGo_keeps h port e
  | .scanLoad ring => execScanLoad_keeps h ring e
  | .scanSet ring => execScanSet_keeps h ring e
  | .scanCommit ring => execScanCommit_keeps h ring e
  | .scanRefresh ring => execScanRefresh_keeps h ring e
  | .freezeClear ring => execFreezeClear_keeps h ring e
  | .statsRead ring => execStatsRead_keeps h ring e
  | .scanRead ring => execScanRead_keeps h ring e
  | .pipeLoad ring => execPipeLoad_keeps h ring e
  | .pipeSet ring => execPipeSet_keeps h ring e
  | .pipeTable ring => execPipeTable_keeps h ring e
  | .pipeCommit ring => execPipeCommit_keeps h ring e
  | .brightSet ring => execBrightSet_keeps h ring e
  | .pipeRead ring => execPipeRead_keeps h ring e
  | .pipeCommitGo port => execPipeCommitGo_keeps h port e
  | .bandExpansionStart => execBandExpansionStart_keeps h e
  | .bandPassEnd desk errs => execBandPassEnd_keeps h desk errs e
  | .trainingSuccess packets => execTrainingSuccess_keeps h packets e
  | .trainingAttemptTimeout => execTrainingAttemptTimeout_keeps h e
  | .lockLoss => execLockLoss_keeps h e
  | .driverFault => execDriverFault_keeps h e
  | .panelRailOn => execPanelRailOn_keeps h e
  | .pnlPgRise => execPnlPgRise_keeps h e
  | .pgTimeout => execPgTimeout_keeps h e
  | .crackCheckEnd mv => execCrackCheckEnd_keeps h mv e
  | .crackCheckDue => execCrackCheckDue_keeps h e
  | .dischargeEnd => execDischargeEnd_keeps h e
  | .panelRailOff => execPanelRailOff_keeps h e
  | .panelSupplyLoss => execPanelSupplyLoss_keeps h e
  | .staveIdlePacket lane => execStaveIdlePacket_keeps h lane e
  | .staveReqRetrain port => execStaveReqRetrain_keeps h port e
  | .staveReqCrackCheck port => execStaveReqCrackCheck_keeps h port e
  | .staveReqRecover port => execStaveReqRecover_keeps h port e
  | .staveLoad ring => execStaveLoad_keeps h ring e
  | .staveSet ring => execStaveSet_keeps h ring e
  | .staveCommit ring => execStaveCommit_keeps h ring e
  | .staveCommitGo port => execStaveCommitGo_keeps h port e
  | .panelCheck ring => execPanelCheck_keeps h ring e
  | .panelRecover ring => execPanelRecover_keeps h ring e
  | .wallSecondBoundary => execWallSecondBoundary_keeps h e
  | .facePush => execFacePush_keeps h e
  | .fullFrameStart => execFullFrameStart_keeps h e
  | .facePushEnd => execFacePushEnd_keeps h e
  | .wallHiWrite port => execWallHiWrite_keeps h port e
  | .faceRepaintWrite port => execFaceRepaintWrite_keeps h port e
  | .faceLoad ring => execFaceLoad_keeps h ring e
  | .faceSet ring => execFaceSet_keeps h ring e
  | .faceCommit ring => execFaceCommit_keeps h ring e
  | .faceCommitGo port => execFaceCommitGo_keeps h port e
  | .faceWall ring => execFaceWall_keeps h ring e
  | .faceRead ring => execFaceRead_keeps h ring e
  | .jobFetch ring => execJobFetch_keeps h ring e
  | .jobStart => execJobStart_keeps h e
  | .l2PanelLoaded slot => execL2PanelLoaded_keeps h slot e
  | .tileEnd desk errs => execTileEnd_keeps h desk errs e
  | .bistDue => execBistDue_keeps h e
  | .bistEnd passes => execBistEnd_keeps h passes e
  | .ensSet ring => execEnsSet_keeps h ring e
  | .ensCommit ring => execEnsCommit_keeps h ring e
  | .ensCommitGo port => execEnsCommitGo_keeps h port e
  | .deskTest ring => execDeskTest_keeps h ring e
  | .deskRetest ring => execDeskRetest_keeps h ring e
  | .deskTestWrite port => execDeskTestWrite_keeps h port e
  | .deskRetestWrite port => execDeskRetestWrite_keeps h port e
  | .ensRead ring => execEnsRead_keeps h ring e
  | .jobCancel ring => execJobCancel_keeps h ring e
  | .issueGo port => execIssueGo_keeps h port e
  | .badCommandSelect bytes => execBadCommandSelect_keeps h bytes e
  | .dsiPacketError vc fault => execDsiPacketError_keeps h vc fault e
  | .dcsUnknownCommand cmd => execDcsUnknownCommand_keeps h cmd e
  | .tapTckEdge tms tdi levels => execTapTckEdge_keeps h tms tdi levels e
  | .drainWaitExpiry => execDrainWaitExpiry_keeps h e
  | .ascentBanksPowered => execAscentBanksPowered_keeps h e
  | .confirmingCheck => execConfirmingCheck_keeps h e

/-- Settles O1: the step reads the front of the queue. -/
theorem stepRunsFrontCommand : Obligations.StepRunsFrontCommand := by
  unfold Obligations.StepRunsFrontCommand
  intro c rest s
  rfl

/-- Settles O2: the meaning of every command answers a next state. -/
theorem everyCommandAnswers : Obligations.EveryCommandAnswers := by
  unfold Obligations.EveryCommandAnswers Answers
  intro c s
  cases c <;> exact ⟨_, rfl⟩

/-- Settles O3: a command keeps the form of the memories by exec_keeps, a tick by State.aoTick_wf. -/
theorem stepKeepsMemoryForm : Obligations.StepKeepsMemoryForm := by
  unfold Obligations.StepKeepsMemoryForm
  intro s t wf run
  unfold step at run
  split at run
  case h_1 => exact Host.Outcome.next.inj run ▸ State.aoTick_wf wf
  case h_2 c rest _ => exact (exec_keeps (Keeps.refl (s := { s with pending := rest }) wf) c run).wf

/-- Settles O4: no memory at reset lists anything. -/
theorem resetMemoryForm : Obligations.ResetMemoryForm := by
  unfold Obligations.ResetMemoryForm
  decide

/-- Settles O5 by exec_keeps. -/
theorem commandsKeepFactoryAndQueue : Obligations.CommandsKeepFactoryAndQueue := by
  unfold Obligations.CommandsKeepFactoryAndQueue
  intro c s t wf run
  have kept := exec_keeps (Keeps.refl wf) c run
  exact ⟨kept.sameFactory, kept.samePending⟩

end Sys2Proof.Machine
end

section
/-!
SUPPORT and PROOF for verbs (R32, R129, R130, R133): every verb of the verb lists runs by the same checks in the same order.
-/

namespace Sys2Proof.Machine

/-- A command that runs by the checks of a verb, with at least the argument masks of its row. -/
def RunsAsVerb (c : Instr) (row : VerbRow) : Prop :=
  ∃ (ok : State → Verb → Bool) (body : State → Verb → State),
    (∀ s v, v.code = row.code → v.argsWithin (row.masks v) = false → ok s v = false) ∧
    ∀ s, exec c s = .next (s.runVerb row.ring.toNat row.code row.right ok body)

theorem within_ones (w : Word) : within w 0xFFFFFFFF#32 = true := by
  have : ~~~0xFFFFFFFF#32 = 0#32 := by decide
  simp [within, this]

theorem nth_replicate (n i : Nat) (w : Word) : nth (List.replicate n w) i = if i < n then w else 0#32 := by
  unfold nth
  rw [List.getD_eq_getElem?_getD, List.getElem?_replicate]
  split <;> rfl

/-- The arguments of PIPE_TABLE lie in their masks where the words past the count are 0 (Table 14-9). -/
theorem argsWithin_pipeTable {v : Verb} {n : Nat} (h0 : within (v.arg 0) 0xFFFFFF#32 = true) (h1 : within (v.arg 1) 7#32 = true)
    (rest : ∀ i, i < 5 → n ≤ i → v.arg (2 + i) = 0#32) :
    v.argsWithin (0xFFFFFF#32 :: 0x7#32 :: List.replicate n 0xFFFFFFFF#32) = true := by
  refine List.all_eq_true.2 fun i hi => ?_
  rcases i with _ | _ | i
  · exact h0
  · exact h1
  · have word : nth (0xFFFFFF#32 :: 0x7#32 :: List.replicate n 0xFFFFFFFF#32) (i + 2) = if i < n then 0xFFFFFFFF#32 else 0#32 :=
      nth_replicate n i _
    have hi5 : i + 2 < 7 := List.mem_range.1 hi
    rw [word]
    split
    · exact within_ones _
    · rename_i past
      rw [show v.arg (i + 2) = 0#32 from Nat.add_comm 2 i ▸ rest i (by omega) (Nat.le_of_not_lt past)]
      rfl

/-- The journal's own check of a verb starts with its argument masks (R269). -/
theorem journalArgs_masks {c : Instr} {row : VerbRow} {ring : BitVec 8} (h : verbRow c = some row)
    (hj : c ∈ [.jrnlAppend ring, .jrnlRead ring, .jrnlFind ring, .jrnlDelete ring, .jrnlCompact ring, .counterSetup ring,
      .counterAdd ring, .counterRead ring, .counterFlush ring])
    (s : State) (v : Verb) (hc : v.code = row.code) (hv : v.argsWithin (row.masks v) = false) : journalArgs s v = false := by
  simp only [List.mem_cons, List.not_mem_nil, or_false] at hj
  rcases hj with rfl | rfl | rfl | rfl | rfl | rfl | rfl | rfl | rfl <;>
    (obtain ⟨⟩ := h; simp only [journalArgs, hc]; simp only at hv; simp [hv])

/-- Every verb runs by the checks of its row. -/
theorem runsAsVerb_of_row {c : Instr} {row : VerbRow} (h : verbRow c = some row) : RunsAsVerb c row := by
  cases c
  case pipeTable ring =>
    obtain ⟨⟩ := h
    refine ⟨_, _, fun s v _ hv => ?_, fun _ => rfl⟩
    refine Bool.eq_false_iff.2 fun ok => Bool.eq_false_iff.1 hv ?_
    simp only [Bool.and_eq_true, List.all_eq_true] at ok
    obtain ⟨⟨⟨⟨⟨⟨h0, h1⟩, -⟩, -⟩, -⟩, -⟩, rest⟩ := ok
    refine argsWithin_pipeTable h0 h1 fun i hi past => ?_
    simpa [Nat.not_lt.2 past] using rest i (by simpa using hi)
  case jrnlAppend | jrnlRead | jrnlFind | jrnlDelete | jrnlCompact | counterSetup | counterAdd | counterRead | counterFlush =>
    rename_i ring
    refine ⟨journalArgs, State.journalVerb, journalArgs_masks (ring := ring) h (by simp), ?_⟩
    obtain ⟨⟩ := h
    exact fun _ => rfl
  all_goals
    cases h
  all_goals
    refine ⟨_, _, fun s v _ hv => ?_, fun _ => rfl⟩
    simp only [hv, Bool.false_and]

/-- Settles O6: the checks by the equations of State.runVerb, the completion by State.complete_answered. -/
theorem verbsAreCheckedAndCompleted : Obligations.VerbsAreCheckedAndCompleted := by
  unfold Obligations.VerbsAreCheckedAndCompleted
  refine ⟨fun c row s h => ?checks, fun s v st res => ?completes⟩
  case checks =>
    obtain ⟨ok, body, masks, runs⟩ := runsAsVerb_of_row h
    rw [runs]
    refine ⟨fun none => ?_, fun v some hr => ?_, fun v some hr hb => ?_, fun v adm hv => ?_⟩
    · rw [State.runVerb_none _ _ _ none]
    · rw [State.runVerb_noPermission _ _ some hr]
    · rw [State.runVerb_busy _ _ some hr hb]
    · have code := (State.freshVerb_code (admitted_iff.1 adm).1).1
      rw [State.runVerb_badArg body adm (masks s v code hv)]
  case completes => exact ⟨s.complete_answered v st res, by simp, by simp, by simp, by simp, by simp [storesSame]⟩

end Sys2Proof.Machine
end

section
/-!
SUPPORT for chapter 06 (R119 to R140): the registers of rings, what the doorbell and RESUME do to them, the range of EVENT_ROUTE
and the bits of IRQ_ACK.
-/

namespace Sys2Proof.Machine

/-! ### Where the words of rings lie -/

theorem ringWord_eq (r w : Nat) : ringWord r w = 0x120000 + 16 * r + 4 * w := rfl

theorem ringWord_ne_below {a : Nat} (h : a < 0x120000) (r w : Nat) : ringWord r w ≠ a := by
  rw [ringWord_eq]
  omega

theorem ringWord_ne_word {v w : Nat} (h : v ≠ w) (r : Nat) : ringWord r v ≠ ringWord r w := by
  simp only [ringWord_eq]
  omega

theorem ringWord_ne_ringPend (r w q : Nat) (h : q < 256) : ringWord r w ≠ Reg.CUE_RING_PEND + 4 * (q / 32) :=
  ringWord_ne_below (by simp only [Reg.CUE_RING_PEND]; omega) r w

theorem doorbell_ne_ringPend (r q : Nat) (h : q < 256) : Reg.CUE_DOORBELL + 4 * r ≠ Reg.CUE_RING_PEND + 4 * (q / 32) := by
  simp only [Reg.CUE_DOORBELL, Reg.CUE_RING_PEND]
  omega

/-- The number of unreleased entries rests on INDEX, the size and the doorbell of the ring. -/
theorem State.ringUsed_congr {s t : State} {r : Nat} (h1 : t.reg (ringWord r 1) = s.reg (ringWord r 1))
    (h3 : t.reg (ringWord r 3) = s.reg (ringWord r 3))
    (hd : t.reg (Reg.CUE_DOORBELL + 4 * r) = s.reg (Reg.CUE_DOORBELL + 4 * r)) : t.ringUsed r = s.ringUsed r := by
  simp only [State.ringUsed, State.ringIndex, State.ringSize, State.ringTail, State.fld, h1, h3, hd]

/-! ### What rests on the registers alone -/

theorem State.ringEn_of_regs {s t : State} (h : t.regs = s.regs) (r : Nat) : t.ringEn r = s.ringEn r := State.flag_of_regs h _ _

theorem State.ringSize_of_regs {s t : State} (h : t.regs = s.regs) (r : Nat) : t.ringSize r = s.ringSize r :=
  congrArg (2 ^ ·) (State.fld_of_regs h _ _ _)

theorem State.isSubmission_of_regs {s t : State} (h : t.regs = s.regs) {r : Nat} : t.isSubmission r = s.isSubmission r := by
  simp only [State.isSubmission, State.ringType, State.fld_of_regs h, State.flag_of_regs h]

theorem State.doorbellFault_of_regs {s t : State} (h : t.regs = s.regs) {r : Nat} {v : Word} :
    t.doorbellFault r v = s.doorbellFault r v := by
  simp only [State.doorbellFault, State.ringEn_of_regs h, State.ringSize_of_regs h]

/-! ### What a word taken from its port leaves -/

theorem fronted_regs {s t : State} {p : Port} {w : BufWord} (h : fronted s p w t = true) : t.regs = s.regs := by
  obtain ⟨_, _, _, rfl⟩ := fronted_frame h
  rfl

theorem fronted_ladder {s t : State} {p : Port} {w : BufWord} (h : fronted s p w t = true) : t.ladder = s.ladder := by
  obtain ⟨_, _, _, rfl⟩ := fronted_frame h
  rfl

theorem fronted_rings {s t : State} {p : Port} {w : BufWord} (h : fronted s p w t = true) : t.rings = s.rings := by
  obtain ⟨_, _, _, rfl⟩ := fronted_frame h
  rfl

/-! ### Words of ports that concern rings -/

theorem State.applyWord_doorbell {r : Nat} (s : State) {w : BufWord} (hr : r < 256) (h : w.off = 0x10000 + 4 * r) :
    s.applyWord w = s.doorbell r w.val := by
  have index : (w.off - 0x10000) / 4 = r := by omega
  simp [State.applyWord, rowOf_doorbell hr h, index]

theorem execDoorbellWrite_fronted {s t : State} {p : Port} {w : BufWord} {r : Nat} (h : fronted s p w t = true) (hr : r < 256)
    (hw : w.off = 0x10000 + 4 * r) : execDoorbellWrite p s = .next (t.doorbell r w.val) :=
  congrArg Host.Outcome.next ((State.takeWord_fronted h (rowOf_doorbell hr hw)).trans (t.applyWord_doorbell hr hw))

theorem execCueResumeWrite_fronted {s t : State} {p : Port} {w : BufWord} (h : fronted s p w t = true)
    (hw : w.off = Reg.CUE_RESUME) (hv : bit w.val 31 = true) : execCueResumeWrite p s = .next (t.resumeWrite w.val) := by
  have row := rowOf_cueResume hw hv
  have apply : t.applyWord w = t.resumeWrite w.val := by simp [State.applyWord, row]
  exact congrArg Host.Outcome.next ((State.takeWord_fronted h row).trans apply)

theorem State.applyWord_ringWord {r : Nat} (s : State) {w : BufWord} (hr : r < 256) (h : w.off = ringWord r 1) :
    s.applyWord w = if bit w.val 31 then s.writeRingOn r w.val (w.client == 0) else s.writeRingOff r w.val := by
  have index : (w.off - Reg.CUE_RING_W0) / 16 = r := by
    rw [h, ringWord_eq]
    simp only [Reg.CUE_RING_W0]
    omega
  cases hv : bit w.val 31 <;> simp [State.applyWord, rowOf_ring hr h, hv, index]

/-- A write of RESUME leaves HALTED of every ring. -/
theorem State.resumeWrite_eq (s : State) (v : Word) :
    s.resumeWrite v = if s.ringHalted (field v 7 0) then (s.hostSet Reg.CUE_RESUME v).resumeRing (field v 7 0) (bit v 8)
      else s.hostSet Reg.CUE_RESUME v := by
  have kept : (s.hostSet Reg.CUE_RESUME v).ringHalted (field v 7 0) = s.ringHalted (field v 7 0) :=
    congrArg (bit · 13) (State.reg_setReg_other s _ _ _ (ringWord_ne_below (by decide) _ _))
  simp only [State.resumeWrite, kept]

/-! ### The doorbell (R122) -/

theorem State.doorbell_submission {s : State} {r : Nat} {v : Word} (hf : s.doorbellFault r v = 0) (hs : s.isSubmission r = true) :
    s.doorbell r v = { s.setReg (Reg.CUE_DOORBELL + 4 * r) v with ladder := { s.ladder with idleCount := 0 } } := by
  simp only [State.doorbell, hf, hs, if_true]
  rfl

/-- The state after an accepted doorbell of a part-to-host ring, before its count is tested. -/
def State.released (s : State) (r : Nat) (v : Word) : State :=
  let t := { s.setReg (Reg.CUE_DOORBELL + 4 * r) v with ladder := { s.ladder with idleCount := 0 } }
  (t.setRingPend r false).setRing r { t.ring r with unsignalled := t.ringUsed r, coalFrom := t.edge }

theorem State.doorbell_partToHost {s : State} {r : Nat} {v : Word} (hf : s.doorbellFault r v = 0)
    (hs : s.isSubmission r = false) : s.doorbell r v = ((s.released r v).testCount r).deliverFlags := by
  simp only [State.doorbell, hf, hs, if_true]
  rfl

theorem State.doorbell_ignored {s : State} {r : Nat} {v : Word} (hf : s.doorbellFault r v ≠ 0) :
    s.doorbell r v = if s.flag Reg.CUE_DB_LOG 31 then s
      else (s.setReg Reg.CUE_DB_LOG (word (2 ^ 31 + 0x100000 * s.doorbellFault r v + 256 * field v 11 0 + r))).raise 11
        (word (r + 256 * s.doorbellFault r v)) := by
  simp only [State.doorbell, hf, if_false]

theorem State.reg_released {s : State} {r a : Nat} (v : Word) (ha : a ≠ Reg.CUE_RING_PEND + 4 * (r / 32)) :
    (s.released r v).reg a = (s.setReg (Reg.CUE_DOORBELL + 4 * r) v).reg a :=
  State.reg_setFlag_other (s.setReg (Reg.CUE_DOORBELL + 4 * r) v) _ (r % 32) false a ha

theorem State.ringTail_released (s : State) {r : Nat} (v : Word) (hr : r < 256) :
    (s.released r v).ringTail r = field v 11 0 := by
  rw [State.ringTail, State.reg_released v (doorbell_ne_ringPend r r hr), State.reg_setReg_self]

theorem State.ringPend_released (s : State) (r : Nat) (v : Word) :
    (s.released r v).flag (Reg.CUE_RING_PEND + 4 * (r / 32)) (r % 32) = false :=
  State.flag_setFlag (s.setReg (Reg.CUE_DOORBELL + 4 * r) v) _ (r % 32) false (Nat.mod_lt _ (by decide))

theorem State.unsignalled_released (s : State) {r : Nat} (v : Word) (hr : r < 256) :
    ((s.released r v).ring r).unsignalled = (s.released r v).ringUsed r := by
  have counted : ((s.released r v).ring r).unsignalled = (s.setReg (Reg.CUE_DOORBELL + 4 * r) v).ringUsed r :=
    congrArg RingSt.unsignalled (State.ring_setRing_self _ r _)
  rw [counted]
  exact (State.ringUsed_congr (State.reg_released v (ringWord_ne_ringPend r 1 r hr))
    (State.reg_released v (ringWord_ne_ringPend r 3 r hr)) (State.reg_released v (doorbell_ne_ringPend r r hr))).symm

theorem State.testCount_eq (s : State) (r : Nat) :
    s.testCount r = if max 1 (s.fld (ringWord r 2) 7 0) ≤ (s.ring r).unsignalled ∧ s.flag (ringWord r 1) 24 = true then
      (s.setFlag (Reg.CUE_RING_PEND + 4 * (r / 32)) (r % 32) true).setRing r { s.ring r with unsignalled := 0 } else s := by
  simp only [State.testCount, State.signalRing, State.setRingPend]
  by_cases reached : max 1 (s.fld (ringWord r 2) 7 0) ≤ (s.ring r).unsignalled
  · by_cases wanted : s.flag (ringWord r 1) 24 = true
    · rw [if_pos reached, if_pos wanted, if_pos ⟨reached, wanted⟩]
    · rw [if_pos reached, if_neg wanted, if_neg fun both => wanted both.2]
  · rw [if_neg reached, if_neg fun both => reached both.1]

/-! ### Registers written one after another -/

/-- Words written one after another change the registers alone. -/
theorem State.foldl_setReg_frame {α : Type} (addr : α → Nat) (val : State → α → Word) (l : List α) (s : State) :
    ∃ m, l.foldl (fun t i => t.setReg (addr i) (val t i)) s = { s with regs := m } := by
  induction l generalizing s with
  | nil => exact ⟨s.regs, rfl⟩
  | cons i l ih => exact ih (s.setReg (addr i) (val s i))

theorem State.reg_foldl_setReg_other {α : Type} (addr : α → Nat) (val : State → α → Word) {a : Nat} (l : List α) (s : State)
    (h : ∀ i ∈ l, a ≠ addr i) : (l.foldl (fun t i => t.setReg (addr i) (val t i)) s).reg a = s.reg a := by
  induction l generalizing s with
  | nil => rfl
  | cons i l ih =>
    rw [List.foldl_cons, ih _ fun j hj => h j (List.mem_cons_of_mem i hj),
      State.reg_setReg_other _ _ _ _ (h i List.mem_cons_self)]

/-- Distinct addresses, each written once: a word takes its new value from its own old one. -/
theorem State.reg_foldl_setReg {α : Type} (addr : α → Nat) (val : Word → α → Word) {i : α} (l : List α) (s : State)
    (nodup : (l.map addr).Nodup) (mem : i ∈ l) :
    (l.foldl (fun t i => t.setReg (addr i) (val (t.reg (addr i)) i)) s).reg (addr i) = val (s.reg (addr i)) i := by
  induction l generalizing s with
  | nil => cases mem
  | cons j l ih =>
    obtain ⟨apart, rest⟩ := List.nodup_cons.1 nodup
    rw [List.foldl_cons]
    by_cases later : i ∈ l
    · have ne : addr i ≠ addr j := fun same => apart (same ▸ List.mem_map_of_mem later)
      rw [ih _ rest later, State.reg_setReg_other _ _ _ _ ne]
    · obtain rfl : i = j := (List.mem_cons.1 mem).resolve_right later
      have others : ∀ k ∈ l, addr i ≠ addr k := fun k hk same => apart (same ▸ List.mem_map_of_mem hk)
      rw [State.reg_foldl_setReg_other addr _ l _ others, State.reg_setReg_self]

end Sys2Proof.Machine
end

section
/-!
PROOF of the general verbs, RESUME and the doorbells (R122, R133 to R140).
-/

namespace Sys2Proof.Machine

/-! ### EVENT_ROUTE and IRQ_ACK (R136, R137) -/

/-- The state after EVENT_ROUTE has written its range. -/
def State.routed (s : State) (v : Verb) : State :=
  (List.range (field (v.arg 0) 14 8 + 1 - field (v.arg 0) 6 0)).foldl
    (fun t i => t.setReg (Reg.CUE_ROUTE_0 + 4 * (field (v.arg 0) 6 0 + i)) (v.arg 1)) s

theorem State.reg_routed (s : State) (v : Verb) (e : Nat) :
    (s.routed v).reg (Reg.CUE_ROUTE_0 + 4 * e) =
      if field (v.arg 0) 6 0 ≤ e ∧ e ≤ field (v.arg 0) 14 8 then v.arg 1 else s.reg (Reg.CUE_ROUTE_0 + 4 * e) := by
  generalize hf : field (v.arg 0) 6 0 = first
  generalize hl : field (v.arg 0) 14 8 = last
  simp only [State.routed, hf, hl]
  split
  · rename_i inside
    have place : Reg.CUE_ROUTE_0 + 4 * e = Reg.CUE_ROUTE_0 + 4 * (first + (e - first)) := by omega
    have distinct : ((List.range (last + 1 - first)).map (fun i => Reg.CUE_ROUTE_0 + 4 * (first + i))).Nodup :=
      List.Pairwise.map _ (fun i j other same => other (by omega)) List.nodup_range
    rw [place]
    exact State.reg_foldl_setReg (fun i => Reg.CUE_ROUTE_0 + 4 * (first + i)) (fun _ _ => v.arg 1) _ s distinct
      (List.mem_range.2 (by omega))
  · rename_i outside
    refine State.reg_foldl_setReg_other (fun i => Reg.CUE_ROUTE_0 + 4 * (first + i)) (fun _ _ => v.arg 1) _ s fun i hi => ?_
    have := List.mem_range.1 hi
    omega

theorem State.reg_routed_other (s : State) (v : Verb) {a : Nat} (h : ∀ e, a ≠ Reg.CUE_ROUTE_0 + 4 * e) :
    (s.routed v).reg a = s.reg a :=
  State.reg_foldl_setReg_other (fun i => Reg.CUE_ROUTE_0 + 4 * (field (v.arg 0) 6 0 + i)) (fun _ _ => v.arg 1) _ s fun _ _ => h _

/-- The state after IRQ_ACK has cleared its bits. -/
def State.acked (s : State) (v : Verb) : State :=
  (List.range 4).foldl (fun t i => t.setReg (Reg.CUE_EV_PEND + 4 * i) (t.reg (Reg.CUE_EV_PEND + 4 * i) &&& ~~~(v.arg i))) s

theorem State.reg_acked (s : State) (v : Verb) {i : Nat} (hi : i < 4) :
    (s.acked v).reg (Reg.CUE_EV_PEND + 4 * i) = s.reg (Reg.CUE_EV_PEND + 4 * i) &&& ~~~(v.arg i) :=
  State.reg_foldl_setReg (fun i => Reg.CUE_EV_PEND + 4 * i) (fun w i => w &&& ~~~(v.arg i)) _ s (by decide) (List.mem_range.2 hi)

theorem State.reg_acked_other (s : State) (v : Verb) {a : Nat} (h : ∀ i, i < 4 → a ≠ Reg.CUE_EV_PEND + 4 * i) :
    (s.acked v).reg a = s.reg a :=
  State.reg_foldl_setReg_other (fun i => Reg.CUE_EV_PEND + 4 * i)
    (fun t i => t.reg (Reg.CUE_EV_PEND + 4 * i) &&& ~~~(v.arg i)) _ s fun i hi => h i (List.mem_range.1 hi)

/-! ### RESUME (R140) -/

/-- A ring with HALTED cleared, and under SKIP past the entry that halted it. -/
def State.unhalted (s : State) (r : Nat) (skip : Bool) : State :=
  let t := ((s.endFences r .halted).setFlag (ringWord r 3) 13 false).setFld (ringWord r 3) 19 16 0
  if skip && (s.endFences r .halted).isSubmission r then
    (t.setFld (ringWord r 3) 11 0 (((s.endFences r .halted).ringIndex r + 1) % (s.endFences r .halted).ringSize r)).setRing r
      { (s.endFences r .halted).ring r with finished := ((s.endFences r .halted).ring r).finished + 1 }
  else t

theorem State.resumeRing_eq (s : State) (r : Nat) (skip : Bool) : s.resumeRing r skip =
    if (s.unhalted r skip).ringEn r && !(s.unhalted r skip).ringCovered r then (s.unhalted r skip).haltRing r 2
    else (s.unhalted r skip).deliverFlags := rfl

theorem State.endFences_regs (s : State) (r : Nat) (st : Status) : (s.endFences r st).regs = s.regs :=
  List.foldlRecOn (s.fencesOn r) _ (motive := fun t => t.regs = s.regs) rfl
    fun t h q _ => (State.completeRing_regs t q st []).trans h

/-- Settles O7: each verb by its checks in State.runVerb_body and the lemma of its effect, each word by State.takeWord_fronted. -/
theorem generalVerbsAndDoorbells : Obligations.GeneralVerbsAndDoorbells := by
  unfold Obligations.GeneralVerbsAndDoorbells
  refine ⟨fun _ _ _ h ha => congrArg Host.Outcome.next (State.runVerb_body _ h ha),
    fun _ _ _ h ha => congrArg Host.Outcome.next (State.runVerb_body _ h ha), ?route, ?ack, ?resume, ?running, ?resumeWrite,
    ?doorbell, State.testCount_eq⟩
  case route =>
    intro ring s v h ha order
    obtain ⟨m, frame⟩ := State.foldl_setReg_frame (fun i => Reg.CUE_ROUTE_0 + 4 * (field (v.arg 0) 6 0 + i)) (fun _ _ => v.arg 1)
      (List.range (field (v.arg 0) 14 8 + 1 - field (v.arg 0) 6 0)) s
    have ok : (v.argsWithin [0x7F7F#32, 0x7FF#32] && decide (field (v.arg 0) 6 0 ≤ field (v.arg 0) 14 8)) = true := by
      simp [ha, order]
    refine ⟨s.routed v, congrArg Host.Outcome.next (State.runVerb_body _ h ok), ?_, s.reg_routed v,
      fun _ ha => s.reg_routed_other v ha⟩
    rw [State.routed, frame]
  case ack =>
    intro ring s v h ha
    obtain ⟨m, frame⟩ := State.foldl_setReg_frame (fun i => Reg.CUE_EV_PEND + 4 * i)
      (fun t i => t.reg (Reg.CUE_EV_PEND + 4 * i) &&& ~~~(v.arg i)) (List.range 4) s
    refine ⟨s.acked v, congrArg Host.Outcome.next (State.runVerb_body _ h ha), ?_, fun _ hi => s.reg_acked v hi,
      fun _ ha => s.reg_acked_other v ha⟩
    rw [State.acked, frame]
  case resume =>
    intro ring s s0 s1 s2 v r h ha hr halted h0 h1 h2
    have same : s0.regs = s.regs := h0 ▸ s.endFences_regs r .halted
    have state : s2 = s.unhalted r (bit (v.arg 0) 8) := by
      have submission : s0.isSubmission r = s.isSubmission r := by
        simp only [State.isSubmission, State.ringType, State.fld_of_regs same, State.flag_of_regs same]
      have index : s0.ringIndex r = s.ringIndex r := State.fld_of_regs same _ _ _
      have size : s0.ringSize r = s.ringSize r := by simp only [State.ringSize, State.fld_of_regs same]
      rw [h2, h1, ← submission, ← index, ← size, h0]
      rfl
    have runs : exec (.resume ring) s = .next (s.resumeVerb v) := congrArg Host.Outcome.next (State.runVerb_body _ h ha)
    rw [runs]
    simp only [State.resumeVerb, ← hr, halted, State.resumeRing_eq, ← state]
    refine ⟨fun ⟨en, out⟩ => by simp [en, out], fun not => ?_⟩
    have off : (s2.ringEn r && !s2.ringCovered r) = false := by simpa using not
    simp [off]
  case running =>
    intro ring s v h ha halted
    have runs : exec (.resume ring) s = .next (s.resumeVerb v) := congrArg Host.Outcome.next (State.runVerb_body _ h ha)
    rw [runs]
    simp [State.resumeVerb, halted]
  case resumeWrite =>
    intro p s s0 u w r h hw hv hr hu
    obtain ⟨_, _, _, rfl⟩ := fronted_frame h
    subst hr hu
    have runs := (execCueResumeWrite_fronted h hw hv).trans (congrArg Host.Outcome.next (State.resumeWrite_eq _ _))
    exact ⟨fun halted => runs.trans (congrArg Host.Outcome.next (if_pos halted)),
      fun running => runs.trans (congrArg Host.Outcome.next (if_neg (Bool.eq_false_iff.1 running)))⟩
  case doorbell =>
    intro p s s1 w r h hr hw
    have regs := fronted_regs h
    have fault : s1.doorbellFault r w.val = s.doorbellFault r w.val := State.doorbellFault_of_regs regs
    have sub : s1.isSubmission r = s.isSubmission r := State.isSubmission_of_regs regs
    have log : s1.flag Reg.CUE_DB_LOG 31 = s.flag Reg.CUE_DB_LOG 31 := State.flag_of_regs regs _ _
    rw [← fault, ← sub, ← log, ← fronted_ladder h, show exec (.doorbellWrite p) s = .next (s1.doorbell r w.val) from
      execDoorbellWrite_fronted h hr hw]
    refine ⟨fun accepted sub => ?_, fun accepted partToHost => ?_, fun fault valid => ?_, fun fault free => ?_⟩
    · rw [State.doorbell_submission accepted sub]
    · exact ⟨_, by rw [State.doorbell_partToHost accepted partToHost], State.ringTail_released _ _ hr,
        State.ringPend_released _ _ _, State.unsignalled_released _ _ hr, rfl⟩
    · rw [State.doorbell_ignored fault, if_pos valid]
    · rw [State.doorbell_ignored fault, if_neg (Bool.eq_false_iff.1 free)]

end Sys2Proof.Machine
end

section
/-!
SUPPORT and PROOF for the setting up of rings (R119 to R121): enables and their checks, the empty ring, the zero fill, disables.
-/

namespace Sys2Proof.Machine

/-- A field inside the one written reads its part of what was written. -/
theorem field_withField_inside (w : Word) (hi lo v hi' lo' : Nat) (hb : hi < 32) (hl : lo ≤ hi) (hlo : lo ≤ lo') (hhi : hi' ≤ hi) :
    field (withField w hi lo v) hi' lo' = (v >>> (lo' - lo)) % 2 ^ (hi' + 1 - lo') := by
  apply Nat.eq_of_testBit_eq
  intro j
  rw [testBit_field, getLsbD_withField w hi lo v _ hb hl, Nat.testBit_mod_two_pow, Nat.testBit_shiftRight]
  by_cases hj : j < hi' + 1 - lo'
  · have inside : lo ≤ lo' + j ∧ lo' + j ≤ hi := by omega
    have place : lo' + j - lo = lo' - lo + j := by omega
    simp [inside, place]
  · simp [hj]

/-- A bit inside the field written reads its part of what was written. -/
theorem bit_withField_inside (w : Word) (hi lo v n : Nat) (hb : hi < 32) (hl : lo ≤ hi) (hlo : lo ≤ n) (hhi : n ≤ hi) :
    bit (withField w hi lo v) n = v.testBit (n - lo) := by
  rw [bit_eq, getLsbD_withField w hi lo v _ hb hl, if_pos ⟨hlo, hhi⟩]

/-! ### The empty ring (R120) -/

theorem State.reg_emptyRing (s : State) (r a : Nat) : (s.emptyRing r).reg a =
    if a = Reg.CUE_DOORBELL + 4 * r then 0#32
    else if a = ringWord r 3 then State.emptyRing.withFlags s r (s.reg (ringWord r 3)) else s.reg a := by
  have unfolded : (s.emptyRing r).reg a = ((s.setReg (ringWord r 3) (State.emptyRing.withFlags s r (s.reg (ringWord r 3)))).setReg
    (Reg.CUE_DOORBELL + 4 * r) 0#32).reg a := rfl
  rw [unfolded, State.reg_setReg, State.reg_setReg]

theorem State.ringTail_emptyRing (s : State) (r : Nat) : (s.emptyRing r).ringTail r = 0 := by
  rw [State.ringTail, State.reg_emptyRing, if_pos rfl]
  rfl

theorem ringWord_ne_doorbell (r w : Nat) : ringWord r w ≠ Reg.CUE_DOORBELL + 4 * r := by
  rw [ringWord_eq]
  simp only [Reg.CUE_DOORBELL]
  omega

/-- Word 3 of an empty ring: INDEX, ERR and the halt are clear, PHASE is 1 on a part-to-host ring (R120). -/
theorem State.word3_emptyRing (s : State) (r : Nat) : (s.emptyRing r).ringIndex r = 0 ∧
    (s.emptyRing r).flag (ringWord r 3) 15 = false ∧ (s.emptyRing r).ringHalted r = false ∧
    (s.emptyRing r).flag (ringWord r 3) 12 = !s.isSubmission r := by
  have w3 : (s.emptyRing r).reg (ringWord r 3) =
      withField (withField (s.reg (ringWord r 3)) 19 0 0) 12 12 (if s.isSubmission r then 0 else 1) := by
    rw [State.reg_emptyRing, if_neg (ringWord_ne_doorbell r 3), if_pos rfl, State.emptyRing.withFlags]
  simp only [State.ringIndex, State.ringHalted, State.fld, State.flag, w3]
  refine ⟨?_, ?_, ?_, ?_⟩
  · rw [field_withField_other _ _ _ _ _ _ (by decide) (by decide) (by decide),
      field_withField_inside _ _ _ _ _ _ (by decide) (by decide) (by decide) (by decide)]
    rfl
  · rw [bit_withField_other _ _ _ _ _ (by decide) (by decide) (by decide),
      bit_withField_inside _ _ _ _ _ (by decide) (by decide) (by decide) (by decide)]
    rfl
  · rw [bit_withField_other _ _ _ _ _ (by decide) (by decide) (by decide),
      bit_withField_inside _ _ _ _ _ (by decide) (by decide) (by decide) (by decide)]
    rfl
  · rw [bit_withField_inside _ _ _ _ _ (by decide) (by decide) (by decide) (by decide)]
    cases s.isSubmission r <;> rfl

theorem State.ring_emptyRing (s : State) (r : Nat) :
    (s.emptyRing r).ring r = { s.ring r with finished := 0, unsignalled := 0, dropped := false } :=
  State.ring_setRing_self _ r _

theorem State.flag_setRing (s : State) (q : Nat) (u : RingSt) (a n : Nat) : (s.setRing q u).flag a n = s.flag a n := rfl
theorem State.ringEn_setRing (s : State) (q : Nat) (u : RingSt) (r : Nat) : (s.setRing q u).ringEn r = s.ringEn r := rfl
theorem State.ringIndex_setRing (s : State) (q : Nat) (u : RingSt) (r : Nat) : (s.setRing q u).ringIndex r = s.ringIndex r := rfl
theorem State.ringTail_setRing (s : State) (q : Nat) (u : RingSt) (r : Nat) : (s.setRing q u).ringTail r = s.ringTail r := rfl

/-! ### Enables (R119, R135) -/

/-- What joining the peers of a ring leaves: rings alone change, and no ring's count of finished entries. -/
structure PeersOnly (s t : State) : Prop where
  frame : ∃ rs, t = { s with rings := rs }
  finished : ∀ q, (t.ring q).finished = (s.ring q).finished

theorem State.joinPeers_only (s : State) (r : Nat) : PeersOnly s (s.joinPeers r) := by
  refine List.foldlRecOn s.rings _ (motive := PeersOnly s) ⟨⟨s.rings, rfl⟩, fun _ => rfl⟩ fun t h e _ => ?_
  split
  · obtain ⟨⟨rs, rfl⟩, finished⟩ := h
    refine ⟨⟨_, rfl⟩, fun q => ?_⟩
    rw [State.ring_setRing]
    split
    · rename_i same
      exact same ▸ finished q
    · exact finished q
  · exact h

/-- The words of ring r that its enable may write: words 1 and 3, and its doorbell. -/
def ringOwnWords (r : Nat) : List Nat := [ringWord r 1, ringWord r 3, Reg.CUE_DOORBELL + 4 * r]

/-- The ring with ERR clear and empty, before it is enabled. -/
def State.readied (s : State) (r : Nat) : State := (s.setFlag (ringWord r 3) 15 false).emptyRing r

theorem State.enableRing_failed {s : State} {r : Nat} {byZero : Bool} (h : s.ringCheck r byZero = false) :
    s.enableRing r byZero = s.setFlag (ringWord r 3) 15 true := by
  simp [State.enableRing, h]

theorem State.enableRing_submission {s : State} {r : Nat} {byZero : Bool} (h : s.ringCheck r byZero = true)
    (hs : s.isSubmission r = true) : s.enableRing r byZero = ((s.readied r).joinPeers r).setFlag (ringWord r 1) 31 true := by
  simp [State.enableRing, h, hs, State.readied]

theorem State.enableRing_partToHost {s : State} {r : Nat} {byZero : Bool} (h : s.ringCheck r byZero = true)
    (hs : s.isSubmission r = false) :
    s.enableRing r byZero = (s.readied r).setRing r { (s.readied r).ring r with enabling := true } := by
  simp [State.enableRing, h, hs, State.readied]

/-- A ring that takes part in the enable of ring r changes only its own words, and no store. -/
structure RingOnly (r : Nat) (s t : State) : Prop where
  stores : storesSame s t
  reg : ∀ a, a ∉ ringOwnWords r → t.reg a = s.reg a

theorem RingOnly.refl (r : Nat) (s : State) : RingOnly r s s := ⟨⟨rfl, rfl, rfl, rfl⟩, fun _ _ => rfl⟩

theorem RingOnly.setReg {r : Nat} {s t : State} (h : RingOnly r s t) {a : Nat} (ha : a ∈ ringOwnWords r) (v : Word) :
    RingOnly r s (t.setReg a v) :=
  ⟨h.stores, fun b hb => (State.reg_setReg_other t a b v fun same => hb (same ▸ ha)).trans (h.reg b hb)⟩

theorem RingOnly.setRing {r : Nat} {s t : State} (h : RingOnly r s t) (q : Nat) (u : RingSt) : RingOnly r s (t.setRing q u) :=
  ⟨h.stores, h.reg⟩

theorem RingOnly.joinPeers {r : Nat} {s t : State} (h : RingOnly r s t) (q : Nat) : RingOnly r s (t.joinPeers q) := by
  obtain ⟨rs, frame⟩ := (t.joinPeers_only q).frame
  rw [frame]
  exact ⟨h.stores, h.reg⟩

theorem State.readied_only (s : State) (r : Nat) : RingOnly r s (s.readied r) :=
  (((((RingOnly.refl r s).setReg (a := ringWord r 3) (by simp [ringOwnWords]) _).setReg (a := ringWord r 3)
    (by simp [ringOwnWords]) _).setReg (a := Reg.CUE_DOORBELL + 4 * r) (by simp [ringOwnWords]) _).setRing r _)

theorem State.enableRing_only (s : State) (r : Nat) (byZero : Bool) : RingOnly r s (s.enableRing r byZero) := by
  cases check : s.ringCheck r byZero with
  | false =>
    rw [State.enableRing_failed check]
    exact (RingOnly.refl r s).setReg (by simp [ringOwnWords]) _
  | true =>
    cases sub : s.isSubmission r with
    | true =>
      rw [State.enableRing_submission check sub]
      exact ((s.readied_only r).joinPeers r).setReg (by simp [ringOwnWords]) _
    | false =>
      rw [State.enableRing_partToHost check sub]
      exact (s.readied_only r).setRing r _

theorem State.ringEn_readied (s : State) (r : Nat) : (s.readied r).ringEn r = s.ringEn r := by
  have own : (s.readied r).reg (ringWord r 1) = (s.setFlag (ringWord r 3) 15 false).reg (ringWord r 1) := by
    rw [State.readied, State.reg_emptyRing, if_neg (ringWord_ne_doorbell r 1), if_neg (ringWord_ne_word (by decide) r)]
  simp only [State.ringEn, State.flag, own, State.reg_setFlag_other _ _ _ _ _ (ringWord_ne_word (v := 1) (w := 3) (by decide) r)]

/-- A submission ring enabled: EN 1, empty and not halted (R119, R120). -/
theorem State.enabled_submission {s : State} {r : Nat} {byZero : Bool} (h : s.ringCheck r byZero = true)
    (hs : s.isSubmission r = true) : (s.enableRing r byZero).ringEn r = true ∧ (s.enableRing r byZero).ringIndex r = 0 ∧
      (s.enableRing r byZero).ringTail r = 0 ∧ (s.enableRing r byZero).flag (ringWord r 3) 15 = false ∧
      (s.enableRing r byZero).ringHalted r = false ∧ ((s.enableRing r byZero).ring r).finished = 0 := by
  rw [State.enableRing_submission h hs]
  obtain ⟨⟨rs, frame⟩, finished⟩ := (s.readied r).joinPeers_only r
  obtain ⟨index, err, halted, -⟩ := (s.setFlag (ringWord r 3) 15 false).word3_emptyRing r
  have other : ∀ a, a ≠ ringWord r 1 → (((s.readied r).joinPeers r).setFlag (ringWord r 1) 31 true).reg a = (s.readied r).reg a :=
    fun a ha => (State.reg_setFlag_other _ _ _ _ _ ha).trans (by rw [frame]; rfl)
  have w3 := other _ (ringWord_ne_word (v := 3) (w := 1) (by decide) r)
  have bell := other _ (ringWord_ne_doorbell r 1).symm
  refine ⟨State.flag_setFlag _ _ _ _ (by decide), ?_, ?_, ?_, ?_, ?_⟩
  · exact (congrArg (field · 11 0) w3).trans index
  · exact (congrArg (field · 11 0) bell).trans (State.ringTail_emptyRing _ r)
  · exact (congrArg (bit · 15) w3).trans err
  · exact (congrArg (bit · 13) w3).trans halted
  · rw [State.ring_setFlag, finished, State.readied, State.ring_emptyRing]

/-- A part-to-host ring that starts its zero fill: EN stays, the ring is empty with PHASE 1 (R119, R120). -/
theorem State.enabling_partToHost {s : State} {r : Nat} {byZero : Bool} (h : s.ringCheck r byZero = true)
    (hs : s.isSubmission r = false) : (s.enableRing r byZero).ringEn r = s.ringEn r ∧
      ((s.enableRing r byZero).ring r).enabling = true ∧ (s.enableRing r byZero).ringIndex r = 0 ∧
      (s.enableRing r byZero).flag (ringWord r 3) 12 = true ∧ (s.enableRing r byZero).ringTail r = 0 := by
  rw [State.enableRing_partToHost h hs]
  obtain ⟨index, -, -, phase⟩ := (s.setFlag (ringWord r 3) 15 false).word3_emptyRing r
  have sub : (s.setFlag (ringWord r 3) 15 false).isSubmission r = s.isSubmission r := by
    have own := State.reg_setFlag_other s (ringWord r 3) 15 false _ (ringWord_ne_word (v := 1) (w := 3) (by decide) r)
    simp only [State.isSubmission, State.ringType, State.fld, State.flag, own]
  generalize hu : { (s.readied r).ring r with enabling := true } = u
  refine ⟨(State.ringEn_setRing _ r u r).trans (s.ringEn_readied r), ?_, (State.ringIndex_setRing _ r u r).trans index, ?_,
    (State.ringTail_setRing _ r u r).trans (State.ringTail_emptyRing _ r)⟩
  · rw [State.ring_setRing_self, ← hu]
  · rw [State.flag_setRing, State.readied, phase, sub, hs]
    rfl

/-! ### Disables (R121) -/

/-- Event entries that wait for a ring go back to the pending flags of their events, in order (Table 6-2). -/
def backToFlags (fs : List EvFlag) (e : OutEntry) : List EvFlag :=
  match e with
  | .event n c a t => holdFlag fs { event := n, count := c, arg := a, tick := t, ringOnly := true }
  | _ => fs

/-- The pending flags written. -/
def State.setFlags (s : State) (fs : List EvFlag) : State := { s with flags := fs }

theorem foldl_unpost {f : State → OutEntry → State} (hf : ∀ t n c a m, f t (.event n c a m) = t.unpostEvent (.event n c a m))
    (l : List OutEntry) (s : State) (h : ∀ e ∈ l, ∃ n c a t, e = .event n c a t) :
    l.foldl f s = s.setFlags (l.foldl backToFlags s.flags) := by
  induction l generalizing s with
  | nil => rfl
  | cons e l ih =>
    obtain ⟨n, c, a, m, rfl⟩ := h e List.mem_cons_self
    rw [List.foldl_cons, List.foldl_cons, hf, ih _ fun e he => h e (List.mem_cons_of_mem _ he)]
    rfl

theorem filter_events {f : OutEntry → Bool} (hf : ∀ n c a t, f (.event n c a t) = false) {l : List OutEntry}
    (h : ∀ e ∈ l, ∃ n c a t, e = .event n c a t) : l.filter f = [] := by
  refine List.filter_eq_nil_iff.2 fun e he => ?_
  obtain ⟨n, c, a, t, rfl⟩ := h e he
  simp [hf]

theorem State.unqueue_events {s : State} {r : Nat} (h : ∀ e ∈ (s.ring r).outbox, ∃ n c a t, e = .event n c a t) :
    s.unqueue r = (s.setRing r { s.ring r with outbox := [] }).setFlags ((s.ring r).outbox.foldl backToFlags s.flags) := by
  dsimp only [State.unqueue]
  rw [filter_events (fun _ _ _ _ => rfl) h]
  refine foldl_unpost ?_ _ _ h
  intros
  rfl

/-- A ring that holds events alone, and for which no FENCE waits, disabled. -/
theorem State.disableRing_events {s : State} {r : Nat} (hs : (s.ring r).setupBy = none) (hf : s.fencesOn r = [])
    (h : ∀ e ∈ (s.ring r).outbox, ∃ n c a t, e = .event n c a t) :
    s.disableRing r = ((s.cut r).setRing r { s.cutRing r with outbox := [] }).setFlags
      ((s.ring r).outbox.foldl backToFlags s.flags) := by
  have only : s.disableRing r = (((s.cut r).unqueue r).dropMessages r).endFences r .badArg := by
    simp only [State.disableRing, hs]
    rfl
  have own : (s.cut r).ring r = s.cutRing r := by simp
  generalize hu : { s.cutRing r with outbox := [] } = u
  generalize hg : (s.ring r).outbox.foldl backToFlags s.flags = fs
  have unqueued : (s.cut r).unqueue r = ((s.cut r).setRing r u).setFlags fs := by
    rw [State.unqueue_events (by rw [own]; exact h), own, hu, ← hg]
    rfl
  have ring : (((s.cut r).setRing r u).setFlags fs).ring r = u := State.ring_setRing_self _ r u
  have dropped : (((s.cut r).setRing r u).setFlags fs).dropMessages r = ((s.cut r).setRing r u).setFlags fs := by
    rw [State.dropMessages_empty (by rw [ring, ← hu]), ring]
    have twice : ((s.cut r).setRing r u).setRing r u = (s.cut r).setRing r u := by
      unfold State.setRing
      simp only [Cells.put_put]
    exact congrArg (State.setFlags · fs) twice
  have quiet : (((s.cut r).setRing r u).setFlags fs).fencesOn r = [] := by
    have before : (s.cut r).fencesOn r = [] := (State.fencesOn_cut (by simp [hf])).trans hf
    have fences : u.fences r = false := by
      rw [← hu]
      exact (s.fences_cutRing r r).trans (Bool.eq_false_iff.2 fun waits => by simpa [hf] using State.mem_fencesOn waits)
    exact (State.fencesOn_setRing (by simp [before]) fences).trans before
  rw [only, unqueued, dropped, State.endFences, quiet]
  rfl

/-! ### Words and verbs that set rings up -/

theorem State.ringBusy_of {s t : State} {r : Nat} (hw : t.reg (ringWord r 1) = s.reg (ringWord r 1)) (hr : t.rings = s.rings) :
    t.ringBusy r = s.ringBusy r := by
  simp only [State.ringBusy, State.ringEn, State.flag, State.ring, hw, hr]

theorem State.ringBusy_hostSet (s : State) {a : Nat} (v : Word) {r : Nat} (h : ringWord r 1 ≠ a) :
    (s.hostSet a v).ringBusy r = s.ringBusy r :=
  State.ringBusy_of (by rw [State.reg_hostSet, if_neg h]) (State.hostSet_rings s a v)

theorem State.pairedBy_of_regs {s t : State} (h : t.regs = s.regs) (r : Nat) : t.pairedBy r = s.pairedBy r := by
  simp only [State.pairedBy, State.ringEn_of_regs h, State.isSubmission_of_regs h, State.ringPair, State.fld_of_regs h]

theorem execRingEnable_fronted {s t : State} {p : Port} {w : BufWord} {r : Nat} (h : fronted s p w t = true) (hr : r < 256)
    (hw : w.off = ringWord r 1) (hv : bit w.val 31 = true) :
    execRingEnable p s = .next (t.writeRingOn r w.val (w.client == 0)) := by
  have row : rowOf w = .ringEnable := by rw [rowOf_ring hr hw, hv]; rfl
  refine congrArg Host.Outcome.next ((State.takeWord_fronted h row).trans ?_)
  rw [State.applyWord_ringWord t hr hw, if_pos hv]

theorem execRingDisable_fronted {s t : State} {p : Port} {w : BufWord} {r : Nat} (h : fronted s p w t = true) (hr : r < 256)
    (hw : w.off = ringWord r 1) (hv : bit w.val 31 = false) : execRingDisable p s = .next (t.writeRingOff r w.val) := by
  have row : rowOf w = .ringDisable := by rw [rowOf_ring hr hw, hv]; rfl
  refine congrArg Host.Outcome.next ((State.takeWord_fronted h row).trans ?_)
  rw [State.applyWord_ringWord t hr hw, if_neg (Bool.eq_false_iff.1 hv)]

/-- RING_SETUP on a ring that is neither enabled nor enabling stores its words and enables it (R119). -/
theorem State.ringSetup_free {s : State} {v : Verb} {r : Nat} (hr : r = field (v.arg 0) 7 0) (hb : s.ringBusy r = false) {t : State}
    (ht : t = State.enableRing ((((s.hostSet (ringWord r 2) (v.arg 3)).hostSet (ringWord r 0) (v.arg 1)).hostSet (ringWord r 1)
      (withBit (v.arg 2) 31 false)).testCount r) r (v.owner == 0)) :
    s.ringSetup v = if t.flag (ringWord r 3) 15 then t.complete v .badArg else if t.ringEn r then t.complete v .ok
      else (t.setRing r { t.ring r with setupBy := some v.ring }).await v (.ringFill r) 0 := by
  have busy2 : (s.hostSet (ringWord r 2) (v.arg 3)).ringBusy r = false :=
    (s.ringBusy_hostSet _ (ringWord_ne_word (by decide) r)).trans hb
  have busy0 : ((s.hostSet (ringWord r 2) (v.arg 3)).hostSet (ringWord r 0) (v.arg 1)).ringBusy r = false :=
    (State.ringBusy_hostSet _ _ (ringWord_ne_word (by decide) r)).trans busy2
  simp [State.ringSetup, ← hr, hb, State.writeRingPlain, busy2, State.writeRingOn, busy0, ← ht]

end Sys2Proof.Machine
end

section
/-!
PROOF of how rings are set up and stopped (R119 to R121).
-/

namespace Sys2Proof.Machine

theorem State.setFlags_setRing_regs (t : State) (r : Nat) (u : RingSt) (fs : List EvFlag) :
    ((t.setRing r u).setFlags fs).regs = t.regs := rfl

theorem State.reg_cut (s : State) {r a : Nat} (h : a ≠ ringWord r 1) : (s.cut r).reg a = s.reg a :=
  s.reg_setFlag_other (ringWord r 1) 31 false a h

theorem State.cut_stores (s : State) (r : Nat) : storesSame s (s.cut r) := ⟨rfl, rfl, rfl, rfl⟩

theorem storesSame_disabled {s t : State} (h : storesSame s t) (r : Nat) (u : RingSt) (fs : List EvFlag) :
    storesSame s ((t.setRing r u).setFlags fs) := h

theorem execRingStop_admitted {ring : BitVec 8} {s : State} {v : Verb} (h : admitted s ring 0x04 ringRight v = true)
    (ha : v.argsWithin [0xFF#32] = true) : execRingStop ring s = .next (s.ringStop v) :=
  congrArg Host.Outcome.next (State.runVerb_body _ h ha)

theorem execRingSetup_admitted {ring : BitVec 8} {s : State} {v : Verb} (h : admitted s ring 0x03 setupRight v = true)
    (ha : v.argsWithin [0xFF#32, 0x7FFFFF#32, 0x83FF3FFF#32, 0xFFFFFFFF#32] = true) :
    execRingSetup ring s = .next (s.ringSetup v) :=
  congrArg Host.Outcome.next (State.runVerb_body _ h ha)

/-- Settles O9: enables by State.enabled_submission and State.enabling_partToHost, disables by State.disableRing_events. -/
theorem ringsAreSetUpAndStopped : Obligations.RingsAreSetUpAndStopped := by
  unfold Obligations.RingsAreSetUpAndStopped
  refine ⟨?enable, ?word1, ?setup, ?stop, ?fill, ?disable⟩
  case enable =>
    intro s r byZero
    obtain ⟨stores, reg⟩ := s.enableRing_only r byZero
    exact ⟨State.enableRing_failed, State.enabled_submission, State.enabling_partToHost, reg, stores⟩
  case word1 =>
    intro p s s1 w r h hr hw
    have regs := fronted_regs h
    have busy : s1.ringBusy r = s.ringBusy r := State.ringBusy_of (State.reg_of_regs regs _) (fronted_rings h)
    have type : s1.ringType r = s.ringType r := State.fld_of_regs regs _ _ _
    rw [← busy, ← type, ← State.pairedBy_of_regs regs]
    have enable (on : bit w.val 31 = true) : exec (.ringEnable p) s = .next (s1.writeRingOn r w.val (w.client == 0)) :=
      execRingEnable_fronted h hr hw on
    have disable (off : bit w.val 31 = false) : exec (.ringDisable p) s = .next (s1.writeRingOff r w.val) :=
      execRingDisable_fronted h hr hw off
    refine ⟨fun on busy => ?_, fun on free => ?_, fun off free => ?_, fun off busy completion paired => ?_,
      fun off busy notHeld => ?_⟩
    · rw [enable on, State.writeRingOn, if_pos busy]
    · rw [enable on, State.writeRingOn, if_neg (Bool.eq_false_iff.1 free)]
    · rw [disable off, State.writeRingOff, if_neg (Bool.eq_false_iff.1 free)]
    · simp [disable off, State.writeRingOff, busy, State.tryDisable, completion, paired]
    · have held : (s1.ringType r == 1 && s1.pairedBy r) = false := by simpa using notHeld
      simp [disable off, State.writeRingOff, busy, State.tryDisable, held]
  case setup =>
    intro ring s s1 v r h ha hr hs1
    rw [show exec (.ringSetup ring) s = .next (s.ringSetup v) from execRingSetup_admitted h ha]
    refine ⟨fun busy => ?_, fun free err => ?_, fun free ok en => ?_, fun free ok filling => ?_⟩
    · simp [State.ringSetup, ← hr, busy]
    · rw [State.ringSetup_free hr free hs1, if_pos err]
    · rw [State.ringSetup_free hr free hs1, if_neg (Bool.eq_false_iff.1 ok), if_pos en]
    · rw [State.ringSetup_free hr free hs1, if_neg (Bool.eq_false_iff.1 ok), if_neg (Bool.eq_false_iff.1 filling)]
  case stop =>
    intro ring s v r h ha hr
    rw [show exec (.ringStop ring) s = .next (s.ringStop v) from execRingStop_admitted h ha]
    refine ⟨fun free => ?_, fun busy completion paired => ?_, fun busy notHeld => ?_⟩
    · simp [State.ringStop, ← hr, free]
    · simp [State.ringStop, ← hr, busy, completion, paired]
    · have held : (s.ringType r == 1 && s.pairedBy r) = false := by simpa using notHeld
      simp [State.ringStop, ← hr, busy, held]
  case fill =>
    intro ring s s2 r hr enabling hs2
    have filled : exec (.ringFillDone ring) s = .next (s.fillDone r) := by
      rw [hr] at enabling ⊢
      exact congrArg Host.Outcome.next (if_pos enabling)
    refine ⟨fun noVerb => ?_, fun q verb => ?_⟩
    · rw [filled, hs2, State.fillDone]
      simp only [noVerb]
      rfl
    · rw [filled, hs2, State.fillDone]
      simp only [verb]
      rfl
  case disable =>
    intro s r noSetup noFence events
    rw [State.disableRing_events noSetup noFence events]
    generalize hu : { s.cutRing r with outbox := [] } = u
    generalize hf : (s.ring r).outbox.foldl backToFlags s.flags = fs
    have regs := (s.cut r).setFlags_setRing_regs r u fs
    have ring : (((s.cut r).setRing r u).setFlags fs).ring r = u := State.ring_setRing_self _ r u
    refine ⟨(State.ringEn_of_regs regs r).trans (s.ringEn_cut r), ?_, ?_, hf.symm, storesSame_disabled (s.cut_stores r) r u fs,
      fun a ha => (State.reg_of_regs regs a).trans (s.reg_cut ha)⟩
    · rw [ring, ← hu]
      rfl
    · rw [ring, ← hu]

end Sys2Proof.Machine
end

section
/-!
SUPPORT and PROOF for the fetcher, messages and the writer (R124 to R127, R130, R135, R138, R139).
-/

namespace Sys2Proof.Machine

/-! ### Bytes of the Hall -/

theorem State.leased_putHall (s : State) (a : Nat) (b : Byte) (x : Nat) : (s.putHall a b).leased x = s.leased x := by
  unfold State.putHall
  split <;> rfl

/-- Bytes laid from an address on: each that a lease covers reads its own, every other byte as before (R28). -/
theorem State.hallRaw_putHallBytes (s : State) (a : Nat) (bs : List Byte) (x : Nat) : (s.putHallBytes a bs).hallRaw x =
    if a ≤ x ∧ x < a + bs.length ∧ s.leased x = true then bs.getD (x - a) 0#8 else s.hallRaw x := by
  induction bs generalizing s a with
  | nil =>
    rw [if_neg (by simp only [List.length_nil]; omega)]
    rfl
  | cons b bs ih =>
    rw [State.putHallBytes, ih, State.hallRaw_putHall, State.leased_putHall]
    rcases Nat.lt_trichotomy x a with lt | rfl | gt
    · rw [if_neg (by omega), if_neg (by omega), if_neg (by omega)]
    · rw [if_neg (by omega), Nat.sub_self, List.getD_cons_zero, List.length_cons]
      exact ite_congr (propext ⟨fun own => ⟨Nat.le_refl x, by omega, own.2⟩, fun own => ⟨rfl, own.2.2⟩⟩) (fun _ => rfl) fun _ => rfl
    · obtain ⟨k, rfl⟩ := Nat.exists_eq_add_of_lt gt
      have ne : a + k + 1 ≠ a := by omega
      have past : a + k + 1 - a = k + 1 := by omega
      have here : a + k + 1 - (a + 1) = k := by omega
      rw [past, here, List.length_cons, List.getD_cons_succ,
        if_neg (c := a + k + 1 = a ∧ s.leased a = true) fun both => ne both.1]
      refine ite_congr (propext ?_) (fun _ => rfl) fun _ => rfl
      rw [← and_assoc, ← and_assoc]
      exact and_congr_left fun _ => by omega

theorem State.putHallBytes_frame (bs : List Byte) (s : State) (a : Nat) : ∃ m, s.putHallBytes a bs = { s with hall := m } := by
  induction bs generalizing s a with
  | nil => exact ⟨s.hall, rfl⟩
  | cons b bs ih =>
    have one : ∃ m, s.putHall a b = { s with hall := m } := by
      unfold State.putHall
      split
      · exact ⟨_, rfl⟩
      · exact ⟨s.hall, rfl⟩
    obtain ⟨m, first⟩ := one
    obtain ⟨m', rest⟩ := ih (s.putHall a b) (a + 1)
    exact ⟨m', by rw [State.putHallBytes, rest, first]⟩

theorem length_wordsBytes (ws : List Word) : (wordsBytes ws).length = 4 * ws.length := by
  induction ws with
  | nil => rfl
  | cons w ws ih =>
    have : (wordsBytes (w :: ws)).length = (wordBytes w).length + (wordsBytes ws).length := List.length_append
    rw [this, ih, List.length_cons, wordBytes]
    simp only [List.length_cons, List.length_nil]
    omega

/-! ### An entry in its slot (R125, R126) -/

theorem State.length_entryWords (s : State) (e : OutEntry) : (s.entryWords e).length = 8 := by
  cases e <;> rfl

/-- The eight words of a slot: those of the entry, with PHASE in bit 31 of the last. -/
def State.slotWords (s : State) (r : Nat) (e : OutEntry) : List Word :=
  (s.entryWords e).take 7 ++ [withBit (nth (s.entryWords e) 7) 31 (s.flag (ringWord r 3) 12)]

/-- The entry laid down, before INDEX and PHASE move. -/
def State.laid (s : State) (r : Nat) (e : OutEntry) : State :=
  s.putHallWords (s.entryAddr r (s.ringIndex r)) (s.slotWords r e)

theorem State.layEntry_eq (s : State) (r : Nat) (e : OutEntry) : s.layEntry r e =
    if s.ringIndex r + 1 = s.ringSize r then
      ((s.laid r e).setFld (ringWord r 3) 11 0 ((s.ringIndex r + 1) % s.ringSize r)).setFlag (ringWord r 3) 12
        (!s.flag (ringWord r 3) 12)
    else (s.laid r e).setFld (ringWord r 3) 11 0 ((s.ringIndex r + 1) % s.ringSize r) := rfl

theorem State.hallRaw_laid (s : State) (r : Nat) (e : OutEntry) (a : Nat) : (s.laid r e).hallRaw a =
    if s.entryAddr r (s.ringIndex r) ≤ a ∧ a < s.entryAddr r (s.ringIndex r) + 32 ∧ s.leased a = true
    then (wordsBytes (s.slotWords r e)).getD (a - s.entryAddr r (s.ringIndex r)) 0#8 else s.hallRaw a := by
  have length : (wordsBytes (s.slotWords r e)).length = 32 := by
    rw [length_wordsBytes, State.slotWords, List.length_append, List.length_take, s.length_entryWords]
    rfl
  rw [State.laid, State.putHallWords, State.hallRaw_putHallBytes, length]

theorem State.laid_frame (s : State) (r : Nat) (e : OutEntry) : ∃ m, s.laid r e = { s with hall := m } :=
  State.putHallBytes_frame _ s _

/-- INDEX and PHASE move, and nothing else, once the entry is laid (R125, R126). -/
structure SlotMoved (r : Nat) (t u : State) : Prop where
  hall : u.hallRaw = t.hallRaw
  reg : ∀ a, a ≠ ringWord r 3 → u.reg a = t.reg a
  stores : u.flash = t.flash ∧ u.fuses = t.fuses ∧ u.ao = t.ao

theorem SlotMoved.setReg (r : Nat) (t : State) (v : Word) : SlotMoved r t (t.setReg (ringWord r 3) v) :=
  ⟨rfl, fun _ h => State.reg_setReg_other _ _ _ _ h, rfl, rfl, rfl⟩

theorem SlotMoved.trans {r : Nat} {s t u : State} (h : SlotMoved r s t) (k : SlotMoved r t u) : SlotMoved r s u := by
  obtain ⟨hf, hu, ha⟩ := h.stores
  obtain ⟨kf, ku, ka⟩ := k.stores
  exact ⟨k.hall.trans h.hall, fun a ne => (k.reg a ne).trans (h.reg a ne), kf.trans hf, ku.trans hu, ka.trans ha⟩

theorem State.layEntry_moved (s : State) (r : Nat) (e : OutEntry) : SlotMoved r (s.laid r e) (s.layEntry r e) := by
  rw [State.layEntry_eq]
  have index := SlotMoved.setReg r (s.laid r e)
    (withField ((s.laid r e).reg (ringWord r 3)) 11 0 ((s.ringIndex r + 1) % s.ringSize r))
  split
  · exact index.trans (SlotMoved.setReg r _ _)
  · exact index

theorem State.ringIndex_layEntry (s : State) (r : Nat) (e : OutEntry) :
    (s.layEntry r e).ringIndex r = (s.ringIndex r + 1) % s.ringSize r % 4096 := by
  have index : ((s.laid r e).setFld (ringWord r 3) 11 0 ((s.ringIndex r + 1) % s.ringSize r)).ringIndex r =
      (s.ringIndex r + 1) % s.ringSize r % 4096 := State.fld_setFld _ _ _ _ _ (by decide) (by decide)
  rw [State.layEntry_eq]
  split
  · exact (State.fld_setFlag_other _ _ _ _ _ _ _ (by decide) (.inr (.inr (by decide)))).trans index
  · exact index

theorem State.phase_layEntry (s : State) (r : Nat) (e : OutEntry) : (s.layEntry r e).flag (ringWord r 3) 12 =
    if s.ringIndex r + 1 = s.ringSize r then !s.flag (ringWord r 3) 12 else s.flag (ringWord r 3) 12 := by
  obtain ⟨m, frame⟩ := s.laid_frame r e
  rw [State.layEntry_eq]
  split
  · exact State.flag_setFlag _ _ _ _ (by decide)
  · rw [State.flag_setFld_other _ _ _ _ _ _ _ (by decide) (by decide) (.inr (.inr (by decide))), frame]
    rfl

/-! ### WAITING (R127, Table 6-14) -/

/-- Word 3 of a ring as the host reads it: WAITING beside the stored bits. -/
theorem State.view_ringWord3 (s : State) {r : Nat} (hr : r < 256) :
    s.view (ringWord r 3) = withBit (s.reg (ringWord r 3)) 14 (s.ringWaits r) := by
  have index : (0x120000 + 16 * r + 4 * 3 - 0x120000) / 16 = r := by omega
  simp only [State.view, ringWord_eq, Reg.DEV_METRO_LO, Reg.DEV_METRO_HI, Reg.DEV_PAD_LEVEL, Reg.DEV_PAD_PG, Reg.HPORT_A_STATUS,
    Reg.HPORT_B_STATUS, Reg.CUE_IRQ_STAT, Reg.TUNE_BUSY, Reg.JRNL_STATUS, Reg.JRNL_NEXT_SEQ, Reg.JRNL_SPACE, Reg.JRNL_WEAR,
    Reg.JRNL_SECTOR, Reg.JRNL_CTR_TAB, Reg.FACE_WALL_SEC, Reg.ENS_STATUS, Reg.ENS_BUSY, Reg.ENS_CAPPED, Reg.ENS_LEASE,
    Reg.CUE_RING_W0, index]
  iterate 18 rw [if_neg (by omega)]
  rw [if_pos (by omega)]

theorem State.bit_waiting (s : State) {r : Nat} (hr : r < 256) : bit (s.view (ringWord r 3)) 14 = s.ringWaits r := by
  rw [s.view_ringWord3 hr, bit_withBit _ _ _ (by decide)]

theorem not_ringRoom (s : State) (q : Nat) :
    (!s.ringRoom q) = decide (s.ringSize q - 1 ≤ s.ringUsed q + (s.queued q).length) := by
  rw [State.ringRoom, ← decide_not]
  exact decide_eq_decide.2 Nat.not_lt

/-! ### Words and moves of the fetcher (R124) -/

theorem State.canFetch_of {s : State} {r : Nat} (ready : s.fetchReady r = true) (type : s.ringType r ≠ 4) :
    s.canFetch r = !s.pairHolds r := by
  have : (s.ringType r != 4) = true := by simpa using type
  simp [State.canFetch, ready, this]

theorem execEntryFetch_ready {ring : BitVec 8} {s : State} (ready : s.fetchReady ring.toNat = true)
    (type : s.ringType ring.toNat ≠ 4) : execEntryFetch ring s = .next (
      if s.pairHolds ring.toNat then s
      else if s.fetchTurn ring.toNat then { s.fetch ring.toNat with fetched := ring.toNat } else s) := by
  have notJob : (s.ringType ring.toNat == 4) = false := by simpa using type
  cases held : s.pairHolds ring.toNat with
  | true => simp [execEntryFetch, type, State.takeTurn, State.canFetch_of ready type, held, State.fetch, ready, notJob]
  | false => simp [execEntryFetch, type, State.takeTurn, State.canFetch_of ready type, held]

/-- The fetch of a ring that is ready and not held by its PAIR (R124, R130, R139). -/
theorem State.fetch_ready {s : State} {r : Nat} (ready : s.fetchReady r = true) (type : s.ringType r ≠ 4)
    (held : s.pairHolds r = false) {ws : List Word} (hws : ws = s.hallWords (s.entryAddr r (s.ringIndex r)) 8) :
    s.fetch r =
      if !s.ringCovered r then s.haltRing r 2
      else if entryMalformed (s.ringType r) ws then (s.haltRing r 1).post (s.ringPair r)
        (.completion (if s.ringType r = 5 then 0 else field (nth ws 0) 31 16)
          (if s.ringType r = 5 then 0xFD else field (nth ws 0) 7 0) Status.badVerb.code (s.ringIndex r) r [] false)
      else (s.setFld (ringWord r 3) 11 0 ((s.ringIndex r + 1) % s.ringSize r)).setRing r { s.ring r with
        cur := some { words := ws, index := s.ringIndex r, seq := s.fetchSeq, peer := s.fld (ringWord r 2) 31 24
                      busy := s.ringType r == 0 && s.verbClosed (field (nth ws 0) 7 0) } } := by
  have notJob : (s.ringType r == 4) = false := by simpa using type
  simp only [State.fetch, ready, notJob, held, hws]
  rfl

/-- Settles O10: the fetch by State.fetch_ready, a message by the branches of State.sendMessage. -/
theorem entriesAreFetchedAndSent : Obligations.EntriesAreFetchedAndSent := by
  unfold Obligations.EntriesAreFetchedAndSent
  refine ⟨?fetch, ?send, ?written⟩
  case fetch =>
    intro ring s r i ws hr ready type hi hws
    subst hr hi
    rw [show exec (.entryFetch ring) s = _ from execEntryFetch_ready ready type]
    refine ⟨fun held => ?_, fun free other => ?_, fun free turn out => ?_, fun free turn covered bad => ?_,
      fun free turn covered good => ?_⟩
    · rw [if_pos held]
    · rw [if_neg (Bool.eq_false_iff.1 free), if_neg (Bool.eq_false_iff.1 other)]
    · rw [if_neg (Bool.eq_false_iff.1 free), if_pos turn, State.fetch_ready ready type free hws, if_pos (by rw [out]; rfl)]
    · rw [if_neg (Bool.eq_false_iff.1 free), if_pos turn, State.fetch_ready ready type free hws,
        if_neg (by rw [covered]; decide), if_pos bad]
    · rw [if_neg (Bool.eq_false_iff.1 free), if_pos turn, State.fetch_ready ready type free hws,
        if_neg (by rw [covered]; decide), if_neg (Bool.eq_false_iff.1 good)]
  case send =>
    intro ring s s1 r f peerOpen hr hc fresh type hs1 hopen
    subst hr
    have notSend : (f.started || s.ringType ring.toNat != 5) = false := by simp [fresh, type]
    have runs : exec (.messageSend ring) s = .next (
        if !peerOpen then s.messageDone ring.toNat .badArg
        else if s.ringHalted f.peer || !s.ringRoom f.peer || s.messageAhead f then s
        else s1.post f.peer (.message (f.words.take 7) ring.toNat ((f.leftTo.map (·.1)).getD (s.ringOwner ring.toNat)))) := by
      have shut : (!(s.ringEn f.peer && s.ringType f.peer == 5 && s.flag (ringWord f.peer 1) 7) ||
          (s.ring f.peer).cutOff.contains ring.toNat) = !peerOpen := by simp [hopen]
      rw [hs1, ← shut]
      simp only [exec, execMessageSend, State.sendMessage, hc, notSend]
      rfl
    rw [runs]
    refine ⟨fun shut => ?_, fun isOpen wait => ?_, fun isOpen go => ?_⟩
    · have done : s.messageDone ring.toNat .badArg =
          s1.post (s.pairNow ring.toNat) (.completion 0 0xFD Status.badArg.code f.index ring.toNat [] true) := by
        rw [hs1]
        simp [State.messageDone, hc]
      rw [shut, ← done]
      rfl
    · rw [isOpen, if_neg (by decide), if_pos wait]
    · rw [isOpen, if_neg (by decide), if_neg (Bool.eq_false_iff.1 go)]
  case written =>
    intro s p src owner f hc
    simp [State.finishEntry, State.messageDone, hc]

/-- Settles O11: the laid entry by State.hallRaw_laid and State.layEntry_moved, the writer by its branches, WAITING by
State.bit_waiting. -/
theorem entriesAreWrittenInOrder : Obligations.EntriesAreWrittenInOrder := by
  unfold Obligations.EntriesAreWrittenInOrder
  refine ⟨?lays, ?writes, ?coalesces, ?waits⟩
  case lays =>
    rintro s r e ws rfl
    obtain ⟨hall, reg, flash, fuses, ao⟩ := s.layEntry_moved r e
    obtain ⟨m, frame⟩ := s.laid_frame r e
    rw [hall, flash, fuses, ao]
    refine ⟨s.hallRaw_laid r e, s.ringIndex_layEntry r e, s.phase_layEntry r e, fun a ha => ?_, ?_⟩
    · rw [reg a ha, frame]
      rfl
    · rw [frame]
      exact ⟨rfl, rfl, rfl⟩
  case writes =>
    intro ring s r e rest hr on en running queued
    subst hr
    have runs : exec (.entryWrite ring) s = .next (
        if !s.ringCovered ring.toNat then s.haltRing ring.toNat 2
        else if s.ringSize ring.toNat - 1 ≤ s.ringUsed ring.toNat then s
        else (((s.setRing ring.toNat { s.ring ring.toNat with outbox := (s.ring ring.toNat).outbox.erase e }).layEntry
          ring.toNat e).countEntry ring.toNat).finishEntry e) := by
      simp only [exec, execEntryWrite, State.writeEntry, on, en, running, queued]
      rfl
    rw [runs]
    refine ⟨fun out => ?_, fun covered full => ?_, fun covered room => ?_⟩
    · rw [if_pos (by rw [out]; rfl)]
    · rw [if_neg (by rw [covered]; decide), if_pos full]
    · rw [if_neg (by rw [covered]; decide), if_neg (Nat.not_le.2 room)]
  case coalesces =>
    intro ring s r hr due irq
    subst hr
    exact congrArg Host.Outcome.next ((if_pos due).trans (if_pos irq))
  case waits =>
    intro s r pair peer hr en hpair hpeer
    rw [s.bit_waiting hr, State.ringWaits, en, ← hpeer, State.pairHolds, ← hpair, not_ringRoom, not_ringRoom]
    exact ⟨fun out => by rw [out]; rfl, fun sub => by rw [sub]; rfl⟩

end Sys2Proof.Machine
end

section
/-!
SUPPORT and PROOF for POR (R5, R53, R75, R88): fields without a reset value alone differ from the POR values.
-/

namespace Sys2Proof.Machine

/-! ### Fields without a reset value (R5) -/

/-- A word in which the X fields of a row are made undefined belongs to a row with X fields. -/
theorem undefinedRows_undefined :
    (allRegs.filter (fun r => r.undef != 0#32)).all (fun r => (List.range r.count).all (fun i =>
      (regSpec (r.base + r.stride * i)).any (fun q => q.undef != 0#32))) = true := rfl

/-- Making fields undefined changes the registers and the count of free values alone. -/
theorem State.undefRegs_frame (s : State) : ∃ m n, s.undefRegs = { s with regs := m, free := n } := by
  refine List.foldlRecOn _ _ (motive := fun t : State => ∃ m n, t = { s with regs := m, free := n }) ⟨s.regs, s.free, rfl⟩ ?_
  intro t ht r _
  refine List.foldlRecOn _ _ (motive := fun t : State => ∃ m n, t = { s with regs := m, free := n }) ht ?_
  rintro _ ⟨m, n, rfl⟩ i _
  exact ⟨_, _, rfl⟩

/-- A register without an X field reads as before. -/
theorem State.reg_undefRegs (s : State) {a : Nat} (h : ∀ r, regSpec a = some r → r.undef = 0#32) :
    s.undefRegs.reg a = s.reg a := by
  have apart : ∀ r ∈ allRegs.filter (fun r => r.undef != 0#32), ∀ i ∈ List.range r.count, a ≠ r.base + r.stride * i := by
    intro r hr i hi same
    have undefined := List.all_eq_true.1 (List.all_eq_true.1 undefinedRows_undefined r hr) i hi
    rw [← same] at undefined
    obtain ⟨q, hq, nonzero⟩ := (Option.any_eq_true _ _).1 undefined
    simp [h q hq] at nonzero
  refine List.foldlRecOn _ _ (motive := fun t : State => t.reg a = s.reg a) rfl fun t ht r hr => ?_
  exact List.foldlRecOn _ _ (motive := fun t : State => t.reg a = s.reg a) ht fun u hu i hi =>
    (State.reg_setReg_other _ _ _ _ (apart r hr i hi)).trans hu

theorem State.cur_startLadder (s : State) : s.startLadder.cur = 0 := by
  have low : ∀ w : Word, field ((w &&& 0xFFFF0000#32) ||| 0x600#32) 2 0 = 0 := by
    intro w
    apply Nat.eq_of_testBit_eq
    intro j
    rw [testBit_field, Nat.zero_testBit]
    by_cases hj : j < 2 + 1 - 0
    · have clear : ∀ i < 3, (0xFFFF0000#32).getLsbD (0 + i) = false ∧ (0x600#32).getLsbD (0 + i) = false := by decide
      rw [BitVec.getLsbD_or, BitVec.getLsbD_and, (clear j hj).1, (clear j hj).2, Bool.and_false, Bool.or_false, Bool.and_false]
    · rw [decide_eq_false hj, Bool.false_and]
  rw [State.cur, State.fld, State.startLadder, State.reg_setReg_self, low]

/-! ### What POR cuts -/

theorem State.cutFuses_frame (s : State) : ∃ m f n, s.cutFuses = { s with regs := m, fuses := f, free := n } := by
  unfold State.cutFuses
  split
  · obtain ⟨m, f, n, blown⟩ := List.foldlRecOn (s.tune.plan.take 15).zipIdx (fun (s : State) (e : BitVec 56 × Nat) =>
      ((s.takeFree.2).takeFree.2).blow (48 + e.2)
        (e.1 &&& ((s.takeFree.2).takeFree.1.setWidth 24 ++ s.takeFree.1))
        (Config.secded e.1 &&& (s.takeFree.2).takeFree.1.extractLsb' 24 8))
      (motive := fun t : State => ∃ m f n, t = { s with regs := m, fuses := f, free := n }) ⟨s.regs, s.fuses, s.free, rfl⟩
      (by rintro _ ⟨m, f, n, rfl⟩ e _; exact ⟨_, _, _, rfl⟩)
    exact ⟨_, f, n, congrArg (State.setFlag · Reg.TUNE_FUSE_STATUS 4 false) blown⟩
  · exact ⟨s.regs, s.fuses, s.free, rfl⟩

theorem State.cutJournal_pending (s : State) : s.cutJournal.pending = s.pending := by
  simp only [State.cutJournal, State.setJrnl]
  split <;> rfl

/-- The part that POR wipes, before its X fields become undefined. -/
def State.porWiped (s : State) : State := { s.cutJournal.cutFuses.wiped with metro := 0#48, edge := 0#48 }

theorem State.porWiped_pending (s : State) : s.porWiped.pending = s.pending := by
  obtain ⟨m, f, n, cut⟩ := s.cutJournal.cutFuses_frame
  have same : s.porWiped.pending = s.cutJournal.cutFuses.pending := rfl
  rw [same, cut]
  exact s.cutJournal_pending

/-- Settles O13: what POR wipes by State.wiped, the X fields by State.undefRegs_frame and State.reg_undefRegs. -/
theorem porLeavesPorValues : Obligations.PorLeavesPorValues := by
  unfold Obligations.PorLeavesPorValues
  intro s
  obtain ⟨m, n, undef⟩ := s.porWiped.undefRegs_frame
  have regs (a : Nat) (ha : a ≠ Reg.DEV_LADDER_STATE) (hx : ∀ r, regSpec a = some r → r.undef = 0#32) :
      s.porWiped.undefRegs.startLadder.reg a = porWord a :=
    (State.reg_startLadder_other _ ha).trans ((State.reg_undefRegs _ hx).trans (Cells.get_nil porWord a))
  have kept : s.porWiped.undefRegs.startLadder.pending = s.porWiped.pending := by rw [undef] <;> rfl
  refine ⟨s.porWiped.undefRegs.startLadder, rfl, ?_, ?_, ?_, ?_, ?_, ?_, ?_, ?_, ?_, State.cur_startLadder _, ?_,
    kept.trans s.porWiped_pending, regs⟩
  all_goals rw [undef] <;> rfl

end Sys2Proof.Machine
end

section
/-!
PROOF of the ladder's requests and of the commands that ask for a state or set the ladder up (R54, R55, R59 to R71, R74).
-/

namespace Sys2Proof.Machine

/-! ### What LADDER_STATE shows of two states with the same registers -/

theorem State.moving_of_regs {s t : State} (h : t.regs = s.regs) : t.moving = s.moving := State.flag_of_regs h _ _

theorem State.cur_of_regs {s t : State} (h : t.regs = s.regs) : t.cur = s.cur := State.fld_of_regs h _ _ _

theorem State.tgt_of_regs {s t : State} (h : t.regs = s.regs) : t.tgt = s.tgt := State.fld_of_regs h _ _ _

/-! ### A move that begins (R55) -/

/-- A verb begins to wait in its ring alone, with the completion that says so. -/
theorem State.await_rings (s : State) (v : Verb) (w : Wait) (timeout : Nat) : ∃ rs, s.await v w timeout = { s with rings := rs } :=
  ⟨_, rfl⟩

theorem State.defer_rings (s : State) (v : Verb) (w : Wait) (timeout : Nat) : ∃ rs, s.defer v w timeout = { s with rings := rs } := by
  unfold State.defer
  dsimp only
  split
  · exact s.await_rings v w timeout
  · exact ⟨_, rfl⟩

theorem State.waitForMove_rings (s : State) (r : Nat) : ∃ rs, s.waitForMove r = { s with rings := rs } := by
  unfold State.waitForMove
  split
  · split
    · exact s.defer_rings _ _ _
    · exact s.await_rings _ _ _
  · exact ⟨s.rings, rfl⟩

/-- A move to rung t begins at the rung in force. -/
def State.moveBegun (s : State) (t : Nat) (capped : Bool) (cause : MoveCause) (ring : Option Nat) : State :=
  ((s.setTgt t).setFlag Reg.DEV_LADDER_STATE 7 true).setLadder { s.ladder with
    start := s.cur, cause := cause, byRing := ring, capped := capped, step := firstStep s.cur t }

theorem State.request_begins {s : State} {target : Nat} {cause : MoveCause} (rest : s.moving = false)
    (away : max target s.ceil ≠ s.cur) (ring : Option Nat) :
    ∃ rs, s.request target cause ring =
      { s.moveBegun (max target s.ceil) (max target s.ceil != target) cause ring with rings := rs } := by
  unfold State.request
  simp only [rest, Bool.not_false, if_true, if_neg away]
  cases ring with
  | none => exact ⟨s.rings, rfl⟩
  | some r => exact State.waitForMove_rings (s.moveBegun _ _ cause (some r)) r

theorem State.moving_moveBegun (s : State) (t : Nat) (capped : Bool) (cause : MoveCause) (ring : Option Nat) :
    (s.moveBegun t capped cause ring).moving = true := State.flag_setFlag _ _ _ _ (by decide)

theorem State.tgt_moveBegun (s : State) {t : Nat} (ht : t < 8) (capped : Bool) (cause : MoveCause) (ring : Option Nat) :
    (s.moveBegun t capped cause ring).tgt = t :=
  calc (s.moveBegun t capped cause ring).tgt
      = (s.setTgt t).tgt := State.fld_setFlag_other _ _ _ _ _ _ _ (by decide) (by decide)
    _ = t % 8 := State.fld_setFld s _ _ _ _ (by decide) (by decide)
    _ = t := Nat.mod_eq_of_lt ht

theorem State.cur_moveBegun (s : State) (t : Nat) (capped : Bool) (cause : MoveCause) (ring : Option Nat) :
    (s.moveBegun t capped cause ring).cur = s.cur :=
  (State.fld_setFlag_other _ _ _ _ _ _ _ (by decide) (by decide)).trans
    (State.fld_setFld_other s _ _ _ _ _ _ _ (by decide) (by decide) (by decide))

theorem State.reg_moveBegun (s : State) (t : Nat) (capped : Bool) (cause : MoveCause) (ring : Option Nat) {a : Nat}
    (ha : a ≠ Reg.DEV_LADDER_STATE) : (s.moveBegun t capped cause ring).reg a = s.reg a :=
  (State.reg_setReg_other _ _ a _ (ha)).trans (State.reg_setReg_other _ _ a _ (ha))

/-- The rung in force is answered at once (R55). -/
theorem State.request_stays {s : State} {target : Nat} (cause : MoveCause) (rest : s.moving = false)
    (here : max target s.ceil = s.cur) : s.request target cause none = s.setTgt (max target s.ceil) := by
  unfold State.request
  simp only [rest, Bool.not_false, if_true, if_pos here]

theorem State.request_answered {s : State} {target : Nat} (cause : MoveCause) (rest : s.moving = false)
    (here : max target s.ceil = s.cur) (r : Nat) : s.request target cause (some r) = (s.setTgt (max target s.ceil)).completeRing r
      (if max target s.ceil = target then .ok else .okDegraded) [word (max target s.ceil)] := by
  unfold State.request
  simp only [rest, Bool.not_false, if_true, if_pos here]
  by_cases kept : max target s.ceil = target <;> simp [kept]

/-! ### Writes of LADDER_REQ (R54) -/

theorem execLadderReqGo_fronted {s t : State} {p : Port} {w : BufWord} (h : fronted s p w t = true)
    (hw : w.off = Reg.DEV_LADDER_REQ) (go : bit w.val 31 = true) : exec (.ladderReqGo p) s = .next (t.writeLadderReq w.val) :=
  have row := rowOf_ladderReqGo hw go
  have apply : t.applyWord w = t.writeLadderReq w.val := by simp [State.applyWord, row]
  congrArg Host.Outcome.next ((State.takeWord_fronted h row).trans apply)

/-- Settles O16: a request at rest by State.request_begins, each verb by its checks in State.runVerb_body. -/
theorem ladderRequestsBeginMoves : Obligations.LadderRequestsBeginMoves := by
  unfold Obligations.LadderRequestsBeginMoves
  refine ⟨?request, ?set, ?write, ?config, ?tune, fun _ _ _ h ha => congrArg Host.Outcome.next (State.runVerb_body _ h ha)⟩
  case request =>
    intro s target cause t rest state named
    have below : max target s.ceil < 8 := Nat.max_lt.2 ⟨named, field_lt _ 2 0⟩
    rw [state]
    refine ⟨State.request_stays cause rest, State.request_answered cause rest, fun away ring => ?_⟩
    obtain ⟨rs, begun⟩ := State.request_begins (cause := cause) rest away ring
    rw [← state] at begun ⊢
    have regs : (s.request target cause ring).regs = (s.moveBegun t (t != target) cause ring).regs := begun ▸ rfl
    have ladder : (s.request target cause ring).ladder = (s.moveBegun t (t != target) cause ring).ladder := begun ▸ rfl
    have stores : storesSame s (s.request target cause ring) := begun ▸ ⟨rfl, rfl, rfl, rfl⟩
    exact ⟨(State.moving_of_regs regs).trans (s.moving_moveBegun _ _ _ _),
      (State.tgt_of_regs regs).trans (s.tgt_moveBegun (state ▸ below) _ _ _),
      (State.cur_of_regs regs).trans (s.cur_moveBegun _ _ _ _),
      congrArg Ladder.step ladder, congrArg Ladder.start ladder, congrArg Ladder.cause ladder, congrArg Ladder.byRing ladder,
      fun a ha => (State.reg_of_regs regs a).trans (s.reg_moveBegun _ _ _ _ ha), stores⟩
  case set =>
    intro ring s v h ha state
    have ok : (v.argsWithin [0x7#32] && decide (field (v.arg 0) 2 0 ≤ 5)) = true := by simp [ha, state]
    exact congrArg Host.Outcome.next (State.runVerb_body _ h ok)
  case write =>
    rintro p s s0 s1 w h hw go rfl
    have moving : s0.moving = s.moving := State.moving_of_regs (fronted_regs h)
    rw [execLadderReqGo_fronted h hw go, ← moving]
    exact ⟨fun rest state => by simp [State.writeLadderReq, go, rest, state],
      fun rest none => by simp [State.writeLadderReq, go, rest, Nat.not_le.2 none], fun moves => by simp [State.writeLadderReq, go, moves]⟩
  case config => exact fun _ _ _ h ha => congrArg Host.Outcome.next (State.runVerb_body _ h ha)
  case tune =>
    rintro ring s s1 v h ha rfl
    have burst : ((s.setReg Reg.DEV_BURST_CFG (v.arg 0)).setReg Reg.DEV_VCORE_CFG (v.arg 1)).reg Reg.DEV_BURST_CFG = v.arg 0 :=
      (State.reg_setReg_other _ _ _ _ (by decide)).trans (State.reg_setReg_self _ _ _)
    refine (congrArg Host.Outcome.next (State.runVerb_body _ h ha)).trans ?_
    simp only [State.tokenMax, State.fld, burst, State.setReg_ladder]

end Sys2Proof.Machine
end

section
/-!
PROOF of what wakes the ladder, of its idle timer, and of bursts, tokens and the confirmation of VDD_CORE (R59 to R71).
-/

namespace Sys2Proof.Machine

/-! ### Wake sources (R60) -/

/-- A wake source that is recognised, and none was at this tick. -/
theorem State.wake_recognised {s : State} {b : Nat} (hr : s.boot.step = .released) (hw : wakeWatched b s.cur = true)
    (named : s.fld Reg.DEV_WAKE_TGT (2 * b + 1) (2 * b) ≠ 3) (above : max (s.fld Reg.DEV_WAKE_TGT (2 * b + 1) (2 * b)) s.ceil < s.cur)
    (first : s.ladder.wokeAt ≠ some s.edge)
    (free : ¬(s.moving = true ∧ s.tgt < s.cur ∧ s.tgt ≤ max (s.fld Reg.DEV_WAKE_TGT (2 * b + 1) (2 * b)) s.ceil)) :
    s.wake b = State.request { (s.endBurst.setReg Reg.DEV_WAKE_SRC (word (2 ^ b))).setReg Reg.DEV_WAKE_TICK s.endBurst.now with
      ladder := { s.endBurst.ladder with wokeAt := some s.endBurst.edge, wakeDue := true } }
      (max (s.fld Reg.DEV_WAKE_TGT (2 * b + 1) (2 * b)) s.ceil) .wake none := by
  have watched : (s.boot.step != .released || !wakeWatched b s.cur || s.fld Reg.DEV_WAKE_TGT (2 * b + 1) (2 * b) == 3 ||
      decide (s.cur ≤ max (s.fld Reg.DEV_WAKE_TGT (2 * b + 1) (2 * b)) s.ceil)) = false := by
    simp [hr, hw, named, Nat.not_le.2 above]
  have fresh : (s.ladder.wokeAt == some s.edge) = false := by simpa using first
  have rises : (s.moving && decide (s.tgt < s.cur) &&
      decide (s.tgt ≤ max (s.fld Reg.DEV_WAKE_TGT (2 * b + 1) (2 * b)) s.ceil)) = false := by
    rw [Bool.eq_false_iff]
    simpa [and_assoc] using free
  unfold State.wake
  simp only [watched, fresh, rises, Bool.false_eq_true, if_false]
  rfl

/-- The end of a burst takes no time. -/
theorem State.endBurst_time (s : State) : s.endBurst.edge = s.edge ∧ s.endBurst.now = s.now := by
  unfold State.endBurst
  split
  · exact ⟨rfl, rfl⟩
  · exact ⟨rfl, rfl⟩

/-- Settles O17: a recognised source by State.wake_recognised, the rest by the condition that each command tests. -/
theorem theLadderWakesAndIdles : Obligations.TheLadderWakesAndIdles := by
  unfold Obligations.TheLadderWakesAndIdles
  refine ⟨fun s due => congrArg Host.Outcome.next (if_pos due),
    fun s not => congrArg Host.Outcome.next (if_neg (Bool.eq_false_iff.1 not)),
    fun p s low high => congrArg Host.Outcome.next (if_pos ⟨low, high⟩), fun p s not => congrArg Host.Outcome.next (if_neg not),
    fun s seen low => congrArg Host.Outcome.next (by simp [seen, low]), ?idle,
    fun s not => congrArg Host.Outcome.next (if_neg (Bool.eq_false_iff.1 not)), ?wake, ?tell⟩
  case idle =>
    rintro s s1 due rfl
    refine ⟨fun none => ?_, fun some state => ?_⟩
    · exact (congrArg Host.Outcome.next ((if_pos due).trans (if_pos none)))
    · exact (congrArg Host.Outcome.next ((if_pos due).trans (if_neg (by omega))))
  case wake =>
    intro s s1 s2 b t _ ht released watched named above first free h1 h2
    subst ht h1 h2
    obtain ⟨edge, now⟩ := s.endBurst_time
    rw [State.wake_recognised released watched named above first free, edge, now]
  case tell =>
    exact fun s => ⟨fun none => if_neg (Bool.eq_false_iff.1 none), fun due => if_pos due⟩

/-! ### Bursts, tokens and VDD_CORE (R66 to R71) -/

theorem State.endBurst_running {s : State} (on : s.ladder.burstOn = true) :
    s.endBurst = State.setCore { (s.setReg Reg.DEV_BURST_COUNT (s.reg Reg.DEV_BURST_COUNT + 1#32)).setReg Reg.DEV_BURST_TICKS
      (s.reg Reg.DEV_BURST_TICKS + word (s.elapsed s.ladder.burstFrom + 1)) with
        ladder := { s.ladder with burstOn := false } } .stopped := by
  have ticks : (s.setReg Reg.DEV_BURST_COUNT (s.reg Reg.DEV_BURST_COUNT + 1#32)).reg Reg.DEV_BURST_TICKS = s.reg Reg.DEV_BURST_TICKS :=
    State.reg_setReg_other _ _ _ _ (by decide)
  unfold State.endBurst
  rw [if_pos on]
  dsimp only
  rw [ticks]
  rfl

/-- The level asked for does not depend on the level seen (R199). -/
theorem State.confirmMv_seeCore (s : State) (mv : Nat) : (s.seeCore mv).confirmMv = s.confirmMv := by
  have cfg : (s.seeCore mv).fld Reg.DEV_VCORE_CFG 9 0 = s.fld Reg.DEV_VCORE_CFG 9 0 :=
    State.fld_setFlag_other _ _ _ _ _ _ _ (by decide) (by decide)
  unfold State.confirmMv
  rw [cfg]

/-- A report of the comparator outside POR, TACET and a SYSTEM reset (R70, R199). -/
theorem execVcoreConfirmed_running {s : State} {mv : Nat} (por : s.boot.step ≠ .por) (tacet : s.boot.step ≠ .tacet)
    (held : s.boot.sysHeld = false) : exec (.vcoreConfirmed mv) s = .next (
      if s.ladder.vcoreAt.isSome ∧ s.confirmMv ≤ mv then
        (((s.seeCore mv).setVcoreAt none).setFlag Reg.DEV_LADDER_STATE 11 false).setFreq 0
      else s.seeCore mv) := by
  have on : (s.boot.step == .por || s.boot.step == .tacet || s.boot.sysHeld) = false := by simp [por, tacet, held]
  refine congrArg Host.Outcome.next ((if_neg (Bool.eq_false_iff.1 on)).trans ?_)
  dsimp only
  rw [s.confirmMv_seeCore mv]
  rfl

/-- The level seen, and whether it confirms (R199). -/
theorem State.seeCore_eq (s : State) (mv : Nat) : s.seeCore mv =
    State.setFlag { s with sense := { s.sense with coreMv := some mv } } Reg.SENSE_RAIL_STATUS 16 (decide (s.confirmMv ≤ mv)) := rfl

/-- A confirmation that is awaited ends or is awaited on (R70). -/
theorem execVcoreTimeout_waiting {s : State} {t : BitVec 48} (h : s.ladder.vcoreAt = some t) : exec .vcoreTimeout s = .next (
    if max 1 (s.fld Reg.DEV_VCORE_CFG 25 16) ≤ s.elapsed t then (s.setVcoreAt none).setFlag Reg.DEV_LADDER_STATE 11 true else s) := by
  simp only [exec, execVcoreTimeout, h]

/-- Settles O18: bursts by the condition that each command tests, VDD_CORE by execVcoreConfirmed_running. -/
theorem burstsAndVcoreAreServed : Obligations.BurstsAndVcoreAreServed := by
  unfold Obligations.BurstsAndVcoreAreServed
  refine ⟨fun s ready => congrArg Host.Outcome.next (if_pos ready),
    fun s not => congrArg Host.Outcome.next (if_neg (Bool.eq_false_iff.1 not)), ?ends,
    fun s due => congrArg Host.Outcome.next (if_pos due), ?vcore⟩
  case ends =>
    rintro s s1 on unwanted idle rfl
    have finished : s.ladder.burstOn = true ∧ (!s.burstWanted) = true ∧ s.stave.step = .none := ⟨on, by simp [unwanted], idle⟩
    have ends : exec .burstEnd s = .next s.endBurst.linkOff := congrArg Host.Outcome.next (if_pos finished)
    rw [ends, State.endBurst_running on]
  case vcore =>
    intro mv s t waits
    have awaited : s.ladder.vcoreAt.isSome = true := by rw [waits]; rfl
    refine ⟨fun por tacet held => ⟨fun enough => ?_, fun low => ?_⟩, fun late => ?_, fun early => ?_⟩
    · rw [execVcoreConfirmed_running por tacet held, if_pos ⟨awaited, enough⟩, s.seeCore_eq, decide_eq_true (p := s.confirmMv ≤ mv) enough]
      rfl
    · rw [execVcoreConfirmed_running por tacet held, if_neg fun confirmed => Nat.not_le.2 low confirmed.2, s.seeCore_eq,
        decide_eq_false (p := s.confirmMv ≤ mv) (Nat.not_le.2 low)]
    · rw [execVcoreTimeout_waiting waits, if_pos late]
      rfl
    · rw [execVcoreTimeout_waiting waits, if_neg (Nat.not_le.2 early)]

end Sys2Proof.Machine
end

section
/-!
PROOF of the steps of descents and ascents and of the end of a move (Tables 3-3 and 3-5, R52, R54 to R58, R64, R72 to R74).
-/

namespace Sys2Proof.Machine

/-! ### A move's rung and what it clears -/

theorem State.cur_setCur (s : State) {c : Nat} (h : c < 8) : (s.setCur c).cur = c :=
  (s.fld_setFld Reg.DEV_LADDER_STATE 2 0 c (by decide) (by decide)).trans (Nat.mod_eq_of_lt h)

theorem State.tgt_setTgt (s : State) {t : Nat} (h : t < 8) : (s.setTgt t).tgt = t :=
  (s.fld_setFld Reg.DEV_LADDER_STATE 6 4 t (by decide) (by decide)).trans (Nat.mod_eq_of_lt h)

theorem State.cur_setTgt (s : State) (t : Nat) : (s.setTgt t).cur = s.cur :=
  State.fld_setFld_other _ _ _ _ _ _ _ _ (by decide) (by decide) (by decide)

/-! ### Descents (Table 3-3) -/

/-- D7, and D8 below PIANO, with no job in a slot. -/
theorem execDescentCoreStop_running {s : State} (step : s.ladder.step = .coreStop) (clocked : s.cur ≤ 1)
    (jobs : s.ens.jobs.any (fun j => j.phase == .checked || (j.phase == .running && j.ending.isNone)) = false)
    (ready : s.d7Ready = true) : exec .descentCoreStop s = .next (
      if s.stepD7.tgt = 2 then s.stepD7.reachTarget
      else if s.stepD7.stepD8.tgt = 3 then s.stepD7.stepD8.reachTarget else s.stepD7.stepD8.setStep .fermata) := by
  simp only [exec, execDescentCoreStop, if_pos step, if_pos clocked, jobs, ready, Bool.false_eq_true, if_false, if_true]

/-- D8 of a part whose CORE has stopped. -/
theorem execDescentCoreStop_stopped {s : State} (step : s.ladder.step = .coreStop) (stopped : 2 ≤ s.cur) :
    exec .descentCoreStop s = .next (if s.ladder.burstOn then s
      else if s.stepD8.tgt = 3 then s.stepD8.reachTarget else s.stepD8.setStep .fermata) := by
  simp only [exec, execDescentCoreStop, if_pos step, if_neg (Nat.not_le.2 stopped)]

/-- D9 and D10 once nothing is under way. -/
theorem execDescentFermataEntry_idle {s : State} (step : s.ladder.step = .fermata) (burst : s.ladder.burstOn = false)
    (push : s.face.pushing = none) (panel : s.stave.step = .none) : exec .descentFermataEntry s = .next (
      if s.cur ≠ 4 ∧ s.lit = true ∧ s.flag Reg.FACE_STATUS 8 = true then s.darkenBurst
      else if (if s.cur = 4 then s else s.stepD9).tgt = 4 then (if s.cur = 4 then s else s.stepD9).reachTarget
      else if (if s.cur = 4 then s else s.stepD9).lit then (if s.cur = 4 then s else s.stepD9).darkenBurst
      else (if s.cur = 4 then s else s.stepD9).stepD10) :=
  congrArg Host.Outcome.next (if_pos ⟨step, by simp [burst], by simp [push], panel⟩)

/-- A lit panel is powered off in its burst (R362). -/
theorem State.darkenBurst_lit {s : State} (lit : s.lit = true) : s.darkenBurst = (s.setCore .burst).powerOff 2 false := by
  have shown : (s.setCore .burst).panel = s.panel := State.fld_setFld_other _ _ _ _ _ _ _ _ (by decide) (by decide) (by decide)
  have on : s.panel = 2 ∨ s.panel = 3 := by simpa [State.lit] using lit
  unfold State.darkenBurst State.darken
  rw [shown, if_pos on]

/-- In TACET everything that CORE, the rails and the Hall hold is off (Table 2-5). -/
theorem State.enterTacet_off (s : State) : s.enterTacet.cur = 5 ∧ s.enterTacet.tgt = 5 ∧ s.enterTacet.boot.step = .tacet ∧
    s.enterTacet.ladder.core = .stopped ∧ s.enterTacet.pins.pseqEn = 0#12 ∧ s.enterTacet.pins.pnlEn = 0#4 ∧
    s.enterTacet.pins.supReq = false ∧ s.enterTacet.pins.alive = false ∧ s.enterTacet.banks = 0#48 ∧ s.enterTacet.hall = [] := by
  refine ⟨(State.cur_setTgt _ _).trans (State.cur_setCur _ (by decide)), State.tgt_setTgt _ (by decide), rfl, rfl, rfl, ?_, rfl, rfl, rfl, ?_⟩
  · have low : ∀ v : BitVec 4, v &&& ~~~0xF#4 ||| 0#4 &&& 0xF#4 = 0#4 := by decide
    exact low _
  · have off : ∀ l : List (Nat × Byte), l.filter (fun e => (0#48).getLsbD (e.1 / 0x20000)) = [] := by simp
    exact off _

/-- Settles O19: each step by the condition that it waits for. -/
theorem descentsFollowTheirSteps : Obligations.DescentsFollowTheirSteps := by
  unfold Obligations.DescentsFollowTheirSteps
  refine ⟨fun s _ held => congrArg Host.Outcome.next (if_neg fun ready => held ready.2), ?jobs, ?frame, ?panel, ?coreStop, ?stopped,
    ?fermata, fun s step halted => congrArg Host.Outcome.next (if_pos ⟨step, by simp [halted]⟩),
    fun s step runs => congrArg Host.Outcome.next (if_neg (by simp [runs])),
    fun s step late => congrArg Host.Outcome.next (if_pos ⟨step, late⟩), fun s tacet => if_pos tacet, State.enterTacet_off⟩
  case jobs =>
    intro s s1 step released hs
    have runs : exec .descentJobsIdle s = .next (if s1.forced || s1.jobsDone s1.tgt then s1.setStep .frame else s1) :=
      hs ▸ congrArg Host.Outcome.next (if_pos ⟨step, released⟩)
    rw [runs]
    exact ⟨fun allowed => congrArg Host.Outcome.next (if_pos (by simpa using allowed)),
      fun free busy => congrArg Host.Outcome.next (if_neg (by simp [free, busy]))⟩
  case frame =>
    intro s s2 step boundary hs
    have runs : exec .descentFrameStep s = .next (if s2.tgt = 1 then s2.reachTarget else s2.panelStep) :=
      hs ▸ congrArg Host.Outcome.next (if_pos ⟨step, boundary⟩)
    rw [runs]
    exact ⟨fun reached => by rw [if_pos reached], fun below => by rw [if_neg below]⟩
  case panel =>
    exact fun s step => ⟨fun boundary => congrArg Host.Outcome.next (if_pos ⟨step, boundary⟩),
      fun between => congrArg Host.Outcome.next (if_neg (by simp [between]))⟩
  case coreStop =>
    intro s s1 step clocked jobs ready hs
    rw [execDescentCoreStop_running step clocked jobs ready, ← hs]
    exact ⟨fun reached => by rw [if_pos reached], fun below reached => by rw [if_neg below, if_pos reached],
      fun below further => by rw [if_neg below, if_neg further]; rfl⟩
  case stopped =>
    intro s step stopped
    rw [execDescentCoreStop_stopped step stopped]
    exact ⟨fun on => by rw [if_pos on], fun off reached => by rw [if_neg (Bool.eq_false_iff.1 off), if_pos reached],
      fun off further => by rw [if_neg (Bool.eq_false_iff.1 off), if_neg further]; rfl⟩
  case fermata =>
    intro s s1 step burst push panel hs
    rw [execDescentFermataEntry_idle step burst push panel, ← hs]
    refine ⟨fun darkens => ?_, fun not => ⟨fun reached => ?_, fun further lit => ?_, fun further dark => ?_⟩⟩
    · rw [if_pos darkens, State.darkenBurst_lit darkens.2.1]
    · rw [if_neg not, if_pos reached]
    · rw [if_neg not, if_neg further, if_pos lit, State.darkenBurst_lit lit]
    · rw [if_neg not, if_neg further, if_neg (Bool.eq_false_iff.1 dark)]

/-! ### Ascents (Table 3-5) -/

/-- The rung of an ascent reached, with its refill (R64). -/
def State.risen (s : State) : State := ((if 2 ≤ s.cur then s.setBanks s.touchedBanks else s).setCur s.tgt).refill

/-- Work goes on at a new rung, with the idle timer and the watchdog restarted (Table 3-5). -/
def State.goesOn (s : State) : State := (s.setLadder { s.ladder with idleCount := 0 }).wdogRestart.resumeWork

theorem State.stepU4_eq {s t u : State} (h : t = s.risen) (k : u = t.goesOn) : s.stepU4 =
    (if 2 ≤ s.cur then
      (if u.pllCode.isSome ∨ (2 ≤ s.cur ∧ u.ladder.pllLocked) then u.goFreq (u.freqFor u.cur) else u).tuneHeld.faceMode
    else if u.pllCode.isSome ∨ (2 ≤ s.cur ∧ u.ladder.pllLocked) then u.goFreq (u.freqFor u.cur) else u).reachTarget := by
  unfold State.stepU4
  unfold State.risen at h
  unfold State.goesOn at k
  dsimp only
  rw [← h, ← k]

/-! ### The end of a move (R54 to R56) -/

/-- All that settles the rung of a move: CORE stops, and the Hall loses its power. -/
theorem State.settleRung_cases {P : State → Prop} {s : State} (h : P s) (stops : P (s.setCore .stopped))
    (unpowers : ∀ t, P t → P (t.setBanks 0#48)) : P s.settleRung := by
  have stopped : P (if s.ladder.core = .stopped then s else s.setCore .stopped) := by
    split
    · exact h
    · exact stops
  unfold State.settleRung
  dsimp only
  split
  · exact h
  · split
    · exact stopped
    · exact unpowers _ stopped

/-- It shows in FREQ alone. -/
theorem State.settleRung_fld (s : State) {hi lo : Nat} (h : 10 < lo ∨ hi < 8) :
    s.settleRung.fld Reg.DEV_LADDER_STATE hi lo = s.fld Reg.DEV_LADDER_STATE hi lo :=
  State.settleRung_cases (P := fun t => t.fld Reg.DEV_LADDER_STATE hi lo = s.fld Reg.DEV_LADDER_STATE hi lo) rfl
    (State.fld_setFld_other _ _ 10 8 _ _ _ _ (by decide) (by decide) (.inr h)) fun _ kept => kept

theorem State.settleRung_stores (s : State) : s.settleRung.flash = s.flash ∧ s.settleRung.fuses = s.fuses :=
  State.settleRung_cases (P := fun t => t.flash = s.flash ∧ t.fuses = s.fuses) ⟨rfl, rfl⟩ ⟨rfl, rfl⟩ fun _ kept => kept

/-- The registers at the end of a move, before its event. -/
def State.moveShown (s : State) : State := (s.settleRung.setFlag Reg.DEV_LADDER_STATE 7 false).bump Reg.DEV_LADDER_STATE 31 16

theorem State.endMove_eq (s : State) : s.endMove = (s.moveShown.setStep .none).raise 0
    (word (s.cur + 16 * s.ladder.start + 256 * s.ladder.cause.code)) := rfl

theorem State.reg_endMove (s : State) : s.endMove.reg Reg.DEV_LADDER_STATE = s.moveShown.reg Reg.DEV_LADDER_STATE := by
  rw [State.endMove_eq, State.reg_raise _ _ (by decide) _ _ (by decide)]
  rfl

theorem State.moving_moveShown (s : State) : s.moveShown.moving = false :=
  (State.flag_setFld_other _ _ 31 16 _ _ 7 (by decide) (by decide) (by decide)).trans (State.flag_setFlag _ _ _ _ (by decide))

theorem State.cur_moveShown (s : State) : s.moveShown.cur = s.cur :=
  calc s.moveShown.cur
      = (s.settleRung.setFlag Reg.DEV_LADDER_STATE 7 false).cur :=
        State.fld_setFld_other _ _ 31 16 _ _ _ _ (by decide) (by decide) (by decide)
    _ = s.settleRung.cur := State.fld_setFlag_other _ _ _ _ _ _ _ (by decide) (by decide)
    _ = s.cur := s.settleRung_fld (by decide)

theorem State.moves_moveShown (s : State) :
    s.moveShown.fld Reg.DEV_LADDER_STATE 31 16 = (s.fld Reg.DEV_LADDER_STATE 31 16 + 1) % 65536 := by
  unfold State.moveShown
  rw [State.fld_bump _ _ _ _ (by decide) (by decide), State.fld_setFlag_other _ _ _ _ _ _ _ (by decide) (by decide),
    s.settleRung_fld (by decide)] <;> rfl

/-- Settles O21: each step by the step that waits, the PLL step by State.stepU4_eq, the end of a move by State.endMove_eq. -/
theorem ascentsFollowTheirSteps : Obligations.AscentsFollowTheirSteps := by
  unfold Obligations.AscentsFollowTheirSteps
  refine ⟨?coreStart, ?banks, fun s step => congrArg Host.Outcome.next (if_pos step),
    fun s step => congrArg Host.Outcome.next (if_neg step), ?pll, ?ends⟩
  case coreStart =>
    intro s s1 s2 step h1 h2
    rw [h2, h1]
    exact congrArg Host.Outcome.next (if_pos step)
  case banks =>
    refine fun s step => ⟨fun piano => ?_, fun below => ?_⟩
    · exact congrArg Host.Outcome.next ((if_pos step).trans (if_neg (Nat.not_le.2 (Nat.lt_succ_of_le piano))))
    · exact congrArg Host.Outcome.next ((if_pos step).trans (if_pos below))
  case pll =>
    intro s s2 h2
    refine ⟨s2.goesOn, rfl, fun clocked => ?_, fun stopped => ?_⟩
    · have ran : ¬2 ≤ s.cur := by omega
      rw [State.stepU4_eq h2 rfl, if_neg ran]
      simp only [ran, false_and, or_false]
    · rw [State.stepU4_eq h2 rfl, if_pos stopped]
      simp only [stopped, true_and]
  case ends =>
    intro s
    have shown := s.reg_endMove
    obtain ⟨flash, fuses⟩ := s.settleRung_stores
    refine ⟨(congrArg (bit · 7) shown).trans s.moving_moveShown, ?_, (congrArg (field · 31 16) shown).trans s.moves_moveShown,
      (congrArg (field · 2 0) shown).trans s.cur_moveShown, ?_, ?_, rfl⟩
    · rw [State.endMove_eq, State.raise_ladder _ _ (by decide)]
      rfl
    · rw [State.endMove_eq, State.raise_flash _ _ (by decide)]
      exact flash
    · rw [State.endMove_eq, State.raise_fuses _ _ (by decide)]
      exact fuses

end Sys2Proof.Machine
end

section
/-!
PROOF of step D8 of a descent, in which the Hall loses its power (R52, Table 3-3).
-/

namespace Sys2Proof.Machine

/-! ### Raises while CORE is stopped (R27) -/

theorem State.routeRaise_stopped {s : State} (off : s.coreOn = false) (e : Nat) (arg : Word) : s.routeRaise e arg =
    { s with flags := holdFlag s.flags { event := e, count := 1, arg := arg, tick := s.metro, ringOnly := false } } :=
  if_neg (Bool.eq_false_iff.1 off)

theorem State.raise_stopped_rings {s : State} (off : s.coreOn = false) (e : Nat) (arg : Word) : (s.raise e arg).rings = s.rings := by
  unfold State.raise
  rw [State.routeRaise_stopped off]

/-! ### What the entries turned back leave alone -/

/-- t shows the rung of s, its ladder and its stores but the Hall. -/
structure Unposted (s t : State) : Prop where
  flash : t.flash = s.flash
  fuses : t.fuses = s.fuses
  ao : t.ao = s.ao
  ladder : t.ladder = s.ladder
  reg : t.reg Reg.DEV_LADDER_STATE = s.reg Reg.DEV_LADDER_STATE

theorem Unposted.refl (s : State) : Unposted s s := ⟨rfl, rfl, rfl, rfl, rfl⟩

theorem Unposted.trans {s t u : State} (h : Unposted s t) (k : Unposted t u) : Unposted s u :=
  ⟨k.flash.trans h.flash, k.fuses.trans h.fuses, k.ao.trans h.ao, k.ladder.trans h.ladder, k.reg.trans h.reg⟩

theorem Unposted.raise (s : State) {e : Nat} (he : e < 128) (arg : Word) : Unposted s (s.raise e arg) :=
  ⟨s.raise_flash e he arg, s.raise_fuses e he arg, s.raise_ao e he arg, s.raise_ladder e he arg,
    s.reg_raise e he arg _ (by decide)⟩

theorem State.bumpSat_unposted (s : State) {a : Nat} (h : Reg.DEV_LADDER_STATE ≠ a) (hi lo : Nat) : Unposted s (s.bumpSat a hi lo) :=
  ⟨rfl, rfl, rfl, rfl, State.reg_setReg_other _ _ _ _ (h)⟩

theorem State.setRing_unposted (s : State) (r : Nat) (u : RingSt) : Unposted s (s.setRing r u) := ⟨rfl, rfl, rfl, rfl, rfl⟩

theorem State.dropEntry_unposted (s : State) (r : Nat) : Unposted s (s.dropEntry r) := by
  have counted := s.bumpSat_unposted (ringWord_ne_below (by decide) r 3).symm 31 20
  unfold State.dropEntry
  dsimp only
  split
  · exact counted
  · exact (counted.trans (State.setRing_unposted _ _ _)).trans (.raise _ (by decide) _)

theorem State.unpostEvent_unposted (s : State) (e : OutEntry) : Unposted s (s.unpostEvent e) := by
  unfold State.unpostEvent
  split
  · exact ⟨rfl, rfl, rfl, rfl, rfl⟩
  · exact .refl s

/-- One waiting entry of ring r that its ring no longer takes. -/
def State.turnBack (r : Nat) (s : State) (e : OutEntry) : State :=
  match e with
  | .event .. => s.unpostEvent e
  | .sample .. => s.dropEntry r
  | .log .. => s.dropEntry r
  | _ => s

/-- The entries that wait on when their ring no longer takes any. -/
def waitsOn (e : OutEntry) : Bool :=
  match e with
  | .event .. => false
  | .sample .. => false
  | .log .. => false
  | _ => true

theorem State.unqueue_eq (s : State) (r : Nat) : s.unqueue r =
    (s.ring r).outbox.foldl (State.turnBack r) (s.setRing r { s.ring r with outbox := (s.ring r).outbox.filter waitsOn }) := rfl

theorem State.turnBack_unposted (r : Nat) (s : State) (e : OutEntry) : Unposted s (s.turnBack r e) := by
  unfold State.turnBack
  split
  · exact s.unpostEvent_unposted _
  · exact s.dropEntry_unposted r
  · exact s.dropEntry_unposted r
  · exact .refl s

theorem State.unqueue_unposted (s : State) (r : Nat) : Unposted s (s.unqueue r) := by
  rw [State.unqueue_eq]
  exact List.foldlRecOn _ _ (motive := fun t : State => Unposted s t) (s.setRing_unposted _ _)
    fun t h e _ => h.trans (State.turnBack_unposted r t e)

/-! ### What waits on -/

theorem Unposted.coreOn {s t : State} (h : Unposted s t) : t.coreOn = s.coreOn := congrArg (fun x : Ladder => x.core != .stopped) h.ladder

theorem State.ring_of_rings {s t : State} (h : t.rings = s.rings) (r : Nat) : t.ring r = s.ring r := by
  unfold State.ring
  rw [h]

theorem State.outbox_dropEntry {s : State} (off : s.coreOn = false) (r q : Nat) :
    ((s.dropEntry r).ring q).outbox = (s.ring q).outbox := by
  unfold State.dropEntry
  dsimp only
  split
  · rfl
  · rw [State.ring_of_rings (State.raise_stopped_rings (by exact off) _ _), State.ring_setRing]
    split
    · rename_i same
      rw [same]
      rfl
    · rfl

theorem State.outbox_turnBack {s : State} (off : s.coreOn = false) (r : Nat) (e : OutEntry) (q : Nat) :
    ((s.turnBack r e).ring q).outbox = (s.ring q).outbox := by
  unfold State.turnBack
  split
  · unfold State.unpostEvent
    split <;> rfl
  · exact State.outbox_dropEntry off r q
  · exact State.outbox_dropEntry off r q
  · rfl

theorem State.outbox_turnBackAll {s : State} (off : s.coreOn = false) (r : Nat) (l : List OutEntry) (q : Nat) :
    ((l.foldl (State.turnBack r) s).ring q).outbox = (s.ring q).outbox := by
  induction l generalizing s with
  | nil => rfl
  | cons e l ih => exact (ih ((State.turnBack_unposted r s e).coreOn.trans off)).trans (State.outbox_turnBack off r e q)

theorem State.outbox_unqueue {s : State} (off : s.coreOn = false) (r q : Nat) :
    ((s.unqueue r).ring q).outbox = if q = r then (s.ring r).outbox.filter waitsOn else (s.ring q).outbox := by
  have start : (((s.setRing r { s.ring r with outbox := (s.ring r).outbox.filter waitsOn }).ring q).outbox =
      if q = r then (s.ring r).outbox.filter waitsOn else (s.ring q).outbox) := by
    rw [State.ring_setRing]
    split <;> rfl
  rw [State.unqueue_eq, ← start]
  exact State.outbox_turnBackAll (by exact off) r _ q

theorem State.outbox_unqueueAll (l : List (Nat × RingSt)) {s : State} (off : s.coreOn = false) (q : Nat) :
    ((l.foldl (fun t e => t.unqueue e.1) s).ring q).outbox =
      if q ∈ l.map (·.1) then (s.ring q).outbox.filter waitsOn else (s.ring q).outbox := by
  induction l generalizing s with
  | nil => rfl
  | cons e l ih =>
    rw [List.foldl_cons, ih ((s.unqueue_unposted e.1).coreOn.trans off), State.outbox_unqueue off]
    by_cases here : q = e.1
    · subst here
      simp [List.filter_filter]
    · simp only [List.map_cons, List.mem_cons, here, false_or, if_false]

theorem State.unpost_unposted (s : State) : Unposted s s.unpost :=
  List.foldlRecOn s.rings _ (motive := fun t : State => Unposted s t) (.refl s) fun t h e _ => h.trans (t.unqueue_unposted e.1)

/-- A ring that is not listed holds nothing. -/
theorem State.ring_unlisted {s : State} {q : Nat} (h : q ∉ s.rings.map (·.1)) : s.ring q = {} := by
  unfold State.ring Cells.get
  cases found : Cells.find s.rings q with
  | none => rfl
  | some u => exact absurd (List.mem_map.2 ⟨_, Cells.mem_of_find found, rfl⟩) h

theorem State.outbox_unpost {s : State} (off : s.coreOn = false) (q : Nat) :
    (s.unpost.ring q).outbox = (s.ring q).outbox.filter waitsOn := by
  unfold State.unpost
  rw [State.outbox_unqueueAll s.rings off]
  split
  · rfl
  · rename_i unlisted
    rw [State.ring_unlisted unlisted]
    rfl

/-! ### Step D8 -/

/-- Entries were announced and are not fetched: LOST is set (R52). -/
def State.markLost (s : State) : State :=
  if (List.range 256).any (fun r => s.ringEn r && s.isSubmission r && s.announced r) then s.setFlag Reg.DEV_LADDER_STATE 12 true else s

/-- The jobs dropped, and the rings to be refilled. -/
def State.jobsDropped (s : State) : State :=
  (s.setEns { s.ens with jobs := [], started := [] }).setLadder { s.ladder with refillRings := true }

theorem State.stepD8_eq (s : State) : s.stepD8 = (s.markLost.unpost.jobsDropped.setBanks 0#48).setCur 3 := rfl

theorem State.unpowered_frame (t : State) : ((t.jobsDropped.setBanks 0#48).setCur 3).banks = 0#48 ∧
    ((t.jobsDropped.setBanks 0#48).setCur 3).hall = [] ∧ ((t.jobsDropped.setBanks 0#48).setCur 3).ens.jobs = [] ∧
    ((t.jobsDropped.setBanks 0#48).setCur 3).ladder.refillRings = true ∧
    ((t.jobsDropped.setBanks 0#48).setCur 3).flash = t.flash ∧ ((t.jobsDropped.setBanks 0#48).setCur 3).fuses = t.fuses ∧
    ((t.jobsDropped.setBanks 0#48).setCur 3).ao = t.ao ∧ ((t.jobsDropped.setBanks 0#48).setCur 3).rings = t.rings := by
  simp [State.setBanks, State.jobsDropped, State.setEns, State.setLadder]

/-- What D8 takes from a part whose entries are turned back. -/
theorem State.flag_stepD8 (t : State) : ((t.jobsDropped.setBanks 0#48).setCur 3).flag Reg.DEV_LADDER_STATE 12 =
    t.flag Reg.DEV_LADDER_STATE 12 :=
  State.flag_setFld_other (t.jobsDropped.setBanks 0#48) Reg.DEV_LADDER_STATE 2 0 3 Reg.DEV_LADDER_STATE 12 (by decide) (by decide)
    (.inr (.inr (by decide)))

theorem State.markLost_frame (s : State) : s.markLost.flash = s.flash ∧ s.markLost.fuses = s.fuses ∧ s.markLost.ao = s.ao ∧
    s.markLost.rings = s.rings ∧ s.markLost.coreOn = s.coreOn := by
  unfold State.markLost
  split <;> exact ⟨rfl, rfl, rfl, rfl, rfl⟩

/-- Settles O20: what waits on by State.outbox_unpost, LOST by Unposted.reg. -/
theorem hallIsLostBelowPiano : Obligations.HallIsLostBelowPiano := by
  unfold Obligations.HallIsLostBelowPiano
  intro s
  obtain ⟨flash, fuses, ao, rings, core⟩ := s.markLost_frame
  have turned := s.markLost.unpost_unposted
  obtain ⟨banks, hall, jobs, refill, flash', fuses', ao', rings'⟩ := s.markLost.unpost.unpowered_frame
  rw [State.stepD8_eq]
  refine ⟨banks, hall, State.cur_setCur _ (by decide), jobs, refill, flash'.trans (turned.flash.trans flash),
    fuses'.trans (turned.fuses.trans fuses), ao'.trans (turned.ao.trans ao), fun off r => ?_,
    fun ⟨r, below, enabled, submission, announced⟩ => ?_⟩
  · have waiting := State.outbox_unpost (core.trans off) r
    rw [State.ring_of_rings rings r] at waiting
    rw [State.ring_of_rings rings' r]
    refine Eq.trans waiting (List.filter_congr fun e _ => ?_)
    cases e <;> rfl
  · have lost : (List.range 256).any (fun r => s.ringEn r && s.isSubmission r && s.announced r) = true :=
      List.any_eq_true.2 ⟨r, List.mem_range.2 below, by simp [enabled, submission, announced]⟩
    have marked : s.markLost.flag Reg.DEV_LADDER_STATE 12 = true := by
      unfold State.markLost
      rw [if_pos lost]
      exact State.flag_setFlag _ _ _ _ (by decide)
    have shown : s.markLost.unpost.flag Reg.DEV_LADDER_STATE 12 = true := by
      unfold State.flag
      rw [turned.reg]
      exact marked
    exact (State.flag_stepD8 _).trans shown

end Sys2Proof.Machine
end

section
/-!
PROOF of page modes, commits that take effect and writes of RW/S words (R9, R21, R32, R33).
-/

namespace Sys2Proof.Machine

/-! ### Words put in force (R21) -/

/-- Keys that rise are listed once. -/
theorem Cells.find_of_mem {α : Type} {m : Cells α} (h : Cells.rising m = true) {e : Nat × α} (he : e ∈ m) :
    Cells.find m e.1 = some e.2 := by
  have sorted := (Cells.rising_iff m).1 h
  clear h
  induction m with
  | nil => cases he
  | cons f rest ih =>
    obtain ⟨first, others⟩ := List.pairwise_cons.1 sorted
    unfold Cells.find
    rcases List.mem_cons.1 he with rfl | later
    · exact if_pos rfl
    · rw [if_neg (Nat.ne_of_lt (first e later))]
      exact ih later others

theorem State.foldl_setForce_frame (l : List (Nat × Word)) (s : State) :
    ∃ f, l.foldl (fun t e => t.setForce e.1 e.2) s = { s with force := f } :=
  List.foldlRecOn l _ (motive := fun t : State => ∃ f, t = { s with force := f }) ⟨_, rfl⟩
    fun t h e _ => by
      obtain ⟨f, rfl⟩ := h
      exact ⟨_, rfl⟩

theorem State.inForce_foldl_other {a : Nat} (l : List (Nat × Word)) (s : State) (h : ∀ e ∈ l, e.1 ≠ a) :
    (l.foldl (fun t e => t.setForce e.1 e.2) s).inForce a = s.inForce a :=
  List.foldlRecOn l _ (motive := fun t : State => t.inForce a = s.inForce a) rfl
    fun t kept e he => (State.inForce_setForce_other t e.1 a e.2 (h e he).symm).trans kept

/-- A word that is listed with one value alone takes it. -/
theorem State.inForce_foldl {a : Nat} {v : Word} (l : List (Nat × Word)) (s : State) (one : ∀ e ∈ l, e.1 = a → e.2 = v)
    (listed : ∃ e ∈ l, e.1 = a) : (l.foldl (fun t e => t.setForce e.1 e.2) s).inForce a = v := by
  induction l generalizing s with
  | nil => simp at listed
  | cons e l ih =>
    have tail : ∀ f ∈ l, f.1 = a → f.2 = v := fun f hf => one f (List.mem_cons_of_mem _ hf)
    by_cases later : ∃ f ∈ l, f.1 = a
    · exact ih (s.setForce e.1 e.2) tail later
    · have here : e.1 = a := by
        obtain ⟨f, hf, same⟩ := listed
        rcases List.mem_cons.1 hf with rfl | hf
        · exact same
        · exact absurd ⟨f, hf, same⟩ later
      have value : e.2 = v := one e List.mem_cons_self here
      rw [List.foldl_cons, State.inForce_foldl_other l _ (fun f hf same => later ⟨f, hf, same⟩), here, value]
      exact State.inForce_setForce_self s a v

/-- The RW/S words of a page as the host reads them, and every other word in force without them. -/
def shadowOf (page : Nat) (a : Nat) : Bool := pageOf a == page && isShadow a

/-- The words in force without those of one page. -/
def State.withoutPage (s : State) (page : Nat) : State := { s with force := s.force.filter (fun e => !shadowOf page e.1) }

theorem State.applyShadow_eq (s : State) (page : Nat) : s.applyShadow page =
    (s.regs.filter (fun e => shadowOf page e.1)).foldl (fun t e => t.setForce e.1 e.2) (s.withoutPage page) := rfl

theorem State.inForce_withoutPage (s : State) (page a : Nat) :
    (s.withoutPage page).inForce a = if shadowOf page a then porWord a else s.inForce a := by
  refine (Cells.get_filter porWord s.force (fun k => !shadowOf page k) a).trans ?_
  cases shadowOf page a <;> rfl

theorem State.applyShadow_frame (s : State) (page : Nat) : ∃ f, s.applyShadow page = { s with force := f } := by
  obtain ⟨f, applied⟩ := State.foldl_setForce_frame (s.regs.filter (fun e => shadowOf page e.1)) (s.withoutPage page)
  exact ⟨f, (s.applyShadow_eq page).trans applied⟩

theorem State.inForce_applyShadow {s : State} (wf : Cells.rising s.regs = true) {page a : Nat} (mine : shadowOf page a = true) :
    (s.applyShadow page).inForce a = s.reg a := by
  rw [State.applyShadow_eq]
  cases found : Cells.find s.regs a with
  | none =>
    have unlisted : ∀ e ∈ s.regs.filter (fun e => shadowOf page e.1), e.1 ≠ a := by
      rintro e he rfl
      simp [Cells.find_of_mem wf (List.mem_filter.1 he).1] at found
    rw [State.inForce_foldl_other _ _ unlisted, State.inForce_withoutPage, if_pos mine]
    unfold State.reg Cells.get
    rw [found]
    rfl
  | some v =>
    have value : s.reg a = v := by
      unfold State.reg Cells.get
      rw [found]
      rfl
    rw [value]
    refine State.inForce_foldl _ _ ?_ ⟨(a, v), List.mem_filter.2 ⟨Cells.mem_of_find found, mine⟩, rfl⟩
    rintro e he rfl
    exact Option.some.inj ((Cells.find_of_mem wf (List.mem_filter.1 he).1).symm.trans found)

theorem State.inForce_applyShadow_other (s : State) {page a : Nat} (other : pageOf a ≠ page) :
    (s.applyShadow page).inForce a = s.inForce a := by
  have foreign : shadowOf page a = false := by simp [shadowOf, other]
  have unlisted : ∀ e ∈ s.regs.filter (fun e => shadowOf page e.1), e.1 ≠ a := by
    rintro e he rfl
    simp [foreign] at he
  rw [State.applyShadow_eq, State.inForce_foldl_other _ _ unlisted, State.inForce_withoutPage, foreign]
  rfl

/-! ### Modes (R32, R33) -/

theorem pageOf_modeReg {pg : Nat} (h : pg < 15) : pageOf (modeReg pg) = pg := by
  unfold pageOf modeReg
  rw [if_pos (by omega)]
  omega

theorem execModeExpert_fronted {s t : State} {p : Port} {w : BufWord} {pg : Nat} (h : fronted s p w t = true) (hp : pg < 15)
    (hw : w.off = modeReg pg) (expert : bit w.val 0 = true) : exec (.modeExpert p) s = .next (t.modeExpert pg w.client) := by
  have row : rowOf w = .modeExpert := (rowOf_mode hp hw).trans (if_pos expert)
  have apply : t.applyWord w = t.modeExpert pg w.client := by simp only [State.applyWord, row, hw, pageOf_modeReg hp]
  exact congrArg Host.Outcome.next ((State.takeWord_fronted h row).trans apply)

theorem execModeBasic_fronted {s t : State} {p : Port} {w : BufWord} {pg : Nat} (h : fronted s p w t = true) (hp : pg < 15)
    (hw : w.off = modeReg pg) (basic : bit w.val 0 = false) :
    exec (.modeBasic p) s = .next (if pg = 13 then (t.modeBasic pg).ensRun else t.modeBasic pg) := by
  have row : rowOf w = .modeBasic := (rowOf_mode hp hw).trans (if_neg (Bool.eq_false_iff.1 basic))
  have apply : t.applyWord w = if pg = 13 then (t.modeBasic pg).ensRun else t.modeBasic pg := by
    simp only [State.applyWord, row, hw, pageOf_modeReg hp]
  exact congrArg Host.Outcome.next ((State.takeWord_fronted h row).trans apply)

theorem State.verbExecuting_congr {s t : State} (hr : t.rings = s.rings) (ht : ∀ r, t.ringType r = s.ringType r) (page : Nat) :
    t.verbExecuting page = s.verbExecuting page := by
  unfold State.verbExecuting
  simp only [hr, ht]

theorem State.verbExecuting_setMode {pg : Nat} (hp : pg < 15) (s : State) (v : Word) (page : Nat) :
    (s.setReg (modeReg pg) v).verbExecuting page = s.verbExecuting page := by
  refine State.verbExecuting_congr (s := s) (t := s.setReg (modeReg pg) v) rfl (fun r => ?_) page
  have apart : ringWord r 1 ≠ modeReg pg := ringWord_ne_below (by unfold modeReg; omega) r 1
  exact congrArg (field · 6 4) (State.reg_setReg_other s _ _ v apart)

theorem State.modeExpert_regs (s : State) (pg c : Nat) :
    (s.modeExpert pg c).regs = (s.setReg (modeReg pg) (word (1 + 256 * c))).regs := by simp only [State.modeExpert]

/-- What a switch to EXPERT leaves alone: every store and the ports. -/
theorem State.modeExpert_frame (s : State) (pg c : Nat) : storesSame s (s.modeExpert pg c) ∧ (s.modeExpert pg c).ao = s.ao ∧
    (s.modeExpert pg c).portA = s.portA ∧ (s.modeExpert pg c).portB = s.portB ∧
    (s.modeExpert pg c).commits = s.commits.filter (fun q => !(q.page == pg && q.toBasic)) := by
  simp [State.modeExpert, storesSame]

theorem State.reg_modeExpert (s : State) (pg c : Nat) : (s.modeExpert pg c).reg (modeReg pg) = word (1 + 256 * c) :=
  (State.reg_of_regs (s.modeExpert_regs pg c) _).trans (s.reg_setReg_self _ _)

theorem State.reg_modeExpert_other (s : State) {pg a : Nat} (c : Nat) (h : a ≠ modeReg pg) : (s.modeExpert pg c).reg a = s.reg a :=
  (State.reg_of_regs (s.modeExpert_regs pg c) a).trans (State.reg_setReg_other s _ _ _ h)

/-- A switch to EXPERT waits for the verb of its page that executes (R32). -/
theorem State.expertWait_modeExpert (s : State) (pg c : Nat) :
    (s.modeExpert pg c).expertWait.contains pg = (s.setReg (modeReg pg) (word (1 + 256 * c))).verbExecuting pg := by
  have rest : (s.expertWait.filter (· != pg)).contains pg = false := by simp
  unfold State.modeExpert
  dsimp only
  cases executing : (s.setReg (modeReg pg) (word (1 + 256 * c))).verbExecuting pg with
  | true => simp
  | false => exact rest

/-- The MODE word of a page whose switch to BASIC is pending (R33). -/
def State.switching (s : State) (pg : Nat) : State := (s.setFlag (modeReg pg) 0 false).setFlag (modeReg pg) 16 true

theorem State.ctrl_switching (s : State) (pg : Nat) : (s.switching pg).flag (modeReg pg) 0 = false :=
  (State.flag_setFlag_other (s.setFlag (modeReg pg) 0 false) (modeReg pg) 16 true (modeReg pg) 0 (by decide)
    (.inr (by decide))).trans (s.flag_setFlag (modeReg pg) 0 false (by decide))

theorem State.pend_switching (s : State) (pg : Nat) : (s.switching pg).flag (modeReg pg) 16 = true :=
  State.flag_setFlag _ (modeReg pg) 16 true (by decide)

theorem State.owner_switching (s : State) (pg : Nat) : (s.switching pg).fld (modeReg pg) 13 8 = s.fld (modeReg pg) 13 8 :=
  (State.fld_setFlag_other (s.setFlag (modeReg pg) 0 false) (modeReg pg) 16 true (modeReg pg) 13 8 (by decide)
    (.inr (.inr (by decide)))).trans
    (State.fld_setFlag_other s (modeReg pg) 0 false (modeReg pg) 13 8 (by decide) (.inr (.inl (by decide))))

theorem State.reg_switching (s : State) {pg a : Nat} (h : a ≠ modeReg pg) : (s.switching pg).reg a = s.reg a :=
  (State.reg_setReg_other (s.setFlag (modeReg pg) 0 false) _ _ _ h).trans (State.reg_setReg_other s _ _ _ h)

/-- A switch to BASIC queues behind the requests that wait (R33). -/
def State.switchQueued (s : State) (pg : Nat) : State :=
  { s.switching pg with
    commits := s.commits ++ [{ page := pg, toBasic := true, ring := none }]
    expertWait := s.expertWait.filter (· != pg) }

theorem State.modeBasic_expert {s : State} {pg : Nat} (other : pg ≠ 13) (on : s.flag (modeReg pg) 0 = true) :
    s.modeBasic pg = s.switchQueued pg := by
  unfold State.modeBasic
  simp only [if_pos on, if_neg other]
  rfl

theorem State.switchQueued_stores (s : State) (pg : Nat) : storesSame s (s.switchQueued pg) :=
  ⟨by simp [State.switchQueued, State.switching], by simp [State.switchQueued, State.switching],
    by simp [State.switchQueued, State.switching], by simp [State.switchQueued, State.switching]⟩

theorem storesSame.trans {s t u : State} (h : storesSame s t) (k : storesSame t u) : storesSame s u := by
  obtain ⟨hall, banks, flash, fuses⟩ := h
  obtain ⟨hall', banks', flash', fuses'⟩ := k
  exact ⟨hall'.trans hall, banks'.trans banks, flash'.trans flash, fuses'.trans fuses⟩

theorem fronted_stores {s t : State} {p : Port} {w : BufWord} (h : fronted s p w t = true) : storesSame s t := by
  obtain ⟨a, b, c, frame⟩ := fronted_frame h
  rw [frame]
  exact ⟨rfl, rfl, rfl, rfl⟩

/-- Settles O22: modes by State.modeExpert and State.modeBasic_expert, commits by State.inForce_applyShadow. -/
theorem modesSwitchAndCommitsApply : Obligations.ModesSwitchAndCommitsApply := by
  unfold Obligations.ModesSwitchAndCommitsApply
  refine ⟨?expert, ?basic, ?ens, fun page s idle => congrArg Host.Outcome.next (if_neg (Bool.eq_false_iff.1 idle)),
    fun page s busy => congrArg Host.Outcome.next (if_pos busy), ?commit, ?write⟩
  case expert =>
    intro p s s0 w pg h hp hw expert
    obtain ⟨stores, ao, portA, portB, commits⟩ := s0.modeExpert_frame pg w.client
    obtain ⟨ao0, commits0⟩ : s0.ao = s.ao ∧ s0.commits = s.commits := by
      obtain ⟨a, b, c, rfl⟩ := fronted_frame h
      exact ⟨rfl, rfl⟩
    refine ⟨_, execModeExpert_fronted h hp hw expert, s0.reg_modeExpert pg _, fun x hx => ?_, commits0 ▸ commits, ?_,
      (fronted_stores h).trans stores, ao.trans ao0, portA, portB⟩
    · exact (s0.reg_modeExpert_other _ hx).trans (State.reg_of_regs (fronted_regs h) x)
    · rw [State.expertWait_modeExpert, State.verbExecuting_setMode hp]
      exact State.verbExecuting_congr (fronted_rings h) (fun r => State.fld_of_regs (fronted_regs h) _ _ _) pg
  case basic =>
    intro p s s0 w pg h hp other hw basic
    have runs := execModeBasic_fronted h hp hw basic
    rw [if_neg other] at runs
    have ctrl : s0.flag (modeReg pg) 0 = s.flag (modeReg pg) 0 := State.flag_of_regs (fronted_regs h) _ _
    refine ⟨fun off => runs.trans (congrArg Host.Outcome.next (if_neg (by rw [ctrl, off]; decide))), fun on => ?_⟩
    rw [← ctrl] at on
    rw [State.modeBasic_expert other on] at runs
    have regs := fronted_regs h
    obtain ⟨a, b, c, frame⟩ := fronted_frame h
    have shown : (s0.switchQueued pg).regs = (s0.switching pg).regs := by simp only [State.switchQueued]
    refine ⟨s0.switchQueued pg, runs, (State.flag_of_regs shown _ _).trans (s0.ctrl_switching pg),
      (State.flag_of_regs shown _ _).trans (s0.pend_switching pg),
      (State.fld_of_regs shown _ _ _).trans ((s0.owner_switching pg).trans (State.fld_of_regs regs _ _ _)), ?_,
      fun x hx => (State.reg_of_regs shown x).trans ((s0.reg_switching hx).trans (State.reg_of_regs regs x)), ?_⟩
    · rw [frame]
      rfl
    · exact (fronted_stores h).trans (s0.switchQueued_stores pg)
  case ens =>
    intro p s s0 w h hw basic
    exact (execModeBasic_fronted h (by decide) hw basic).trans (congrArg Host.Outcome.next (if_pos rfl))
  case commit =>
    intro s page wf
    have rising : Cells.rising s.regs = true := by
      simp only [Memory.wf, Cells.canon, Bool.and_eq_true] at wf
      obtain ⟨⟨⟨⟨⟨⟨rising, _⟩, _⟩, _⟩, _⟩, _⟩, _⟩ := wf
      exact rising
    obtain ⟨f, frame⟩ := s.applyShadow_frame page
    refine ⟨fun a here shadow => State.inForce_applyShadow rising (by simp [shadowOf, here, shadow]),
      fun a other => s.inForce_applyShadow_other other, ?_, ?_, ?_⟩
    · rw [frame]
    · rw [frame]
      exact ⟨rfl, rfl, rfl, rfl⟩
    · rw [frame]
  case write =>
    intro s a v
    refine ⟨fun pending => if_pos pending, fun free => ?_, ?_⟩
    · have stored : s.writeShadow a v = s.hostSet a v := if_neg (Bool.eq_false_iff.1 free)
      rw [stored]
      exact ⟨State.reg_setReg_self _ _ _, fun b hb => State.reg_setReg_other _ _ _ _ hb⟩
    · unfold State.writeShadow
      dsimp only
      split <;> rfl

end Sys2Proof.Machine
end

section
/-!
PROOF of the boundaries and of waits without one (R22 to R27), and of Hall leases and pads (R16 to R19, R38).
-/

namespace Sys2Proof.Machine

/-! ### Waits that end with TIMEOUT (R24, R25) -/

/-- What a verb waits for is withdrawn. -/
def State.withdraw (s : State) (r : Nat) : Wait → State
  | .commit p _ =>
    let left := s.commits.filter (fun (q : BoundaryReq) => !(q.page == p && !q.toBasic && q.ring == some r))
    let t : State := { s with commits := left }
    if left.any (fun (q : BoundaryReq) => q.page == p && !q.toBasic) then t
    else
      let u := (t.setPending p false).serveStaging p
      if p = 10 then u.serveLoads else u
  | .journal => s.setJrnl { s.jrnl with items := s.jrnl.items.map (fun (i : JItem) =>
      if i.origin = JOrigin.ring r then { i with origin := JOrigin.part } else i) }
  | .deskTest _ => { s with ens := { s.ens with asks := Cells.erase s.ens.asks r } }
  | .present n => s.withdrawPresent n
  | _ => s

theorem State.waitTimeout_waiting {s : State} {r : Nat} {f : Fetched} {w : Wait} (hc : (s.ring r).cur = some f)
    (hw : f.waiting = some w) : s.waitTimeout r =
      if f.timeout = 0 ∨ s.elapsed f.since < f.timeout ∨ !s.timesOut r w then s
      else (s.withdraw r w).completeRing r .timeout := by
  unfold State.waitTimeout State.withdraw
  cases w <;> simp only [hc, hw]

theorem State.waitTimeout_early {s : State} {r : Nat} {f : Fetched} {w : Wait} (hc : (s.ring r).cur = some f)
    (hw : f.waiting = some w) (early : f.timeout = 0 ∨ s.elapsed f.since < f.timeout ∨ s.timesOut r w = false) :
    s.waitTimeout r = s :=
  (State.waitTimeout_waiting hc hw).trans (if_pos (by simpa using early))

theorem State.waitTimeout_late {s : State} {r : Nat} {f : Fetched} {w : Wait} (hc : (s.ring r).cur = some f)
    (hw : f.waiting = some w) (timed : 0 < f.timeout) (passed : f.timeout ≤ s.elapsed f.since) (ends : s.timesOut r w = true) :
    s.waitTimeout r = (s.withdraw r w).completeRing r .timeout := by
  refine (State.waitTimeout_waiting hc hw).trans (if_neg ?_)
  simp [ends, Nat.ne_of_gt timed, Nat.not_lt.2 passed]

/-- Settles O23: the boundaries by the condition that each tests, the waits by State.waitTimeout_late. -/
theorem boundariesServeTheirPages : Obligations.BoundariesServeTheirPages := by
  unfold Obligations.BoundariesServeTheirPages
  refine ⟨fun cycles s core runs frame passed => congrArg Host.Outcome.next (if_pos ⟨core, runs, frame, passed⟩),
    fun cycles s none => congrArg Host.Outcome.next (if_neg none), ?synthetic,
    fun s not => congrArg Host.Outcome.next (if_neg (Bool.eq_false_iff.1 not)), ?idle,
    fun s core => congrArg Host.Outcome.next (if_pos core), ?waits, ?present⟩
  case synthetic =>
    intro s s1 due hs
    rw [hs]
    exact congrArg Host.Outcome.next (if_pos due)
  case idle =>
    intro s s1 idle hs
    rw [hs]
    exact congrArg Host.Outcome.next (if_pos idle)
  case waits =>
    intro ring s f w hc hw
    have runs : exec (.boundaryWaitTimeout ring) s = .next (s.waitTimeout ring.toNat) := rfl
    rw [runs]
    refine ⟨fun early => ?_, fun timed passed p x left hp hl shared => ?_, fun timed passed p x left u hp hl alone hu => ?_,
      fun timed passed n hp => ⟨fun queued => ?_, fun applied => ?_⟩, fun timed passed plain => ?_⟩
    · rw [State.waitTimeout_early hc hw (early.imp_right Or.inl)]
    · subst hp
      rw [State.waitTimeout_late hc hw timed passed rfl]
      rw [hl] at shared ⊢
      exact congrArg (fun t => Host.Outcome.next (State.completeRing t ring.toNat .timeout)) (if_pos shared)
    · subst hp
      rw [State.waitTimeout_late hc hw timed passed rfl]
      rw [hu, hl]
      rw [hl] at alone
      exact congrArg (fun t => Host.Outcome.next (State.completeRing t ring.toNat .timeout)) (if_neg (Bool.eq_false_iff.1 alone))
    · subst hp
      rw [State.waitTimeout_late hc hw timed passed queued]
      rfl
    · subst hp
      rw [State.waitTimeout_early hc hw (.inr (.inr applied))]
    · obtain rfl | rfl | rfl | ⟨p, rfl⟩ := plain
      all_goals
        rw [State.waitTimeout_late hc hw timed passed rfl]
        rfl
  case present =>
    intro s t n q queued ht
    rw [ht]
    simp only [State.withdrawPresent, queued]

/-! ### Leases (R16 to R19) -/

theorem leaseWord_zero (l : Nat) : leaseWord l 0 = Reg.DEV_LEASE_W0 + 8 * l := rfl

theorem leaseWord_one (l : Nat) : leaseWord l 1 = Reg.DEV_LEASE_W1 + 8 * l := by
  unfold leaseWord
  simp only [Reg.DEV_LEASE_W0, Reg.DEV_LEASE_W1]
  omega

theorem State.leaseEn_eq (s : State) (l : Nat) : s.leaseEn l = s.flag (leaseWord l 1) 16 := by rw [leaseWord_one, State.leaseEn]

theorem State.touchedBanks_of_regs {s t : State} (h : t.regs = s.regs) : t.touchedBanks = s.touchedBanks := by
  unfold State.touchedBanks State.bankTouched State.leaseEn State.leaseHi State.leaseLo
  simp only [State.flag_of_regs h, State.fld_of_regs h]

theorem State.powerBanks_regs (s : State) : s.powerBanks.regs = s.regs := by
  unfold State.powerBanks
  split <;> rfl

/-- Lease l enabled, before its banks are powered. -/
def State.leaseOn (s : State) (l : Nat) : State := (s.setFlag (leaseWord l 1) 24 false).setFlag (leaseWord l 1) 16 true

theorem State.enableLease_passed {s : State} {l : Nat} (h : s.leaseCheck l = true) : s.enableLease l = (s.leaseOn l).powerBanks :=
  if_pos h

theorem State.enableLease_failed {s : State} {l : Nat} (h : s.leaseCheck l = false) :
    s.enableLease l = s.setFlag (leaseWord l 1) 24 true := if_neg (Bool.eq_false_iff.1 h)

theorem State.reg_leaseOn_other (s : State) {l a : Nat} (h : a ≠ leaseWord l 1) : (s.leaseOn l).reg a = s.reg a :=
  (State.reg_setReg_other (s.setFlag (leaseWord l 1) 24 false) _ _ _ h).trans (State.reg_setReg_other s _ _ _ h)

theorem execLeaseEnable_fronted {s t : State} {p : Port} {w : BufWord} {l : Nat} (h : fronted s p w t = true) (hl : l < 32)
    (hw : w.off = leaseWord l 1) (en : bit w.val 16 = true) : exec (.leaseEnable p) s = .next (t.writeLeaseOn l w.val) := by
  have row : rowOf w = .leaseEnable := (rowOf_lease hl (hw.trans (leaseWord_one l))).trans (if_pos en)
  have lease : (w.off - Reg.DEV_LEASE_W0) / 8 = l := by
    rw [hw, leaseWord]
    omega
  have apply : t.applyWord w = t.writeLeaseOn l w.val := by simp only [State.applyWord, row, lease]
  exact congrArg Host.Outcome.next ((State.takeWord_fronted h row).trans apply)

theorem execLeaseDisable_fronted {s t : State} {p : Port} {w : BufWord} {l : Nat} (h : fronted s p w t = true) (hl : l < 32)
    (hw : w.off = leaseWord l 1) (off : bit w.val 16 = false) : exec (.leaseDisable p) s = .next (t.writeLeaseOff l w.val) := by
  have row : rowOf w = .leaseDisable := (rowOf_lease hl (hw.trans (leaseWord_one l))).trans (if_neg (Bool.eq_false_iff.1 off))
  have lease : (w.off - Reg.DEV_LEASE_W0) / 8 = l := by
    rw [hw, leaseWord]
    omega
  have apply : t.applyWord w = t.writeLeaseOff l w.val := by simp only [State.applyWord, row, lease]
  exact congrArg Host.Outcome.next ((State.takeWord_fronted h row).trans apply)

theorem State.writeLeaseOn_disabled {s : State} {l : Nat} (h : s.leaseEn l = false) (v : Word) :
    s.writeLeaseOn l v = (s.hostSet (leaseWord l 1) (withBit v 16 false)).enableLease l := if_neg (Bool.eq_false_iff.1 h)

/-- HALL_LEASE on an enabled lease, and its enable of a disabled one (R17). -/
theorem State.hallLease_enabled {s : State} {v : Verb} {l : Nat} (hl : l = field (v.arg 0) 4 0) (en : s.leaseEn l = true) :
    s.hallLease v = if !bit (v.arg 2) 16 then (s.writeLeaseOff l (v.arg 2)).complete v .ok
      else if v.arg 1 = s.reg (leaseWord l 0) ∧ field (v.arg 2) 5 0 = s.leaseOwner l ∧ field (v.arg 2) 9 8 = s.leaseType l then
        (s.writeLeaseOn l (v.arg 2)).complete v .ok
      else s.complete v .badArg := by
  subst hl
  exact if_pos en

theorem State.hallLease_enables {s : State} {v : Verb} {l : Nat} (hl : l = field (v.arg 0) 4 0) (dis : s.leaseEn l = false)
    (en : bit (v.arg 2) 16 = true) {t : State} (ht : t = (s.writeLease0 l (v.arg 1)).writeLeaseOn l (v.arg 2)) :
    s.hallLease v = t.complete v (if t.leaseEn l then .ok else .badArg) := by
  subst hl
  rw [ht]
  exact (if_neg (Bool.eq_false_iff.1 dis)).trans (if_pos en)

/-- Settles O24: enables by State.enableLease_passed and State.enableLease_failed, HALL_LEASE by its cases above. -/
theorem leasesAreCheckedAndPowered : Obligations.LeasesAreCheckedAndPowered := by
  unfold Obligations.LeasesAreCheckedAndPowered
  refine ⟨?enable, ?write, ?verb, ?pads⟩
  case enable =>
    refine fun s l _ => ⟨State.enableLease_failed, fun passed => ?_⟩
    rw [State.enableLease_passed passed]
    have regs := (s.leaseOn l).powerBanks_regs
    refine ⟨?_, ?_, fun a ha => (State.reg_of_regs regs a).trans (s.reg_leaseOn_other ha), fun powered => ?_⟩
    · rw [State.leaseEn_eq, State.flag_of_regs regs]
      exact State.flag_setFlag _ _ _ _ (by decide)
    · rw [State.flag_of_regs regs]
      exact (State.flag_setFlag_other (s.setFlag (leaseWord l 1) 24 false) (leaseWord l 1) 16 true (leaseWord l 1) 24 (by decide)
        (.inr (by decide))).trans (s.flag_setFlag _ _ _ (by decide))
    · have apart : Reg.DEV_LADDER_STATE ≠ leaseWord l 1 := by
        rw [leaseWord]
        simp only [Reg.DEV_LADDER_STATE, Reg.DEV_LEASE_W0]
        omega
      have rung : (s.leaseOn l).cur ≤ 2 := by
        have same : (s.leaseOn l).cur = s.cur := congrArg (field · 2 0) (s.reg_leaseOn_other apart)
        rwa [same]
      rw [State.touchedBanks_of_regs regs, State.powerBanks, if_pos rung]
      rfl
  case write =>
    intro p s s1 w l h hl hw
    have en : s1.leaseEn l = s.leaseEn l := State.flag_of_regs (fronted_regs h) _ _
    refine ⟨fun on enabled => ?_, fun on disabled => ?_, fun off => execLeaseDisable_fronted h hl hw off⟩
    · rw [execLeaseEnable_fronted h hl hw on]
      exact congrArg Host.Outcome.next (if_pos (en.trans enabled))
    · rw [execLeaseEnable_fronted h hl hw on, State.writeLeaseOn_disabled (en.trans disabled)]
  case verb =>
    intro ring s v l h ha hl
    have runs : exec (.hallLease ring) s = .next (s.hallLease v) := congrArg Host.Outcome.next (State.runVerb_body _ h ha)
    rw [runs]
    refine ⟨fun enabled off => ?_, fun enabled on other => ?_, fun disabled on s2 hs => ?_⟩
    · rw [State.hallLease_enabled hl enabled, if_pos (by simp [off])]
      rfl
    · rw [State.hallLease_enabled hl enabled, if_neg (by simp [on]), if_neg other]
    · have first : s.writeLease0 l (v.arg 1) = s.hostSet (leaseWord l 0) (v.arg 1) := if_neg (Bool.eq_false_iff.1 disabled)
      have still : (s.hostSet (leaseWord l 0) (v.arg 1)).leaseEn l = false := by
        have apart : leaseWord l 1 ≠ leaseWord l 0 := by simp [leaseWord]
        rw [State.leaseEn_eq] at disabled ⊢
        exact (congrArg (bit · 16) (State.reg_setReg_other s _ _ _ apart)).trans disabled
      have stored : s2 = (s.writeLease0 l (v.arg 1)).writeLeaseOn l (v.arg 2) := by
        rw [hs, first, State.writeLeaseOn_disabled still]
      rw [State.hallLease_enables hl disabled on stored]
  case pads =>
    intro ring s v h ha pulls
    have ok : (v.argsWithin [0x3FFFFFFF#32, 0xFFF#32] && (List.range 15).all (fun g => !pullRefused (v.arg 0) g)) = true := by
      simpa [ha, pullRefused] using pulls
    exact congrArg Host.Outcome.next (State.runVerb_body _ h ok)

end Sys2Proof.Machine
end

section
/-!
PROOF of reads and writes of the words that a client names, of buffered words without a row of their own, and of the permission words
(R101, R102, R109 to R117).
-/

namespace Sys2Proof.Machine

/-! ### The words on their way (R102) -/

theorem State.port_setPort (s : State) (p q : Port) (v : PortSt) : (s.setPort p v).port q = if q = p then v else s.port q := by
  cases p <;> cases q <;> rfl

theorem State.crossing_setPort (s : State) (p : Port) (v : PortSt) : (s.setPort p v).crossing = s.crossing := by cases p <;> rfl

/-- The front word of a port taken into the crossing unit. -/
def State.crossed (s : State) (p : Port) (w : BufWord) (rest : List BufWord) : State :=
  { s.setPort p { s.port p with wbuf := rest } with crossing := s.crossing ++ [{ port := p, word := w, edges := 2 }] }

theorem State.onTheWay_crossed {s : State} {p : Port} {w : BufWord} {rest : List BufWord} (h : (s.port p).wbuf = w :: rest) (q : Port) :
    (s.crossed p w rest).onTheWay q = s.onTheWay q := by
  have port : (s.crossed p w rest).port q = if q = p then { s.port p with wbuf := rest } else s.port q :=
    (show (s.crossed p w rest).port q = (s.setPort p { s.port p with wbuf := rest }).port q by cases q <;> rfl).trans
      (s.port_setPort p q _)
  unfold State.onTheWay
  rw [port]
  by_cases here : q = p
  · subst here
    simp [State.crossed, h]
  · have other : (p == q) = false := by simpa using fun same : p = q => here same.symm
    simp [State.crossed, here, other]

/-- A word that enters the crossing unit stays on its way, in its place. -/
theorem State.onTheWay_cross (s : State) (p q : Port) : (s.cross p).onTheWay q = s.onTheWay q := by
  unfold State.cross
  split
  case h_1 w rest found =>
    split
    · exact State.onTheWay_crossed found q
    · rfl
  case h_2 => rfl

theorem State.onTheWay_crossAll (s : State) (q : Port) : s.crossAll.onTheWay q = s.onTheWay q :=
  List.foldlRecOn (List.range 8) _ (motive := fun t : State => t.onTheWay q = s.onTheWay q) rfl
    fun t kept _ _ => ((t.cross .a).onTheWay_cross .b q).trans ((t.onTheWay_cross .a q).trans kept)

theorem State.crossAll_regs (s : State) : s.crossAll.regs = s.regs := by
  obtain ⟨a, b, c, frame⟩ := s.crossAll_frame
  rw [frame]

/-- A port's buffer with one word more. -/
def State.buffered (s : State) (p : Port) (w : BufWord) : State := s.setPort p { s.port p with wbuf := (s.port p).wbuf ++ [w] }

theorem State.buffer_room {s : State} {p : Port} (room : (s.port p).wbuf.length < 64) (w : BufWord) :
    s.buffer p w = (s.buffered p w).crossAll := if_neg (Nat.not_le.2 room)

theorem State.onTheWay_buffered (s : State) (p : Port) (w : BufWord) (q : Port) :
    (s.buffered p w).onTheWay q = if q = p then s.onTheWay p ++ [w] else s.onTheWay q := by
  unfold State.onTheWay State.buffered
  rw [State.port_setPort, State.crossing_setPort]
  split
  · rename_i here
    subst here
    simp
  · rfl

theorem State.buffered_regs (s : State) (p : Port) (w : BufWord) : (s.buffered p w).regs = s.regs := by cases p <;> rfl

/-! ### Reads (R101, R102, R110) -/

/-- With no word on its way a register is forwarded as it is. -/
theorem forwarded_same (a : Nat) (w : Word) : forwarded a w w = w := by
  have split3 (w x y z : Word) : w &&& ~~~(x ||| y ||| z) ||| w &&& (x ||| y) ||| w &&& w &&& z = w := by
    ext i hi
    simp only [BitVec.getElem_or, BitVec.getElem_and, BitVec.getElem_not]
    cases w[i] <;> cases x[i] <;> cases y[i] <;> cases z[i] <;> rfl
  unfold forwarded
  split
  · exact split3 w _ _ _
  · rfl

theorem State.ahead_none {s : State} {p : Port} (h : s.onTheWay p = []) (ao : Bool) : s.ahead p ao = s := by
  unfold State.ahead
  rw [h]
  rfl

theorem State.readWord_register {s : State} {p : Port} {a : Nat} (h : s.onTheWay p = [])
    (register : regionOf a = .page ∨ regionOf a = .table ∨ regionOf a = .doorbell) : s.readWord p a = s.view a := by
  unfold State.readWord
  rw [State.ahead_none h]
  rcases register with g | g | g <;> simp only [g, forwarded_same, ite_self]

/-- A read that is refused is logged and sent as all ones; any other sends the word as it reads (R101, R110, R117). -/
theorem State.readOne_refused {s : State} {p : Port} {client a : Nat} (h : s.accessCause p client a false 0#32 ≠ 0) (f k : Nat)
    (late : Bool) : s.readOne p client a f k late =
      (0xFFFFFFFF#32, s.refuse p false client a (s.accessCause p client a false 0#32)) := if_pos h

theorem State.readOne_accepted {s : State} {p : Port} {client a : Nat} (h : s.accessCause p client a false 0#32 = 0) (f k : Nat)
    (late : Bool) : s.readOne p client a f k late =
      if regionOf a = .journal ∧ s.jrnl.busy.isSome then (0xFFFFFFFF#32, s.refuse p false client a 11)
      else if late && !s.covered_ p f k (regionOf a) then (0xFFFFFFFF#32, s.refuse p false client a 9)
      else (s.readWord p a, s) := if_neg (not_not_intro h)

/-! ### Writes (R101, R102, R111) -/

theorem State.writeOne_accepted {s : State} {p : Port} {client a : Nat} {v : Word} (h : s.accessCause p client a true v = 0)
    (known : ¬(regionOf a = .page ∧ regSpec a = none)) :
    s.writeOne p client a v = (s.makeRoom p).buffer p { client := client % 64, off := a, val := v } := by
  have named : ¬(regionOf a = .page ∧ (regSpec a).isNone = true) := by simpa using known
  exact (if_neg (not_not_intro h)).trans (if_neg named)

theorem State.makeRoom_free {s : State} {p : Port} (room : (s.port p).wbuf.length < 64) : s.makeRoom p = s :=
  if_neg (Nat.not_le.2 room)

theorem State.makeRoom_full {s : State} {p : Port} (full : 64 ≤ (s.port p).wbuf.length) : s.makeRoom p =
    match s.frontWord p (fun _ => true) with
    | some (w, t) => t.applyWord w
    | none => s := if_pos full

theorem State.makeRoom_ao {s : State} {p : Port} (full : 64 ≤ (s.port p).wbuf.length) (ao : s.frontWord p (fun _ => true) = none) :
    s.makeRoom p = s := by
  rw [State.makeRoom_full full, ao]

theorem State.makeRoom_core {s t : State} {p : Port} {w : BufWord} (full : 64 ≤ (s.port p).wbuf.length)
    (core : s.frontWord p (fun _ => true) = some (w, t)) : s.makeRoom p = t.applyWord w := by
  rw [State.makeRoom_full full, core]

/-! ### Words without a row of their own (R4, R6, R12, R110) -/

theorem execRegisterWrite_fronted {s t : State} {p : Port} {w : BufWord} (h : fronted s p w t = true) (row : rowOf w = .plain) :
    exec (.registerWrite p) s = .next (t.writePlain w.off w.val) := by
  have apply : t.applyWord w = t.writePlain w.off w.val := by simp only [State.applyWord, row]
  exact congrArg Host.Outcome.next ((State.takeWord_fronted h row).trans apply)

/-- Memory and window words have no row of their own. -/
theorem rowOf_memory {w : BufWord} (h : regionOf w.off ∈ [.hall, .atlas, .steps, .bufs]) : rowOf w = .plain := by
  unfold rowOf
  generalize regionOf w.off = g at h
  simp only [List.mem_cons, List.not_mem_nil, or_false] at h
  rcases h with rfl | rfl | rfl | rfl <;> rfl

/-- DEV registers whose write has no effect beyond their fields. -/
def plainRegs : List Nat := [Reg.DEV_IDLE, Reg.DEV_WAKE_TGT, Reg.DEV_ALARM, Reg.DEV_ALARM_CTL, Reg.DEV_TACET_CFG, Reg.DEV_PAD_DRIVE,
  Reg.DEV_VCORE_CFG]

theorem rowOf_plainRegs {w : BufWord} (h : w.off ∈ plainRegs) : rowOf w = .plain := by
  unfold rowOf
  generalize w.off = a at h
  simp only [plainRegs, List.mem_cons, List.not_mem_nil, or_false] at h
  rcases h with rfl | rfl | rfl | rfl | rfl | rfl | rfl <;> rfl

theorem State.writePlain_plainRegs {a : Nat} (h : a ∈ plainRegs) (s : State) (v : Word) : s.writePlain a v = s.hostSet a v := by
  simp only [plainRegs, List.mem_cons, List.not_mem_nil, or_false] at h
  rcases h with rfl | rfl | rfl | rfl | rfl | rfl | rfl <;> rfl

/-- Settles O26: reads and writes by their checks in State.readOne_accepted and State.writeOne_accepted, the words on their way by
State.onTheWay_crossAll, buffered words by execRegisterWrite_fronted. -/
theorem aliasWordsAreReadAndStored : Obligations.AliasWordsAreReadAndStored := by
  unfold Obligations.AliasWordsAreReadAndStored
  refine ⟨?read, ?write, ?select, ?single, ?plain⟩
  case read =>
    refine fun s p client a f k late => ⟨fun refused => State.readOne_refused refused f k late, fun ok ready other => ?_,
      fun ok journal busy => ?_, fun ok other slow uncovered => ?_, State.readWord_register⟩
    · rw [State.readOne_accepted ok, if_neg fun busy => other busy.1, ready]
      rfl
    · rw [State.readOne_accepted ok, if_pos ⟨journal, busy⟩]
    · rw [State.readOne_accepted ok, if_neg fun busy => other busy.1, if_pos (by simp [slow, uncovered])]
  case write =>
    intro s p client a v e he
    subst he
    refine ⟨fun refused => if_pos refused, fun ok page none => ?_, fun ok known room => ?_, fun ok known full => ⟨fun ao => ?_,
      fun w t core => ?_⟩⟩
    · exact (if_neg (not_not_intro ok)).trans (if_pos ⟨page, by simp [none]⟩)
    · rw [State.writeOne_accepted ok known, State.makeRoom_free room, State.buffer_room room]
      refine ⟨?_, fun q other => ?_, ?_⟩
      · rw [State.onTheWay_crossAll, State.onTheWay_buffered, if_pos rfl]
      · rw [State.onTheWay_crossAll, State.onTheWay_buffered, if_neg other]
      · exact (State.crossAll_regs _).trans (s.buffered_regs p _)
    · rw [State.writeOne_accepted ok known, State.makeRoom_ao full ao]
      exact if_pos full
    · rw [State.writeOne_accepted ok known, State.makeRoom_core full core]
  case select =>
    refine fun p client off count f late s answers => ⟨fun aligned => ⟨_, rfl, ?_⟩, fun split => ?_⟩
    · exact congrArg Host.Outcome.next ((if_pos answers).trans (if_neg (not_not_intro aligned)))
    · exact congrArg Host.Outcome.next ((if_pos answers).trans (if_pos split))
  case single =>
    intro p client off v s answers aligned
    have place : burstOff off.toNat 0 = off.toNat := Nat.mod_eq_of_lt off.isLt
    have runs : exec (.hostWrite p client off [v] 0) s = .next ((s.selected p).writeOne p client.toNat (burstOff off.toNat 0) v) :=
      congrArg Host.Outcome.next ((if_pos answers).trans (if_neg (not_not_intro aligned)))
    rw [runs, place]
  case plain =>
    intro p s s1 w h
    refine ⟨fun atlas => ?_, fun score => ?_, fun hall => ?_, fun register => ?_⟩
    · rw [execRegisterWrite_fronted h (rowOf_memory (by simp [atlas])), State.writePlain, atlas]
    · rcases score with g | g <;> rw [execRegisterWrite_fronted h (rowOf_memory (by simp [g])), State.writePlain, g]
    · have stored : s1.writePlain w.off w.val = s1.putHallBytes (w.off - 0x200000) (wordBytes w.val) := by
        rw [State.writePlain, hall]
      obtain ⟨a, b, c, frame⟩ := fronted_frame h
      obtain ⟨m, memory⟩ := State.putHallBytes_frame (wordBytes w.val) s1 (w.off - 0x200000)
      refine ⟨_, execRegisterWrite_fronted h (rowOf_memory (by simp [hall])), ?_, ?_, ?_, ?_, fun x => ?_⟩
      · rw [stored, memory, frame]
      · rw [stored, memory, frame]
      · rw [stored, memory, frame]
      · rw [stored, memory, frame]
      · rw [stored, State.hallRaw_putHallBytes, frame]
        rfl
    · rw [execRegisterWrite_fronted h (rowOf_plainRegs register), State.writePlain_plainRegs register, State.hostSet,
        State.reg_of_regs (fronted_regs h)]

/-! ### The permission words (R99, R109, R112) -/

theorem execPermLockWrite_fronted {s t : State} {p : Port} {w : BufWord} (h : fronted s p w t = true)
    (hw : w.off = Reg.HPORT_PERM_LOCK) (lock : bit w.val 0 = true) : exec (.permLockWrite p) s = .next (t.lockPerms false) :=
  have row := rowOf_permLock hw lock
  have apply : t.applyWord w = t.lockPerms false := by simp only [State.applyWord, row]
  congrArg Host.Outcome.next ((State.takeWord_fronted h row).trans apply)

/-- Settles O27: each verb by its checks in State.runVerb_body, the lock by the flag that it tests. -/
theorem permissionsAreSetAndLocked : Obligations.PermissionsAreSetAndLocked := by
  unfold Obligations.PermissionsAreSetAndLocked
  refine ⟨fun _ _ _ h ha => congrArg Host.Outcome.next (State.runVerb_body _ h ha), ?set,
    fun s auto => ⟨fun locked => if_pos locked, fun free => if_neg (Bool.eq_false_iff.1 free)⟩,
    fun _ _ _ h ha => congrArg Host.Outcome.next (State.runVerb_body _ h ha), fun p s s0 w h hw lock => execPermLockWrite_fronted h hw lock,
    fun s released asked late => congrArg Host.Outcome.next (if_pos (by simp [released, asked, late])),
    fun s unasked => congrArg Host.Outcome.next (if_neg (by simp [unasked])),
    fun _ _ _ h ha => congrArg Host.Outcome.next (State.runVerb_body _ h ha)⟩
  case set =>
    intro ring s v c h ha hc other
    have ok : (v.argsWithin [0x3F#32, 0xF7FFF#32] && field (v.arg 0) 5 0 != 0) = true := by simp [ha, ← hc, other]
    have runs : exec (.permSet ring) s = .next (if s.flag Reg.HPORT_PERM_LOCK 0 then s.complete v .halted
        else (s.setReg (Reg.HPORT_PERM_0 + 4 * c) (v.arg 1)).complete v .ok) :=
      hc ▸ congrArg Host.Outcome.next (State.runVerb_body _ h ok)
    rw [runs]
    exact ⟨fun locked => by rw [if_pos locked], fun free => by rw [if_neg (Bool.eq_false_iff.1 free)]⟩

end Sys2Proof.Machine
end

section
/-!
PROOF of the Score's steps: malformed ones, and those on pins, waits, inputs, control and events (R142 to R149, R157 to R159).
-/

namespace Sys2Proof.Machine

/-! ### Every step runs by the same checks (R143, R147) -/

/-- A command that runs by the checks of a Score step. -/
def RunsAsStep (c : Instr) (t : BitVec 4) (op : Nat) (named : Word) : Prop :=
  stepKnown op = true ∧ ∃ (bad : State → Word → Bool) (body : State → Word → State),
    ∀ s, exec c s = .next (s.runStep t.toNat op named bad body)

theorem runsAsStep_of_row {c : Instr} {t : BitVec 4} {op : Nat} {named : Word} (h : stepRow c = some (t, op, named)) :
    RunsAsStep c t op named := by
  cases c
  all_goals cases h
  all_goals exact ⟨rfl, _, _, fun _ => rfl⟩

/-- A task that does not step at this tick. -/
theorem State.runStep_idle {s : State} {t : Nat} (op : Nat) (named : Word) (bad : State → Word → Bool) (body : State → Word → State)
    (h : s.running t = false ∨ s.fld (taskStat t) 12 11 = 3 ∨ (s.task t).ranAt = some s.edge ∨ s.turnOver t = true) :
    s.runStep t op named bad body = s := by
  refine if_pos ?_
  simp only [Bool.or_eq_true, Bool.not_eq_true', beq_iff_eq, or_assoc]
  exact h

/-- A reserved opcode is malformed. -/
theorem State.runStep_reserved {s : State} {t : Nat} (op : Nat) (named : Word) (bad : State → Word → Bool)
    (body : State → Word → State) (runs : s.running t = true) (free : s.fld (taskStat t) 12 11 ≠ 3)
    (fresh : (s.task t).ranAt ≠ some s.edge) (turn : s.turnOver t = false) (reserved : stepKnown (field (s.stepWord t) 31 26) = false) :
    s.runStep t op named bad body = s.malformed t := by
  have steps : (!s.running t || s.fld (taskStat t) 12 11 == 3 || (s.task t).ranAt == some s.edge || s.turnOver t) = false := by
    simp [runs, free, fresh, turn]
  exact (if_neg (Bool.eq_false_iff.1 steps)).trans (if_pos (by simp [reserved]))

/-! ### What a halt of a task leaves alone (R142) -/

theorem State.setBus_regs (s : State) (b : Nat) (q : List BusXfer) {a : Nat} (h : a ≠ Reg.BUS_STATUS) :
    (s.setBus b q).reg a = s.reg a := State.reg_setReg_other _ _ _ _ h

/-- t differs from s in no memory and in no register but BUS.STATUS. -/
structure BusesOnly (s t : State) : Prop where
  stores : storesSame s t
  reg : ∀ a, a ≠ Reg.BUS_STATUS → t.reg a = s.reg a

theorem State.leaveBus_only (s : State) (b : Nat) (x : BusXfer) : BusesOnly s (s.leaveBus b x) :=
  ⟨⟨rfl, rfl, rfl, rfl⟩, fun _ ha => s.setBus_regs _ _ ha⟩

theorem State.dropXfers_only (s : State) (t : Nat) : BusesOnly s (s.dropXfers t) :=
  List.foldlRecOn (List.range 4) _ (motive := fun u : State => BusesOnly s u) ⟨⟨rfl, rfl, rfl, rfl⟩, fun _ _ => rfl⟩
    fun u h b _ => by
      split
      · have left := u.leaveBus_only b ‹_›
        exact ⟨h.stores.trans left.stores, fun a ha => (left.reg a ha).trans (h.reg a ha)⟩
      · exact h

/-- The verbs that wait for a halt are answered through the outboxes alone. -/
theorem State.answerHalts_frame (s : State) : storesSame s s.answerHalts ∧ s.answerHalts.regs = s.regs :=
  List.foldlRecOn s.rings _ (motive := fun u : State => storesSame s u ∧ u.regs = s.regs) ⟨⟨rfl, rfl, rfl, rfl⟩, rfl⟩
    fun u h e _ => by
      have completed : storesSame u (u.completeRing e.1 .ok) ∧ (u.completeRing e.1 .ok).regs = u.regs :=
        ⟨⟨by simp, by simp, by simp, by simp⟩, by simp⟩
      split
      · split
        · split
          · exact ⟨h.1.trans completed.1, completed.2.trans h.2⟩
          · exact h
        · exact h
      · exact h

theorem taskStat_ne_run (t : Nat) : Reg.SCORE_RUN ≠ taskStat t := by
  unfold taskStat
  simp only [Reg.SCORE_RUN, Reg.SCORE_TASK_STAT]
  omega

/-- A task marked as halted, before its event. -/
def State.markHalted (s : State) (t : Nat) : State :=
  let s1 := (s.setFlag Reg.SCORE_RUN t false).setTaskState t 0
  s1.setTask t { s1.task t with waitFrom := none, stopping := false, busEnd := none }

theorem State.markHalted_stores (s : State) (t : Nat) : storesSame s (s.markHalted t) := ⟨rfl, rfl, rfl, rfl⟩

theorem State.markHalted_regs (s : State) (t : Nat) :
    (s.markHalted t).regs = ((s.setFlag Reg.SCORE_RUN t false).setFld (taskStat t) 12 11 0).regs := rfl

theorem State.running_markHalted (s : State) {t : Nat} (ht : t < 16) : (s.markHalted t).running t = false := by
  have apart := State.flag_setFld_other (s.setFlag Reg.SCORE_RUN t false) (taskStat t) 12 11 0 Reg.SCORE_RUN t
    (by decide) (by decide) (.inl (taskStat_ne_run t))
  exact (State.flag_of_regs (s.markHalted_regs t) _ _).trans (apart.trans (s.flag_setFlag Reg.SCORE_RUN t false (by omega)))

theorem State.haltTask_eq (s : State) (t cause : Nat) : s.haltTask t cause =
    (((s.dropXfers t).markHalted t).raise 16 (word (t + 16 * s.pc t + 0x10000 * cause))).answerHalts := rfl

theorem State.raise_stores (s : State) {e : Nat} (he : e < 128) (arg : Word) : storesSame s (s.raise e arg) :=
  ⟨s.raise_hall e he arg, s.raise_banks e he arg, s.raise_flash e he arg, s.raise_fuses e he arg⟩

theorem State.haltTask_stores (s : State) (t cause : Nat) : storesSame s (s.haltTask t cause) := by
  have dropped := (s.dropXfers_only t).stores
  have marked := (s.dropXfers t).markHalted_stores t
  rw [State.haltTask_eq]
  exact (dropped.trans marked).trans ((State.raise_stores _ (by decide) _).trans (State.answerHalts_frame _).1)

theorem State.running_haltTask (s : State) {t : Nat} (ht : t < 16) (cause : Nat) : (s.haltTask t cause).running t = false := by
  rw [State.haltTask_eq]
  exact (State.flag_of_regs (State.answerHalts_frame _).2 _ _).trans
    ((State.flag_raise _ 16 (by decide) _ _ _ (by decide)).trans ((s.dropXfers t).running_markHalted ht))

/-- Settles O28: the checks by the equations of State.runStep, the halt by State.haltTask_eq. -/
theorem malformedStepsHaltTheirTask : Obligations.MalformedStepsHaltTheirTask := by
  unfold Obligations.MalformedStepsHaltTheirTask
  refine ⟨?malformed, ?idle, ?reserved, ?halt⟩
  case malformed =>
    intro c s t op named w row step bits
    obtain ⟨known, bad, body, runs⟩ := runsAsStep_of_row row
    rw [runs, State.runStep_malformed body step known (.inl bits)]
  case idle =>
    intro c s t op named row idle
    obtain ⟨_, bad, body, runs⟩ := runsAsStep_of_row row
    rw [runs, State.runStep_idle op named bad body idle]
  case reserved =>
    intro c s t op named row running free fresh turn reserved
    obtain ⟨_, bad, body, runs⟩ := runsAsStep_of_row row
    rw [runs, State.runStep_reserved op named bad body running free fresh turn reserved]
  case halt =>
    intro s t ht
    obtain ⟨hall, _, flash, fuses⟩ :=
      State.haltTask_stores ((s.setFld (taskStat t) 30 20 (s.pc t)).setFld (taskStat t) 19 16 4) t 2
    exact ⟨State.running_haltTask _ ht 2, flash, hall, fuses⟩

end Sys2Proof.Machine
end

section
/-!
PROOF of the effects of the Score's steps on pins, waits, inputs, control and events (R143 to R149, R157 to R159).
-/

namespace Sys2Proof.Machine

/-! ### What the count of a step leaves alone (R143) -/

theorem stepped_regs (s : State) (t : BitVec 4) : (stepped s t).regs = s.regs := rfl

theorem stepped_buf (s : State) (t : BitVec 4) (i : Nat) : (stepped s t).buf i = s.buf i := rfl

theorem stepped_edge (s : State) (t : BitVec 4) : (stepped s t).edge = s.edge := rfl

theorem stepped_bufBytes (s : State) (t : BitVec 4) (i len : Nat) : (stepped s t).bufBytes i len = s.bufBytes i len := by
  unfold State.bufBytes
  simp only [stepped_buf]

theorem stepped_flag (s : State) (t : BitVec 4) (a n : Nat) : (stepped s t).flag a n = s.flag a n :=
  State.flag_of_regs (stepped_regs s t) a n

theorem stepped_pc (s : State) (t : BitVec 4) (n : Nat) : (stepped s t).pc n = s.pc n := State.fld_of_regs (stepped_regs s t) _ _ _

theorem stepped_inputCount (s : State) (t : BitVec 4) (n i : Nat) : (stepped s t).inputCount n i = s.inputCount n i :=
  State.fld_of_regs (stepped_regs s t) _ _ _

theorem stepped_elapsed (s : State) (t : BitVec 4) (f : BitVec 48) : (stepped s t).elapsed f = s.elapsed f := rfl

theorem State.task_setTask (s : State) (t : Nat) (v : TaskSt) : (s.setTask t v).task t = v := Cells.get_put_self _ s.score.tasks t v

theorem stepped_task (s : State) (t : BitVec 4) : (stepped s t).task t.toNat = { s.task t.toNat with ranAt := some s.edge } :=
  s.task_setTask t.toNat _

/-! ### Waits (R148) -/

/-- A wait whose condition holds no later than TIMEOUT. -/
def State.inTime (s : State) (t : Nat) (w : Word) : Prop := field w 25 10 = 0 ∨ s.waited t ≤ field w 25 10

theorem State.waitUntil_done {s : State} {t : Nat} {w : Word} {holds : Bool} (h : holds = true ∧ s.inTime t w) (done : State) :
    s.waitUntil t w holds done = done := by
  obtain ⟨holds, inTime⟩ := h
  exact if_pos (by simpa [holds, State.inTime] using inTime)

theorem State.waitUntil_waits {s : State} {t : Nat} {w : Word} {holds : Bool} (h : ¬(holds = true ∧ s.inTime t w))
    (early : field w 25 10 = 0 ∨ s.waited t < field w 25 10) (done : State) : s.waitUntil t w holds done = s.waitStep t := by
  refine (if_neg ?_).trans (if_neg (by omega))
  simpa [State.inTime] using h

theorem State.waitUntil_faults {s : State} {t : Nat} {w : Word} {holds : Bool} (h : ¬(holds = true ∧ s.inTime t w))
    (timed : 0 < field w 25 10) (late : field w 25 10 ≤ s.waited t) (done : State) :
    s.waitUntil t w holds done = s.taskFault t 1 := by
  refine (if_neg ?_).trans (if_pos ⟨timed, late⟩)
  simpa [State.inTime] using h

/-! ### BRANCH_IF (Table 7-3) -/

/-- A branch word in order sets no bit beyond those that some condition names. -/
theorem exec_branchIf {s : State} {t : BitVec 4} {w : Word} (h : atStep s t 0x18 w = true) (good : branchBad w = false)
    {level : Bool} {u : State} (hu : u = if field w 12 11 = 1 then (stepped s t).samplePin (field w 18 13) level else stepped s t) :
    exec (.branchIf t level) s = .next (
      if u.branchHolds t.toNat w level then
        (if field w 12 11 = 0 ∧ bit w 19 then
          u.setInput t.toNat (field w 14 13) (u.inputCount t.toNat (field w 14 13) - field w 18 15) else u).stepTo t.toNat
            (field w 10 0)
      else u.stepOn t.toNat) := by
  rw [hu]
  exact congrArg Host.Outcome.next (State.runStep_body _ h rfl (within_ones w) good)

/-! ### Control and events (R149, R158, R159) -/

theorem exec_callStep {s : State} {t : BitVec 4} {w : Word} (h : atStep s t 0x19 w = true) (hw : within w 0xFC0007FF#32 = true)
    (first : s.flag (taskStat t.toNat) 14 = false) :
    exec (.callStep t) s = .next ((((stepped s t).setTask t.toNat { (stepped s t).task t.toNat with
      callRet := (s.pc t.toNat + 1) % 2048 }).setFlag (taskStat t.toNat) 14 true).stepTo t.toNat (field w 10 0)) := by
  have unused : (stepped s t).flag (taskStat t.toNat) 14 = false := (stepped_flag s t _ _).trans first
  rw [← stepped_pc s t]
  exact congrArg Host.Outcome.next (State.runStep_body _ h rfl hw unused)

theorem exec_returnStep {s : State} {t : BitVec 4} {w : Word} (h : atStep s t 0x1A w = true) (hw : within w 0xFC000000#32 = true)
    (called : s.flag (taskStat t.toNat) 14 = true) :
    exec (.returnStep t) s = .next (((stepped s t).setFlag (taskStat t.toNat) 14 false).stepTo t.toNat (s.task t.toNat).callRet) := by
  have inside : (!(stepped s t).flag (taskStat t.toNat) 14) = false := by rw [stepped_flag, called]; rfl
  have target : (s.task t.toNat).callRet = ((stepped s t).task t.toNat).callRet := by rw [stepped_task]
  rw [target]
  exact congrArg Host.Outcome.next (State.runStep_body _ h rfl hw inside)

/-- A LOOP that is not in progress. -/
theorem exec_loopStep {s s2 : State} {t : BitVec 4} {w : Word} (h : atStep s t 0x1B w = true) (hw : within w 0xFC07FFFF#32 = true)
    (first : s.flag (taskStat t.toNat) 15 = false) {l : Nat} (hl : l = max 1 (field w 18 11) - 1)
    (hs : s2 = ((stepped s t).setTask t.toNat { (stepped s t).task t.toNat with loopAt := s.pc t.toNat }).setFld (taskCnt t.toNat)
      23 16 l) :
    exec (.loopStep t) s = .next (if 0 < l then (s2.setFlag (taskStat t.toNat) 15 true).stepTo t.toNat (field w 10 0)
      else (s2.setFlag (taskStat t.toNat) 15 false).stepOn t.toNat) := by
  have free : (stepped s t).flag (taskStat t.toNat) 15 = false := (stepped_flag s t _ _).trans first
  have good : ((stepped s t).flag (taskStat t.toNat) 15 &&
      ((stepped s t).task t.toNat).loopAt != (stepped s t).pc t.toNat) = false := by rw [free]; rfl
  have count : (if (stepped s t).flag (taskStat t.toNat) 15 then (stepped s t).fld (taskCnt t.toNat) 23 16
      else max 1 (field w 18 11)) - 1 = l := by rw [free, hl]; rfl
  rw [hs, ← count, ← stepped_pc s t]
  exact congrArg Host.Outcome.next (State.runStep_body _ h rfl hw good)

/-- A RAISE_EVENT in order: its bits above BUF are clear where it names a buffer word. -/
theorem exec_raiseEvent {s : State} {t : BitVec 4} {w : Word} (h : atStep s t 0x10 w = true)
    (clear : bit w 3 = false ∨ field w 25 15 = 0) :
    exec (.raiseEvent t) s = .next (((stepped s t).stepOn t.toNat).raise (24 + field w 2 0)
      (if bit w 3 then s.buf (field w 14 4) else word (field w 25 4))) := by
  have good : (bit w 3 && field w 25 15 != 0) = false := by
    rcases clear with immediate | zero
    · rw [immediate]; rfl
    · simp [zero]
  rw [← stepped_buf s t]
  exact congrArg Host.Outcome.next (State.runStep_body _ h rfl (within_ones w) good)

theorem exec_postCue {s : State} {t : BitVec 4} {w : Word} (h : atStep s t 0x11 w = true) (hw : within w 0xFC00FFFF#32 = true)
    (short : field w 15 11 ≤ 20) (inside : field w 10 0 + (field w 15 11 + 3) / 4 ≤ 2048) :
    exec (.postCue t) s = .next (((stepped s t).postSample t.toNat (s.pc t.toNat)
      (s.bufBytes (field w 10 0) (field w 15 11))).stepOn t.toNat) := by
  have good : (decide (20 < field w 15 11) || decide (2048 < field w 10 0 + (field w 15 11 + 3) / 4)) = false := by
    simp [Nat.not_lt.2 short, Nat.not_lt.2 inside]
  rw [← stepped_pc s t, ← stepped_bufBytes s t]
  exact congrArg Host.Outcome.next (State.runStep_body _ h rfl hw good)

/-- Settles O29: each step in order by exec_step, the waits by the equations of State.waitUntil. -/
theorem scoreStepsComplete : Obligations.ScoreStepsComplete := by
  unfold Obligations.ScoreStepsComplete
  constructor
  case left =>
    intro t s s1 w n hn hs
    subst hn hs
    refine ⟨fun h hw => congrArg Host.Outcome.next (State.runStep_body _ h rfl hw rfl),
      fun h hw pin => congrArg Host.Outcome.next (State.runStep_body _ h rfl hw (by simpa using pin)), ?pin, fun h hw => ?ticks,
      ?input, fun h hw s2 hs => ?clear⟩
    case pin =>
      intro h hw pin level s2 hs
      have runs : exec (.waitPin t level) s = .next (s2.waitUntil t.toNat w (s2.pinReads (field w 5 0) level == bit w 6)
          (s2.stepOn t.toNat)) := hs ▸ congrArg Host.Outcome.next (State.runStep_body _ h rfl hw (by simpa using pin))
      rw [runs]
      refine ⟨fun ready => ?_, fun not early => ?_, fun not timed late => ?_⟩
      · rw [State.waitUntil_done (by simpa [State.inTime] using ready)]
      · rw [State.waitUntil_waits (by simpa [State.inTime] using not) early]
      · rw [State.waitUntil_faults (by simpa [State.inTime] using not) timed late]
    case ticks =>
      refine (congrArg Host.Outcome.next (State.runStep_body _ h rfl hw rfl)).trans ?_
      rw [stepped_task, stepped_elapsed, stepped_edge]
    case input =>
      intro h hw k hk
      have runs : exec (.waitInput t) s = .next ((stepped s t).waitUntil t.toNat w (decide (k ≤ s.inputCount t.toNat (field w 1 0)))
          ((if bit w 6 then (stepped s t).setFld (taskCnt t.toNat) (4 * field w 1 0 + 3) (4 * field w 1 0)
            (s.inputCount t.toNat (field w 1 0) - k) else stepped s t).stepOn t.toNat)) :=
        hk ▸ congrArg Host.Outcome.next (State.runStep_body _ h rfl hw rfl)
      rw [runs]
      refine ⟨fun ready => ?_, fun not early => ?_, fun not timed late => ?_⟩
      · rw [State.waitUntil_done (by simpa [State.inTime] using ready)]
      · rw [State.waitUntil_waits (by simpa [State.inTime] using not) early]
      · rw [State.waitUntil_faults (by simpa [State.inTime] using not) timed late]
    case clear =>
      rw [hs]
      exact congrArg Host.Outcome.next (State.runStep_body _ h rfl hw rfl)
  case right =>
    intro t s s1 w n hn hs
    subst hn hs
    refine ⟨?branch, ?branchPin, ?call, ?calledTwice, ?ret, ?loop, ?raise, ?raiseBuf, ?post, ?request⟩
    case branch =>
      intro h good plain level
      rw [exec_branchIf h good (if_neg plain).symm]
      refine ⟨fun not => ?_, fun holds keeps => ?_, fun holds count takes => ?_⟩
      · rw [if_neg (Bool.eq_false_iff.1 not)]
      · have kept : ¬(field w 12 11 = 0 ∧ bit w 19 = true) := by
          rcases keeps with other | unset
          · exact fun both => other both.1
          · simp [unset]
        rw [if_pos holds, if_neg kept]
      · rw [if_pos holds, if_pos ⟨count, takes⟩]
    case branchPin =>
      intro h good pin level s2 hs
      have reads : s2.branchHolds t.toNat w level = (s2.pinReads (field w 18 13) level == bit w 19) := by
        simp only [State.branchHolds, pin]
      have uncounted : ¬(field w 12 11 = 0 ∧ bit w 19 = true) := by simp [pin]
      rw [exec_branchIf h good (hs.trans (if_pos pin).symm), reads, if_neg uncounted]
      simp only [beq_iff_eq]
    case call => exact fun h hw first => exec_callStep h hw first
    case calledTwice =>
      intro h used
      have again : (stepped s t).flag (taskStat t.toNat) 14 = true := (stepped_flag s t _ _).trans used
      exact congrArg Host.Outcome.next (State.runStep_malformed _ h rfl (.inr again))
    case ret => exact fun h hw called => exec_returnStep h hw called
    case loop => exact fun h hw first l hl s2 hs => exec_loopStep h hw first hl hs
    case raise => exact fun h immediate => (exec_raiseEvent h (.inl immediate)).trans (by rw [if_neg (Bool.eq_false_iff.1 immediate)])
    case raiseBuf => exact fun h buffered clear => (exec_raiseEvent h (.inr clear)).trans (by rw [if_pos buffered])
    case post => exact fun h hw short inside => exec_postCue h hw short inside
    case request =>
      intro h hw state
      exact congrArg Host.Outcome.next (State.runStep_body _ h rfl hw (decide_eq_false (Nat.not_lt.2 state)))

end Sys2Proof.Machine
end

section
/-!
REFUTATION of what is said of a transfer's end on a bus beyond the four that BUS.STATUS shows (R151, Table 7-12).
-/

namespace Sys2Proof.Machine

/-- A word has no bit beyond 31. -/
theorem bit_beyond (w : Word) {n : Nat} (h : 32 ≤ n) : bit w n = false := by
  rw [bit_eq, BitVec.getLsbD_of_ge w n h]

/-- A transfer of task 0. -/
def someXfer : BusXfer where
  task := 0
  step := 0
  target := 0
  wlen := 0
  rlen := 0
  timeout := 1
  wbuf := 0
  rbuf := 0
  read := false
  toRing := false
  queued := 0#48
  sending := []

/-- Refutes O30: its clause on the end of a transfer names every number as a bus, and that of bus 28 with a stuck bus would set bit 32
of BUS.STATUS, which has 32 bits. -/
theorem not_busStepsAndTransfersEnd : ¬ Obligations.BusStepsAndTransfersEnd := by
  unfold Obligations.BusStepsAndTransfersEnd
  rintro ⟨_, _, _, _, ended, _⟩
  obtain ⟨_, _, shown, _⟩ := ended State.reset 28 someXfer { cause := 3 } [] (by decide)
  have absent : (State.reset.busEnded 28 someXfer { cause := 3 }).flag Reg.BUS_STATUS (4 + 28) = false :=
    bit_beyond _ (by decide)
  rw [absent] at shown
  exact absurd shown (by decide)

end Sys2Proof.Machine
end

section
/-!
REFUTATION of what is said of SCORE_LOAD (R161, Table 7-7): a load shows its profile with the number of its records, where the
statement keeps every bit of PROFILE above the profile's number.
-/

namespace Sys2Proof.Machine

/-! ### A journal with one record, of type CONFIG_SCORE -/

/-- Its words 0 and 1, and the word that holds its CRC. -/
def scoreWord0 : Word := 0x52C5#32
def scoreWord1 : Word := 12#32
def scoreCrc : Word := recCrc scoreWord0 scoreWord1 0#32 [0#32, 0#32, 0#32]

/-- Sector 26 is OPEN and holds a record of profile 0 with SEQ 0 that names no task. -/
def oneRecord : Cells Word :=
  [(26627, 0xFFFFFFFE#32), (26632, scoreWord0), (26633, scoreWord1), (26634, 0#32), (26636, 0#32), (26637, 0#32), (26638, 0#32),
    (26639, scoreCrc)]

/-- The part with that journal, and SCORE_LOAD of profile 0 on ring 0. -/
def loading : State :=
  { State.reset with flash := oneRecord, rings := [(0, { cur := some { words := [0x20#32], index := 0 } })] }

/-- The verb on its ring. -/
def loadVerb : Verb := { ring := 0, owner := 0, words := [0x20#32], index := 0 }

/-! ### The words of that journal -/

theorem loading_flashRaw (a : Nat) : loading.flashRaw a = Cells.get shippedWord oneRecord a := rfl

theorem loading_flashWord (a : Nat) : loading.flashWord a = Cells.get shippedWord oneRecord a := by
  have strong : loading.weakBits a = 0#32 := rfl
  unfold State.flashWord
  rw [strong, BitVec.zero_and, BitVec.or_zero, loading_flashRaw]

theorem loading_jw (p w : Nat) : loading.jw p w = Cells.get shippedWord oneRecord (1024 * p + w) := loading_flashWord _

/-- Every other sector is as shipped. -/
theorem loading_jw_shipped {p w : Nat} (hp : p ≠ 26) (hw : w < 1024) : loading.jw p w = shippedWord w := by
  have unlisted : Cells.find oneRecord (1024 * p + w) = none := by
    simp only [oneRecord, Cells.find]
    iterate 8 rw [if_neg (by omega)]
  have place : (1024 * p + w) % 1024 = w := by omega
  have own : w % 1024 = w := Nat.mod_eq_of_lt hw
  rw [loading_jw, Cells.get, unlisted, Option.getD_none, shippedWord, shippedWord, place, own]

theorem loading_header (p : Nat) : loading.headerValid p = true := by
  have words : loading.jw p 0 = sectorMagic ∧ loading.jw p 1 = 1#32 ∧ loading.jw p 2 = 0xFFFFFFFE#32 := by
    by_cases here : p = 26
    · subst here
      simp only [loading_jw]
      decide
    · simp only [loading_jw_shipped here (show (0 : Nat) < 1024 by decide), loading_jw_shipped here (show (1 : Nat) < 1024 by decide),
        loading_jw_shipped here (show (2 : Nat) < 1024 by decide)]
      decide
  obtain ⟨magic, count, complement⟩ := words
  simp [State.headerValid, magic, count, complement]

/-- STATE of a sector: sector 26 alone differs from a FRESH one, in OPEN. -/
theorem loading_stateWord (p : Nat) : loading.jw p 3 = if p = 26 then 0xFFFFFFFE#32 else erasedWord := by
  split
  · rename_i here
    subst here
    rw [loading_jw]
    decide
  · rename_i other
    rw [loading_jw_shipped other (by decide)]
    decide

theorem loading_stateFlag {p n : Nat} (h0 : 0 < n) (hn : n < 32) : loading.stateFlag p n = false := by
  have set : ∀ n < 32, 0 < n → bit 0xFFFFFFFE#32 n = true ∧ bit erasedWord n = true := by decide
  rw [State.stateFlag, loading_stateWord]
  split
  · rw [(set n hn h0).1]; rfl
  · rw [(set n hn h0).2]; rfl

/-! ### Its record -/

/-- No spare is assigned. -/
theorem loading_claim_spare {p : Nat} (h : isSpare p = true) : loading.claim p = none := by
  have other : p ≠ 26 := by
    rintro rfl
    exact absurd h (by decide)
  simp only [State.claim, h, if_true, loading_jw_shipped other (show (4 : Nat) < 1024 by decide),
    loading_jw_shipped other (show (5 : Nat) < 1024 by decide)]
  decide

theorem loading_server {x : Nat} (h : isSpare x = false) : loading.server x = some x := by
  have own : loading.claim x = some (x, 0) := by simp [State.claim, h]
  have spares (p : Nat) (hp : p ∈ (List.range 8).map (· + 18)) : loading.claim p = none := by
    refine loading_claim_spare ?_
    obtain ⟨i, hi, rfl⟩ := List.mem_map.1 hp
    have := List.mem_range.1 hi
    simp only [isSpare, Bool.and_eq_true, decide_eq_true_eq]
    omega
  unfold State.server State.highestGen
  dsimp only
  rw [List.foldl_cons]
  refine congrArg (Option.map (·.1)) (List.foldlRecOn ((List.range 8).map (· + 18)) _
    (motive := fun best : Option (Nat × Nat) => best = some (x, 0)) ?_ fun best kept p hp => ?_)
  · simp only [own, loading_stateFlag (show 0 < 9 by decide) (show 9 < 32 by decide), loading_header]
    simp
  · simp only [spares p hp, kept]

theorem loading_recordSectors : loading.recordSectors = (List.range 102).map (fun i => (26 + i, 26 + i)) := by
  have served (i : Nat) : (loading.server (26 + i)).map (fun p => (26 + i, p)) = some (26 + i, 26 + i) := by
    have record : isSpare (26 + i) = false := by simp [isSpare]; omega
    rw [loading_server record]
    rfl
  unfold State.recordSectors
  simp only [served]
  exact congrFun List.filterMap_eq_map' _

/-- Sector 26 alone is no longer FRESH. -/
theorem loading_readsRecords (p : Nat) : loading.readsRecords p = decide (p = 26) := by
  have awaits : loading.awaits p = false := rfl
  simp only [State.readsRecords, State.holdsRecords, State.sectorFresh, loading_header, awaits,
    loading_stateFlag (show 0 < 2 by decide) (show 2 < 32 by decide), loading_stateFlag (show 0 < 9 by decide) (show 9 < 32 by decide),
    loading_stateFlag (show 0 < 10 by decide) (show 10 < 32 by decide), loading_stateWord]
  split
  · rename_i here
    simp [here, field]
  · rename_i other
    simp [other, field, erasedWord]

/-- The record as the part finds it. -/
def theRecord : RecAt := { p := 26, off := 32, w0 := scoreWord0, w1 := scoreWord1, seq := 0, live := true }

theorem loading_bodyAt : loading.bodyAt 26 32 scoreWord0 scoreWord1 = [0#32, 0#32, 0#32] := by
  have three : recBody scoreWord0 scoreWord1 = 3 := by decide
  rw [State.bodyAt, three]
  simp only [loading_jw]
  decide

theorem loading_recAt : loading.recAt 26 32 = some theRecord := by
  have words : loading.jw 26 (32 / 4) = scoreWord0 ∧ loading.jw 26 (32 / 4 + 1) = scoreWord1 ∧ loading.jw 26 (32 / 4 + 2) = 0#32 := by
    simp only [loading_jw]
    decide
  have live : loading.jev 26 (32 / 4 + 3) = erasedWord := by decide
  obtain ⟨first, second, seq⟩ := words
  have crc : loading.jw 26 (32 / 4 + 4 + recBody scoreWord0 scoreWord1) = scoreCrc := loading_jw _ _
  unfold State.recAt
  simp only [first, second, seq, crc, live, loading_bodyAt]
  rw [if_pos (by decide), if_pos (show scoreCrc = recCrc scoreWord0 scoreWord1 0#32 [0#32, 0#32, 0#32] from rfl)]
  rfl

theorem loading_readSector : (loading.readSector 26).1 = [theRecord] := by
  have listed : ¬(4096 < 32 + 16 ∨ loading.jev 26 (32 / 4) = erasedWord) := by decide
  have behind : 4096 < 64 + 16 ∨ loading.jev 26 (64 / 4) = erasedWord := by decide
  have size : 32 + recSize theRecord.w0 theRecord.w1 = 64 := by decide
  unfold State.readSector State.scanSector
  rw [if_neg listed, loading_recAt]
  dsimp only
  rw [size, State.scanSector, if_pos behind]

theorem loading_allRecs : loading.allRecs = [theRecord] := by
  have read (e : Nat × Nat) : (if loading.readsRecords e.2 then (loading.readSector e.2).1 else []) =
      if e.2 = 26 then [theRecord] else [] := by
    rw [loading_readsRecords]
    by_cases here : e.2 = 26
    · simp [here, loading_readSector]
    · simp [here]
  unfold State.allRecs
  simp only [read, loading_recordSectors]
  decide

theorem loading_liveRecs : loading.liveRecs = [theRecord] := by
  unfold State.liveRecs
  rw [loading_allRecs]
  decide

/-- The load finds its record and refuses nothing. -/
theorem loading_configRecs : loading.configRecs 0 0 scorePayloadOk = ([(0, List.replicate 12 0#8)], loading) := by
  have payload : loading.payload theRecord = List.replicate 12 0#8 := by
    unfold State.payload State.payloadWords
    rw [show loading.bodyAt theRecord.p theRecord.off theRecord.w0 theRecord.w1 = [0#32, 0#32, 0#32] from loading_bodyAt]
    decide
  have tag (body : List Word) : loading.tagFault theRecord.w0 theRecord.w1 body = 0 := by
    unfold State.tagFault
    exact if_pos (show (!loading.authOn) = true by decide)
  have good : scorePayloadOk (List.replicate 12 0#8) = true := by decide
  unfold State.configRecs
  rw [loading_liveRecs]
  have typed : [theRecord].filter (fun r => r.type == 0) = [theRecord] := by decide
  rw [typed]
  simp only [List.foldl_cons, List.foldl_nil, payload, tag, good]
  rfl

/-! ### PROFILE after the load (R161) -/

/-- The record names nothing to be written. -/
theorem loading_applyScoreRec : loading.applyScoreRec (List.replicate 12 0#8) = loading := by
  have empty : scoreRec (List.replicate 12 0#8) = {
      tasks := [], stepBase := 0, bufBase := 0, bus := [], ladder := [], blocks := [], steps := [], bufs := [] } := by decide
  unfold State.applyScoreRec
  rw [empty]
  rfl

/-- Its list of records, which names no task and holds no LADDER words. -/
def loadedRecs : List (Nat × List Byte) := [(0, List.replicate 12 0#8)]

theorem loadedRecs_plain : loadedRecs.isEmpty = false ∧ loadedRecs.any (fun e => !(scoreRec e.2).ladder.isEmpty) = false ∧
    loadedRecs.flatMap (fun e => (scoreRec e.2).tasks) = [] ∧ loadedRecs.length = 1 := by decide

theorem loadedRecs_applied : loadedRecs.foldl (fun t e => t.applyScoreRec e.2) loading = loading := loading_applyScoreRec

theorem loading_scoreLoad : loading.scoreLoad loadVerb = (loading.showProfile 0 1).complete loadVerb .ok [word 1] := by
  have profile : field (loadVerb.arg 0) 7 0 = 0 := by decide
  have found : loading.configRecs 0 0 scorePayloadOk = (loadedRecs, loading) := loading_configRecs
  obtain ⟨some, plain, none, one⟩ := loadedRecs_plain
  unfold State.scoreLoad
  dsimp only
  rw [profile, found]
  simp [some, plain, none, one, loadedRecs_applied]

theorem loading_admitted : admitted loading 0#8 0x20 (pageRight 3) loadVerb = true := by decide

/-- Bit 16 of PROFILE, VALID, after the load and as the statement has it. -/
theorem loading_valid : ((loading.showProfile 0 1).complete loadVerb .ok [word 1]).flag Reg.SCORE_PROFILE 16 = true ∧
    ((loading.setFld Reg.SCORE_PROFILE 7 0 0).complete loadVerb .ok [word 1]).flag Reg.SCORE_PROFILE 16 = false := by
  constructor
  · rw [State.flag_complete, State.showProfile, State.flag, State.reg_setReg_self]
    decide
  · rw [State.flag_complete, State.flag_setFld_other _ _ _ _ _ _ _ (by decide) (by decide) (by decide)]
    decide

/-- Refutes O31: SCORE_LOAD of the one record writes the number of records and VALID into PROFILE, bit 16 among them. -/
theorem not_scoreVerbsComplete : ¬ Obligations.ScoreVerbsComplete := by
  unfold Obligations.ScoreVerbsComplete
  rintro ⟨load, _⟩
  have said := load 0#8 loading loadVerb 0 loading_admitted (by decide) (by decide)
  have runs : exec (.scoreLoad 0#8) loading = .next (loading.scoreLoad loadVerb) :=
    congrArg Host.Outcome.next (State.runVerb_body _ loading_admitted (by decide))
  have found : loading.configRecs 0 0 scorePayloadOk = (loadedRecs, loading) := loading_configRecs
  obtain ⟨some, plain, none, one⟩ := loadedRecs_plain
  rw [runs, loading_scoreLoad, found] at said
  simp [some, plain, none, one, loadedRecs_applied] at said
  obtain ⟨written, kept⟩ := loading_valid
  rw [said, kept] at written
  exact Bool.false_ne_true written

end Sys2Proof.Machine
end

section
/-!
PROOF of the KEYS statement: POP, the drain and the KEYS verbs (Table 8-8).
-/

namespace Sys2Proof.Machine

/-! ### POP (R177) -/

theorem fronted_fflag {s t : State} {p : Port} {w : BufWord} (h : fronted s p w t = true) (a n : Nat) :
    t.fflag a n = s.fflag a n := by
  obtain ⟨_, _, _, frame⟩ := fronted_frame h
  rw [frame]
  rfl

theorem execKeysPop_fronted {s t : State} {p : Port} {w : BufWord} (h : fronted s p w t = true) (hw : w.off = Reg.KEYS_POP) :
    exec (.keysPop p) s = .next (t.writePop w.val) :=
  have row := rowOf_keysPop hw
  have apply : t.applyWord w = t.writePop w.val := by simp only [State.applyWord, row]
  congrArg Host.Outcome.next ((State.takeWord_fronted h row).trans apply)

/-! ### The drain (R179) -/

theorem State.drainKeys_uncovered {s : State} {r : Nat} (hr : r = s.ffld Reg.KEYS_FIFO_CFG 15 8) (may : s.drainOpen = true)
    (none : (s.ring r).outbox = []) (bare : s.ringCovered r = false) : s.drainKeys = s.haltRing r 2 := by
  subst hr
  simp [State.drainKeys, may, none, bare]

theorem State.drainKeys_covered {s : State} {r : Nat} (hr : r = s.ffld Reg.KEYS_FIFO_CFG 15 8) (may : s.drainOpen = true)
    (none : (s.ring r).outbox = []) (covered : s.ringCovered r = true) {s1 : State}
    (hs : s1 = ((s.post r (.keys (s.keys.fifo.take 3))).writeEntry r).popKeys (s.keys.fifo.take 3).length) :
    s.drainKeys = { s1 with keys := { s1.keys with drainDue := decide (s.cur = 2) && !s1.keys.fifo.isEmpty } } := by
  subst hr
  rw [hs]
  simp [State.drainKeys, State.setKeys, may, none, covered]

/-! ### KEYS_UNMASK (R181) -/

/-- UNMASK is noted for source k where code c names it and it is masked. -/
def State.unmaskOne (c : Nat) (s : State) (k : Nat) : State :=
  if (c = k ∨ c = 0xFF) ∧ s.isMasked k then s.setKey k { s.key k with unmask := true } else s

theorem State.unmaskOne_frame (c : Nat) (s : State) (k : Nat) :
    s.unmaskOne c k = { s with keys := (s.unmaskOne c k).keys } ∧ (s.unmaskOne c k).keys.fifo = s.keys.fifo := by
  simp only [State.unmaskOne]
  split <;> exact ⟨rfl, rfl⟩

theorem State.key_setKey (s : State) (k j : Nat) (v : KeySt) :
    (s.setKey k v).key j = if j = k then v else s.key j := Cells.get_put _ s.keys.keys k j v

theorem State.key_unmaskOne (c : Nat) (s : State) (k j : Nat) :
    (s.unmaskOne c k).key j =
      if j = k ∧ (c = j ∨ c = 0xFF) ∧ s.isMasked j then { s.key j with unmask := true } else s.key j := by
  simp only [State.unmaskOne]
  by_cases same : j = k
  · subst same
    split
    next named => rw [State.key_setKey, if_pos rfl, if_pos ⟨rfl, named⟩]
    next named => rw [if_neg fun h => named h.2]
  · rw [if_neg (c := j = k ∧ _) fun h => same h.1]
    split
    · rw [State.key_setKey, if_neg same]
    · rfl

theorem State.isMasked_unmaskOne (c : Nat) (s : State) (k j : Nat) : (s.unmaskOne c k).isMasked j = s.isMasked j := by
  rw [(s.unmaskOne_frame c k).1]
  rfl

/-- The sources up to n, each in its turn. -/
theorem State.unmask_upTo (c : Nat) (s : State) (n : Nat) :
    (List.range n).foldl (State.unmaskOne c) s = { s with keys := ((List.range n).foldl (State.unmaskOne c) s).keys } ∧
      ((List.range n).foldl (State.unmaskOne c) s).keys.fifo = s.keys.fifo ∧
      (∀ j, ((List.range n).foldl (State.unmaskOne c) s).isMasked j = s.isMasked j) ∧
      ∀ j, ((List.range n).foldl (State.unmaskOne c) s).key j =
        if j < n ∧ (c = j ∨ c = 0xFF) ∧ s.isMasked j then { s.key j with unmask := true } else s.key j := by
  induction n with
  | zero => exact ⟨rfl, rfl, fun _ => rfl, fun _ => (if_neg fun h => absurd h.1 (Nat.not_lt_zero _)).symm⟩
  | succ n ih =>
    rw [List.range_succ, List.foldl_append, List.foldl_cons, List.foldl_nil]
    generalize (List.range n).foldl (State.unmaskOne c) s = t at ih ⊢
    obtain ⟨frame, fifo, masked, keys⟩ := ih
    obtain ⟨frame1, fifo1⟩ := t.unmaskOne_frame c n
    refine ⟨?_, fifo1.trans fifo, fun j => (t.isMasked_unmaskOne c n j).trans (masked j), fun j => ?_⟩
    · rw [frame1]
      rw [frame]
    · rw [State.key_unmaskOne, masked, keys]
      by_cases last : j = n
      · simp [last]
      · simp only [last, false_and, if_false]
        have below : j < n + 1 ↔ j < n := by omega
        simp only [below]

/-! ### The verbs -/

theorem State.putTotal_waiting {s : State} {r : Nat} {f : Fetched} {n : Nat} {total frac : Word} (cur : (s.ring r).cur = some f)
    (waits : f.waiting = some (.pulseTotal n total frac)) : s.putTotal r =
      ((s.setReg (Reg.KEYS_PULSE_TOTAL + 4 * n) total).setReg (Reg.KEYS_PULSE_FRAC + 4 * n) frac).completeRing r .ok := by
  simp only [State.putTotal, cur, waits]

/-- Settles O34: POP by execKeysPop_fronted, the drain by its two cases, UNMASK source by source in State.unmask_upTo, the other
verbs by State.runVerb_body. -/
theorem keysAreReadAndSet : Obligations.KeysAreReadAndSet := by
  unfold Obligations.KeysAreReadAndSet
  refine ⟨?pop, ?drain, fun s shut => ?shut, fun s h => congrArg Host.Outcome.next (if_pos h),
    fun s h => congrArg Host.Outcome.next (if_neg (Bool.eq_false_iff.1 h)), ?load, ?set, ?read, ?drainVerb, ?unmask, ?total,
    fun _ _ _ _ _ _ => State.putTotal_waiting⟩
  case pop =>
    intro p s s0 w h hw
    rw [execKeysPop_fronted h hw, State.writePop, fronted_fflag h]
    exact ⟨fun drains => by rw [if_pos drains], fun free => by rw [if_neg (by simp [free])]⟩
  case drain =>
    exact fun s r s1 hr may none => ⟨fun bare => congrArg Host.Outcome.next (State.drainKeys_uncovered hr may none bare),
      fun covered hs => congrArg Host.Outcome.next (State.drainKeys_covered hr may none covered hs)⟩
  case shut =>
    have stays : s.drainKeys = s := by simp [State.drainKeys, shut]
    exact congrArg Host.Outcome.next stays
  case load =>
    intro ring s v h ha
    refine congrArg Host.Outcome.next ((State.runVerb_body _ h ha).trans ?_)
    simp only [State.stageKeys]
    generalize s.configRecs 2 (field (v.arg 0) 7 0) keysPayloadOk = found
    obtain ⟨recs, s1⟩ := found
    cases recs.getLast? <;> rfl
  case set =>
    intro ring s v h args stage
    exact congrArg Host.Outcome.next (State.runVerb_body _ h (by simp [args, stage]))
  case read =>
    intro ring s v h ha
    refine ⟨fun peek => ?_, fun pop drains => ?_, fun pop free s1 hs => ?_⟩
    · exact congrArg Host.Outcome.next ((State.runVerb_body _ h ha).trans (by simp [peek]))
    · exact congrArg Host.Outcome.next ((State.runVerb_body _ h ha).trans (by simp [pop, drains]))
    · exact congrArg Host.Outcome.next ((State.runVerb_body _ h ha).trans (by simp [pop, free, hs]))
  case drainVerb => exact fun _ _ _ h ha => congrArg Host.Outcome.next (State.runVerb_body _ h ha)
  case unmask =>
    intro ring s v c h args hc named
    have ok : (v.argsWithin [0xFF#32] && (decide (field (v.arg 0) 7 0 ≤ 0x47) || field (v.arg 0) 7 0 == 0xFF)) = true := by
      rw [← hc]
      simpa [args] using named
    obtain ⟨frame, fifo, -, keys⟩ := State.unmask_upTo c s 72
    refine ⟨_, congrArg Host.Outcome.next ((State.runVerb_body _ h ok).trans ?_), frame, fifo, fun k hk => ?_⟩
    · subst hc
      rfl
    · rw [keys]
      simp only [hk, true_and]
  case total =>
    rintro ring s v n h ha rfl
    exact congrArg Host.Outcome.next (State.runVerb_body _ h ha)

end Sys2Proof.Machine
end

section
/-!
PROOF of the TUNE verbs and of the fuses (10: Table 10-6, R233 to R239).
-/

namespace Sys2Proof.Machine

/-! ### Completions -/

theorem State.finish_only (s : State) (r : Nat) : s.finish r = { s with rings := (s.finish r).rings } := by
  simp only [State.finish]
  split <;> rfl

theorem State.complete_only (s : State) (v : Verb) (st : Status) (res : List Word) :
    s.complete v st res = { s with rings := (s.complete v st res).rings } := by
  simp only [State.complete]
  split
  · exact s.finish_only v.ring
  · rfl

theorem State.completeRing_only (s : State) (r : Nat) (st : Status) (res : List Word) :
    s.completeRing r st res = { s with rings := (s.completeRing r st res).rings } := by
  simp only [State.completeRing]
  split
  · exact s.complete_only _ st res
  · rfl

theorem State.completeAll_only (s : State) (w : Wait) (st : Status) (res : List Word) :
    s.completeAll w st res = { s with rings := (s.completeAll w st res).rings } :=
  List.foldlRecOn _ _ (motive := fun t : State => t = { s with rings := t.rings }) rfl
    fun t ih r _ => (t.completeRing_only r st res).trans (by rw [ih])

/-! ### Fuse words -/

theorem State.blowWord_only (s : State) (e : BitVec 56 × Nat) : s.blowWord e = { s with fuses := (s.blowWord e).fuses } := rfl

theorem State.fuseWord_blowWord (s : State) (e : BitVec 56 × Nat) (i : Nat) :
    (s.blowWord e).fuseWord i = if i = 48 + e.2 then s.fuseWord i ||| e.1 else s.fuseWord i := by
  split
  next own => rw [own]; exact s.fuseWord_blow_self _ _ _
  next other => exact s.fuseWord_blow_other _ _ _ _ other

/-- A plan from word n of the customer section blows each word its bits and leaves every other word. -/
theorem State.fuseWord_blowPlan (plan : List (BitVec 56)) (n : Nat) (s : State) (i : Nat) :
    ((plan.zipIdx n).foldl State.blowWord s).fuseWord i =
      if 48 + n ≤ i ∧ i < 48 + n + plan.length then s.fuseWord i ||| plan.getD (i - (48 + n)) 0#56 else s.fuseWord i := by
  induction plan generalizing n s with
  | nil => rw [if_neg (by simp only [List.length_nil]; omega)]; rfl
  | cons w ws ih =>
    rw [List.zipIdx_cons, List.foldl_cons, ih (n + 1), State.fuseWord_blowWord, List.length_cons]
    by_cases first : i = 48 + n
    · rw [if_pos first, if_neg (by omega), if_pos (by omega), first, Nat.sub_self, List.getD_cons_zero]
    · rw [if_neg first]
      by_cases later : 48 + (n + 1) ≤ i ∧ i < 48 + (n + 1) + ws.length
      · rw [if_pos later, if_pos (by omega), show i - (48 + n) = i - (48 + (n + 1)) + 1 by omega, List.getD_cons_succ]
      · rw [if_neg later, if_neg (by omega)]

theorem State.blowPlan_only (plan : List (BitVec 56 × Nat)) (s : State) :
    plan.foldl State.blowWord s = { s with fuses := (plan.foldl State.blowWord s).fuses } :=
  List.foldlRecOn _ _ (motive := fun t : State => t = { s with fuses := t.fuses }) rfl
    fun t ih e _ => (t.blowWord_only e).trans (by rw [ih])

theorem State.custState_le (s : State) (bad : Bool) : s.custState bad ≤ 2 := by
  unfold State.custState
  split
  · decide
  · split
    · decide
    · split <;> decide

theorem fuseStatus_fields {cust f : Nat} (hc : cust ≤ 2) (hf : f ≤ 255) :
    bit (word (cust + 256 * f)) 4 = false ∧ field (word (cust + 256 * f)) 15 8 = f ∧ field (word (cust + 256 * f)) 1 0 = cust := by
  have val : (word (cust + 256 * f)).toNat = cust + 256 * f := by
    rw [word, BitVec.toNat_ofNat]
    omega
  refine ⟨?_, ?_, ?_⟩
  · rw [bit, val, beq_eq_false_iff_ne, Nat.shiftRight_eq_div_pow]
    omega
  · rw [field, val, Nat.shiftRight_eq_div_pow]
    omega
  · rw [field, val, Nat.shiftRight_eq_div_pow]
    omega

/-- What the end of fuse programming shows, raises and completes. -/
def State.fusesDone (s : State) (failed : Nat) (cust : Nat) : State :=
  State.completeAll ((s.setReg Reg.TUNE_FUSE_STATUS (word (cust + 256 * min 255 failed))).raise 59
    (word (cust + 256 * min 255 failed))) .fuse (if failed = 0 then .ok else .halted)
    [if failed = 0 then word s.tune.fuseBits else word (min 255 failed)]

theorem State.fusesDone_stores (s : State) (failed cust : Nat) : storesSame s (s.fusesDone failed cust) := by
  have raised := (s.setReg Reg.TUNE_FUSE_STATUS (word (cust + 256 * min 255 failed))).raise_stores (e := 59) (by decide)
    (word (cust + 256 * min 255 failed))
  rw [State.fusesDone, State.completeAll_only]
  exact raised

theorem State.reg_fusesDone (s : State) (failed cust : Nat) :
    (s.fusesDone failed cust).reg Reg.TUNE_FUSE_STATUS = word (cust + 256 * min 255 failed) := by
  have shown := State.reg_raise (s.setReg Reg.TUNE_FUSE_STATUS (word (cust + 256 * min 255 failed))) 59 (by decide)
    (word (cust + 256 * min 255 failed)) Reg.TUNE_FUSE_STATUS (by decide)
  rw [State.fusesDone, State.completeAll_only]
  exact shown.trans (State.reg_setReg_self _ _ _)

theorem execFuseProgramDone_programming {s : State} (h : s.flag Reg.TUNE_FUSE_STATUS 4 = true) (failed : Nat) :
    exec (.fuseProgramDone failed) s = .next (State.fusesDone (s.tune.plan.zipIdx.foldl State.blowWord s) failed
      (if failed = 0 then (s.tune.plan.zipIdx.foldl State.blowWord s).custState false else 2)) :=
  congrArg Host.Outcome.next (if_pos h)

theorem State.fuseWord_of_fuses {s t : State} (h : t.fuses = s.fuses) (i : Nat) : t.fuseWord i = s.fuseWord i := by
  rw [State.fuseWord, h, State.fuseWord]

/-! ### The TUNE registers -/

theorem State.tuning_writeItem (s : State) (n : Nat) (_ : n ≤ 7) (v : Word) : (s.hostSet (itemCfg n) v).tuning n = s.tuning n :=
  have apart : itemStat n ≠ itemCfg n := by
    simp only [itemCfg, itemStat, Reg.TUNE_ITEM0_CFG, Reg.TUNE_ITEM_STAT]
    omega
  congrArg (bit · 7) (State.reg_setReg_other _ _ _ _ apart)

theorem State.staged_setStage (s : State) (c d : Nat) (lo hi : Word) :
    ((s.setReg (Reg.TUNE_STAGE_LO + 8 * c) lo).setReg (Reg.TUNE_STAGE_HI + 8 * c) hi).staged d =
      if d = c then hi.setWidth 24 ++ lo else s.staged d := by
  have parity : ∀ a b, Reg.TUNE_STAGE_LO + 8 * a ≠ Reg.TUNE_STAGE_HI + 8 * b := by
    intro a b
    simp only [Reg.TUNE_STAGE_LO, Reg.TUNE_STAGE_HI]
    omega
  rw [State.staged, State.reg_setReg_other _ _ _ _ (parity d c)]
  split
  next same => rw [same, State.reg_setReg_self, State.reg_setReg_self]
  next other =>
    rw [State.reg_setReg_other _ _ _ _ (by omega), State.reg_setReg_other _ _ _ _ (parity c d).symm,
      State.reg_setReg_other _ _ _ _ (by omega), State.staged]

theorem execTuneReqWrite_fronted {s t : State} {p : Port} {w : BufWord} (h : fronted s p w t = true) (hw : w.off = Reg.TUNE_REQ) :
    exec (.tuneReqWrite p) s = .next (t.writeTuneReq w.val) :=
  have row := rowOf_tuneReq hw
  have apply : t.applyWord w = t.writeTuneReq w.val := by simp only [State.applyWord, row]
  congrArg Host.Outcome.next ((State.takeWord_fronted h row).trans apply)

theorem State.fusePlan_words (s : State) : s.fusePlan.length = 16 ∧ (∀ c, c < 14 → s.fusePlan[c]? = some (s.staged c)) ∧
    s.fusePlan[15]? = some 1#56 := by
  refine ⟨by simp [State.fusePlan], fun c hc => ?_, by simp [State.fusePlan]⟩
  rw [State.fusePlan, List.getElem?_append_left (by simpa using hc), List.getElem?_map, List.getElem?_range hc]
  rfl

/-- Settles O39: the TUNE verbs by State.runVerb_body, FUSE_STAGE by State.staged_setStage, the end of fuse programming by
State.fuseWord_blowPlan and State.reg_fusesDone. -/
theorem tuneVerbsAndFuses : Obligations.TuneVerbsAndFuses := by
  unfold Obligations.TuneVerbsAndFuses
  refine ⟨?run, ?set, ?read, ?load, ?rebase, fun p s s0 w h hw => execTuneReqWrite_fronted h hw, ?stage, ?program,
    State.fusePlan_words, ?done, fun failed s h => congrArg Host.Outcome.next (if_neg (Bool.eq_false_iff.1 h))⟩
  case run =>
    rintro ring s v n h ha rfl
    refine ⟨fun off => ?_, fun on => ?_⟩
    · exact congrArg Host.Outcome.next ((State.runVerb_body _ h ha).trans (by simp [off]))
    · refine congrArg Host.Outcome.next ((State.runVerb_body _ h ha).trans ?_)
      simp only [on, Bool.not_true, Bool.false_eq_true, if_false]
      split <;> rfl
  case set =>
    rintro ring s v n h ha rfl named mask
    have ok : (v.argsWithin [0xF#32, 0xFFFFFFFF#32] && decide (field (v.arg 0) 3 0 ≤ 9) &&
        within (v.arg 1) (tuneMask (field (v.arg 0) 3 0))) = true := by simp [ha, named, mask]
    have runs : exec (.tuneSet ring) s = .next ((s.writeTune (field (v.arg 0) 3 0) (v.arg 1)).complete v .ok) :=
      congrArg Host.Outcome.next (State.runVerb_body _ h ok)
    rw [runs]
    generalize field (v.arg 0) 3 0 = n
    refine ⟨fun item goes => ?_, fun item off runs waits => ?_, fun delta => ?_, fun adjust => ?_⟩
    · rw [State.writeTune, if_pos item, State.writeItemCfg, State.tuning_writeItem s n item, if_neg]
      rcases goes with on | idle | measures
      · simp [on]
      · simp [idle]
      · simp [State.item, State.hostSet, State.setReg] at measures ⊢
        simp [measures]
    · rw [State.writeTune, if_pos item, State.writeItemCfg, State.tuning_writeItem s n item, if_pos]
      have same : (s.hostSet (itemCfg n) (v.arg 1)).item n = s.item n := rfl
      simp [off, runs, same, waits]
    · rw [delta]
      rfl
    · rw [adjust]
      rfl
  case read =>
    rintro ring s v n h ha rfl
    exact congrArg Host.Outcome.next (State.runVerb_body _ h ha)
  case load =>
    intro ring s v h ha
    refine congrArg Host.Outcome.next ((State.runVerb_body _ h ha).trans ?_)
    simp only [State.loadTune]
    generalize s.configRecs 3 (field (v.arg 0) 7 0) tunePayloadOk = found
    obtain ⟨recs, s1⟩ := found
    cases recs.getLast? <;> rfl
  case rebase =>
    rintro ring s v n h ha rfl
    exact congrArg Host.Outcome.next (State.runVerb_body _ h ha)
  case stage =>
    rintro ring s v c h ha rfl named
    refine ⟨_, congrArg Host.Outcome.next (State.runVerb_body _ h (by simp [ha, named])), rfl, ?_, fun d _ other => ?_⟩
    · rw [State.staged_setStage, if_pos rfl]
    · rw [State.staged_setStage, if_neg other]
  case program =>
    rintro ring s s1 v h ha key rfl
    refine ⟨fun ready => ?_, fun late => ?_⟩
    · exact congrArg Host.Outcome.next ((State.runVerb_body _ h (by simp [ha, key])).trans (if_pos ready))
    · exact congrArg Host.Outcome.next ((State.runVerb_body _ h (by simp [ha, key])).trans (if_neg (Bool.eq_false_iff.1 late)))
  case done =>
    intro failed s programs length
    have cust : (if failed = 0 then (s.tune.plan.zipIdx.foldl State.blowWord s).custState false else 2) ≤ 2 := by
      split
      · exact State.custState_le _ _
      · exact Nat.le_refl 2
    have shown := State.reg_fusesDone (s.tune.plan.zipIdx.foldl State.blowWord s) failed
      (if failed = 0 then (s.tune.plan.zipIdx.foldl State.blowWord s).custState false else 2)
    obtain ⟨hall, -, flash, fuses⟩ := State.fusesDone_stores (s.tune.plan.zipIdx.foldl State.blowWord s) failed
      (if failed = 0 then (s.tune.plan.zipIdx.foldl State.blowWord s).custState false else 2)
    obtain ⟨clear, fails, state⟩ := fuseStatus_fields cust (Nat.min_le_left 255 failed)
    have blown := fun i => (State.fuseWord_of_fuses fuses i).trans (State.fuseWord_blowPlan s.tune.plan 0 s i)
    have only := State.blowPlan_only s.tune.plan.zipIdx s
    refine ⟨_, execFuseProgramDone_programming programs failed, ?_, fun i hi => ?_, fun c hc => ?_, ?_, fun bad => ?_, ?_, ?_⟩
    · rw [State.flag, shown, clear]
    · rw [blown, if_neg (by omega)]
    · rw [blown, if_pos (by omega), Nat.add_zero, Nat.add_sub_cancel_left]
    · rw [State.fld, shown, fails]
    · rw [State.fld, shown, state, if_neg bad]
    · rw [hall, only]
    · rw [flash, only]

end Sys2Proof.Machine
end

section
/-!
PROOF of the array's work and of the journal's own work (11: R244, R254, R255, R258 to R262).
-/

namespace Sys2Proof.Machine

/-! ### A word program ends (R244) -/

/-- The array freed, and the word charged as far as its program came. -/
def State.wordEnded (s : State) (a : Nat) (v : Word) (verified : Bool) (begun : Word) : State :=
  State.endWord { s with jrnl := { s.jrnl with busy := none } } a v verified begun

/-- A failed program counts against its sector. -/
def State.wordJudged (s : State) (a : Nat) (v : Word) (verified : Bool) (begun : Word) : State :=
  if verified then s.wordEnded a v verified begun else (s.wordEnded a v verified begun).verifyFailure (a / 1024)

section
variable {verified : Bool} {begun : Word} {s : State} {id a : Nat} {v : Word} {i : JItem}

theorem State.wordDone_program (busy : s.jrnl.busy = some (.word id a v))
    (found : (s.wordJudged a v verified begun).jrnl.items.find? (fun j => j.id == id) = some i) {a' : Nat} {v' : Word}
    {rest : List JOp} (ops : i.ops = .program a' v' :: rest) :
    s.wordDone verified begun = ((s.wordJudged a v verified begun).setOps i rest).kick := by
  unfold State.wordJudged State.wordEnded at found ⊢
  simp only [State.wordDone, busy, State.setJrnl, found, ops]

theorem State.wordDone_write (busy : s.jrnl.busy = some (.word id a v))
    (found : (s.wordJudged a v verified begun).jrnl.items.find? (fun j => j.id == id) = some i) {w : Nat × Word}
    {ws : List (Nat × Word)} {r why p off rest} (ops : i.ops = .write (w :: ws) r why p off :: rest) :
    s.wordDone verified begun = (if verified then (s.wordJudged a v verified begun).setOps i (.write ws r why p off :: rest)
      else ((s.wordJudged a v verified begun).setOps i (.append r why :: rest)).addItem 0 [fullWord p]).kick := by
  unfold State.wordJudged State.wordEnded at found ⊢
  simp only [State.wordDone, busy, State.setJrnl, found, ops]

end

/-! ### An erase pulse ends (R255) -/

/-- The array freed. -/
def State.pulseEnded (s : State) : State := { s with jrnl := { s.jrnl with busy := none } }

section
variable {s : State} {id p q : Nat} {i : JItem} {count k : Nat} {rest : List JOp}

theorem State.pulseDone_notBlank (busy : s.jrnl.busy = some (.pulse id p))
    (found : s.jrnl.items.find? (fun j => j.id == id) = some i) (ops : i.ops = .pulse q count k :: rest) :
    s.pulseDone false = (if 16 ≤ k + 1 then (s.pulseEnded.putItem { i with ops := rest, begun := false, deferred := false }).retire p 0
      else s.pulseEnded.setOps i (.pulse p count (k + 1) :: rest)).kick := by
  simp only [State.pulseDone, busy, State.setJrnl, Bool.false_eq_true, if_false, found, ops, State.pulseEnded]

theorem State.pulseDone_blank (busy : s.jrnl.busy = some (.pulse id p))
    (found : s.jrnl.items.find? (fun j => j.id == id) = some i) (ops : i.ops = .pulse q count k :: rest) :
    s.pulseDone true =
      (let s3 := if 4 < k + 1 then (s.pulseEnded.blankSector p).raise 64 (wearArg p (k + 1) count) else s.pulseEnded.blankSector p
      s3.setOps i ([.program (1024 * p) sectorMagic, .program (1024 * p + 1) (word (count % 2 ^ 24))] ++
        (if 4 < k + 1 then [.program (1024 * p + 3) 0xFFFFFEFF#32] else []) ++
        [.program (1024 * p + 2) (~~~(word (count % 2 ^ 24)))] ++ s3.doneWords p ++ .erased p :: rest)).kick := by
  have kept : (s.pulseEnded.blankSector p).jrnl.items.find? (fun j => j.id == id) = some i := found
  unfold State.pulseEnded at kept ⊢
  simp only [State.pulseDone, busy, State.setJrnl, if_true, kept, ops]

end

/-! ### Counter bits (R260) -/

theorem State.durable_of_regs {s t : State} (h : t.regs = s.regs) (c : Nat) : t.durable c = s.durable c := by
  rw [State.durable, State.reg_of_regs h, State.fld_of_regs h, State.durable]

theorem State.unsaved_of_regs {s t : State} (h : t.regs = s.regs) (c : Nat) : t.unsaved c = s.unsaved c := by
  rw [State.unsaved, State.reg_of_regs h, State.unsaved]

/-- The registers that begun bits change. -/
def State.bitsShown (s : State) (c n : Nat) : State :=
  ((s.setDurable c (s.durable c + n)).setFld (Reg.JRNL_CTR_TAB + 8 * c) 30 16 (s.ctrBits c + n)).setReg
    (Reg.JRNL_CTR_UNSAVED + 4 * c) (word (s.unsaved c - n))

theorem State.bitsBegun_regs (s : State) (c n : Nat) : (s.bitsBegun c n).regs = (s.bitsShown c n).regs := by
  unfold State.bitsBegun State.bitsShown
  simp only
  split <;> rfl

/-- Which registers setDurable leaves. -/
theorem State.reg_setDurable_other (s : State) (c v a : Nat) (lo : a ≠ Reg.JRNL_CTR_LO + 8 * c) (hi : a ≠ Reg.JRNL_CTR_HI + 8 * c) :
    (s.setDurable c v).reg a = s.reg a := by
  have written : (((s.setReg (Reg.JRNL_CTR_LO + 8 * c) (word (v % 2 ^ 48))).setFld (Reg.JRNL_CTR_HI + 8 * c) 15 0
      (v % 2 ^ 48 / 2 ^ 32))).reg a = s.reg a :=
    (State.reg_setFld_other _ _ _ _ _ _ hi).trans (State.reg_setReg_other _ _ _ _ lo)
  unfold State.setDurable
  simp only
  split
  · exact written
  · exact (State.reg_setFld_other _ _ _ _ _ _ hi).trans written

theorem State.durable_setDurable (s : State) (c v : Nat) (small : v < 2 ^ 48) : (s.setDurable c v).durable c = v := by
  have apart : Reg.JRNL_CTR_LO + 8 * c ≠ Reg.JRNL_CTR_HI + 8 * c := by
    simp only [Reg.JRNL_CTR_LO, Reg.JRNL_CTR_HI]
    omega
  have low : (word v).toNat = v % 2 ^ 32 := BitVec.toNat_ofNat v 32
  have high : v / 2 ^ 32 % 2 ^ 16 = v / 2 ^ 32 := Nat.mod_eq_of_lt (by omega)
  have written : State.durable ((s.setReg (Reg.JRNL_CTR_LO + 8 * c) (word v)).setFld (Reg.JRNL_CTR_HI + 8 * c) 15 0 (v / 2 ^ 32)) c
      = v := by
    rw [State.durable, State.reg_setFld_other _ _ _ _ _ _ apart, State.reg_setReg_self, low,
      State.fld_setFld _ _ _ _ _ (by decide) (by decide), high]
    omega
  unfold State.setDurable
  simp only [Nat.mod_eq_of_lt small]
  split
  · exact written
  · rw [State.durable, State.bump, State.reg_setFld_other _ _ _ _ _ _ apart,
      State.fld_setFld_other _ _ _ _ _ _ _ _ (by decide) (by decide) (.inr (.inr (by decide)))]
    exact written

theorem State.bitsBegun_counters (s : State) (c n : Nat) (small : s.durable c + n < 2 ^ 48) (hc : c < 8) :
    (s.bitsBegun c n).durable c = s.durable c + n ∧ (s.bitsBegun c n).unsaved c = s.unsaved c - n ∧
      ∀ d, d < 8 → d ≠ c → (s.bitsBegun c n).durable d = s.durable d ∧ (s.bitsBegun c n).unsaved d = s.unsaved d := by
  have regs := s.bitsBegun_regs c n
  have lower : ∀ a, a < Reg.JRNL_CTR_UNSAVED →
      (s.bitsShown c n).reg a = (s.setDurable c (s.durable c + n)).reg a := by
    intro a below
    have unsaved : a ≠ Reg.JRNL_CTR_UNSAVED + 4 * c := by omega
    have table : a ≠ Reg.JRNL_CTR_TAB + 8 * c := by
      simp only [Reg.JRNL_CTR_UNSAVED, Reg.JRNL_CTR_TAB] at below ⊢
      omega
    exact (State.reg_setReg_other _ _ _ _ unsaved).trans (State.reg_setFld_other _ _ _ _ _ _ table)
  have durable : ∀ d, d < 8 → (s.bitsBegun c n).durable d = (s.setDurable c (s.durable c + n)).durable d := by
    intro d hd
    have lo := lower (Reg.JRNL_CTR_LO + 8 * d) (by simp only [Reg.JRNL_CTR_LO, Reg.JRNL_CTR_UNSAVED]; omega)
    have hi := lower (Reg.JRNL_CTR_HI + 8 * d) (by simp only [Reg.JRNL_CTR_HI, Reg.JRNL_CTR_UNSAVED]; omega)
    generalize s.setDurable c (s.durable c + n) = t at lo hi ⊢
    rw [State.durable_of_regs regs, State.durable, State.fld, lo, hi, State.durable, State.fld]
  refine ⟨(durable c hc).trans (s.durable_setDurable c _ small), ?_, fun d hd other => ⟨(durable d hd).trans ?_, ?_⟩⟩
  · have count := (s.reg (Reg.JRNL_CTR_UNSAVED + 4 * c)).isLt
    rw [State.unsaved_of_regs regs, State.unsaved, State.bitsShown, State.reg_setReg_self, word, BitVec.toNat_ofNat]
    exact Nat.mod_eq_of_lt (Nat.lt_of_le_of_lt (Nat.sub_le _ _) count)
  · have lo := s.reg_setDurable_other c (s.durable c + n) (Reg.JRNL_CTR_LO + 8 * d) (by omega)
      (by simp only [Reg.JRNL_CTR_LO, Reg.JRNL_CTR_HI]; omega)
    have hi := s.reg_setDurable_other c (s.durable c + n) (Reg.JRNL_CTR_HI + 8 * d)
      (by simp only [Reg.JRNL_CTR_LO, Reg.JRNL_CTR_HI]; omega) (by omega)
    rw [State.durable, State.fld, lo, hi, State.durable, State.fld]
  · have stays : (s.bitsShown c n).reg (Reg.JRNL_CTR_UNSAVED + 4 * d) = s.reg (Reg.JRNL_CTR_UNSAVED + 4 * d) := by
      rw [State.bitsShown, State.reg_setReg_other _ _ _ _ (by omega), State.reg_setFld_other _ _ _ _ _ _
        (by simp only [Reg.JRNL_CTR_UNSAVED, Reg.JRNL_CTR_TAB]; omega)]
      exact s.reg_setDurable_other c _ _ (by simp only [Reg.JRNL_CTR_UNSAVED, Reg.JRNL_CTR_LO]; omega)
        (by simp only [Reg.JRNL_CTR_UNSAVED, Reg.JRNL_CTR_HI]; omega)
    rw [State.unsaved_of_regs regs, State.unsaved, stays, State.unsaved]

/-! ### The obligation -/

/-- Settles O41: word programs by State.wordDone_program and _write, pulses by State.pulseDone_blank and _notBlank, the counters by
State.bitsBegun_counters. -/
theorem theJournalDoesItsWork : Obligations.TheJournalDoesItsWork := by
  unfold Obligations.TheJournalDoesItsWork
  refine ⟨?word, ?bits, ?idle, fun _ _ _ _ => ⟨rfl, rfl⟩, ?counter, ?rests, ?erase, ?noErase, ?pulse, ?noPulse,
    fun s h => congrArg Host.Outcome.next (if_pos h), fun s h3 h4 => congrArg Host.Outcome.next (if_neg (by simp [h3, h4])),
    ?roll, ?noRoll, ?compacts, ?full, ?late, ?counts⟩
  case word =>
    intro begun verified s s1 s2 id a v i busy h1 h2 found
    have judged : s2 = s.wordJudged a v verified begun := by rw [h2, h1, State.wordJudged, State.wordEnded]
    rw [judged] at found ⊢
    exact ⟨fun a' v' rest ops => congrArg Host.Outcome.next (State.wordDone_program busy found ops),
      fun w ws r why p off rest ops => congrArg Host.Outcome.next (State.wordDone_write busy found ops)⟩
  case bits =>
    intro begun verified s s1 s2 c a v busy h1 h2
    have done : s.wordDone verified begun = (if verified then s2 else s2.verifyFailure (a / 1024)).kick := by
      rw [h2, h1]
      simp only [State.wordDone, busy, State.setJrnl]
    exact congrArg Host.Outcome.next done
  case idle =>
    intro begun verified s busy
    have rests : s.wordDone verified begun = s := by simp only [State.wordDone, busy]
    exact congrArg Host.Outcome.next rests
  case counter =>
    intro begun s s1 c a erased target free next strip ht h1
    refine congrArg Host.Outcome.next ((if_pos free).trans ?_)
    simp only [next, strip, State.setJrnl, ← ht, ← h1]
  case rests =>
    intro begun s h
    refine congrArg Host.Outcome.next ?_
    rcases h with busy | none
    · exact if_neg (Bool.eq_false_iff.1 busy)
    · simp only [none, ite_self]
  case erase =>
    intro s i p rest free bits next ops
    have starts : s.eraseStart = (s.beginErase i p rest).kick := by
      simp only [State.eraseStart, free, bits, Option.isNone_none, Bool.and_self, if_true, next, ops]
    exact congrArg Host.Outcome.next starts
  case noErase =>
    intro s h
    have rests : s.eraseStart = s := by
      unfold State.eraseStart
      rcases h with busy | bits | none
      · simp [busy]
      · simp [bits]
      · simp [none]
    exact congrArg Host.Outcome.next rests
  case pulse =>
    rintro s s1 s3 id p q i count k rest busy rfl found ops
    have notBlank := State.pulseDone_notBlank busy found ops
    have blank := State.pulseDone_blank busy found ops
    refine ⟨fun last => ?_, fun more => ?_, fun worn h3 => ?_, fun fresh => ?_⟩
    · rw [if_pos last] at notBlank
      exact congrArg Host.Outcome.next notBlank
    · rw [if_neg (Nat.not_le.2 more)] at notBlank
      exact congrArg Host.Outcome.next notBlank
    · rw [h3]
      simp only [if_pos worn] at blank
      exact congrArg Host.Outcome.next blank
    · simp only [if_neg (Nat.not_lt.2 fresh)] at blank
      exact congrArg Host.Outcome.next blank
  case noPulse =>
    intro blank s busy
    have rests : s.pulseDone blank = s := by simp only [State.pulseDone, busy]
    exact congrArg Host.Outcome.next rests
  case roll =>
    intro s c found
    exact congrArg Host.Outcome.next (by rw [found])
  case noRoll =>
    intro s settled
    have found : (List.range 8).find? s.rollDue = none := by simpa using settled
    exact congrArg Host.Outcome.next (by rw [found])
  case compacts =>
    intro s late due
    exact congrArg Host.Outcome.next (by simp only [late]; exact if_pos due)
  case full =>
    intro s late due
    exact congrArg Host.Outcome.next (by simp only [late]; exact if_neg (Bool.eq_false_iff.1 due))
  case late =>
    intro s s1 i late h1
    exact congrArg Host.Outcome.next (by simp only [late, ← h1])
  case counts => exact fun s c n hc _ _ small => s.bitsBegun_counters c n small hc

end Sys2Proof.Machine
end

section
/-!
PROOF of the journal verbs and of JRNL.CMD (11: Table 11-9, R268 to R271).
-/

namespace Sys2Proof.Machine

/-! ### Verbs -/

theorem State.runJournal_admitted {s : State} {ring : BitVec 8} {code : Nat} {v : Verb}
    (h : admitted s ring code journalRight v = true) (ha : journalArgs s v = true) :
    s.runJournal ring.toNat code = s.journalVerb v := State.runVerb_body State.journalVerb h ha

theorem admitted_code {s : State} {ring : BitVec 8} {code : Nat} {right : Right} {v : Verb}
    (h : admitted s ring code right v = true) : v.code = code := (State.freshVerb_code (admitted_iff.1 h).1).1

theorem State.journalVerb_queued {s : State} {v : Verb} {code : Nat} (hv : v.code = code) (free : s.jrnl.readonly = false)
    (other : code ≠ 0x60) : s.journalVerb v = ((s.await v .journal (if code = 0x64 then 65536 else 0)).addItem
      (if code = 0x65 then 1 else 3) [.verb code ((List.range 7).map v.arg) v.owner []] (.ring v.ring)).kick := by
  simp only [State.journalVerb, State.queueVerb, hv, free, Bool.false_eq_true, if_false, if_neg other]

theorem State.journalVerb_append {s : State} {v : Verb} (hv : v.code = 0x60) (free : s.jrnl.readonly = false) :
    s.journalVerb v = (((s.await v .journal 0).touchHall (v.arg 1).toNat (appendBytes v)).addItem 3
      [.verb 0x60 ((List.range 7).map v.arg) v.owner ((s.await v .journal 0).appendBody v)] (.ring v.ring)).kick := by
  have ranks : (0x60 : Nat) ≠ 0x64 ∧ (0x60 : Nat) ≠ 0x65 := by decide
  simp only [State.journalVerb, State.queueVerb, hv, free, Bool.false_eq_true, if_false, if_true, if_neg ranks.1, if_neg ranks.2]

/-- Each journal verb is the journal's verb of its code. -/
theorem exec_journalVerb {c : Instr} {ring : BitVec 8} {code : Nat}
    (listed : (c, code) ∈ [(.jrnlAppend ring, 0x60), (.jrnlRead ring, 0x61), (.jrnlFind ring, 0x62), (.jrnlDelete ring, 0x63),
      (.jrnlCompact ring, 0x64), (.counterSetup ring, 0x65), (.counterAdd ring, 0x66), (.counterRead ring, 0x67),
      (Instr.counterFlush ring, 0x68)]) (s : State) : exec c s = .next (s.runJournal ring.toNat code) := by
  simp only [List.mem_cons, Prod.mk.injEq, List.not_mem_nil, or_false] at listed
  rcases listed with ⟨rfl, rfl⟩ | ⟨rfl, rfl⟩ | ⟨rfl, rfl⟩ | ⟨rfl, rfl⟩ | ⟨rfl, rfl⟩ | ⟨rfl, rfl⟩ | ⟨rfl, rfl⟩ | ⟨rfl, rfl⟩ |
    ⟨rfl, rfl⟩ <;> rfl

/-- A record found by its SEQ is found by the SEQ that it has. -/
theorem State.findSeq_own {s : State} {seq : Nat} {r : RecAt} (h : s.findSeq seq = some r) : s.findSeq r.seq = some r := by
  have same : r.seq = seq := by simpa using List.find?_some h
  rw [same, h]

theorem State.verbStep_delete (s : State) (i : JItem) (args : List Word) (owner : Nat) :
    s.verbStep i 0x63 args owner [] = (match s.findSeq (nth args 0).toNat with
      | some r => if r.type = 5 ∨ (r.type ≤ 4 ∧ owner ≠ 0) then
          s.finishItem i (if r.type = 5 then .badArg else .noPermission) []
        else s.setOps i (s.deleteOps r.seq ++ [.answer 0 []])
      | none => s.finishItem i .badArg []) := by
  simp only [State.verbStep]
  cases found : s.findSeq (nth args 0).toNat with
  | none => rfl
  | some r =>
    simp only [State.deleteRefused, State.findSeq_own found]
    by_cases base : r.type = 5
    · simp only [if_pos base, if_pos (Or.inl base)]
    · by_cases kept : r.type ≤ 4 ∧ owner ≠ 0
      · simp only [if_neg base, if_pos kept, if_pos (Or.inr kept : r.type = 5 ∨ _)]
      · simp only [if_neg base, if_neg kept, if_neg (not_or.2 ⟨base, kept⟩)]

theorem State.verbStep_find (s : State) (i : JItem) (args : List Word) (owner : Nat) :
    s.verbStep i 0x62 args owner [] = s.finishItem i .ok (match s.findRec args with
      | some r => [word r.seq, r.w0, r.w1, s.recPlace r.p r.off]
      | none => [0#32, 0#32, 0#32, 0#32]) := by
  simp only [State.verbStep]
  cases s.findRec args <;> rfl

/-! ### JRNL.CMD (R270) -/

theorem execJrnlCmdGo_fronted {s t : State} {p : Port} {w : BufWord} (h : fronted s p w t = true) (hw : w.off = Reg.JRNL_CMD)
    (go : bit w.val 31 = true) : exec (.jrnlCmdGo p) s = .next (t.writeJrnlCmd w.val) :=
  have row := rowOf_jrnlCmd hw go
  have apply : t.applyWord w = t.writeJrnlCmd w.val := by simp only [State.applyWord, row]
  congrArg Host.Outcome.next ((State.takeWord_fronted h row).trans apply)

theorem fronted_cmdBusy {s t : State} {p : Port} {w : BufWord} (h : fronted s p w t = true) : t.cmdBusy = s.cmdBusy := by
  obtain ⟨_, _, _, frame⟩ := fronted_frame h
  rw [frame]
  rfl

/-- The state that a GO of JRNL.CMD leaves before its operation is looked at. -/
def State.cmdTaken (s : State) (val : Word) : State :=
  State.setFlag { s.hostSet Reg.JRNL_CMD val with jrnl := { s.jrnl with cmdOp := field val 7 0 } } Reg.JRNL_CMD_STATUS 31 false

/-- The operation of JRNL.CMD as a verb of no ring. -/
def State.cmdVerb (s : State) (op : Nat) : Verb :=
  { ring := 256, owner := s.fld Reg.JRNL_MODE 13 8, index := 0
    words := word op :: (List.range 4).map (fun k => s.reg (Reg.JRNL_CMD_ARG + 4 * k)) }

theorem State.cmdVerb_cmdTaken (s : State) (val : Word) (op : Nat) : (s.cmdTaken val).cmdVerb op = s.cmdVerb op := by
  have kept : ∀ a, a ≠ Reg.JRNL_CMD → a ≠ Reg.JRNL_CMD_STATUS → (s.cmdTaken val).reg a = s.reg a := fun a cmd status =>
    (State.reg_setFlag_other _ _ _ _ _ status).trans (State.reg_setReg_other s _ _ _ cmd)
  have args : (List.range 4).map (fun k => (s.cmdTaken val).reg (Reg.JRNL_CMD_ARG + 4 * k)) =
      (List.range 4).map (fun k => s.reg (Reg.JRNL_CMD_ARG + 4 * k)) :=
    List.map_congr_left fun k hk => by
      have below : k < 4 := List.mem_range.1 hk
      exact kept _ (by simp only [Reg.JRNL_CMD_ARG, Reg.JRNL_CMD]; omega)
        (by simp only [Reg.JRNL_CMD_ARG, Reg.JRNL_CMD_STATUS]; omega)
  rw [State.cmdVerb, State.fld, kept _ (by decide) (by decide), args, State.cmdVerb, State.fld]

theorem State.writeJrnlCmd_go {s : State} {val : Word} (go : bit val 31 = true) (free : s.cmdBusy = false) :
    s.writeJrnlCmd val =
      (if field val 7 0 < 0x60 ∨ 0x68 < field val 7 0 then (s.cmdTaken val).publishCmd .badVerb []
      else if journalRight (s.cmdTaken val) (s.cmdVerb (field val 7 0)) = false then (s.cmdTaken val).publishCmd .noPermission []
      else if journalArgs (s.cmdTaken val) (s.cmdVerb (field val 7 0)) = false then (s.cmdTaken val).publishCmd .badArg []
      else if (s.cmdTaken val).jrnl.readonly then (s.cmdTaken val).publishCmd .nvReadonly []
      else (s.cmdTaken val).queueVerb (s.cmdVerb (field val 7 0)) .cmd) := by
  unfold State.writeJrnlCmd
  simp only [go, free, Bool.and_false, Bool.false_eq_true, if_false, Bool.not_true, Bool.not_eq_true']
  rfl

/-- Settles O42: the verbs by State.journalVerb_queued and _append, JRNL.CMD by State.writeJrnlCmd_go. -/
theorem journalVerbsAreQueued : Obligations.JournalVerbsAreQueued := by
  unfold Obligations.JournalVerbsAreQueued
  refine ⟨?verbs, ?steps, ?cmd⟩
  case verbs =>
    intro c ring s v code listed h ha
    have runs : exec c s = .next (s.journalVerb v) :=
      (exec_journalVerb listed s).trans (congrArg Host.Outcome.next (State.runJournal_admitted h ha))
    have own := admitted_code h
    refine ⟨fun shut => runs.trans (congrArg Host.Outcome.next (if_pos shut)),
      fun free other => runs.trans (congrArg Host.Outcome.next (State.journalVerb_queued own free other)), fun free append => ?_⟩
    subst append
    exact runs.trans (congrArg Host.Outcome.next (State.journalVerb_append own free))
  case steps =>
    rintro s i args owner c rfl
    exact ⟨rfl, rfl, s.verbStep_find i args owner, s.verbStep_delete i args owner⟩
  case cmd =>
    intro p s s1 s2 w v h hw go h2 hv
    have taken : s2 = s1.cmdTaken w.val := h2
    have asked : v = s1.cmdVerb (field w.val 7 0) := by rw [← s1.cmdVerb_cmdTaken w.val, ← taken]; exact hv
    rw [execJrnlCmdGo_fronted h hw go, ← fronted_cmdBusy h, taken, asked]
    refine ⟨fun busy => ?_, fun free => congrArg Host.Outcome.next (State.writeJrnlCmd_go go free)⟩
    rw [State.writeJrnlCmd, go, busy]
    rfl

end Sys2Proof.Machine
end

section
/-!
SUPPORT about INTAKE: what the operations on surfaces and on the receiver change (12).
-/

namespace Sys2Proof.Machine

/-! ### Surfaces -/

/-- Every word of a surface stands above the register pages. -/
theorem surfWord_ne_below {a : Nat} (h : a < 0x180000) (n w : Nat) : a ≠ surfWord n w := by
  simp only [surfWord, Reg.INTAKE_SURF_W0]
  omega

theorem raiseReg_surfWord (n w : Nat) : raiseReg (surfWord n w) = false := by
  have beyond : ¬surfWord n w < Reg.CUE_EV_PEND + 16 := by
    simp only [surfWord, Reg.INTAKE_SURF_W0, Reg.CUE_EV_PEND]
    omega
  rw [raiseReg, decide_eq_false beyond, Bool.and_false]

theorem surfWord_ne_word {v w : Nat} (h : v ≠ w) (hv : v < 8) (hw : w < 8) (n m : Nat) : surfWord n v ≠ surfWord m w := by
  simp only [surfWord, Reg.INTAKE_SURF_W0]
  omega

theorem State.showSurf_only (s : State) (n : Nat) : ∃ m, s.showSurf n = { s with regs := m } := by
  simp only [State.showSurf, State.setFlag, State.setFld, State.setReg]
  exact ⟨_, rfl⟩

theorem State.reg_showSurf (s : State) (n : Nat) {a : Nat} (h : a ≠ surfWord n 6) : (s.showSurf n).reg a = s.reg a := by
  simp only [State.showSurf, State.reg_setFlag_other _ _ _ _ _ h, State.reg_setFld_other _ _ _ _ _ _ h]

theorem State.flag_showSurf_err (s : State) (n : Nat) : (s.showSurf n).flag (surfWord n 6) 8 = s.flag (surfWord n 6) 8 := by
  simp only [State.showSurf]
  rw [State.flag_setFlag_other _ _ _ _ _ _ (by decide) (.inr (by decide)),
    State.flag_setFlag_other _ _ _ _ _ _ (by decide) (.inr (by decide)),
    State.flag_setFld_other _ _ _ _ _ _ _ (by decide) (by decide) (.inr (.inr (by decide))),
    State.flag_setFld_other _ _ _ _ _ _ _ (by decide) (by decide) (.inr (.inr (by decide))),
    State.flag_setFld_other _ _ _ _ _ _ _ (by decide) (by decide) (.inr (.inr (by decide)))]

theorem State.setSurf_only (s : State) (n : Nat) (x : SurfSt) : ∃ m, s.setSurf n x =
    { s with
      regs := m
      intake := { s.intake with surfs := Cells.put (fun _ => {}) s.intake.surfs n x } } :=
  State.showSurf_only _ n

theorem State.reg_setSurf (s : State) (n : Nat) (x : SurfSt) {a : Nat} (h : a ≠ surfWord n 6) :
    (s.setSurf n x).reg a = s.reg a := State.reg_showSurf _ n h

theorem State.surf_setSurf (s : State) (n m : Nat) (x : SurfSt) : (s.setSurf n x).surf m = if m = n then x else s.surf m := by
  obtain ⟨_, frame⟩ := s.setSurf_only n x
  rw [frame]
  exact Cells.get_put _ s.intake.surfs n m x

/-! ### What a surface shows while others' registers change -/

/-- Every descriptor word but word 6 reads as before. -/
def sameSurf (n : Nat) (s t : State) : Prop := ∀ w, w < 6 → t.reg (surfWord n w) = s.reg (surfWord n w)

theorem sameSurf.surfEn {s t : State} {n : Nat} (h : sameSurf n s t) : t.surfEn n = s.surfEn n := by
  rw [State.surfEn, State.flag, h 4 (by decide), State.surfEn, State.flag]

theorem sameSurf.surfW {s t : State} {n : Nat} (h : sameSurf n s t) : t.surfW n = s.surfW n := by
  unfold State.surfW State.fld
  rw [h _ (by decide)]

theorem sameSurf.surfH {s t : State} {n : Nat} (h : sameSurf n s t) : t.surfH n = s.surfH n := by
  unfold State.surfH State.fld
  rw [h _ (by decide)]

theorem sameSurf.surfFmt {s t : State} {n : Nat} (h : sameSurf n s t) : t.surfFmt n = s.surfFmt n := by
  unfold State.surfFmt State.fld
  rw [h _ (by decide)]

theorem sameSurf.flag {s t : State} {n : Nat} (h : sameSurf n s t) (b : Nat) :
    t.flag (surfWord n 4) b = s.flag (surfWord n 4) b := by
  rw [State.flag, h 4 (by decide), State.flag]

theorem sameSurf.surfBufs {s t : State} {n : Nat} (h : sameSurf n s t) : t.surfBufs n = s.surfBufs n := by
  unfold State.surfBufs
  rw [h.flag]

theorem sameSurf.bufBase {s t : State} {n : Nat} (h : sameSurf n s t) {b : Nat} (hb : b < 6) : t.bufBase n b = s.bufBase n b := by
  unfold State.bufBase State.fld
  rw [h _ hb]

theorem sameSurf_setSurf (s : State) (n m : Nat) (x : SurfSt) : sameSurf m s (s.setSurf n x) := fun _ hw =>
  s.reg_setSurf n x (surfWord_ne_word (by omega) (by omega) (by decide) m n)

/-! ### Openers are served (R288) -/

theorem State.serveOpens_cases (s : State) (n : Nat) (P : State → Prop) (stays : P s)
    (served : ∀ (b : Nat) (s1 : State), s1 = s ∨ s1 = s.openUpdate n b none →
      P (s1.completeAll (.surface n) .ok [word b, word (s1.bufBase n b)]) ∧
      P (({ s1.completeAll (.surface n) .ok [word b, word (s1.bufBase n b)] with
        intake := { s1.intake with openReg := none } } : State).intakeResult Reg.INTAKE_OPEN_RESULT .ok n b)) :
    P (s.serveOpens n) := by
  unfold State.serveOpens
  simp only
  split
  · exact stays
  · split
    · exact stays
    · rename_i b _
      have which : (if (s.surf n).openBuf.isSome then s else s.openUpdate n b none) = s ∨
          (if (s.surf n).openBuf.isSome then s else s.openUpdate n b none) = s.openUpdate n b none := by
        split
        · exact .inl rfl
        · exact .inr rfl
      generalize (if (s.surf n).openBuf.isSome then s else s.openUpdate n b none) = s1 at which ⊢
      have done := served b s1 which
      split
      · have intake : (s1.completeAll (.surface n) .ok [word b, word (s1.bufBase n b)]).intake = s1.intake :=
          (congrArg State.intake (s1.completeAll_only _ _ _)).trans rfl
        rw [State.setIntake, intake]
        exact done.2
      · exact done.1

theorem State.serveOpens_only (s : State) (n : Nat) : ∃ regs rings surfs opener,
    s.serveOpens n = { s with regs := regs, rings := rings, intake := { s.intake with surfs := surfs, openReg := opener } } := by
  refine s.serveOpens_cases n (fun t => ∃ regs rings surfs opener, t =
    { s with regs := regs, rings := rings, intake := { s.intake with surfs := surfs, openReg := opener } })
    ⟨_, _, _, _, rfl⟩ fun b s1 h => ?_
  have opened : ∃ regs surfs, s1 = { s with regs := regs, intake := { s.intake with surfs := surfs } } := by
    rcases h with same | opens
    · exact ⟨_, _, same⟩
    · obtain ⟨_, frame⟩ := s.setSurf_only n { s.surf n with openBuf := some b, openBy := none, written := none }
      exact ⟨_, _, opens.trans frame⟩
  obtain ⟨regs, surfs, frame⟩ := opened
  have done := s1.completeAll_only (.surface n) .ok [word b, word (s1.bufBase n b)]
  generalize (s1.completeAll (.surface n) .ok [word b, word (s1.bufBase n b)]).rings = rings at done
  rw [done, frame]
  exact ⟨⟨_, _, _, _, rfl⟩, ⟨_, _, _, _, rfl⟩⟩

theorem State.reg_serveOpens (s : State) (n : Nat) {a : Nat} (shown : a ≠ surfWord n 6) (result : a ≠ Reg.INTAKE_OPEN_RESULT) :
    (s.serveOpens n).reg a = s.reg a := by
  refine s.serveOpens_cases n (fun t => t.reg a = s.reg a) rfl fun b s1 h => ?_
  have opened : s1.reg a = s.reg a := by
    rcases h with same | opens
    · rw [same]
    · rw [opens]
      exact s.reg_setSurf n _ shown
  have done := s1.completeAll_only (.surface n) .ok [word b, word (s1.bufBase n b)]
  rw [done]
  exact ⟨opened, (State.reg_setReg_other _ _ _ _ result).trans opened⟩

theorem State.openBy_serveOpens (s : State) (n m : Nat) :
    ((s.serveOpens n).surf m).openBy = none ∨ ((s.serveOpens n).surf m).openBy = (s.surf m).openBy := by
  refine s.serveOpens_cases n (fun t => (t.surf m).openBy = none ∨ (t.surf m).openBy = (s.surf m).openBy) (.inr rfl) fun b s1 h => ?_
  have opened : (s1.surf m).openBy = none ∨ (s1.surf m).openBy = (s.surf m).openBy := by
    rcases h with same | opens
    · exact .inr (by rw [same])
    · rw [opens, State.openUpdate, State.surf_setSurf]
      split
      · exact .inl rfl
      · exact .inr rfl
  have done := s1.completeAll_only (.surface n) .ok [word b, word (s1.bufBase n b)]
  rw [done]
  exact ⟨opened, opened⟩

theorem State.serveOpens_stores (s : State) (n : Nat) : storesSame s (s.serveOpens n) := by
  obtain ⟨_, _, _, _, frame⟩ := s.serveOpens_only n
  rw [frame]
  exact ⟨rfl, rfl, rfl, rfl⟩

theorem State.closeUpdate_only (s : State) (n : Nat) : ∃ regs rings surfs opener,
    s.closeUpdate n = { s with regs := regs, rings := rings, intake := { s.intake with surfs := surfs, openReg := opener } } := by
  obtain ⟨m, closed⟩ := s.setSurf_only n { s.surf n with openBuf := none, openBy := none, written := none }
  obtain ⟨regs, rings, surfs, opener, frame⟩ :=
    (s.setSurf n { s.surf n with openBuf := none, openBy := none, written := none }).serveOpens_only n
  refine ⟨regs, rings, surfs, opener, frame.trans ?_⟩
  rw [closed]

/-! ### Packets (R274, R275) -/

theorem State.packet_shut {s : State} (h : s.dsiOn = false) (vc : BitVec 1) (f : State → State) : s.packet vc f = s := by
  simp [State.packet, h]

theorem State.packet_refused {s : State} {vc : BitVec 1} (h : s.dsiOn = true) (shut : channelOpen s vc = false) (f : State → State) :
    s.packet vc f = (received s).dsiFault 12 := by
  have parts : vc = 1#1 ∧ s.fflag Reg.INTAKE_DSI_CFG 3 = false := by
    have other : vc = 0#1 ∨ vc = 1#1 := by
      clear shut
      revert vc
      decide
    rcases other with zero | one <;> simp_all [channelOpen]
  have same : (received s).fflag Reg.INTAKE_DSI_CFG 3 = s.fflag Reg.INTAKE_DSI_CFG 3 := rfl
  have go : vc = 1#1 ∧ !((s.setFlag Reg.INTAKE_STATUS 0 true).setIntake { s.intake with readReq := none }).fflag Reg.INTAKE_DSI_CFG 3 :=
    ⟨parts.1, by rw [Bool.not_eq_true', ← parts.2]; rfl⟩
  simp only [State.packet, h, Bool.not_true, Bool.false_eq_true, if_false]
  exact if_pos go

theorem State.packet_open {s : State} {vc : BitVec 1} (h : channelOpen s vc = true) (f : State → State) :
    s.packet vc f = f (received s) := by
  obtain ⟨on, accepted⟩ : s.dsiOn = true ∧ (vc = 0#1 ∨ s.fflag Reg.INTAKE_DSI_CFG 3 = true) := by
    simpa [channelOpen] using h
  have stays : ¬(vc = 1#1 ∧ !((s.setFlag Reg.INTAKE_STATUS 0 true).setIntake { s.intake with readReq := none }).fflag
      Reg.INTAKE_DSI_CFG 3) := by
    rintro ⟨one, off⟩
    rcases accepted with zero | taken
    · rw [zero] at one
      exact absurd one (by decide)
    · rw [Bool.not_eq_true'] at off
      exact Bool.noConfusion (off.symm.trans taken)
  simp only [State.packet, on, Bool.not_true, Bool.false_eq_true, if_false]
  exact if_neg stays

theorem reg_received (s : State) {a : Nat} (h : a ≠ Reg.INTAKE_STATUS) : (received s).reg a = s.reg a :=
  State.reg_setFlag_other s _ _ _ _ h

theorem received_only (s : State) : received s =
    { s with regs := (received s).regs, intake := { s.intake with readReq := none } } := rfl

theorem sameSurf_received (s : State) (n : Nat) : sameSurf n s (received s) := fun w _ =>
  reg_received s (surfWord_ne_below (by decide) n w).symm

theorem execDsiPacketError_packet (x : BitVec 2) (fault : DsiFault) (s : State) : ∃ f, execDsiPacketError x fault s =
    .next (s.packet (if fault = .header ∨ 2 ≤ x.toNat then 0#1 else x.setWidth 1) f) := by
  unfold execDsiPacketError
  by_cases header : fault = .header
  · rw [if_pos header, if_pos (.inl header)]
    exact ⟨_, rfl⟩
  · by_cases above : 2 ≤ x.toNat
    · rw [if_neg header, if_pos above, if_pos (.inr above)]
      exact ⟨_, rfl⟩
    · rw [if_neg header, if_neg above, if_neg (not_or.2 ⟨header, above⟩)]
      exact ⟨_, rfl⟩

/-- A packet command hands its channel and its own effect to State.packet. -/
theorem exec_packet {c : Instr} {vc : BitVec 1} (h : packetChannel c = some vc) (s : State) :
    ∃ f, exec c s = .next (s.packet vc f) := by
  cases c <;> simp only [packetChannel, Option.some.injEq, reduceCtorEq] at h <;> subst h
  case dsiPacketError x fault => exact execDsiPacketError_packet x fault s
  all_goals exact ⟨_, rfl⟩

end Sys2Proof.Machine
end

section
/-!
PROOF of what DSI packets set (12: Tables 12-2 to 12-4, R273 to R277).
-/

namespace Sys2Proof.Machine

/-! ### Faults (R275) -/

theorem numWithBit_set (m i : Nat) : (numWithBit m i true).testBit i = true := by
  unfold numWithBit
  by_cases set : m.testBit i = true
  · rw [if_pos (by rw [set]; rfl), set]
  · have clear : m.testBit i = false := Bool.eq_false_iff.2 set
    rw [if_neg (by rw [clear]; decide), if_pos rfl, Nat.add_comm, Nat.testBit_two_pow_add_eq, clear]
    rfl

theorem withField_whole (w : Word) (v : Nat) : withField w 31 0 v = word v := by
  have all : BitVec.ofNat 32 ((2 ^ (31 + 1 - 0) - 1) <<< 0) = BitVec.allOnes 32 := by decide
  rw [withField, all, BitVec.not_allOnes, BitVec.and_zero, BitVec.zero_or, BitVec.and_allOnes, Nat.shiftLeft_zero, word]

theorem State.reg_bump_whole (s : State) (a : Nat) : (s.bump a 31 0).reg a = s.reg a + 1#32 := by
  have whole : s.fld a 31 0 = (s.reg a).toNat := Nat.mod_eq_of_lt (s.reg a).isLt
  rw [State.bump, State.setFld, State.reg_setReg_self, withField_whole, whole]
  apply BitVec.eq_of_toNat_eq
  rw [word, BitVec.toNat_ofNat, BitVec.toNat_add]
  rfl

/-- A fault noted, before its event. -/
def State.faultNoted (s : State) (b : Nat) : State :=
  let s1 := (s.setFlag Reg.INTAKE_DSI_ERR b true).bump Reg.INTAKE_DSI_ERR_COUNT 31 0
  { s1 with intake := { s1.intake with reportBits := numWithBit s1.intake.reportBits b true } }

theorem State.dsiFault_cases (s : State) (b : Nat) (P : State → Prop) (noted : P (s.faultNoted b))
    (raised : ∀ arg, P ((s.faultNoted b).raise 75 arg)) : P (s.dsiFault b) := by
  unfold State.dsiFault
  simp only
  split
  · exact raised _
  · exact noted

theorem State.reg_dsiFault (s : State) (b : Nat) {a : Nat} (h : raiseReg a = false) :
    (s.dsiFault b).reg a = (s.faultNoted b).reg a :=
  s.dsiFault_cases b (fun t => t.reg a = (s.faultNoted b).reg a) rfl fun arg => State.reg_raise _ 75 (by decide) arg a h

theorem State.dsiFault_intake (s : State) (b : Nat) :
    (s.dsiFault b).intake = { s.intake with reportBits := numWithBit s.intake.reportBits b true } :=
  s.dsiFault_cases b (fun t => t.intake = _) rfl fun arg => State.raise_intake _ 75 (by decide) arg

theorem State.dsiFault_stores (s : State) (b : Nat) : storesSame s (s.dsiFault b) :=
  s.dsiFault_cases b (fun t => storesSame s t) ⟨rfl, rfl, rfl, rfl⟩ fun arg => State.raise_stores _ (by decide) arg

theorem State.flag_faultNoted (s : State) (b i : Nat) :
    (s.faultNoted b).flag Reg.INTAKE_DSI_ERR i = (s.setFlag Reg.INTAKE_DSI_ERR b true).flag Reg.INTAKE_DSI_ERR i :=
  State.flag_setFld_other _ _ _ _ _ _ _ (by decide) (by decide) (.inl (by decide))

theorem State.packetDropped_fault (s : State) (vc b : Nat) :
    (vc ≠ 0 ∨ s.intake.video = none → s.packetDropped vc b = s.dsiFault b) ∧
    (∀ f : VideoFrame, vc = 0 → s.intake.video = some f → s.packetDropped vc b = (s.dsiFault b).videoDrop f.surf 2) := by
  have video : (s.dsiFault b).intake.video = s.intake.video := by rw [State.dsiFault_intake]
  refine ⟨fun h => ?_, fun f zero frame => ?_⟩
  · unfold State.packetDropped
    rcases h with other | none
    · simp only [if_neg other]
      split <;> rfl
    · simp only [video, none]
  · simp only [State.packetDropped, video, frame, if_pos zero]

/-! ### Part commands (R277) -/

theorem toNat_append_bytes (hi lo : Byte) : (hi ++ lo).toNat = lo.toNat + 256 * hi.toNat := by
  rw [BitVec.toNat_append, ← Nat.shiftLeft_add_eq_or_of_lt lo.isLt, Nat.shiftLeft_eq]
  omega

theorem partCmd_fence (lo hi : Byte) : partCmd [0xA2#8, lo, hi] = some (.fence (hi ++ lo).toNat) := by
  rw [toNat_append_bytes]
  rfl

theorem partCmd_hint (a b c d e f g h : Byte) : partCmd [0xA3#8, a, b, c, d, e, f, g, h] = some (.hint
    { x0 := (b ++ a).toNat, y0 := (d ++ c).toNat, x1 := (f ++ e).toNat, y1 := (h ++ g).toNat }) := by
  simp only [toNat_append_bytes]
  rfl

/-- PRESENT with a flag byte whose reserved bits are clear. -/
theorem partCmd_flags {flags : Byte} (clear : flags &&& 0xFC#8 = 0#8) (a b c d e f g h tl th : Byte) :
    partCmd [0xA1#8, flags, a, b, c, d, e, f, g, h, tl, th] = some (.present (flags.getLsbD 0) (flags.getLsbD 1)
      { x0 := (b ++ a).toNat, y0 := (d ++ c).toNat, x1 := (f ++ e).toNat, y1 := (h ++ g).toNat } (th ++ tl).toNat) := by
  simp only [toNat_append_bytes]
  exact if_pos clear

theorem partCmd_present (full auto : Bool) (a b c d e f g h tl th : Byte) :
    partCmd [0xA1#8, (if full then 1#8 else 0#8) + (if auto then 2#8 else 0#8), a, b, c, d, e, f, g, h, tl, th] =
      some (.present full auto
        { x0 := (b ++ a).toNat, y0 := (d ++ c).toNat, x1 := (f ++ e).toNat, y1 := (h ++ g).toNat } (th ++ tl).toNat) := by
  have flags : ∀ x y : Bool, ((if x then 1#8 else 0#8) + (if y then 2#8 else 0#8) : Byte) &&& 0xFC#8 = 0#8 ∧
      ((if x then 1#8 else 0#8) + (if y then 2#8 else 0#8) : Byte).getLsbD 0 = x ∧
      ((if x then 1#8 else 0#8) + (if y then 2#8 else 0#8) : Byte).getLsbD 1 = y := by decide
  obtain ⟨clear, whole, own⟩ := flags full auto
  rw [partCmd_flags clear, whole, own]

/-- A payload whose first byte and length stand not together in Table 12-4, or that sets a reserved bit, spells no command. -/
theorem partCmd_none {bs : List Byte} (h : (bs.getD 0 0#8, bs.length) ∉ [(0xA1#8, 12), (0xA2#8, 3), (0xA3#8, 9)] ∨
    (bs.getD 0 0#8 = 0xA1#8 ∧ bs.getD 1 0#8 &&& 0xFC#8 ≠ 0#8)) : partCmd bs = none := by
  have byte : ∀ {x : Byte} {n : Nat}, x.toNat = n → x = BitVec.ofNat 8 n := fun e => by rw [← e, BitVec.ofNat_toNat]; rfl
  unfold partCmd
  split
  case h_1 code length =>
    have first : bs.getD 0 0#8 = _ := byte code
    rcases h with unlisted | ⟨-, reserved⟩
    · exact absurd (by rw [first, length]; decide) unlisted
    · exact if_neg reserved
  case h_2 code length =>
    have first : bs.getD 0 0#8 = _ := byte code
    rcases h with unlisted | ⟨other, -⟩
    · exact absurd (by rw [first, length]; decide) unlisted
    · exact absurd (first.symm.trans other) (by decide)
  case h_3 code length =>
    have first : bs.getD 0 0#8 = _ := byte code
    rcases h with unlisted | ⟨other, -⟩
    · exact absurd (by rw [first, length]; decide) unlisted
    · exact absurd (first.symm.trans other) (by decide)
  case h_4 => rfl

theorem execGenericLongWrite_command {s : State} {vc : BitVec 1} (h : channelOpen s vc = true) {bs : List Byte} {c : PartCmd}
    (hc : partCmd bs = some c) : exec (.genericLongWrite vc bs) s = .next ((received s).partAct vc.toNat c) :=
  congrArg Host.Outcome.next ((State.packet_open h _).trans (by simp only [hc]))

/-- A fault of an accepted channel's packet whose header is good. -/
theorem execDsiPacketError_own {s : State} {vc : BitVec 1} (h : channelOpen s vc = true) {x : BitVec 2} (hx : x.toNat = vc.toNat)
    {f : DsiFault} (good : f ≠ .header) : exec (.dsiPacketError x f) s = .next ((received s).packetFault vc.toNat f) := by
  have low : ¬2 ≤ x.toNat := by
    rw [hx]
    exact Nat.not_le.2 vc.isLt
  have own : x.setWidth 1 = vc := by
    apply BitVec.eq_of_toNat_eq
    rw [BitVec.toNat_setWidth, hx]
    exact Nat.mod_eq_of_lt vc.isLt
  have taken := State.packet_open h (fun s => s.packetFault x.toNat f)
  rw [hx] at taken
  refine congrArg Host.Outcome.next ((if_neg good).trans ((if_neg low).trans ?_))
  rw [own, hx]
  exact taken

/-! ### soft_reset (Table 12-3) -/

/-- soft_reset's own work on the channel and its surface, before STATUS. -/
def State.channelReset (s : State) (vc : BitVec 1) : State :=
  let s1 := s.setChan vc.toNat {}
  if (s1.surf (s.chanSurf vc.toNat)).openBy = some vc.toNat then
    (s1.setIntake { s1.intake with video := if vc = 0#1 then none else s1.intake.video }).closeUpdate (s.chanSurf vc.toNat)
  else s1

theorem State.channelReset_cases (s : State) (vc : BitVec 1) :
    (s.channelReset vc).chan vc.toNat = {} ∧ storesSame s (s.channelReset vc) ∧
      ((s.channelReset vc).surf (s.chanSurf vc.toNat)).openBy ≠ some vc.toNat := by
  have fresh : (s.setChan vc.toNat {}).chan vc.toNat = {} := Cells.get_put_self _ s.intake.chans vc.toNat {}
  unfold State.channelReset
  simp only
  split
  · refine ⟨?_, ?_, ?_⟩
    · obtain ⟨_, _, _, _, frame⟩ := State.closeUpdate_only ((s.setChan vc.toNat {}).setIntake { (s.setChan vc.toNat {}).intake with
        video := if vc = 0#1 then none else (s.setChan vc.toNat {}).intake.video }) (s.chanSurf vc.toNat)
      rw [frame]
      exact fresh
    · obtain ⟨_, _, _, _, frame⟩ := State.closeUpdate_only ((s.setChan vc.toNat {}).setIntake { (s.setChan vc.toNat {}).intake with
        video := if vc = 0#1 then none else (s.setChan vc.toNat {}).intake.video }) (s.chanSurf vc.toNat)
      rw [frame]
      exact ⟨rfl, rfl, rfl, rfl⟩
    · rw [State.closeUpdate]
      rcases State.openBy_serveOpens _ (s.chanSurf vc.toNat) (s.chanSurf vc.toNat) with none | kept
      · rw [none]
        exact (Option.some_ne_none _).symm
      · rw [kept, State.surf_setSurf, if_pos rfl]
        exact (Option.some_ne_none _).symm
  · rename_i other
    exact ⟨fresh, ⟨rfl, rfl, rfl, rfl⟩, other⟩

/-- soft_reset as a whole. -/
def State.softReset (s : State) (vc : BitVec 1) : State :=
  let t := ((s.channelReset vc).setFld Reg.INTAKE_STATUS 4 3 0).setFlag Reg.INTAKE_STATUS 2 true
  State.raise { t with intake := { t.intake with maxReturn := 1 } } 77 (word (0x01 + 256 * vc.toNat))

theorem State.flag_softReset (s : State) (vc : BitVec 1) (n : Nat) : (s.softReset vc).flag Reg.INTAKE_STATUS n =
    (((s.channelReset vc).setFld Reg.INTAKE_STATUS 4 3 0).setFlag Reg.INTAKE_STATUS 2 true).flag Reg.INTAKE_STATUS n :=
  State.flag_raise _ 77 (by decide) _ _ n (by decide)

theorem State.softReset_clears (s : State) (vc : BitVec 1) {n : Nat} (low : 3 ≤ n) (high : n ≤ 4) :
    (s.softReset vc).flag Reg.INTAKE_STATUS n = false := by
  rw [State.flag_softReset, State.flag_setFlag_other _ _ _ _ _ _ (by decide) (.inr (by omega)), State.flag, State.setFld,
    State.reg_setReg_self, bit_withField_inside _ _ _ _ _ (by decide) (by decide) low high, Nat.zero_testBit]

/-! ### The obligation -/

/-- Settles O43: a packet by State.packet_open and State.packet_refused, faults by State.dsiFault_cases, part commands by what
partCmd reads in them. -/
theorem packetsSetTheReceiver : Obligations.PacketsSetTheReceiver := by
  unfold Obligations.PacketsSetTheReceiver
  refine ⟨?arrives, ?plain, ?fault, ?first, fun s vc b => s.packetDropped_fault vc b, ?packets, fun _ _ _ _ _ _ => rfl, ?reset⟩
  case arrives =>
    intro c vc s h
    obtain ⟨f, runs⟩ := exec_packet h s
    exact ⟨fun shut => runs.trans (congrArg Host.Outcome.next (State.packet_shut shut vc f)),
      fun on shut => runs.trans (congrArg Host.Outcome.next (State.packet_refused on shut f))⟩
  case plain =>
    intro c vc s h taken listed
    simp only [List.mem_cons, List.not_mem_nil, or_false] at listed
    rcases listed with rfl | rfl | rfl | rfl | rfl | rfl | rfl | rfl | rfl
    case inl =>
      have zero : vc = 0#1 := (Option.some.inj h).symm
      exact congrArg Host.Outcome.next (State.packet_open (zero ▸ taken) _)
    all_goals exact congrArg Host.Outcome.next (State.packet_open taken _)
  case fault =>
    intro s b hb
    refine ⟨?_, ?_, ?_, s.dsiFault_stores b, fun i _ other => ?_⟩
    · rw [State.flag, s.reg_dsiFault b (by decide), ← State.flag, State.flag_faultNoted, State.flag_setFlag _ _ _ _ (by omega)]
    · rw [s.reg_dsiFault b (by decide)]
      exact (State.reg_bump_whole _ _).trans (congrArg (· + 1#32) (State.reg_setFlag_other _ _ _ _ _ (by decide)))
    · rw [State.dsiFault_intake]
      exact numWithBit_set _ _
    · rw [State.flag, s.reg_dsiFault b (by decide), ← State.flag, State.flag_faultNoted,
        State.flag_setFlag_other _ _ _ _ _ _ (by omega) (.inr other)]
  case first =>
    rintro s u h rfl
    refine ⟨congrArg Host.Outcome.next (State.packet_open h _), fun vc => ?_, fun vc f above other => ?_⟩
    · exact congrArg Host.Outcome.next ((if_pos rfl).trans (State.packet_open h _))
    · exact congrArg Host.Outcome.next ((if_neg other).trans ((if_pos above).trans (State.packet_open h _)))
  case packets =>
    rintro s u vc n h rfl rfl
    have takes : ∀ f, Host.Outcome.next (s.packet vc f) = (.next (f (received s)) : Host.Outcome State Fault Refusal) := fun f =>
      congrArg Host.Outcome.next (State.packet_open h f)
    refine ⟨fun lo hi => takes _, fun bs other => ?_, fun size => takes _, fun x hx => ?_, fun bs none => ?_, fun lo hi => ?_,
      fun a b c d e f g h' => ?_, fun full auto a b c d e f g h' tl th => ?_, fun code => ?_, takes _, takes _, takes _, takes _,
      takes _, takes _, takes _, ⟨_, takes _, ?_, rfl, fun a ha => ?_⟩, takes _, fun code => takes _, fun tag => takes _⟩
    · refine (takes _).trans (congrArg Host.Outcome.next ?_)
      split
      · exact absurd rfl other
      · rfl
    · have own := fun f => execDsiPacketError_own (f := f) h hx
      refine ⟨own _ (by decide), own _ (by decide), own _ (by decide), fun code => (own _ DsiFault.noConfusion).trans ?_,
        own _ (by decide)⟩
      simp only [State.packetFault, List.contains_iff_mem]
    · exact (takes _).trans (by simp only [partCmd_none none])
    · exact (execGenericLongWrite_command h (partCmd_fence lo hi)).trans
        (takes fun s => s.partAct vc.toNat (.fence _)).symm
    · exact (execGenericLongWrite_command h (partCmd_hint a b c d e f g h')).trans
        (takes fun s => s.partAct vc.toNat (.hint _)).symm
    · exact (execGenericLongWrite_command h (partCmd_present full auto a b c d e f g h' tl th)).trans
        (takes fun s => s.partAct vc.toNat (.present full auto _ _)).symm
    · exact (takes _).trans (by simp)
    · exact State.flag_setFlag _ _ _ _ (by decide)
    · exact (State.reg_setFlag_other _ _ _ _ _ ha).trans (reg_received s ha)
  case reset =>
    intro vc s h
    have runs : exec (.softReset vc) s = .next ((received s).softReset vc) :=
      congrArg Host.Outcome.next (State.packet_open h _)
    obtain ⟨fresh, stores, closed⟩ := (received s).channelReset_cases vc
    refine ⟨_, runs, ?_, State.softReset_clears _ vc (by decide) (by decide), State.softReset_clears _ vc (by decide) (by decide),
      ?_, ?_, ?_, ?_⟩
    · rw [State.flag_softReset, State.flag_setFlag _ _ _ _ (by decide)]
    · exact congrArg (fun i : Intake => i.maxReturn) (State.raise_intake _ 77 (by decide) _)
    · rw [State.softReset, State.chan, State.raise_intake _ 77 (by decide)]
      exact fresh
    · rw [State.softReset, State.surf, State.raise_intake _ 77 (by decide)]
      exact closed
    · obtain ⟨hall, banks, flash, fuses⟩ := State.raise_stores { ((((received s).channelReset vc).setFld Reg.INTAKE_STATUS 4 3
        0).setFlag Reg.INTAKE_STATUS 2 true) with intake := { ((((received s).channelReset vc).setFld Reg.INTAKE_STATUS 4 3
        0).setFlag Reg.INTAKE_STATUS 2 true).intake with maxReturn := 1 } } (e := 77) (by decide) (word (0x01 + 256 * vc.toNat))
      exact storesSame.trans stores ⟨hall, banks, flash, fuses⟩

end Sys2Proof.Machine
end

section
/-!
PROOF of the way of pixels into their buffer (12: R279 to R283, R290).
-/

namespace Sys2Proof.Machine

/-! ### Pixels stored -/

theorem State.reg_touchHall (s : State) (lo len : Nat) {a : Nat} (h : raiseReg a = false) : (s.touchHall lo len).reg a = s.reg a :=
  List.foldlRecOn _ _ (motive := fun t : State => t.reg a = s.reg a) rfl fun t ih g _ => by
    simp only
    split
    · exact (State.reg_raise t 14 (by decide) _ a h).trans ih
    · exact ih

theorem State.reg_putPixel (s : State) (n b x y : Nat) (bs : List Byte) {a : Nat} (h : raiseReg a = false) :
    (s.putPixel n b x y bs).reg a = s.reg a := by
  unfold State.putPixel
  split
  · obtain ⟨_, frame⟩ := State.putHallBytes_frame bs (s.touchHall (s.bufBase n b + y * s.stride0 n + x * pixelBytes (s.surfFmt n))
      bs.length) (s.bufBase n b + y * s.stride0 n + x * pixelBytes (s.surfFmt n))
    simp only [frame]
    exact s.reg_touchHall _ _ h
  · rfl

/-- A line's pixels carry the alpha of the surface as it stood before the line. -/
theorem State.linePixels_alpha (n b px line fmt : Nat) (alpha : Bool) (l : List (Rgb × Nat)) (s : State)
    (h : s.flag (surfWord n 4) 28 = alpha) :
    l.foldl (fun (s : State) (e : Rgb × Nat) =>
      s.putPixel n b (px + e.2) line (storedPixel fmt (s.flag (surfWord n 4) 28) e.1)) s =
    l.foldl (fun (s : State) (e : Rgb × Nat) => s.putPixel n b (px + e.2) line (storedPixel fmt alpha e.1)) s := by
  induction l generalizing s with
  | nil => rw [List.foldl_nil, List.foldl_nil]
  | cons e l ih =>
    have kept : ∀ bs, (s.putPixel n b (px + e.2) line bs).flag (surfWord n 4) 28 = alpha := fun bs => by
      rw [State.flag, s.reg_putPixel n b _ line bs (raiseReg_surfWord n 4), ← State.flag, h]
    rw [List.foldl_cons, List.foldl_cons, h]
    exact ih _ (kept _)

/-! ### Video mode (R279, R281) -/

theorem State.inputDrop_intake (s : State) (n reason : Nat) : (s.inputDrop n reason).intake = s.intake :=
  State.raise_intake s 79 (by decide) _

theorem State.videoDrop_video (s : State) (n reason : Nat) : (s.videoDrop n reason).intake.video = none := by
  unfold State.videoDrop
  simp only [State.inputDrop_intake]
  split
  all_goals
    obtain ⟨_, _, _, _, frame⟩ := (s.setIntake { s.intake with video := none }).closeUpdate_only n
    split
    · rw [frame]
      rfl
    · rfl

theorem State.videoStart_unfinished {s : State} {f : VideoFrame} (h : s.intake.video = some f) :
    s.videoStart = (s.videoDrop f.surf 3).videoStart := by
  conv => rhs; unfold State.videoStart
  unfold State.videoStart
  simp only [h, State.videoDrop_video]

section
variable {s : State} {n : Nat}

theorem State.videoStart_bad (idle : s.intake.video = none) (own : n = s.chanSurf 0)
    (bad : s.surfEn n = false ∨ s.flag (surfWord n 4) 30 = false ∨ 3 ≤ s.surfFmt n) : s.videoStart = s.videoDrop n 4 := by
  have fails : (!s.surfEn n || !s.flag (surfWord n 4) 30 || decide (3 ≤ s.surfFmt n)) = true := by
    rcases bad with off | single | planar
    · simp [off]
    · simp [single]
    · simp [planar]
  unfold State.videoStart
  simp only [idle, ← own, fails, if_true]

variable (idle : s.intake.video = none) (own : n = s.chanSurf 0) (on : s.surfEn n = true)
  (three : s.flag (surfWord n 4) 30 = true) (packed : s.surfFmt n < 3)
include idle own on three packed

theorem State.videoStart_open {b : Nat} (h : (s.surf n).openBuf = some b) :
    s.videoStart = { s with intake := { s.intake with video := some { surf := n, buf := b } } } := by
  have passes : (!s.surfEn n || !s.flag (surfWord n 4) 30 || decide (3 ≤ s.surfFmt n)) = false := by simp [on, three, packed]
  unfold State.videoStart
  simp only [idle, ← own, passes, Bool.false_eq_true, if_false, h, State.setIntake]

theorem State.videoStart_opens {b : Nat} (shut : (s.surf n).openBuf = none) (h : s.openable n = some b) :
    s.videoStart = { s.openUpdate n b (some 0) with
      intake := { (s.openUpdate n b (some 0)).intake with video := some { surf := n, buf := b } } } := by
  have passes : (!s.surfEn n || !s.flag (surfWord n 4) 30 || decide (3 ≤ s.surfFmt n)) = false := by simp [on, three, packed]
  unfold State.videoStart
  simp only [idle, ← own, passes, Bool.false_eq_true, if_false, shut, h, State.setIntake]

theorem State.videoStart_full (shut : (s.surf n).openBuf = none) (h : s.openable n = none) : s.videoStart = s.videoDrop n 5 := by
  have passes : (!s.surfEn n || !s.flag (surfWord n 4) 30 || decide (3 ≤ s.surfFmt n)) = false := by simp [on, three, packed]
  unfold State.videoStart
  simp only [idle, ← own, passes, Bool.false_eq_true, if_false, shut, h]

end

/-! ### A packet's state reads as the state before it -/

theorem openable_received (s : State) (n : Nat) : (received s).openable n = s.openable n := by
  have bufs := (sameSurf_received s n).surfBufs
  unfold State.openable
  rw [bufs]
  rfl

theorem State.window_same {s t : State} {vc : Nat} (chan : t.chan vc = s.chan vc) (own : t.chanSurf vc = s.chanSurf vc)
    (same : sameSurf (s.chanSurf vc) s t) : t.window vc = s.window vc := by
  unfold State.window
  simp only [chan, own, same.surfW, same.surfH]

theorem State.chan_openUpdate (s : State) (n b : Nat) (opener : Option Nat) (vc : Nat) :
    (s.openUpdate n b opener).chan vc = s.chan vc := by
  obtain ⟨_, frame⟩ := s.setSurf_only n { s.surf n with openBuf := some b, openBy := opener, written := none }
  rw [State.openUpdate, frame]
  rfl

theorem State.chanSurf_openUpdate (s : State) (n b : Nat) (opener : Option Nat) (vc : Nat) :
    (s.openUpdate n b opener).chanSurf vc = s.chanSurf vc := by
  obtain ⟨_, frame⟩ := s.setSurf_only n { s.surf n with openBuf := some b, openBy := opener, written := none }
  rw [State.openUpdate, frame]
  rfl

/-! ### Command mode (R282, R283) -/

/-- A write into the open buffer b of surface n, from the channel's position on. -/
def State.writeInto (s : State) (vc n b : Nat) (w : Rect) (data : List Byte) : State :=
  let t := (s.setSurf n { s.surf n with written := hullOf (s.surf n).written (some w) }).writePixels vc n b w
    (pieces (pixelBytes (s.surfFmt n)) data.length data)
  if data.length % pixelBytes (s.surfFmt n) = 0 then t else t.dsiFault 13

/-- The channel's position set to the start of its window. -/
def State.toStart (s : State) (vc : Nat) (w : Rect) : State := s.setChan vc { s.chan vc with x := w.x0, y := w.y0 }

section
variable {s : State} {vc n : Nat} (own : n = s.chanSurf vc) (command : ¬(vc = 0 ∧ s.video = true))
  (takes : (s.chan vc).dropping = false)
include own command takes

theorem State.writeMemory_bad (bad : s.surfEn n = false ∨ 3 ≤ s.surfFmt n) (start : Bool) (data : List Byte) :
    s.writeMemory vc start data = (s.setChan vc { s.chan vc with dropping := true }).inputDrop n 4 := by
  have fails : (!s.surfEn n || decide (3 ≤ s.surfFmt n)) = true := by
    rcases bad with off | planar
    · simp [off]
    · simp [planar]
  unfold State.writeMemory
  simp only [← own, command, takes, fails, Bool.false_eq_true, or_self, if_false, if_true]

variable (on : s.surfEn n = true) (packed : s.surfFmt n < 3)
include on packed

theorem State.writeMemory_full (shut : (s.surf n).openBuf = none) (full : s.openable n = none) (start : Bool) (data : List Byte) :
    s.writeMemory vc start data = (s.setChan vc { s.chan vc with dropping := true }).inputDrop n 5 := by
  have passes : (!s.surfEn n || decide (3 ≤ s.surfFmt n)) = false := by simp [on, packed]
  unfold State.writeMemory
  simp only [← own, command, takes, passes, Bool.false_eq_true, or_self, if_false, shut, full, Option.orElse_none]

theorem State.writeMemory_into {b : Nat} {t : State} (opened : (s.surf n).openBuf = some b ∧ t = s ∨
    (s.surf n).openBuf = none ∧ s.openable n = some b ∧ t = s.openUpdate n b (some vc)) (start : Bool) (data : List Byte) :
    s.writeMemory vc start data =
      (if start then t.toStart vc (t.window vc) else t).writeInto vc n b (t.window vc) data := by
  have passes : (!s.surfEn n || decide (3 ≤ s.surfFmt n)) = false := by simp [on, packed]
  unfold State.writeMemory State.writeInto State.toStart
  rcases opened with ⟨buf, same⟩ | ⟨shut, buf, same⟩
  · subst same
    simp only [← own, command, takes, passes, Bool.false_eq_true, or_self, if_false, buf, Option.orElse_some, Option.isSome_some,
      if_true]
  · rw [same]
    simp only [← own, command, takes, passes, Bool.false_eq_true, or_self, if_false, shut, buf, Option.orElse_none,
      Option.isSome_none]

end

/-- A state opened for channel vc on surface n: the receiver's state, with an update opened where none was. -/
theorem opened_same {s t : State} {vc n b : Nat} (h : (s.surf n).openBuf = some b ∧ t = received s ∨
    (s.surf n).openBuf = none ∧ s.openable n = some b ∧ t = (received s).openUpdate n b (some vc)) :
    t.chan vc = s.chan vc ∧ t.chanSurf vc = s.chanSurf vc ∧ sameSurf n s t := by
  rcases h with ⟨-, rfl⟩ | ⟨-, -, rfl⟩
  · exact ⟨rfl, rfl, sameSurf_received s n⟩
  · refine ⟨State.chan_openUpdate _ _ _ _ _, State.chanSurf_openUpdate _ _ _ _ _, fun w hw => ?_⟩
    rw [State.openUpdate, sameSurf_setSurf _ _ _ _ w hw]
    exact sameSurf_received s n w hw

theorem State.writeInto_format {s : State} {vc n b : Nat} {w : Rect} {data : List Byte} {k : Nat}
    (hk : k = pixelBytes (s.surfFmt n)) {t : State} (ht : t = (s.setSurf n { s.surf n with
      written := hullOf (s.surf n).written (some w) }).writePixels vc n b w (pieces k data.length data)) :
    s.writeInto vc n b w data = if data.length % k = 0 then t else t.dsiFault 13 := by
  rw [ht, hk]
  rfl

/-! ### Part command PRESENT (R277, R290) -/

section
variable {s : State} {vc n : Nat} (own : n = s.chanSurf vc)
include own

theorem State.partPresent_good {full auto : Bool} {given : Rect} (on : s.surfEn n = true) (update : (s.surf n).openBuf.isSome = true)
    (good : full = true ∨ auto = true ∨ (given.x0 ≤ given.x1 ∧ given.y0 ≤ given.y1)) (tag : Nat) :
    s.partPresent vc full auto given tag = (s.setChan vc { s.chan vc with dropping := false }).presentOn n full
      (if auto then (s.surf n).written.getD given else given) { buf := 0, rect := none, source := .dsi, tag := tag } := by
  have on' : (s.setChan vc { s.chan vc with dropping := false }).surfEn n = true := on
  have update' : ((s.setChan vc { s.chan vc with dropping := false }).surf n).openBuf.isNone = false := by
    rw [← Option.not_isSome, Bool.not_eq_false']
    exact update
  have passes : (!full && !auto && (decide (given.x1 < given.x0) || decide (given.y1 < given.y0))) = false := by
    rcases good with whole | itself | ⟨hx, hy⟩
    · simp [whole]
    · simp [itself]
    · simp [Nat.not_lt.2 hx, Nat.not_lt.2 hy]
  unfold State.partPresent
  simp only [← own, on', update', passes, Bool.not_true, Bool.or_self, Bool.false_eq_true, if_false]
  rfl

theorem State.partPresent_bad {full auto : Bool} {given : Rect} (bad : s.surfEn n = false ∨ (s.surf n).openBuf = none ∨
    (full = false ∧ auto = false ∧ (given.x1 < given.x0 ∨ given.y1 < given.y0))) (tag : Nat) :
    s.partPresent vc full auto given tag = (s.setChan vc { s.chan vc with dropping := false }).dsiFault 13 := by
  unfold State.partPresent
  simp only [← own]
  refine if_pos ?_
  rcases bad with off | shut | ⟨part, manual, empty⟩
  · have off' : (s.setChan vc { s.chan vc with dropping := false }).surfEn n = false := off
    simp [off']
  · have shut' : ((s.setChan vc { s.chan vc with dropping := false }).surf n).openBuf = none := shut
    simp [shut']
  · simp [part, manual, empty]

end

/-! ### A line of video (R279) -/

/-- The pixels of a stream stored on line f.line of f's buffer from f.px on. -/
def State.lineStored (s : State) (f : VideoFrame) (fmt : PixelStream) (alpha : Bool) (pixels : List Rgb) : State :=
  pixels.zipIdx.foldl (fun (x : State) (e : Rgb × Nat) => x.putPixel f.surf f.buf (f.px + e.2) f.line
    (storedPixel (streamFormat fmt) alpha e.1)) s

section
variable {s : State} {f : VideoFrame} {fmt : PixelStream} {pixels : List Rgb} (buf : (s.surf f.surf).openBuf = some f.buf)
  (format : streamFormat fmt = s.surfFmt f.surf) (fresh : f.full = false) (fits : f.px + pixels.length ≤ s.surfW f.surf)
include buf format fresh fits

theorem State.videoPixels_stored : s.videoPixels f fmt pixels =
    (let t := s.lineStored f fmt (s.flag (surfWord f.surf 4) 28) pixels
    if f.px + pixels.length < s.surfW f.surf then
      { t with intake := { t.intake with video := some { f with px := f.px + pixels.length } } }
    else if f.line + 1 < s.surfH f.surf then
      { t with intake := { t.intake with video := some { f with line := f.line + 1, px := 0, full := true } } }
    else
      State.presentOn { t with intake := { t.intake with video := none } } f.surf true (wholeRect 1 1)
        { buf := 0, rect := none, source := .video }) := by
  have held : ¬((s.surf f.surf).openBuf ≠ some f.buf) := not_not_intro buf
  have takes : ¬(streamFormat fmt ≠ s.surfFmt f.surf ∨ f.full = true ∨ s.surfW f.surf < f.px + pixels.length) := by
    rintro (other | full | beyond)
    · exact other format
    · rw [fresh] at full
      exact absurd full (by decide)
    · omega
  unfold State.videoPixels State.lineStored
  simp only [if_neg held, if_neg takes, State.setIntake]
  rw [State.linePixels_alpha f.surf f.buf f.px f.line (streamFormat fmt) _ pixels.zipIdx s rfl]

end

/-! ### The obligation, part by part -/

theorem vSyncStart_begins {s u : State} {n : Nat} (h : channelOpen s 0#1 = true) (hu : u = received s) (own : n = s.chanSurf 0)
    (mode : s.video = true) (idle : s.intake.video = none) :
    (s.surfEn n = true → s.flag (surfWord n 4) 30 = true → s.surfFmt n < 3 →
      (∀ b, (s.surf n).openBuf = some b →
        exec .vSyncStart s = .next { u with intake := { u.intake with video := some { surf := n, buf := b } } }) ∧
      (∀ b, (s.surf n).openBuf = none → s.openable n = some b → ∀ u2 : State, u2 = u.openUpdate n b (some 0) →
        exec .vSyncStart s = .next { u2 with intake := { u2.intake with video := some { surf := n, buf := b } } }) ∧
      ((s.surf n).openBuf = none → s.openable n = none → exec .vSyncStart s = .next (u.videoDrop n 5))) ∧
    (s.surfEn n = false ∨ s.flag (surfWord n 4) 30 = false ∨ 3 ≤ s.surfFmt n →
      exec .vSyncStart s = .next (u.videoDrop n 4)) := by
  have runs : exec .vSyncStart s = .next u.videoStart :=
    congrArg Host.Outcome.next ((State.packet_open h _).trans (by rw [← hu]; exact if_pos (by rw [hu]; exact mode)))
  have same : sameSurf n s u := hu ▸ sameSurf_received s n
  have idle' : u.intake.video = none := by rw [hu]; exact idle
  have own' : n = u.chanSurf 0 := by rw [hu]; exact own
  have surf : u.surf n = s.surf n := by rw [hu]; rfl
  have free : u.openable n = s.openable n := by rw [hu]; exact openable_received s n
  rw [runs, ← surf, ← free, ← same.surfEn, ← same.surfFmt, ← same.flag 30]
  exact ⟨fun on three packed => ⟨fun b buf => congrArg Host.Outcome.next (State.videoStart_open idle' own' on three packed buf),
    fun b shut found u2 hu2 => by rw [hu2, State.videoStart_opens idle' own' on three packed shut found],
    fun shut full => congrArg Host.Outcome.next (State.videoStart_full idle' own' on three packed shut full)⟩,
    fun bad => congrArg Host.Outcome.next (State.videoStart_bad idle' own' bad)⟩

theorem packedPixelStream_stores {s u u2 : State} {f : VideoFrame} {fmt : PixelStream} {pixels : List Rgb} {n : Nat}
    (h : channelOpen s 0#1 = true) (hu : u = received s) (frame : s.intake.video = some f) (hn : n = f.surf)
    (buf : (s.surf n).openBuf = some f.buf) (format : streamFormat fmt = s.surfFmt n) (fresh : f.full = false)
    (fits : f.px + pixels.length ≤ s.surfW n)
    (hu2 : u2 = pixels.zipIdx.foldl (fun x e => x.putPixel n f.buf (f.px + e.2) f.line
      (storedPixel (streamFormat fmt) (s.flag (surfWord n 4) 28) e.1)) u) :
    exec (.packedPixelStream fmt pixels) s = .next (
      if f.px + pixels.length < s.surfW n then
        { u2 with intake := { u2.intake with video := some { f with px := f.px + pixels.length } } }
      else if f.line + 1 < s.surfH n then
        { u2 with intake := { u2.intake with video := some { f with line := f.line + 1, px := 0, full := true } } }
      else
        State.presentOn { u2 with intake := { u2.intake with video := none } } n true (wholeRect 1 1)
          { buf := 0, rect := none, source := .video }) := by
  subst hn
  have same : sameSurf f.surf s u := hu ▸ sameSurf_received s f.surf
  have video : u.intake.video = some f := by rw [hu]; exact frame
  have runs : exec (.packedPixelStream fmt pixels) s = .next (u.videoPixels f fmt pixels) :=
    congrArg Host.Outcome.next ((State.packet_open h _).trans (by rw [← hu]; simp only [video]))
  have surf : u.surf f.surf = s.surf f.surf := by rw [hu]; rfl
  rw [← surf] at buf
  rw [← same.surfFmt] at format
  rw [← same.surfW] at fits
  have stored : u2 = u.lineStored f fmt (u.flag (surfWord f.surf 4) 28) pixels := by rw [hu2, same.flag, State.lineStored]
  rw [runs, State.videoPixels_stored buf format fresh fits, ← stored, same.surfW, same.surfH]

/-! ### The obligation -/

/-- Settles O44: video mode by the cases of State.videoStart, command mode by those of State.writeMemory. -/
theorem pixelsReachTheirBuffer : Obligations.PixelsReachTheirBuffer := by
  unfold Obligations.PixelsReachTheirBuffer
  refine ⟨fun s u n h hu own mode idle => vSyncStart_begins h hu own mode idle, ?idle, ?line, ?pixel, ?command⟩
  case idle =>
    rintro s u h rfl
    refine ⟨fun off => ?_, fun f mode frame => ?_, fun idle => ⟨?_, fun fmt pixels => ?_⟩⟩
    · exact congrArg Host.Outcome.next ((State.packet_open h _).trans (if_neg (Bool.eq_false_iff.1 off)))
    · have restarts := State.videoStart_unfinished (s := received s) frame
      exact congrArg Host.Outcome.next ((State.packet_open h _).trans ((if_pos mode).trans restarts))
    · have video : (received s).intake.video = none := idle
      exact congrArg Host.Outcome.next ((State.packet_open h _).trans (by simp only [video]))
    · have video : (received s).intake.video = none := idle
      exact congrArg Host.Outcome.next ((State.packet_open h _).trans (by simp only [video]))
  case line =>
    intro s u f h hu frame
    have video : u.intake.video = some f := by rw [hu]; exact frame
    refine ⟨fun full => ?_, fun fresh begun => ?_, fun fresh start => ?_, fun fmt pixels u2 n hn buf format fresh fits hu2 => ?_⟩
    · exact congrArg Host.Outcome.next ((State.packet_open h _).trans (by rw [← hu]; simp only [video, full, if_true, State.setIntake]))
    · exact congrArg Host.Outcome.next ((State.packet_open h _).trans
        (by rw [← hu]; simp only [video, fresh, begun, Bool.false_eq_true, if_false, if_true]))
    · exact congrArg Host.Outcome.next ((State.packet_open h _).trans
        (by rw [← hu]; simp only [video, fresh, start, Nat.lt_irrefl, Bool.false_eq_true, if_false]))
    · rw [packedPixelStream_stores h hu frame hn buf format fresh fits hu2]
      exact ⟨fun part => congrArg Host.Outcome.next (if_pos part),
        fun whole more => congrArg Host.Outcome.next ((if_neg (Nat.not_lt.2 (Nat.le_of_eq whole.symm))).trans (if_pos more)),
        fun whole last => congrArg Host.Outcome.next
          ((if_neg (Nat.not_lt.2 (Nat.le_of_eq whole.symm))).trans (if_neg (Nat.not_lt.2 last)))⟩
  case pixel =>
    rintro s n b x y a bs rfl
    exact ⟨fun outside => if_neg (by omega), fun inW inH => if_pos ⟨inW, inH⟩⟩
  case command =>
    intro s u vc n h hu own
    have takes : ∀ f, Host.Outcome.next (s.packet vc f) = (.next (f u) : Host.Outcome State Fault Refusal) := fun f =>
      congrArg Host.Outcome.next ((State.packet_open h f).trans (by rw [hu]))
    have same : sameSurf n s u := hu ▸ sameSurf_received s n
    have own' : n = u.chanSurf vc.toNat := by rw [hu]; exact own
    have chan : u.chan vc.toNat = s.chan vc.toNat := by rw [hu]; rfl
    have surf : u.surf n = s.surf n := by rw [hu]; rfl
    have free : u.openable n = s.openable n := by rw [hu]; exact openable_received s n
    have mode : u.video = s.video := by rw [hu]; rfl
    have first : vc.toNat = 0 ↔ vc = 0#1 := ⟨fun e => BitVec.eq_of_toNat_eq e, fun e => e ▸ rfl⟩
    refine ⟨fun hh l h' l' sc ec hsc hec => ?_, fun hh l h' l' sp ep hsp hep => ?_, fun x0 y0 x1 y1 => ?_,
      fun data b k w u0 u1 u2 u3 command drops on packed opened hw hk hu1 hu2 hu3 => ?_, fun c data u1 listed hu1 => ?_,
      fun full auto x0 y0 x1 y1 tag u1 hu1 => ?_⟩
    · refine (takes _).trans (congrArg Host.Outcome.next ?_)
      simp only [dcsParam, ← own', same.surfW, chan, ← hsc, ← hec]
    · refine (takes _).trans (congrArg Host.Outcome.next ?_)
      simp only [dcsParam, ← own', same.surfH, chan, ← hsp, ← hep]
    · refine (takes _).trans (congrArg Host.Outcome.next ?_)
      simp only [State.regionHint, ← own', same.surfW, same.surfH, chan, BitVec.lt_def]
    · have command' : ¬(vc.toNat = 0 ∧ u.video = true) := by rwa [first, mode]
      obtain ⟨chan0, own0, same0⟩ := opened_same (hu ▸ opened)
      have window : u0.window vc.toNat = w := by rw [State.window_same chan0 own0 (own ▸ same0), hw]
      rw [← surf, ← free] at opened
      have goes := State.writeMemory_into own' command' (by rw [chan]; exact drops) (by rw [same.surfEn]; exact on)
        (by rw [same.surfFmt]; exact packed) opened
      rw [window] at goes
      have start : u1 = u0.toStart vc.toNat w := by rw [hu1, State.toStart, chan0]
      have place : (u0.toStart vc.toNat w).surf n = u0.surf n := rfl
      have format : (u0.toStart vc.toNat w).surfFmt n = u0.surfFmt n := rfl
      rw [start, ← place] at hu2
      rw [← same0.surfFmt] at hk
      exact ⟨(takes _).trans (congrArg Host.Outcome.next ((goes true data).trans (State.writeInto_format (format ▸ hk) hu2))),
        (takes _).trans (congrArg Host.Outcome.next ((goes false data).trans (State.writeInto_format hk hu3)))⟩
    · have runs : ∃ start, exec c s = .next (u.writeMemory vc.toNat start data) := by
        simp only [List.mem_cons, List.not_mem_nil, or_false] at listed
        rcases listed with rfl | rfl
        · exact ⟨true, takes _⟩
        · exact ⟨false, takes _⟩
      obtain ⟨start, runs⟩ := runs
      rw [runs, hu1, ← chan]
      refine ⟨fun ignored => ?_, fun command drops => ?_⟩
      · refine congrArg Host.Outcome.next (if_pos ?_)
        rwa [first, mode]
      · have command' : ¬(vc.toNat = 0 ∧ u.video = true) := by rwa [first, mode]
        rw [← same.surfEn, ← same.surfFmt, ← surf, ← free]
        exact ⟨fun bad => congrArg Host.Outcome.next (State.writeMemory_bad own' command' drops bad start data),
          fun on packed shut full => congrArg Host.Outcome.next
            (State.writeMemory_full own' command' drops on packed shut full start data)⟩
    · have runs : exec (.dsiPresent vc full auto x0 y0 x1 y1 tag) s = .next (u.partPresent vc.toNat full auto
          { x0 := x0.toNat, y0 := y0.toNat, x1 := x1.toNat, y1 := y1.toNat } tag.toNat) := takes _
      rw [runs, hu1, ← chan, ← same.surfEn, ← surf]
      exact ⟨fun on update good => congrArg Host.Outcome.next (State.partPresent_good own' on update good tag.toNat),
        fun bad => congrArg Host.Outcome.next (State.partPresent_bad own' bad tag.toNat)⟩

end Sys2Proof.Machine
end

section
/-!
PROOF of the answers of the DSI link (12: R274, R278, R284, R285) and of the work on surfaces (R287 to R293).
-/

namespace Sys2Proof.Machine

/-! ### The link -/

/-- Settles O45: each answer is its branch of the turnaround; the other commands are their conditions. -/
theorem theDsiLinkAnswers : Obligations.TheDsiLinkAnswers := by
  unfold Obligations.TheDsiLinkAnswers
  refine ⟨fun line s off => congrArg Host.Outcome.next (if_pos (by rw [off]; rfl)), ?turn, fun _ => rfl, fun _ _ _ => rfl,
    fun s seen out => congrArg Host.Outcome.next (if_pos (by rw [seen, out]; rfl)),
    fun s seen inside => congrArg Host.Outcome.next (if_pos (by rw [seen, inside]; rfl)),
    fun s unseen => ⟨congrArg Host.Outcome.next (if_neg (by simp [unseen])), congrArg Host.Outcome.next (if_neg (by simp [unseen]))⟩,
    fun s => ⟨fun inside => congrArg Host.Outcome.next (if_neg (by simp [inside])),
      fun out => congrArg Host.Outcome.next (if_neg (by simp [out]))⟩,
    ?fence, ?noFence, ?rise, ?high, fun s h => congrArg Host.Outcome.next (if_neg (Bool.eq_false_iff.1 h)),
    fun s high late => congrArg Host.Outcome.next (if_pos (by rw [high, late]; rfl)), ?stays⟩
  case turn =>
    intro line s on
    have runs : ∀ {t : State}, (match s.intake.readReq with
        | none => s.sendReport
        | some .powerMode => s.sendData false [s.powerMode]
        | some (.pixelFormat vc) => s.sendData false [s.formatByte vc]
        | some .scanline =>
          let n := if s.scan.running && s.scan.frameOn then min 0xFFFF (min line s.vActive) else 0
          s.sendData false [BitVec.ofNat 8 (n / 256), BitVec.ofNat 8 n]
        | some (.register off) =>
          if off % 4 = 0 ∧ off < 0xF000 ∧ (regSpec off).isSome then s.sendData true (wordBytes (s.view off))
          else (s.dsiFault 13).sendReport
        | some .bad => (s.dsiFault 13).sendReport) = t → exec (.busTurnaround line) s = .next t := fun h =>
      congrArg Host.Outcome.next ((if_neg (by rw [on]; decide)).trans h)
    refine ⟨fun h => runs (by rw [h]), fun h => runs (by rw [h]), fun vc h => runs (by rw [h]), fun off h word page known => runs ?_,
      fun off h bad => runs ?_, fun h => runs (by rw [h]), fun n h hn => runs (by rw [h, hn])⟩
    · rw [h]
      exact if_pos ⟨word, page, known⟩
    · rw [h]
      refine if_neg ?_
      rintro ⟨word, page, known⟩
      rcases bad with part | beyond | unknown
      · exact part word
      · exact Nat.not_lt.2 beyond page
      · exact Bool.noConfusion (unknown.symm.trans known)
  case fence =>
    rintro s s1 tag vc rest h rfl
    exact congrArg Host.Outcome.next (by rw [h]; rfl)
  case noFence => exact fun s h => congrArg Host.Outcome.next (by rw [h])
  case rise =>
    intro s ready low
    refine ⟨_, congrArg Host.Outcome.next (if_pos ready), ?_⟩
    have low' : (s.setIntake { s.intake with teArmed := none }).pins.dsiTe = false := low
    simp only [low', Bool.false_eq_true, if_false]
    exact ⟨trivial, rfl, rfl, rfl, rfl⟩
  case high =>
    intro s ready high
    exact congrArg Host.Outcome.next ((if_pos ready).trans (if_pos high))
  case stays =>
    intro s h
    refine congrArg Host.Outcome.next (if_neg ?_)
    rcases h with low | early
    · simp [low]
    · simp [early]

/-! ### Presents are answered -/

theorem State.answerPresent_only (s : State) (n : Nat) (q : Present) (st : Status) :
    ∃ regs rings, s.answerPresent n q st = { s with regs := regs, rings := rings } := by
  unfold State.answerPresent
  split
  · split
    · exact ⟨_, _, State.completeRing_only _ _ _ _⟩
    · exact ⟨_, _, rfl⟩
  · exact ⟨_, _, rfl⟩
  · exact ⟨_, _, rfl⟩

theorem State.reg_answerPresent (s : State) (n : Nat) (q : Present) (st : Status) {a : Nat} (h : a ≠ Reg.INTAKE_PRESENT_RESULT) :
    (s.answerPresent n q st).reg a = s.reg a := by
  unfold State.answerPresent
  split
  · split
    · exact State.reg_completeRing _ _ _ _ _
    · rfl
  · exact State.reg_setReg_other _ _ _ _ h
  · rfl

/-! ### Enabling and disabling (R287) -/

/-- The queued present that a disable ends. -/
def State.haltPresent (s : State) (n : Nat) : Option Present → State
  | some q => s.answerPresent n q .halted
  | none => s

theorem State.haltPresent_only (s : State) (n : Nat) (q : Option Present) :
    ∃ regs rings, s.haltPresent n q = { s with regs := regs, rings := rings } := by
  cases q with
  | none => exact ⟨_, _, rfl⟩
  | some q => exact s.answerPresent_only n q .halted

theorem State.reg_haltPresent (s : State) (n : Nat) (q : Option Present) {a : Nat} (h : a ≠ Reg.INTAKE_PRESENT_RESULT) :
    (s.haltPresent n q).reg a = s.reg a := by
  cases q with
  | none => rfl
  | some q => exact s.reg_answerPresent n q .halted h

theorem State.haltPresent_stores (s : State) (n : Nat) (q : Option Present) : storesSame s (s.haltPresent n q) := by
  obtain ⟨_, _, frame⟩ := s.haltPresent_only n q
  rw [frame]
  exact ⟨rfl, rfl, rfl, rfl⟩

/-- The surface off, and its presents ended. -/
def State.presentsHalted (s : State) (n : Nat) : State :=
  ((s.setFlag (surfWord n 4) 31 false).haltPresent n (s.surf n).queued).haltPresent n (s.surf n).answer

/-- What waits for the surface dropped. -/
def State.surfUnawaited (s : State) (n : Nat) : State :=
  { s with
    commits := s.commits.filter (fun (c : BoundaryReq) => c.page != presentPage n)
    intake := { s.intake with copies := s.intake.copies.filter (fun c => c.surf != n) } }

/-- No update and no present of the surface is left. -/
def State.surfCleared (s : State) (n : Nat) : State :=
  (s.surfUnawaited n).setSurf n { (s.surfUnawaited n).surf n with
    queued := none, openBuf := none, openBy := none, written := none, answer := none }

theorem State.disableSurf_eq (s : State) (n : Nat) : s.disableSurf n =
    if s.intake.video.any (fun v => v.surf == n) then
      ((((s.presentsHalted n).surfCleared n).setIntake { ((s.presentsHalted n).surfCleared n).intake with
        video := none }).bump (surfWord n 7) 31 16).inputDrop n 4
    else (s.presentsHalted n).surfCleared n := by
  unfold State.disableSurf State.presentsHalted State.surfCleared State.surfUnawaited
  cases queued : (s.surf n).queued <;> cases answer : (s.surf n).answer <;> simp only [State.haltPresent, queued, answer]

theorem State.setSurf_stores (s : State) (n : Nat) (x : SurfSt) : storesSame s (s.setSurf n x) := by
  obtain ⟨_, frame⟩ := s.setSurf_only n x
  rw [frame]
  exact ⟨rfl, rfl, rfl, rfl⟩

theorem State.surfCleared_shows (s : State) (n : Nat) : sameSurf n s (s.surfCleared n) ∧ ((s.surfCleared n).surf n).queued = none ∧
    ((s.surfCleared n).surf n).openBuf = none ∧ storesSame s (s.surfCleared n) := by
  have regs : ∀ a, (s.surfUnawaited n).reg a = s.reg a := fun _ => rfl
  have stores : storesSame s (s.surfUnawaited n) := ⟨rfl, rfl, rfl, rfl⟩
  unfold State.surfCleared
  rw [State.surf_setSurf, if_pos rfl]
  exact ⟨fun w hw => (sameSurf_setSurf _ n n _ w hw).trans (regs _), rfl, rfl, storesSame.trans stores (State.setSurf_stores _ n _)⟩

theorem State.presentsHalted_off (s : State) (n : Nat) : (s.presentsHalted n).surfEn n = false ∧ storesSame s (s.presentsHalted n) := by
  have result : surfWord n 4 ≠ Reg.INTAKE_PRESENT_RESULT := (surfWord_ne_below (by decide) n 4).symm
  unfold State.presentsHalted
  refine ⟨?_, storesSame.trans (storesSame.trans (t := s.setFlag (surfWord n 4) 31 false) ⟨rfl, rfl, rfl, rfl⟩
    (State.haltPresent_stores _ n _)) (State.haltPresent_stores _ n _)⟩
  rw [State.surfEn, State.flag, State.reg_haltPresent _ n _ result, State.reg_haltPresent _ n _ result, ← State.flag,
    State.flag_setFlag _ _ _ _ (by decide)]

theorem State.frameDropped_shows (t : State) (n : Nat) :
    sameSurf n t (((t.setIntake { t.intake with video := none }).bump (surfWord n 7) 31 16).inputDrop n 4) ∧
    (((t.setIntake { t.intake with video := none }).bump (surfWord n 7) 31 16).inputDrop n 4).surf n = t.surf n ∧
    storesSame t (((t.setIntake { t.intake with video := none }).bump (surfWord n 7) 31 16).inputDrop n 4) := by
  refine ⟨fun w hw => ?_, ?_, ?_⟩
  · rw [State.inputDrop, State.reg_raise _ 79 (by decide) _ _ (raiseReg_surfWord n w), State.bump,
      State.reg_setFld_other _ _ _ _ _ _ (surfWord_ne_word (by omega) (by omega) (by decide) n n)]
    rfl
  · rw [State.surf, State.inputDrop_intake]
    rfl
  · exact State.raise_stores (((t.setIntake { t.intake with video := none }).bump (surfWord n 7) 31 16)) (by decide) _

theorem State.disableSurf_shows (s : State) (n : Nat) : (s.disableSurf n).surfEn n = false ∧ ((s.disableSurf n).surf n).queued = none ∧
    ((s.disableSurf n).surf n).openBuf = none ∧ storesSame s (s.disableSurf n) := by
  obtain ⟨off, ended⟩ := s.presentsHalted_off n
  obtain ⟨same, queued, shut, cleared⟩ := (s.presentsHalted n).surfCleared_shows n
  have stores := storesSame.trans ended cleared
  rw [State.disableSurf_eq]
  split
  · obtain ⟨same', surf, kept⟩ := ((s.presentsHalted n).surfCleared n).frameDropped_shows n
    rw [same'.surfEn, surf]
    exact ⟨same.surfEn.trans off, queued, shut, storesSame.trans stores kept⟩
  · exact ⟨same.surfEn.trans off, queued, shut, stores⟩

theorem State.flag_setSurf_err (s : State) (n : Nat) (x : SurfSt) :
    (s.setSurf n x).flag (surfWord n 6) 8 = s.flag (surfWord n 6) 8 :=
  (State.flag_showSurf_err _ n).trans (State.flag_of_regs rfl _ _)

theorem State.enableSurf_shows (s : State) (n : Nat) {t : State}
    (ht : t = ((s.setFlag (surfWord n 6) 8 false).setFlag (surfWord n 4) 31 true).setSurf n {}) :
    t.surfEn n = true ∧ t.flag (surfWord n 6) 8 = false ∧ t.surf n = {} := by
  rw [ht]
  refine ⟨?_, ?_, ?_⟩
  · rw [(sameSurf_setSurf _ n n _).surfEn, State.surfEn, State.flag_setFlag _ _ _ _ (by decide)]
  · have apart : surfWord n 6 ≠ surfWord n 4 := surfWord_ne_word (by decide) (by decide) (by decide) n n
    rw [State.flag_setSurf_err, State.flag_setFlag_other _ _ _ _ _ _ (by decide) (.inl apart),
      State.flag_setFlag _ _ _ _ (by decide)]
  · rw [State.surf_setSurf, if_pos rfl]

/-! ### Writes (R10, R287, R288, R290) -/

theorem surfWord_surface {n : Nat} (hn : n < 8) : (surfWord n 4 - Reg.INTAKE_SURF_W0) / 32 = n := by
  simp only [surfWord]
  omega

theorem execSurfaceEnable_fronted {s t : State} {p : Port} {w : BufWord} {n : Nat} (h : fronted s p w t = true) (hn : n < 8)
    (hw : w.off = surfWord n 4) (on : bit w.val 31 = true) : exec (.surfaceEnable p) s = .next (t.writeSurfOn n w.val) :=
  have row : rowOf w = .surfaceEnable := (rowOf_surface hn hw).trans (if_pos on)
  have apply : t.applyWord w = t.writeSurfOn n w.val := by simp only [State.applyWord, row, hw, surfWord_surface hn]
  congrArg Host.Outcome.next ((State.takeWord_fronted h row).trans apply)

theorem execSurfaceDisable_fronted {s t : State} {p : Port} {w : BufWord} {n : Nat} (h : fronted s p w t = true) (hn : n < 8)
    (hw : w.off = surfWord n 4) (off : bit w.val 31 = false) : exec (.surfaceDisable p) s = .next (t.writeSurfOff n w.val) :=
  have row : rowOf w = .surfaceDisable := (rowOf_surface hn hw).trans (if_neg (Bool.eq_false_iff.1 off))
  have apply : t.applyWord w = t.writeSurfOff n w.val := by simp only [State.applyWord, row, hw, surfWord_surface hn]
  congrArg Host.Outcome.next ((State.takeWord_fronted h row).trans apply)

theorem execOpenGo_fronted {s t : State} {p : Port} {w : BufWord} (h : fronted s p w t = true) (hw : w.off = Reg.INTAKE_OPEN)
    (go : bit w.val 31 = true) : exec (.openGo p) s = .next (t.writeOpen w.val) :=
  have row := rowOf_openGo hw go
  have apply : t.applyWord w = t.writeOpen w.val := by simp only [State.applyWord, row]
  congrArg Host.Outcome.next ((State.takeWord_fronted h row).trans apply)

theorem execPresentGo_fronted {s t : State} {p : Port} {w : BufWord} (h : fronted s p w t = true) (hw : w.off = Reg.INTAKE_PRESENT)
    (go : bit w.val 31 = true) : exec (.presentGo p) s = .next (t.writePresent w.val) :=
  have row := rowOf_presentGo hw go
  have apply : t.applyWord w = t.writePresent w.val := by simp only [State.applyWord, row]
  congrArg Host.Outcome.next ((State.takeWord_fronted h row).trans apply)

theorem fronted_intake {s t : State} {p : Port} {w : BufWord} (h : fronted s p w t = true) : t.intake = s.intake := by
  obtain ⟨_, _, _, frame⟩ := fronted_frame h
  rw [frame]

theorem State.surf_of_intake {s t : State} (h : t.intake = s.intake) (n : Nat) : t.surf n = s.surf n := by
  rw [State.surf, h, State.surf]

theorem State.presentBusy_of_intake {s t : State} (h : t.intake = s.intake) : t.presentBusy = s.presentBusy := by
  simp only [State.presentBusy, State.surf_of_intake h]

theorem sameSurf_setFlag_below (s : State) {a : Nat} (h : a < 0x180000) (b : Nat) (x : Bool) (n : Nat) : sameSurf n s (s.setFlag a b x) :=
  fun w _ => State.reg_setFlag_other s _ _ _ _ (surfWord_ne_below h n w).symm

theorem sameSurf_fronted {s t : State} {p : Port} {w : BufWord} (h : fronted s p w t = true) (n : Nat) : sameSurf n s t :=
  fun _ _ => State.reg_of_regs (fronted_regs h) _

theorem State.writeOpen_go {s s2 : State} {v : Word} {n : Nat} (go : bit v 31 = true) (hn : n = field v 2 0)
    (h2 : s2 = s.setFlag Reg.INTAKE_OPEN_RESULT 31 false) :
    (s.intake.openReg.isSome = true → s.writeOpen v = s) ∧
    (s.intake.openReg = none → s.surfEn n = false → s.writeOpen v = s2.intakeResult Reg.INTAKE_OPEN_RESULT .badArg n 0) ∧
    (s.intake.openReg = none → s.surfEn n = true →
      s.writeOpen v = State.serveOpens { s2 with intake := { s.intake with openReg := some n } } n) := by
  have en : s2.surfEn n = s.surfEn n := h2 ▸ (sameSurf_setFlag_below s (by decide) 31 false n).surfEn
  have intake : s2.intake = s.intake := by rw [h2]; rfl
  refine ⟨fun waits => ?_, fun free off => ?_, fun free on => ?_⟩
  · simp only [State.writeOpen, waits, Bool.or_true, if_true]
  · simp only [State.writeOpen, ← hn, ← h2, en, go, free, off, Bool.not_true, Option.isSome_none, Bool.or_self, Bool.false_eq_true,
      if_false, Bool.not_false, if_true]
  · simp only [State.writeOpen, ← hn, ← h2, en, go, free, on, Bool.not_true, Option.isSome_none, Bool.or_self, Bool.false_eq_true,
      if_false, State.setIntake, intake]

theorem State.writePresent_go {s s2 : State} {v : Word} {n : Nat} {r : Rect} (go : bit v 31 = true) (hn : n = field v 2 0)
    (h2 : s2 = s.setFlag Reg.INTAKE_PRESENT_RESULT 31 false)
    (hr : r = rectOf (s.reg Reg.INTAKE_PRES_RECT0) (s.reg Reg.INTAKE_PRES_RECT1)) :
    (s.presentBusy = true → s.writePresent v = s) ∧
    (s.presentBusy = false → s.surfEn n = true → (s.surf n).openBuf.isSome = true → r.x0 ≤ r.x1 → r.y0 ≤ r.y1 →
      s.writePresent v = s2.presentOn n (bit v 8) r { buf := 0, rect := none, source := .register }) := by
  have en : s2.surfEn n = s.surfEn n := h2 ▸ (sameSurf_setFlag_below s (by decide) 31 false n).surfEn
  have surf : s2.surf n = s.surf n := by rw [h2]; rfl
  refine ⟨fun busy => ?_, fun free on update hx hy => ?_⟩
  · simp only [State.writePresent, busy, Bool.or_true, if_true]
  · have shut : (s.surf n).openBuf.isNone = false := by rw [← Option.not_isSome, update]; rfl
    simp only [State.writePresent, ← hn, ← h2, ← hr, en, surf, go, free, on, shut, decide_eq_false (Nat.not_lt.2 hx),
      decide_eq_false (Nat.not_lt.2 hy), Bool.not_true, Bool.or_self, Bool.false_eq_true, if_false]

/-- Settles O46: enable and disable by what State.enableSurf_shows and State.disableSurf_shows say, the verbs by
State.runVerb_body, the writes by their cases. -/
theorem surfacesAreOpenedAndPresented : Obligations.SurfacesAreOpenedAndPresented := by
  unfold Obligations.SurfacesAreOpenedAndPresented
  refine ⟨?surface, ?write, ?set, ?stop, ?open_, ?present, ?read, ?dsi, ?go, ?copy, ?none⟩
  case surface =>
    intro s n _
    refine ⟨fun passes => ⟨_, rfl, if_pos passes, s.enableSurf_shows n rfl⟩, fun fails => ?_, s.disableSurf_shows n⟩
    exact if_neg (Bool.eq_false_iff.1 fails)
  case write =>
    intro p s s1 w n h hn hw
    have en := (sameSurf_fronted h n).surfEn
    rw [← en]
    refine ⟨fun on enabled => ?_, fun on disabled => ?_, fun off => ?_⟩
    · rw [execSurfaceEnable_fronted h hn hw on, State.writeSurfOn, if_pos enabled]
    · rw [execSurfaceEnable_fronted h hn hw on, State.writeSurfOn, if_neg (Bool.eq_false_iff.1 disabled)]
    · rw [execSurfaceDisable_fronted h hn hw off, State.writeSurfOff]
  case set =>
    intro ring s s1 s2 v n h ha hn h1 h2
    refine ⟨fun free => ?_, fun on => ?_⟩
    · refine congrArg Host.Outcome.next ((State.runVerb_body _ h ha).trans ?_)
      rw [h2, h1, hn]
      rw [hn] at free
      exact if_neg (Bool.eq_false_iff.1 free)
    · refine congrArg Host.Outcome.next ((State.runVerb_body _ h ha).trans ?_)
      rw [hn]
      rw [hn] at on
      exact if_pos on
  case stop =>
    rintro ring s v n h ha rfl
    exact congrArg Host.Outcome.next (State.runVerb_body _ h ha)
  case open_ =>
    rintro ring s v n h ha rfl
    refine ⟨fun off => ?_, fun b on buf => ?_, fun b on shut free => ?_, fun on shut full => ?_⟩
    · exact congrArg Host.Outcome.next ((State.runVerb_body _ h ha).trans (by simp only [off]; rfl))
    · exact congrArg Host.Outcome.next ((State.runVerb_body _ h ha).trans
        (by simp only [on, buf, Bool.not_true, Bool.false_eq_true, if_false]))
    · exact congrArg Host.Outcome.next ((State.runVerb_body _ h ha).trans
        (by simp only [on, shut, free, Bool.not_true, Bool.false_eq_true, if_false]))
    · exact congrArg Host.Outcome.next ((State.runVerb_body _ h ha).trans
        (by simp only [on, shut, full, Bool.not_true, Bool.false_eq_true, if_false]))
  case present =>
    intro ring s v n r h ha hn hr hx hy
    have ok : (v.argsWithin [0x107#32, 0x0FFF0FFF#32, 0x0FFF0FFF#32] &&
        decide ((rectOf (v.arg 1) (v.arg 2)).x0 ≤ (rectOf (v.arg 1) (v.arg 2)).x1) &&
        decide ((rectOf (v.arg 1) (v.arg 2)).y0 ≤ (rectOf (v.arg 1) (v.arg 2)).y1)) = true := by
      rw [← hr]
      simp [ha, hx, hy]
    rw [hr, hn]
    refine ⟨fun on update => ?_, fun bad => ?_⟩
    · refine congrArg Host.Outcome.next ((State.runVerb_body _ h ok).trans (if_neg ?_))
      rw [on, ← Option.not_isSome, update]
      decide
    · refine congrArg Host.Outcome.next ((State.runVerb_body _ h ok).trans (if_pos ?_))
      rcases bad with off | shut
      · rw [off]; rfl
      · rw [shut, Option.isNone_none, Bool.or_true]
  case read =>
    rintro ring s v n h ha rfl
    exact congrArg Host.Outcome.next (State.runVerb_body _ h ha)
  case dsi =>
    intro ring s s1 v h ha h1
    refine congrArg Host.Outcome.next ((State.runVerb_body _ h ha).trans ?_)
    rw [h1]
    rfl
  case go =>
    intro p s s1 s2 w n h go hn
    have intake := fronted_intake h
    have en := (sameSurf_fronted h n).surfEn
    refine ⟨fun hw h2 => ?_, fun hw h2 r hr => ?_⟩
    · rw [execOpenGo_fronted h hw go, ← en, ← intake]
      obtain ⟨waits, bad, good⟩ := State.writeOpen_go go hn h2
      exact ⟨fun busy => congrArg Host.Outcome.next (waits busy), fun free off => congrArg Host.Outcome.next (bad free off),
        fun free on => congrArg Host.Outcome.next (good free on)⟩
    · rw [execPresentGo_fronted h hw go, ← en, ← State.surf_of_intake intake, ← State.presentBusy_of_intake intake]
      rw [← State.reg_of_regs (fronted_regs h), ← State.reg_of_regs (fronted_regs h)] at hr
      obtain ⟨waits, good⟩ := State.writePresent_go go hn h2 hr
      exact ⟨fun busy => congrArg Host.Outcome.next (waits busy),
        fun free on update hx hy => congrArg Host.Outcome.next (good free on update hx hy)⟩
  case copy =>
    intro s s1 s2 s3 c rest h h1 h2 h3
    refine ⟨fun free => ?_, fun q waits => ?_⟩
    · exact congrArg Host.Outcome.next (by simp only [h, State.setIntake, ← h1, ← h2, ← h3, free])
    · exact congrArg Host.Outcome.next (by simp only [h, State.setIntake, ← h1, ← h2, ← h3, waits])
  case none => exact fun s h => congrArg Host.Outcome.next (by rw [h])

end Sys2Proof.Machine
end

section
/-!
PROOF of the SCAN and PIPE verbs and of the commits of every page (13, 14, 01: R24, R303, R309, R310, R339, R345).
-/

namespace Sys2Proof.Machine

/-! ### What leaves scan-out alone -/

/-- Scan-out's own state, SCAN_STATE and the stores stand as before. -/
structure ScanKept (s t : State) : Prop where
  scan : t.scan = s.scan
  state : t.reg Reg.SCAN_STATE = s.reg Reg.SCAN_STATE
  stores : storesSame s t

theorem ScanKept.refl (s : State) : ScanKept s s := ⟨rfl, rfl, rfl, rfl, rfl, rfl⟩

theorem ScanKept.trans {s t u : State} (h : ScanKept s t) (k : ScanKept t u) : ScanKept s u :=
  ⟨k.scan.trans h.scan, k.state.trans h.state, storesSame.trans h.stores k.stores⟩

theorem ScanKept.setFld (s : State) {a : Nat} (h : Reg.SCAN_STATE ≠ a) (hi lo v : Nat) : ScanKept s (s.setFld a hi lo v) :=
  ⟨rfl, State.reg_setFld_other s _ _ _ _ _ h, rfl, rfl, rfl, rfl⟩

theorem ScanKept.setFlag (s : State) {a : Nat} (h : Reg.SCAN_STATE ≠ a) (n : Nat) (b : Bool) : ScanKept s (s.setFlag a n b) :=
  ⟨rfl, State.reg_setFlag_other s _ _ _ _ h, rfl, rfl, rfl, rfl⟩

theorem ScanKept.raise (s : State) {e : Nat} (he : e < 128) (arg : Word) : ScanKept s (s.raise e arg) :=
  ⟨State.raise_scan s e he arg, State.reg_raise s e he arg _ (by decide), State.raise_stores s he arg⟩

theorem State.setPanel_scanKept (s : State) (c : Nat) : ScanKept s (s.setPanel c) := by
  unfold State.setPanel
  split
  · exact .refl s
  · exact (ScanKept.setFld s (by decide) 2 0 c).trans (.raise _ (by decide) _)

theorem State.holdPanel_scanKept (s : State) : ScanKept s s.holdPanel := by
  have linked : ScanKept s (if s.link = 2 then s.setLink 3 else s) := by
    split
    · exact .setFld s (by decide) 2 0 3
    · exact .refl s
  unfold State.holdPanel
  simp only
  generalize (if s.link = 2 then s.setLink 3 else s) = s1 at linked ⊢
  split
  · exact linked.trans (s1.setPanel_scanKept 3)
  · exact linked

theorem State.setDue_scanKept (s : State) {f : Nat} (hf : f < 12) (v : Nat) : ScanKept s (s.setDue f v) := by
  have apart : Reg.SCAN_STATE ≠ faceVal f := by
    simp only [Reg.SCAN_STATE, faceVal, Reg.FACE_FIELD_VAL]
    omega
  exact ⟨rfl, State.reg_setFlag_other _ _ _ _ _ apart, rfl, rfl, rfl, rfl⟩

theorem State.faceMode_scanKept (s : State) : ScanKept s s.faceMode := by
  unfold State.faceMode
  split
  · exact .refl s
  · refine ScanKept.trans (t := (s.setFlag Reg.FACE_STATUS 8 s.fullWanted).setFace { s.face with lastFull := none }) ?_
      (.raise _ (by decide) _)
    exact ⟨rfl, State.reg_setFlag_other s _ _ _ _ (by decide), rfl, rfl, rfl, rfl⟩

theorem State.faceStops_scanKept (s : State) : ScanKept s s.faceStops := by
  unfold State.faceStops
  refine ScanKept.trans (t := if s.fflag Reg.FACE_CFG 1 then s
    else faceFields.foldl (fun s f => if s.faceEn f then s.setDue f (s.faceShown f) else s) s) ?_ (State.faceMode_scanKept _)
  split
  · exact .refl s
  · refine List.foldlRecOn _ _ (motive := fun t : State => ScanKept s t) (.refl s) fun t ih f hf => ?_
    split
    · exact ih.trans (t.setDue_scanKept (List.mem_range.1 hf) _)
    · exact ih

/-! ### Self-refresh (R309, R310) -/

theorem State.wakeSr_inside {s : State} (h : s.inSr = true) : s.wakeSr.scan.wake = true := by
  rw [State.wakeSr, if_pos h]
  simp [State.askResume, State.resumable, h]

theorem State.wakeSr_outside {s : State} (h : s.inSr = false) : s.wakeSr = s := if_neg (Bool.eq_false_iff.1 h)

/-- Scan-out stopped and shown in self-refresh. -/
def State.srShown (s : State) : State := s.stopScan.setFlag Reg.SCAN_STATE 9 true

theorem State.enterSr_cases (s : State) : ∃ t, ScanKept s.srShown t ∧ (s.enterSr = t ∨ s.enterSr = t.askResume) := by
  have kept := (s.srShown.holdPanel_scanKept.trans (.raise _ (e := 82) (by decide) (word (true.toNat + 256 *
    (s.srShown.holdPanel.reg Reg.SCAN_FRAME).toNat)))).trans (State.faceStops_scanKept _)
  refine ⟨_, kept, ?_⟩
  unfold State.enterSr
  simp only
  split
  · exact .inr rfl
  · exact .inl rfl

theorem State.srShown_state (s : State) : s.srShown.scan.running = false ∧ s.srShown.flag Reg.SCAN_STATE 9 = true ∧
    s.srShown.flag Reg.SCAN_STATE 11 = true ∧ storesSame s s.srShown := by
  refine ⟨rfl, State.flag_setFlag _ _ _ _ (by decide), ?_, rfl, rfl, rfl, rfl⟩
  rw [State.srShown, State.flag_setFlag_other _ _ _ _ _ _ (by decide) (.inr (by decide)), State.stopScan,
    State.flag_setFlag _ _ _ _ (by decide)]

theorem State.enterSr_shows (s : State) : s.enterSr.scan.running = false ∧ s.enterSr.inSr = true ∧
    s.enterSr.flag Reg.SCAN_STATE 11 = true ∧ storesSame s s.enterSr := by
  obtain ⟨t, kept, which⟩ := s.enterSr_cases
  obtain ⟨stopped, inside, waits, stores⟩ := s.srShown_state
  have all : t.scan.running = false ∧ t.inSr = true ∧ t.flag Reg.SCAN_STATE 11 = true ∧ storesSame s t :=
    ⟨kept.scan ▸ stopped, by rw [State.inSr, State.flag, kept.state]; exact inside,
      by rw [State.flag, kept.state]; exact waits, storesSame.trans stores kept.stores⟩
  rcases which with same | asks
  · exact same ▸ all
  · rw [asks]
    exact all

/-! ### Commits (R24) -/

/-- The pages whose commits wait for a boundary of their own. -/
theorem pendBit_high {page : Nat} (h : page ∈ [4, 5, 8, 9, 10, 11, 12]) : (pendBit page).2 < 32 ∧ page ≠ 13 := by
  revert page
  decide

theorem State.addCommit_pending (s : State) {page : Nat} (h : page ∈ [4, 5, 8, 9, 10, 11, 12]) (ring : Option Nat) :
    (s.addCommit page ring).pendingOn page = true ∧
      (s.addCommit page ring).commits = s.commits ++ [{ page := page, toBasic := false, ring := ring }] ∧
      (s.addCommit page ring).force = s.force := by
  obtain ⟨inside, notEns⟩ := pendBit_high h
  refine ⟨State.flag_setFlag _ _ _ _ inside, ?_, rfl⟩
  simp only [State.addCommit, State.setPending, if_neg notEns]
  rfl

theorem State.verbCommit_waits (s : State) {v : Verb} {f : Fetched} {page : Nat} (h : page ∈ [4, 5, 8, 9, 10, 11, 12])
    (cur : (s.ring v.ring).cur = some f) (x : Option Nat) : (s.verbCommit v page x).pendingOn page = true ∧
      waitsFor (s.verbCommit v page x) v (.commit page x) = true ∧
      (s.verbCommit v page x).commits = s.commits ++ [{ page := page, toBasic := false, ring := some v.ring }] ∧
      (s.verbCommit v page x).force = s.force := by
  obtain ⟨pending, commits, force⟩ := s.addCommit_pending h (some v.ring)
  obtain ⟨_, frame⟩ := (s.addCommit page (some v.ring)).defer_rings v (.commit page x) 2097152
  refine ⟨?_, ?_, ?_, ?_⟩
  · rw [State.verbCommit, frame]
    exact pending
  · have own : (((s.addCommit page (some v.ring)).await v (.commit page x) 2097152).ring v.ring).cur =
        some { f with started := true, waiting := some (.commit page x), since := s.edge, timeout := 2097152 } := by
      have before : ((s.addCommit page (some v.ring)).ring v.ring).cur = some f := cur
      simp only [State.await, State.ring_setRing_self, before, Option.map_some]
      rfl
    have kept : ((s.verbCommit v page x).ring v.ring).cur =
        some { f with started := true, waiting := some (.commit page x), since := s.edge, timeout := 2097152 } := by
      unfold State.verbCommit State.defer
      simp only
      split
      · exact own
      · rw [State.post_cur]
        exact own
    simp only [waitsFor, kept]
    simp
  · rw [State.verbCommit, frame]
    exact commits
  · rw [State.verbCommit, frame]
    exact force

/-! ### Staging verbs (R319, R345) -/

theorem State.stageVerb_word {s : State} {v : Verb} (page : Nat) (notBright : v.code ≠ 0x90) (notTable : v.code ≠ 0x82)
    (notFace : (v.arg 0).toNat ≠ Reg.FACE_REQ) : s.stageVerb v page = if s.pendingOn page then s.defer v (.staging page)
      else (s.hostSet (v.arg 0).toNat (v.arg 1)).complete v .ok := by
  simp only [State.stageVerb, State.stageEntry, if_neg notBright, if_neg notTable, if_neg notFace, State.stage]

theorem State.stageVerb_table {s : State} {v : Verb} (page : Nat) (table : v.code = 0x82) : s.stageVerb v page =
    if s.pendingOn page then s.defer v (.staging page)
    else ((List.range (field (v.arg 1) 2 0)).foldl (fun u i => u.hostSet ((v.arg 0).toNat + 4 * i) (v.arg (2 + i))) s).complete v .ok := by
  have notBright : v.code ≠ 0x90 := by rw [table]; decide
  simp only [State.stageVerb, State.stageEntry, if_neg notBright, if_pos table, State.stage]

theorem scanOffset_notFace {a : Nat} (h : scanOffset a = true) : a ≠ Reg.FACE_REQ := by
  simp only [scanOffset, Bool.or_eq_true, Bool.and_eq_true, decide_eq_true_eq] at h
  simp only [Reg.FACE_REQ]
  omega

theorem State.loadPanel_scan (s : State) (v : Verb) : State.loadPanel 9 s v = (match s.stagePanel 9 (field (v.arg 0) 7 0) with
    | (none, s1) => s1.complete v .badArg
    | (some n, s1) => (s1.verbCommit v 9 (some n)).wakeSr) := by
  unfold State.loadPanel
  obtain ⟨found, s1⟩ := s.stagePanel 9 (field (v.arg 0) 7 0)
  cases found <;> rfl

theorem State.pipeLoad_profile {s : State} {v : Verb} (code : v.code = 0x80) : s.pipeLoad v = (if s.pendingOn 10 then
      s.defer v (.staging 10)
    else match s.stagePanel 10 (field (v.arg 0) 7 0) with
      | (none, s1) => s1.complete v .badArg
      | (some n, s1) => s1.verbCommit v 10 (some n)) := by
  have plain : ¬(v.code = 0x84 ∧ bit (v.arg 0) 16 = true) := fun h => absurd (code.symm.trans h.1) (by decide)
  unfold State.pipeLoad State.pipeStage State.pipeRefresh
  rw [if_pos code]
  simp only [if_neg plain]
  obtain ⟨found, s1⟩ := s.stagePanel 10 (field (v.arg 0) 7 0)
  cases found <;> rfl

/-- What BRIGHT_SET stages, and whether scan-out is asked to resume. -/
theorem State.pipeStage_bright {s : State} {v : Verb} (code : v.code = 0x84) :
    s.pipeStage v = (some none, s.hostSet Reg.PIPE_BRIGHT (v.arg 0 &&& 0x1FFF#32)) ∧
      ∀ t : State, t.pipeRefresh v = if bit (v.arg 0) 16 then t.wakeSr else t := by
  have other : v.code ≠ 0x80 := by rw [code]; decide
  refine ⟨if_neg other, fun t => ?_⟩
  simp only [State.pipeRefresh, code, true_and]

theorem State.pipeLoad_bright {s : State} {v : Verb} (code : v.code = 0x84) {s1 : State}
    (h1 : s1 = (s.hostSet Reg.PIPE_BRIGHT (v.arg 0 &&& 0x1FFF#32)).verbCommit v 10) :
    s.pipeLoad v = if s.pendingOn 10 then s.defer v (.staging 10) else if bit (v.arg 0) 16 then s1.wakeSr else s1 := by
  obtain ⟨staged, refresh⟩ := State.pipeStage_bright (s := s) code
  simp only [State.pipeLoad, staged, refresh, ← h1]

theorem State.serveLoads_bright {s s1 : State} {r : Nat} {v : Verb} (one : s.waiters (.staging 10) = [r])
    (verb : s.verbOf r = some v) (code : v.code = 0x84) (h1 : s1 = ((s.hostSet Reg.PIPE_BRIGHT (v.arg 0 &&& 0x1FFF#32)).addCommit 10
      (some v.ring)).await v (.commit 10 none) 2097152) :
    s.serveLoads = if bit (v.arg 0) 16 then s1.wakeSr else s1 := by
  obtain ⟨staged, refresh⟩ := State.pipeStage_bright (s := s) code
  simp only [State.serveLoads, one, List.foldl_cons, List.foldl_nil, verb, staged, refresh, ← h1]

/-! ### FREEZE_CLEAR (R314) -/

theorem within_and {w m : Word} (h : within w m = true) : w &&& m = w := by
  have clear : w &&& ~~~m = 0#32 := by simpa [within] using h
  calc w &&& m = (w &&& m) ||| (w &&& ~~~m) := by rw [clear, BitVec.or_zero]
    _ = w := by rw [← BitVec.and_or_distrib_left, BitVec.or_not_self, BitVec.and_allOnes]

theorem argsWithin_first {v : Verb} {m : Word} (h : v.argsWithin [m] = true) : within (v.arg 0) m = true :=
  List.all_eq_true.1 h 0 (by decide)

theorem State.clearFrozen_shows {s : State} {m : Word} (only : m &&& 0x1F#32 = m) :
    (s.clearFrozen m).fld Reg.SCAN_FRZ_STATUS 4 0 = field (s.reg Reg.SCAN_FRZ_STATUS &&& ~~~m) 4 0 ∧
      ((s.clearFrozen m).fld Reg.SCAN_FRZ_STATUS 4 0 = 0 → (s.clearFrozen m).flag Reg.SCAN_FRZ_STATUS 8 = false) ∧
      ∀ a, a ≠ Reg.SCAN_FRZ_STATUS → (s.clearFrozen m).reg a = s.reg a := by
  have cleared : (s.setReg Reg.SCAN_FRZ_STATUS (s.reg Reg.SCAN_FRZ_STATUS &&& ~~~m)).fld Reg.SCAN_FRZ_STATUS 4 0 =
      field (s.reg Reg.SCAN_FRZ_STATUS &&& ~~~m) 4 0 := by rw [State.fld, State.reg_setReg_self]
  unfold State.clearFrozen
  rw [only]
  simp only
  split
  next none =>
    refine ⟨?_, fun _ => State.flag_setFlag _ _ _ _ (by decide), fun a other => ?_⟩
    · rw [State.fld_setFlag_other _ _ _ _ _ _ _ (by decide) (.inr (.inr (by decide))), cleared]
    · exact (State.reg_setFlag_other _ _ _ _ _ other).trans (State.reg_setReg_other _ _ _ _ other)
  next some => exact ⟨cleared, fun zero => absurd zero some, fun a other => State.reg_setReg_other _ _ _ _ other⟩

/-! ### Writes -/

theorem exec_commitGo {s t : State} {p : Port} {w : BufWord} (h : fronted s p w t = true) (go : bit w.val 0 = true) :
    (w.off = Reg.PIPE_COMMIT → exec (.pipeCommitGo p) s = .next (if bit w.val 1 then (t.goCommit 10).wakeSr else t.goCommit 10)) ∧
    (w.off = Reg.KEYS_COMMIT → exec (.keysCommitGo p) s = .next (t.goCommit 4)) ∧
    (w.off = Reg.SENSE_COMMIT → exec (.senseCommitGo p) s = .next (t.goCommit 5)) ∧
    (w.off = Reg.INTAKE_COMMIT → exec (.dsiCommitGo p) s = .next (t.goCommit 8)) ∧
    (w.off = Reg.STAVE_COMMIT → exec (.staveCommitGo p) s = .next (t.goCommit 11)) ∧
    (w.off = Reg.FACE_COMMIT → exec (.faceCommitGo p) s = .next (t.goCommit 12)) := by
  refine ⟨fun hw => ?_, fun hw => ?_, fun hw => ?_, fun hw => ?_, fun hw => ?_, fun hw => ?_⟩
  · have row := rowOf_pipeCommit hw go
    refine congrArg Host.Outcome.next ((State.takeWord_fronted h row).trans ?_)
    simp only [State.applyWord, row, State.pipeGo, go, if_true, Bool.true_and]
  · have row := rowOf_keysCommit hw go
    exact congrArg Host.Outcome.next ((State.takeWord_fronted h row).trans (by simp only [State.applyWord, row]))
  · have row := rowOf_senseCommit hw go
    exact congrArg Host.Outcome.next ((State.takeWord_fronted h row).trans
      (by simp only [State.applyWord, row, State.senseGo, go, if_true]))
  · have row := rowOf_dsiCommit hw go
    exact congrArg Host.Outcome.next ((State.takeWord_fronted h row).trans
      (by simp only [State.applyWord, row, State.intakeGo, go, if_true]))
  · have row := rowOf_staveCommit hw go
    exact congrArg Host.Outcome.next ((State.takeWord_fronted h row).trans
      (by simp only [State.applyWord, row, State.staveGo, go, if_true]))
  · have row := rowOf_faceCommit hw go
    exact congrArg Host.Outcome.next ((State.takeWord_fronted h row).trans
      (by simp only [State.applyWord, row, State.faceGo, go, if_true]))

theorem exec_scanWrite {s t : State} {p : Port} {w : BufWord} (h : fronted s p w t = true) :
    (w.off = Reg.SCAN_COMMIT → bit w.val 0 = true → exec (.scanCommitGo p) s = .next (t.goCommit 9).wakeSr) ∧
    (w.off = Reg.SCAN_REQ → bit w.val 0 = true → bit w.val 1 = false → exec (.scanReqWake p) s = .next t.wakeSr) ∧
    (w.off = Reg.SCAN_REQ → bit w.val 0 = false → bit w.val 1 = true →
      exec (.scanReqSrEnter p) s = .next (if t.scan.running && t.srAllowed then t.enterSr else t)) := by
  refine ⟨fun hw go => ?_, fun hw wake stays => ?_, fun hw stays enter => ?_⟩
  · have row := rowOf_scanCommit hw go
    exact congrArg Host.Outcome.next ((State.takeWord_fronted h row).trans
      (by simp only [State.applyWord, row, State.scanGo, go, if_true]))
  · have row := rowOf_scanWake hw wake
    exact congrArg Host.Outcome.next ((State.takeWord_fronted h row).trans
      (by simp only [State.applyWord, row, State.scanReq, wake, stays, if_true, Bool.false_eq_true, if_false]))
  · have row := rowOf_scanSrEnter hw ⟨stays, enter⟩
    exact congrArg Host.Outcome.next ((State.takeWord_fronted h row).trans
      (by simp only [State.applyWord, row, State.scanReq, State.askSr, stays, enter, if_true, Bool.false_eq_true, if_false]))

/-! ### The obligation -/

/-- Settles O49: the verbs by State.runVerb_body, self-refresh by State.enterSr_shows, commits by State.verbCommit_waits. -/
theorem scanAndPipeVerbsComplete : Obligations.ScanAndPipeVerbsComplete := by
  unfold Obligations.ScanAndPipeVerbsComplete
  refine ⟨?load, ?set, fun _ _ _ h ha => congrArg Host.Outcome.next (State.runVerb_body _ h ha), ?refresh, ?freeze, ?stats,
    fun _ _ _ h ha => congrArg Host.Outcome.next (State.runVerb_body _ h ha), fun p s s1 w h => exec_scanWrite h,
    fun _ => State.wakeSr_inside, fun _ => State.wakeSr_outside, fun s _ => s.enterSr_shows, ?pipeLoad, ?pipeSet, ?table, ?commit,
    ?bright, ?unheld, fun _ _ _ _ one verb code h1 => State.serveLoads_bright one verb code h1,
    fun _ _ _ h ha => congrArg Host.Outcome.next (State.runVerb_body _ h ha), fun _ _ _ _ h go => exec_commitGo h go, ?go,
    fun s v f page x h cur => s.verbCommit_waits h cur x⟩
  case load =>
    intro ring s v h ha
    exact congrArg Host.Outcome.next ((State.runVerb_body _ h ha).trans (s.loadPanel_scan v))
  case set =>
    intro ring s v h ha offset fits
    have code := admitted_code h
    exact congrArg Host.Outcome.next ((State.runVerb_body _ h (by simp [ha, offset, fits])).trans
      (State.stageVerb_word 9 (by rw [code]; decide) (by rw [code]; decide) (scanOffset_notFace offset)))
  case refresh =>
    intro ring s s1 v h ha h1
    refine ⟨fun stays => ?_, fun enter allowed running => ?_, fun enter refused => ?_⟩
    · exact congrArg Host.Outcome.next ((State.runVerb_body _ h ha).trans
        (by simp only [← h1, stays, Bool.false_eq_true, if_false]))
    · exact congrArg Host.Outcome.next ((State.runVerb_body _ h ha).trans
        (by simp only [← h1, enter, State.askSr, allowed, running, Bool.and_self, if_true]))
    · exact congrArg Host.Outcome.next ((State.runVerb_body _ h ha).trans
        (by simp only [← h1, enter, State.askSr, refused, Bool.and_false, Bool.false_eq_true, if_false, if_true]))
  case freeze =>
    intro ring s v h ha
    obtain ⟨frozen, hidden, others⟩ := State.clearFrozen_shows (s := s) (within_and (argsWithin_first ha))
    exact ⟨_, congrArg Host.Outcome.next (State.runVerb_body _ h ha), frozen, hidden, others⟩
  case stats =>
    intro ring s v h ha group
    exact congrArg Host.Outcome.next (State.runVerb_body _ h (by simp [ha, group]))
  case pipeLoad =>
    intro ring s v h ha
    exact congrArg Host.Outcome.next ((State.runVerb_body _ h ha).trans (State.pipeLoad_profile (admitted_code h)))
  case pipeSet =>
    intro ring s v h ha low high fits
    have code := admitted_code h
    have notFace : (v.arg 0).toNat ≠ Reg.FACE_REQ := by
      simp only [Reg.FACE_REQ]
      omega
    exact congrArg Host.Outcome.next ((State.runVerb_body _ h (by simp [ha, low, high, fits])).trans
      (State.stageVerb_word 10 (by rw [code]; decide) (by rw [code]; decide) notFace))
  case table =>
    rintro ring s v a n h rfl rfl first second one five low high words
    have fits : (List.range 5).all (fun i => if i < field (v.arg 1) 2 0 then aliasOk ((v.arg 0).toNat + 4 * i) (v.arg (2 + i))
        else v.arg (2 + i) == 0#32) = true := by
      rw [List.all_eq_true]
      intro i hi
      have word := words i (List.mem_range.1 hi)
      by_cases below : i < field (v.arg 1) 2 0
      · simp only [if_pos below] at word ⊢
        exact word
      · simp only [if_neg below] at word ⊢
        simp [word]
    exact congrArg Host.Outcome.next ((State.runVerb_body _ h (by simp only [first, second, one, five, low, high, fits,
      decide_true, Bool.and_self])).trans (State.stageVerb_table 10 (admitted_code h)))
  case commit => exact fun _ _ _ h ha => congrArg Host.Outcome.next (State.runVerb_body _ h ha)
  case bright =>
    intro ring s s1 v h ha h1
    exact congrArg Host.Outcome.next ((State.runVerb_body _ h ha).trans (State.pipeLoad_bright (admitted_code h) h1))
  case unheld =>
    intro s none
    rw [State.serveLoads, none, List.foldl_nil]
  case go =>
    intro s page h
    refine ⟨fun pending => if_pos pending, fun free => ?_⟩
    have goes : s.goCommit page = s.addCommit page none := if_neg (Bool.eq_false_iff.1 free)
    rw [goes]
    exact s.addCommit_pending h none

end Sys2Proof.Machine
end

section
/-!
PROOF of the order of the panel's rails (15: R361 to R364, Tables 15-7 and 15-8).
-/

namespace Sys2Proof.Machine

/-! ### What leaves pads, STAVE and scan-out alone -/

/-- Pads, STAVE's own state and scan-out's own state stand as before. -/
structure PanelKept (s t : State) : Prop where
  pins : t.pins = s.pins
  stave : t.stave = s.stave
  scan : t.scan = s.scan

theorem PanelKept.refl (s : State) : PanelKept s s := ⟨rfl, rfl, rfl⟩

theorem PanelKept.trans {s t u : State} (h : PanelKept s t) (k : PanelKept t u) : PanelKept s u :=
  ⟨k.pins.trans h.pins, k.stave.trans h.stave, k.scan.trans h.scan⟩

theorem PanelKept.foldl {α : Type} (l : List α) (op : State → α → State) (h : ∀ t a, a ∈ l → PanelKept t (op t a)) (s : State) :
    PanelKept s (l.foldl op s) :=
  List.foldlRecOn _ _ (motive := fun t : State => PanelKept s t) (.refl s) fun t ih a ha => ih.trans (h t a ha)

theorem PanelKept.raise (s : State) {e : Nat} (he : e < 128) (arg : Word) : PanelKept s (s.raise e arg) :=
  ⟨State.raise_pins s e he arg, State.raise_stave s e he arg, State.raise_scan s e he arg⟩

theorem State.complete_panelKept (s : State) (v : Verb) (st : Status) (res : List Word) : PanelKept s (s.complete v st res) := by
  rw [State.complete_only]
  exact ⟨rfl, rfl, rfl⟩

theorem State.completeRing_panelKept (s : State) (r : Nat) (st : Status) (res : List Word) : PanelKept s (s.completeRing r st res) := by
  rw [State.completeRing_only]
  exact ⟨rfl, rfl, rfl⟩

theorem State.answerCommit_panelKept (s : State) (q : BoundaryReq) (st : Status) (res : List Word) :
    PanelKept s (s.answerCommit q st res) := by
  unfold State.answerCommit
  split
  · split
    · split
      · exact s.completeRing_panelKept _ st _
      · exact .refl s
    · exact .refl s
  · exact .refl s

/-- A field that an evaluation finds DUE while scan-out is stopped has missed a push (R378). -/
def State.missNoted (s : State) (f : Nat) : State :=
  if s.faceDue f && !s.scan.running && s.cur != 4 then
    let m := Cells.get (fun _ => 0) s.face.miss f + 1
    let s2 := { s with face := { s.face with miss := Cells.put (fun _ => 0) s.face.miss f m } }
    if max 1 (s.ffld Reg.FACE_CFG 11 8) ≤ m ∧ !s2.flag Reg.FACE_STATUS (16 + f) then
      (s2.setFlag Reg.FACE_STATUS (16 + f) true).raise 99 (word (f + 256 * min 255 m))
    else s2
  else s

theorem State.evalField_eq (forced : Bool) (s : State) (f : Nat) : s.evalField forced f =
    if s.faceEn f then
      if !forced ∧ (s.missNoted f).fld (faceVal f) 26 0 = s.faceValue f ∧ !(s.missNoted f).faceDue f then s.missNoted f
      else (s.missNoted f).setDue f (s.faceValue f)
    else s := rfl

theorem State.missNoted_panelKept (s : State) (f : Nat) : PanelKept s (s.missNoted f) := by
  unfold State.missNoted
  split
  · simp only
    split
    · refine PanelKept.trans ?_ (.raise _ (by decide) _)
      exact ⟨rfl, rfl, rfl⟩
    · exact ⟨rfl, rfl, rfl⟩
  · exact .refl s

theorem State.evalField_panelKept (forced : Bool) (s : State) (f : Nat) : PanelKept s (s.evalField forced f) := by
  have missed := s.missNoted_panelKept f
  rw [State.evalField_eq]
  generalize s.missNoted f = t at missed ⊢
  split
  · split
    · exact missed
    · exact missed.trans ⟨rfl, rfl, rfl⟩
  · exact .refl s

theorem State.stageEntry_panelKept (s : State) (v : Verb) : PanelKept s (s.stageEntry v) := by
  unfold State.stageEntry
  simp only
  split
  · exact ⟨rfl, rfl, rfl⟩
  · split
    · exact .foldl _ (fun (s : State) i => s.stage ((v.arg 0).toNat + 4 * i) (v.arg (2 + i))) (fun _ _ _ => ⟨rfl, rfl, rfl⟩) s
    · split
      · split
        · exact .foldl _ _ (fun t f _ => t.evalField_panelKept true f) s
        · exact .refl s
      · exact ⟨rfl, rfl, rfl⟩

theorem State.serveStaging_panelKept (s : State) (page : Nat) : PanelKept s (s.serveStaging page) := by
  refine .foldl _ _ (fun t r _ => ?_) s
  split
  · split
    · exact .refl t
    · exact (t.stageEntry_panelKept _).trans (State.complete_panelKept _ _ _ _)
  · exact .refl t

theorem State.endCommit_panelKept (s : State) (page : Nat) (st : Status) (res : List Word) : PanelKept s (s.endCommit page st res) := by
  unfold State.endCommit
  simp only
  refine PanelKept.trans ?_ (State.serveStaging_panelKept _ page)
  refine PanelKept.trans ?_ (.foldl _ _ (fun t q _ => t.answerCommit_panelKept q st res) _)
  exact ⟨rfl, rfl, rfl⟩

/-! ### Rails rise (P1 to P4) -/

theorem railHigh (x m : BitVec 4) : (x &&& ~~~m) ||| (0xF#4 &&& m) = x ||| m := by
  revert x m
  decide

theorem railLow (x m : BitVec 4) : (x &&& ~~~m) ||| (0#4 &&& m) = x &&& ~~~m := by
  revert x m
  decide

theorem State.drivePanel_only (s : State) (m v : BitVec 4) : ∃ regs latched, s.drivePanel m v =
    { s with regs := regs, pins := { s.pins with pnlEn := (s.pins.pnlEn &&& ~~~m) ||| (v &&& m), pnlLatched := latched } } :=
  ⟨_, _, rfl⟩

theorem State.panel_drivePanel (s : State) (m v : BitVec 4) : (s.drivePanel m v).panel = s.panel := by
  unfold State.drivePanel State.panel
  simp only
  rw [State.fld_setFld_other _ _ _ _ _ _ _ _ (by decide) (by decide) (.inr (.inr (by decide))),
    State.fld_setFld_other _ _ _ _ _ _ _ _ (by decide) (by decide) (.inl (by decide))]
  exact State.fld_of_regs rfl _ _ _

/-- Training begins. -/
theorem State.startTraining_shows (s : State) (cause : Nat) : (s.startTraining cause).link = 1 ∧
    (s.startTraining cause).stave.step = s.stave.step ∧ (s.startTraining cause).pins = s.pins ∧ storesSame s (s.startTraining cause) := by
  refine ⟨?_, rfl, rfl, rfl, rfl, rfl, rfl⟩
  have linked : ((s.setLink 1).bump Reg.STAVE_LINK_STAT 15 0).fld Reg.STAVE_STATUS 2 0 = 1 := by
    rw [State.bump, State.fld_setFld_other _ _ _ _ _ _ _ _ (by decide) (by decide) (.inl (by decide)), State.setLink,
      State.fld_setFld _ _ _ _ _ (by decide) (by decide)] <;> rfl
  exact linked

theorem State.enterP4_shows (s : State) : s.enterP4.pins = s.pins ∧ storesSame s s.enterP4 ∧
    (s.fflag Reg.STAVE_CRACK_CFG 31 = true → s.enterP4.stave.step = .crack ∧
      s.enterP4.stave.checking = if (s.item 7).measuring then none else some s.edge) ∧
    (s.fflag Reg.STAVE_CRACK_CFG 31 = false → s.enterP4.stave.step = .training ∧ s.enterP4.link = 1) := by
  unfold State.enterP4
  split
  next checks => exact ⟨rfl, ⟨rfl, rfl, rfl, rfl⟩, fun _ => ⟨rfl, rfl⟩, fun none => absurd (checks.symm.trans none) (by decide)⟩
  next none =>
    obtain ⟨link, step, pins, stores⟩ := (s.setStave { s.stave with step := .training }).startTraining_shows 0
    exact ⟨pins, stores, fun checks => absurd checks none, fun _ => ⟨step, link⟩⟩

theorem State.enterP3_shows (s : State) : s.enterP3.pins = s.pins ∧ storesSame s s.enterP3 ∧
    (s.pnlPg = false → s.enterP3.stave.step = .waitPg ∧ s.enterP3.stave.stepFrom = s.edge) ∧
    (s.pnlPg = true → s.fflag Reg.STAVE_CRACK_CFG 31 = true → s.enterP3.stave.step = .crack ∧
      s.enterP3.stave.checking = if (s.item 7).measuring then none else some s.edge) ∧
    (s.pnlPg = true → s.fflag Reg.STAVE_CRACK_CFG 31 = false → s.enterP3.stave.step = .training ∧ s.enterP3.link = 1) := by
  have good : (s.setStave { s.stave with step := .waitPg, stepFrom := s.edge }).pnlPg = s.pnlPg := rfl
  unfold State.enterP3
  simp only [good]
  split
  next high =>
    obtain ⟨pins, stores, crack, training⟩ := (s.setStave { s.stave with step := .waitPg, stepFrom := s.edge }).enterP4_shows
    exact ⟨pins, stores, fun low => absurd (high.symm.trans low) (by decide), fun _ => crack, fun _ => training⟩
  next low =>
    exact ⟨rfl, ⟨rfl, rfl, rfl, rfl⟩, fun _ => ⟨rfl, rfl⟩, fun high => absurd high low, fun high => absurd high low⟩

/-! ### Rails fall (F3 to F5) -/

/-- F3 with rails to lower. -/
theorem State.enterF3_lowers {s : State} (used : s.usedRails ≠ []) (oneTick : Bool) :
    (s.enterF3 oneTick).stave = { s.stave with
        step := .lowering (s.usedRails.reverse.map (s.railOffDelay oneTick)), stepFrom := s.edge, gao := false, checking := none } ∧
      (s.enterF3 oneTick).link = (if s.link = 4 then 4 else 0) ∧ (s.enterF3 oneTick).pins = s.pins ∧ storesSame s (s.enterF3 oneTick) ∧
      ∀ a, a ≠ Reg.STAVE_STATUS → (s.enterF3 oneTick).reg a = s.reg a := by
  have some : (s.usedRails.reverse.map (s.railOffDelay oneTick)).isEmpty = false := by
    rw [List.isEmpty_eq_false_iff]
    simpa using used
  have link : (s.setStave { s.stave with
      step := .lowering (s.usedRails.reverse.map (s.railOffDelay oneTick)), stepFrom := s.edge, gao := false,
      checking := none }).link = s.link := State.fld_of_regs rfl _ _ _
  unfold State.enterF3
  simp only [some, Bool.false_eq_true, if_false, link]
  split
  next failed => exact ⟨rfl, link.trans failed, rfl, ⟨rfl, rfl, rfl, rfl⟩, fun _ _ => rfl⟩
  next up =>
    refine ⟨rfl, ?_, rfl, ⟨rfl, rfl, rfl, rfl⟩, fun a other => State.reg_setFld_other _ _ _ _ _ _ other⟩
    rw [State.link, State.setLink, State.fld_setFld _ _ _ _ _ (by decide) (by decide), Nat.zero_mod]

theorem State.endG3_only (s : State) : ∃ x, s.endG3 = { s with scan := x } := by
  unfold State.endG3
  split
  · exact ⟨_, rfl⟩
  · exact ⟨_, rfl⟩

theorem State.faultOff_shows {s : State} (used : s.usedRails ≠ []) {c : Nat} (hc : c < 16) :
    (s.faultOff c).stave.step = .lowering (s.usedRails.reverse.map (fun n => (n, 1))) ∧ (s.faultOff c).stave.offFault = true ∧
    (s.faultOff c).stave.gao = false ∧ (s.faultOff c).fld Reg.STAVE_PWR_STATE 7 4 = c ∧
    (s.faultOff c).link = (if s.link = 4 then 4 else 0) ∧ (s.faultOff c).pins = s.pins ∧ storesSame s (s.faultOff c) := by
  have used' : ((s.setStave { s.stave with offFault := true }).setCause c).usedRails ≠ [] := used
  have before : ((s.setStave { s.stave with offFault := true }).setCause c).link = s.link :=
    (State.fld_setFld_other _ _ _ _ _ _ _ _ (by decide) (by decide) (.inl (by decide))).trans (State.fld_of_regs rfl _ _ _)
  obtain ⟨stave, link, pins, stores, others⟩ := State.enterF3_lowers used' true
  obtain ⟨_, ends⟩ := (((s.setStave { s.stave with offFault := true }).setCause c).enterF3 true).endG3_only
  have cause : (((s.setStave { s.stave with offFault := true }).setCause c).enterF3 true).fld Reg.STAVE_PWR_STATE 7 4 = c := by
    rw [State.fld, others _ (by decide), ← State.fld, State.setCause, State.fld_setFld _ _ _ _ _ (by decide) (by decide)]
    exact Nat.mod_eq_of_lt hc
  rw [before] at link
  rw [State.faultOff, ends]
  exact ⟨congrArg Stave.step stave, congrArg Stave.offFault stave, congrArg Stave.gao stave, cause, link, pins, stores⟩

theorem State.setPanel_panelKept (s : State) (c : Nat) : PanelKept s (s.setPanel c) := by
  unfold State.setPanel
  split
  · exact .refl s
  · refine PanelKept.trans ?_ (.raise _ (by decide) _)
    exact ⟨rfl, rfl, rfl⟩

theorem State.panel_setPanel (s : State) {c : Nat} (hc : c < 8) : (s.setPanel c).panel = c := by
  unfold State.setPanel
  split
  next same => exact same
  next other =>
    refine (State.fld_raise _ 94 (by decide) _ _ _ _ (by decide)).trans ?_
    rw [State.fld_setFld _ _ _ _ _ (by decide) (by decide)]
    exact Nat.mod_eq_of_lt hc

theorem State.setPanel_stores (s : State) (c : Nat) : storesSame s (s.setPanel c) := (s.setPanel_scanKept c).stores

/-- F5 before a transition that it may end. -/
def State.poweredOff (s : State) : State :=
  let s1 := (s.setStave { s.stave with step := .none }).setPanel (if s.stave.offFault then 5 else 0)
  s1.completeAll .panelOn .halted [s1.reg Reg.STAVE_PWR_STATE]

theorem State.poweredOff_shows (s : State) : s.poweredOff.pins = s.pins ∧ s.poweredOff.stave.step = .none ∧
    s.poweredOff.panel = (if s.stave.offFault then 5 else 0) ∧ s.poweredOff.scan = s.scan ∧ storesSame s s.poweredOff := by
  have small : (if s.stave.offFault then 5 else 0) < 8 := by split <;> decide
  have kept := (s.setStave { s.stave with step := .none }).setPanel_panelKept (if s.stave.offFault then 5 else 0)
  have panel := (s.setStave { s.stave with step := .none }).panel_setPanel small
  have stores := (s.setStave { s.stave with step := .none }).setPanel_stores (if s.stave.offFault then 5 else 0)
  rw [State.poweredOff, State.completeAll_only]
  exact ⟨kept.pins, congrArg Stave.step kept.stave, panel, kept.scan, stores⟩

theorem State.endOffTransition_off {s : State} (off : s.scan.trans = .off) : s.endOffTransition.pins = s.pins ∧
    s.endOffTransition.stave = s.stave ∧ s.endOffTransition.scan.trans = .none ∧ s.endOffTransition.scan.running = false := by
  unfold State.endOffTransition
  rw [if_pos off]
  simp only
  have kept := PanelKept.trans (PanelKept.foldl s.scan.transPages (fun t p => t.endCommit p .ok [s.reg Reg.SCAN_FRAME])
    (fun t p _ => t.endCommit_panelKept p .ok _)
    (({ s with scan := { s.scan with trans := .none, running := false, transPages := [] } } : State).setFlag Reg.SCAN_STATE 10 false
      |>.setFlag Reg.SCAN_STATE 11 true)) (.raise _ (e := 80) (by decide) (s.reg Reg.SCAN_FRAME))
  exact ⟨kept.pins, kept.stave, congrArg Scan.trans kept.scan, congrArg Scan.running kept.scan⟩

/-! ### The rail commands -/

/-- Rail n driven high, and the next step awaited. -/
def State.railUp (s : State) (n : Nat) (rest : List (Nat × Nat)) : State :=
  (s.drivePanel (BitVec.ofNat 4 (2 ^ n)) 0xF#4).setStave { s.stave with step := .raising rest, stepFrom := s.edge }

/-- Rail n driven low, and the next step awaited. -/
def State.railDown (s : State) (n : Nat) (rest : List (Nat × Nat)) : State :=
  (s.drivePanel (BitVec.ofNat 4 (2 ^ n)) 0#4).setStave { s.stave with step := .lowering rest, stepFrom := s.edge }

theorem State.railUp_pins (s : State) (n : Nat) (rest : List (Nat × Nat)) :
    (s.railUp n rest).pins.pnlEn = s.pins.pnlEn ||| BitVec.ofNat 4 (2 ^ n) ∧ storesSame s (s.railUp n rest) := by
  obtain ⟨_, _, frame⟩ := s.drivePanel_only (BitVec.ofNat 4 (2 ^ n)) 0xF#4
  rw [State.railUp, frame]
  exact ⟨railHigh _ _, rfl, rfl, rfl, rfl⟩

theorem State.railDown_pins (s : State) (n : Nat) (rest : List (Nat × Nat)) :
    (s.railDown n rest).pins.pnlEn = s.pins.pnlEn &&& ~~~(BitVec.ofNat 4 (2 ^ n)) ∧ storesSame s (s.railDown n rest) ∧
      (s.railDown n rest).scan = s.scan := by
  obtain ⟨_, _, frame⟩ := s.drivePanel_only (BitVec.ofNat 4 (2 ^ n)) 0#4
  rw [State.railDown, frame]
  exact ⟨railLow _ _, ⟨rfl, rfl, rfl, rfl⟩, rfl⟩

section
variable {s : State} {n wait : Nat} {rest : List (Nat × Nat)}

theorem execPanelRailOn_raising (h : s.stave.step = .raising ((n, wait) :: rest)) :
    exec .panelRailOn s = .next (if s.coreOn ∧ wait ≤ s.elapsed s.stave.stepFrom then
      (if rest.isEmpty then (s.railUp n rest).enterP3 else s.railUp n rest) else s) :=
  congrArg Host.Outcome.next (by rw [h]; rfl)

theorem execPanelRailOff_lowering (h : s.stave.step = .lowering ((n, wait) :: rest)) :
    exec .panelRailOff s = .next (if s.coreOn ∧ wait ≤ s.elapsed s.stave.stepFrom then
      (if rest.isEmpty then (s.railDown n rest).endPowerOff else s.railDown n rest) else s) :=
  congrArg Host.Outcome.next (by rw [h]; rfl)

/-- A rail is not due yet. -/
theorem not_due (h : s.coreOn = false ∨ s.elapsed s.stave.stepFrom < wait) :
    ¬(s.coreOn = true ∧ wait ≤ s.elapsed s.stave.stepFrom) := by
  rintro ⟨on, due⟩
  rcases h with off | early
  · exact absurd (off.symm.trans on) (by decide)
  · exact absurd due (Nat.not_le.2 early)

end

/-- Settles O51: rails rise by State.railUp_pins and State.enterP3_shows, and fall by State.enterF3_lowers and
State.poweredOff_shows. -/
theorem panelRailsFollowTheirOrder : Obligations.PanelRailsFollowTheirOrder := by
  unfold Obligations.PanelRailsFollowTheirOrder
  refine ⟨?rise, ?noRise, ?good, fun s on waits late => congrArg Host.Outcome.next (if_pos ⟨on, waits, late⟩), ?noTimeout, ?loss,
    fun s c used hc => State.faultOff_shows used hc, ?discharged, ?noDischarge, ?fall, ?noFall⟩
  case rise =>
    intro s n wait rest h
    rw [execPanelRailOn_raising h]
    refine ⟨fun early => congrArg Host.Outcome.next (if_neg (not_due early)),
      fun on due => ⟨_, congrArg Host.Outcome.next (if_pos ⟨on, due⟩), ?_⟩⟩
    obtain ⟨pins, stores⟩ := s.railUp_pins n rest
    cases rest with
    | cons next rest =>
      exact ⟨pins, stores, fun _ => ⟨rfl, rfl⟩, fun e => absurd e (List.cons_ne_nil _ _), fun e => absurd e (List.cons_ne_nil _ _),
        fun e => absurd e (List.cons_ne_nil _ _)⟩
    | nil =>
      obtain ⟨pins', stores', low, crack, training⟩ := (s.railUp n []).enterP3_shows
      exact ⟨(congrArg Pins.pnlEn pins').trans pins, storesSame.trans stores stores', fun e => absurd rfl e, fun _ => low,
        fun _ => crack, fun _ => training⟩
  case noRise =>
    intro s other
    refine congrArg Host.Outcome.next ?_
    split
    · rename_i h
      exact absurd h (other _)
    · rfl
  case good =>
    intro s
    obtain ⟨pins, stores, crack, training⟩ := ({ s with pins := { s.pins with pg := s.pins.pg ||| 0x1000#13 } } : State).enterP4_shows
    have high : (s.pins.pg ||| 0x1000#13).getLsbD 12 = true := by
      rw [BitVec.getLsbD_or, show (0x1000#13).getLsbD 12 = true by decide, Bool.or_true]
    by_cases waits : s.coreOn = true ∧ s.stave.step = .waitPg
    · refine ⟨_, congrArg Host.Outcome.next (if_pos waits), ?_, by rw [pins], stores, ?_, fun _ _ => ?_, fun _ _ => training⟩
      · rw [State.pnlPg, pins]
        exact high
      · rintro (off | other)
        · exact absurd (off.symm.trans waits.1) (by decide)
        · exact absurd waits.2 other
      · exact fun checks => (crack checks).1
    · exact ⟨_, congrArg Host.Outcome.next (if_neg waits), high, rfl, ⟨rfl, rfl, rfl, rfl⟩, fun _ => ⟨rfl, rfl⟩,
        fun on step => absurd ⟨on, step⟩ waits, fun on step => absurd ⟨on, step⟩ waits⟩
  case noTimeout =>
    intro s h
    refine congrArg Host.Outcome.next (if_neg ?_)
    rintro ⟨on, waits, late⟩
    rcases h with off | other | early
    · exact absurd (off.symm.trans on) (by decide)
    · exact other waits
    · exact absurd late (Nat.not_le.2 early)
  case loss =>
    rintro s u rfl
    refine ⟨fun on lost => congrArg Host.Outcome.next (if_pos ⟨on, lost⟩), fun h => congrArg Host.Outcome.next (if_neg ?_)⟩
    rintro ⟨on, lost⟩
    rcases h with off | ⟨noCrack, noTraining, calm⟩
    · exact absurd (off.symm.trans on) (by decide)
    · rcases lost with crack | training | ⟨idle, shown⟩
      · exact noCrack crack
      · exact noTraining training
      · rcases calm with busy | ⟨notOn, notHeld⟩
        · exact busy idle
        · rcases shown with isOn | isHeld
          · exact notOn isOn
          · exact notHeld isHeld
  case discharged =>
    intro s on step late used
    obtain ⟨stave, link, pins, stores, -⟩ := State.enterF3_lowers used false
    exact ⟨_, congrArg Host.Outcome.next (if_pos ⟨on, step, late⟩), congrArg Stave.step stave, congrArg Stave.gao stave,
      congrArg Stave.stepFrom stave, link, pins, stores⟩
  case noDischarge =>
    intro s h
    refine congrArg Host.Outcome.next (if_neg ?_)
    rintro ⟨on, step, late⟩
    rcases h with off | other | early
    · exact absurd (off.symm.trans on) (by decide)
    · exact other step
    · exact absurd (early.symm.trans late) (by decide)
  case fall =>
    intro s n wait rest h
    rw [execPanelRailOff_lowering h]
    obtain ⟨pins, stores, scan⟩ := s.railDown_pins n rest
    refine ⟨fun early => congrArg Host.Outcome.next (if_neg (not_due early)), fun on due more => ?_, fun on due last goesOn => ?_,
      fun on due last ends => ?_⟩
    · refine ⟨_, congrArg Host.Outcome.next ((if_pos ⟨on, due⟩).trans (if_neg (by simpa using more))), pins, rfl, rfl, ?_, stores⟩
      exact s.panel_drivePanel _ _
    · subst last
      obtain ⟨pins', step, panel, scan', stores'⟩ := (s.railDown n []).poweredOff_shows
      have stays : (s.railDown n []).endPowerOff = (s.railDown n []).poweredOff :=
        if_neg (show ¬(s.railDown n []).poweredOff.scan.trans = .off by rw [scan', scan]; exact goesOn)
      refine ⟨_, congrArg Host.Outcome.next ((if_pos ⟨on, due⟩).trans ((if_pos rfl).trans stays)), ?_, step, panel,
        storesSame.trans stores stores'⟩
      rw [pins', pins]
    · subst last
      obtain ⟨pins', step, panel, scan', stores'⟩ := (s.railDown n []).poweredOff_shows
      obtain ⟨pinsT, stave, trans, running⟩ := State.endOffTransition_off (s := (s.railDown n []).poweredOff)
        (by rw [scan', scan]; exact ends)
      refine ⟨_, congrArg Host.Outcome.next ((if_pos ⟨on, due⟩).trans (if_pos rfl)), ?_, ?_, trans, running⟩
      · exact (congrArg Pins.pnlEn pinsT).trans ((congrArg Pins.pnlEn pins').trans pins)
      · exact (congrArg Stave.step stave).trans step
  case noFall =>
    intro s idle
    refine congrArg Host.Outcome.next ?_
    split
    · rename_i h
      rw [State.lowering, h] at idle
      exact (Bool.false_ne_true idle.symm).elim
    · rfl

end Sys2Proof.Machine
end

section
/-!
REFUTATION of what is said of WALL_HI after a write (16, Table 16-5): the statements name every state, and where the upper half of
the register, which has no field, is not 0, a host write keeps it (R1, Table 0-4). No step brings the part to such a state.
-/

namespace Sys2Proof.Machine

/-- WALL_HI with bit 16 set, which no field of it has. -/
def State.oddWall : State := State.reset.setReg Reg.FACE_WALL_HI 0x10000#32

/-- A host write of it keeps that bit. -/
theorem hostWord_oddWall : hostWord Reg.FACE_WALL_HI 0x10000#32 0#32 = 0x10000#32 := by decide

/-- A write of 0 to WALL_HI, which has crossed. -/
def wallWord : BufWord := { client := 0, off := Reg.FACE_WALL_HI, val := 0#32 }

/-- The part with that write to be applied. -/
def State.wallWritten : State := { State.oddWall with crossing := [{ port := .a, word := wallWord, edges := 0 }] }

/-- Refutes O53: a write of 0 to WALL_HI with bit 16 set leaves that bit. -/
theorem not_faceEvaluatesAndShows : ¬ Obligations.FaceEvaluatesAndShows := by
  unfold Obligations.FaceEvaluatesAndShows
  rintro ⟨_, _, _, _, _, _, _, _, _, written, _⟩
  have taken : fronted State.wallWritten .a wallWord State.oddWall = true := by decide
  obtain ⟨t, runs, _, _, value, _⟩ := (written .a State.wallWritten State.oddWall wallWord taken).1 rfl
  have applied : exec (.wallHiWrite .a) State.wallWritten = .next (State.oddWall.writeWallHi 0#32) :=
    congrArg Host.Outcome.next ((State.takeWord_fronted taken (rowOf_wallHi rfl)).trans
      (by simp only [State.applyWord, rowOf_wallHi (w := wallWord) rfl]; rfl))
  have kept : (State.oddWall.writeWallHi 0#32).reg Reg.FACE_WALL_HI = 0x10000#32 := by decide
  rw [applied] at runs
  obtain rfl := Host.Outcome.next.inj runs
  rw [kept] at value
  exact absurd value (by decide)

/-- FACE_WALL with 0 on ring 0. -/
def wallVerb : Verb := { ring := 0, owner := 0, words := [0x8E#32], index := 0 }

/-- The part with that verb in execution. -/
def State.wallAsked : State := { State.oddWall with rings := [(0, { cur := some { words := [0x8E#32], index := 0 } })] }

/-- The part once WALL is written. -/
def State.wallGiven : State := (State.wallAsked.setReg Reg.FACE_WALL_LO 0#32).writeWallHi 0#32

theorem wallGiven_reg : State.wallGiven.reg Reg.FACE_WALL_HI = 0x10000#32 := by decide

theorem wallAsked_admitted : admitted State.wallAsked 0#8 0x8E (pageRight 12) wallVerb = true := by decide

theorem exec_faceWall {s : State} {ring : BitVec 8} {v : Verb} (h : admitted s ring 0x8E (pageRight 12) v = true)
    (ha : v.argsWithin [0xFFFFFFFF#32, 0xFFFF#32] = true) : ∃ res, exec (.faceWall ring) s =
      .next (((s.setReg Reg.FACE_WALL_LO (v.arg 0)).writeWallHi (v.arg 1)).complete v .ok res) :=
  ⟨_, congrArg Host.Outcome.next (State.runVerb_body _ h ha)⟩

theorem wallVerb_arg : wallVerb.arg 0 = 0#32 ∧ wallVerb.arg 1 = 0#32 := by decide

theorem wallAsked_runs : ∃ res, exec (.faceWall 0#8) State.wallAsked = .next (State.wallGiven.complete wallVerb .ok res) := by
  obtain ⟨res, runs⟩ := exec_faceWall wallAsked_admitted (by decide)
  rw [wallVerb_arg.1, wallVerb_arg.2] at runs
  exact ⟨res, runs⟩

/-- Refutes O54: FACE_WALL with 0 and bit 16 of WALL_HI set leaves that bit. -/
theorem not_faceVerbsComplete : ¬ Obligations.FaceVerbsComplete := by
  unfold Obligations.FaceVerbsComplete
  rintro ⟨_, _, _, wall, _⟩
  obtain ⟨t, runs, _, _, _, value, _⟩ := wall 0#8 State.wallAsked wallVerb wallAsked_admitted (by decide)
  obtain ⟨res, applied⟩ := wallAsked_runs
  have same := congrArg (fun u : State => u.reg Reg.FACE_WALL_HI) (Host.Outcome.next.inj (applied.symm.trans runs))
  simp only [State.reg_complete, wallGiven_reg, value] at same
  exact absurd same (by decide)

end Sys2Proof.Machine
end

section
/-!
PROOF of what an event's raise does: its route, its pending flag, and what counts it (R26, R27, R136, R144, R145).
-/

namespace Sys2Proof.Machine

/-! ### Routes -/

theorem State.setEvPend_counting (s : State) (e : Nat) : (s.setEvPend e).counting = s.counting := rfl

theorem State.post_counting (s : State) (r : Nat) (e : OutEntry) : (s.post r e).counting = s.counting := rfl

/-- Raises to be counted stand as before: routes do not touch them. -/
theorem State.deliverFlag_counting (s : State) (f : EvFlag) : (s.deliverFlag f).counting = s.counting := by
  simp only [State.deliverFlag, apply_ite State.counting, State.post_counting, State.setEvPend_counting, ite_self]

theorem State.routeRaise_counting (s : State) (e : Nat) (arg : Word) : (s.routeRaise e arg).counting = s.counting := by
  simp only [State.routeRaise, apply_ite State.counting, State.deliverFlag_counting, State.setEvPend_counting, ite_self]

theorem State.raise_counting (s : State) (e : Nat) (arg : Word) :
    (s.raise e arg).counting = s.counting ++ [⟨e, arg, if coreEvent e then 2 else 1⟩] := by
  unfold State.raise
  simp only [s.routeRaise_counting e arg]

/-- CORE runs and no flag of the event is pending: its route alone decides. -/
theorem State.routeRaise_fresh {s : State} {e : Nat} (arg : Word) (on : s.coreOn = true) (fresh : ∀ g ∈ s.flags, g.event ≠ e) :
    s.routeRaise e arg = s.deliverFlag { event := e, count := 1, arg := arg, tick := s.metro, ringOnly := false } := by
  have unheld : s.flags.any (fun g => g.event == e) = false :=
    List.any_eq_false.2 fun g hg same => fresh g hg (beq_iff_eq.1 same)
  unfold State.routeRaise
  rw [if_pos on, unheld]
  exact if_neg Bool.false_ne_true

/-! ### Pending flags -/

/-- A further occurrence changes the event's own flag and no other. -/
theorem holdFlag_again {fs : List EvFlag} {f g : EvFlag} (held : g ∈ fs) (same : g.event = f.event)
    (once : (fs.map (·.event)).Nodup) : (holdFlag fs f).map (·.event) = fs.map (·.event) ∧
      { g with count := satAdd 15 g.count f.count, ringOnly := g.ringOnly && f.ringOnly } ∈ holdFlag fs f := by
  induction fs with
  | nil => exact absurd held List.not_mem_nil
  | cons h rest ih =>
    obtain ⟨new, onceRest⟩ := List.nodup_cons.1 once
    by_cases here : h.event = f.event
    · have own : g = h := by
        rcases List.mem_cons.1 held with own | later
        · exact own
        · exact absurd (List.mem_map.2 ⟨g, later, same.trans here.symm⟩) new
      simp [holdFlag, here, own]
    · have later : g ∈ rest := (List.mem_cons.1 held).resolve_left fun own => here (own ▸ same)
      have further : rest.any (fun h => h.event == f.event) = true := List.any_eq_true.2 ⟨g, later, beq_iff_eq.2 same⟩
      obtain ⟨events, member⟩ := ih later onceRest
      have shape : holdFlag (h :: rest) f = h :: holdFlag rest f := by
        rw [holdFlag, if_neg here, if_pos further]
      rw [shape]
      exact ⟨congrArg (h.event :: ·) events, List.mem_cons_of_mem h member⟩

/-- A first occurrence joins the flags. -/
theorem holdFlag_first {fs : List EvFlag} {f : EvFlag} (fresh : ∀ g ∈ fs, g.event ≠ f.event) :
    (holdFlag fs f).length = fs.length + 1 ∧ f ∈ holdFlag fs f := by
  induction fs with
  | nil => exact ⟨rfl, List.mem_singleton_self f⟩
  | cons h rest ih =>
    have freshRest : ∀ g ∈ rest, g.event ≠ f.event := fun g hg => fresh g (List.mem_cons_of_mem h hg)
    have noneHeld : ¬ rest.any (fun h => h.event == f.event) = true := by
      rw [List.any_eq_true]
      rintro ⟨g, hg, same⟩
      exact freshRest g hg (beq_iff_eq.1 same)
    rw [holdFlag, if_neg (fresh h List.mem_cons_self), if_neg noneHeld]
    split
    · exact ⟨rfl, List.mem_cons_self⟩
    · obtain ⟨longer, member⟩ := ih freshRest
      exact ⟨congrArg Nat.succ longer, List.mem_cons_of_mem h member⟩

/-! ### Counts of the task inputs -/

/-- The number of an input names its task and its place. -/
theorem input_split {t i : Nat} (hi : i < 4) : (4 * t + i) / 4 = t ∧ (4 * t + i) % 4 = i := by omega

theorem taskStat_ne_taskCnt {t : Nat} (u : Nat) : taskStat t ≠ taskCnt u := by
  simp only [taskStat, taskCnt, Reg.SCORE_TASK_STAT, Reg.SCORE_TASK_CNT]
  omega

/-- The input with one more raise, and its argument stored where ARG_EN asks for it. -/
def State.inputCounted (s : State) (t i n : Nat) (arg : Word) : State :=
  if s.flag (taskInput t i) 19 then (s.setFld (taskCnt t) (4 * i + 3) (4 * i) (min 15 (n + 1))).setBuf (s.fld (taskInput t i) 18 8) arg
  else s.setFld (taskCnt t) (4 * i + 3) (4 * i) (min 15 (n + 1))

theorem State.inputCounted_overflow (s : State) (t i n : Nat) (arg : Word) :
    (s.inputCounted t i n arg).flag (taskStat t) 13 = s.flag (taskStat t) 13 := by
  unfold State.inputCounted
  split
  · rw [State.flag_of_regs (State.setBuf_regs _ _ _)]
    exact congrArg (bit · 13) (State.reg_setFld_other _ _ _ _ _ _ (taskStat_ne_taskCnt t))
  · exact congrArg (bit · 13) (State.reg_setFld_other _ _ _ _ _ _ (taskStat_ne_taskCnt t))

theorem State.countInput_taken {s : State} {t i e : Nat} (arg : Word) (hi : i < 4) (takes : s.inputTakes t i e = true) :
    s.countInput e arg (4 * t + i) =
      if s.fld (taskCnt t) (4 * i + 3) (4 * i) = 15 ∧
          !(s.inputCounted t i (s.fld (taskCnt t) (4 * i + 3) (4 * i)) arg).flag (taskStat t) 13 then
        (((s.inputCounted t i (s.fld (taskCnt t) (4 * i + 3) (4 * i)) arg).setFlag (taskStat t) 13 true).setFlag Reg.SCORE_OVF t true).raise
          18 (word t)
      else s.inputCounted t i (s.fld (taskCnt t) (4 * i + 3) (4 * i)) arg := by
  obtain ⟨task, place⟩ := input_split (t := t) hi
  unfold State.countInput
  rw [task, place]
  exact if_pos takes

theorem State.countInput_ignored {s : State} {t i e : Nat} (arg : Word) (hi : i < 4) (ignored : s.inputTakes t i e = false) :
    s.countInput e arg (4 * t + i) = s := by
  obtain ⟨task, place⟩ := input_split (t := t) hi
  unfold State.countInput
  rw [task, place]
  exact if_neg (by rw [ignored]; exact Bool.false_ne_true)

/-- Settles O58: the raise by its routes, the flags by the list that holds them, the inputs by their counts. -/
theorem eventsAreRoutedOrHeld : Obligations.EventsAreRoutedOrHeld := by
  unfold Obligations.EventsAreRoutedOrHeld
  refine ⟨?raised, ?held, ?routed, fun _ _ _ => holdFlag_again, fun _ _ => holdFlag_first, ?counted⟩
  case raised =>
    intro s e arg he
    exact ⟨s.raise_stores he arg, s.raise_force e he arg, s.reg_raise e he arg, s.raise_pins e he arg, s.raise_boot e he arg,
      s.raise_ladder e he arg, s.raise_pending e he arg, s.raise_counting e arg⟩
  case held =>
    intro s e arg stopped
    unfold State.routeRaise
    rw [stopped]
    exact if_neg Bool.false_ne_true
  case routed =>
    intro s e arg w on fresh route
    rw [State.routeRaise_fresh arg on fresh]
    have word : s.route e = w := route.symm
    unfold State.deliverFlag
    refine ⟨fun noRing noLine => ?_, fun noRing line => ?_, fun ring noLine takes => ?_, fun ring noLine full => ?_⟩
    · simp [word, noRing, noLine]
    · simp [word, noRing, line, State.setEvPend]
    · simp [word, ring, noLine, takes]
    · simp [word, ring, noLine, full]
  case counted =>
    intro s e t i arg _ hi
    refine ⟨State.countInput_ignored arg hi, fun n s1 takes count after => ?_⟩
    have counted : s.inputCounted t i n arg = s1 := after.symm
    have overflow : s1.flag (taskStat t) 13 = s.flag (taskStat t) 13 := counted ▸ s.inputCounted_overflow t i n arg
    rw [State.countInput_taken arg hi takes, ← count, counted, overflow]
    exact ⟨fun below => if_neg fun full => absurd full.1 (by omega), fun full first => if_pos ⟨full, by rw [first]; rfl⟩,
      fun _ again => if_neg fun full => absurd full.2 (by rw [again]; decide)⟩

end Sys2Proof.Machine
end

section
/-!
PROOF of the desks' self-tests, the display lease's bands and the ENS verbs (18: R419 to R428).
-/

namespace Sys2Proof.Machine

/-! ### Retirement -/

theorem State.retireDesk_reg (s : State) (d c r : Nat) {a : Nat} (flags : a ≠ Reg.ENS_RETIRED) (log : a ≠ Reg.ENS_RETIRE_LOG) :
    (s.retireDesk d c r).reg a = s.reg a := by
  have written : (s.retireDesk d c r).reg a =
      ((s.setFlag Reg.ENS_RETIRED d true).setReg Reg.ENS_RETIRE_LOG (word (d + 16 * c + 0x10000 * r))).reg a := rfl
  rw [written, State.reg_setReg_other _ _ _ _ log, State.reg_setFlag_other _ _ _ _ _ flags]

theorem State.retireDesk_log (s : State) (d c r : Nat) : (s.retireDesk d c r).reg Reg.ENS_RETIRE_LOG = word (d + 16 * c + 0x10000 * r) :=
  State.reg_setReg_self (s.setFlag Reg.ENS_RETIRED d true) Reg.ENS_RETIRE_LOG _

theorem State.retireDesk_flags (s : State) (d c r : Nat) :
    (s.retireDesk d c r).reg Reg.ENS_RETIRED = (s.setFlag Reg.ENS_RETIRED d true).reg Reg.ENS_RETIRED :=
  State.reg_setReg_other (s.setFlag Reg.ENS_RETIRED d true) Reg.ENS_RETIRE_LOG Reg.ENS_RETIRED _ (by decide)

theorem State.deskRetired_of_reg {s t : State} (h : t.reg Reg.ENS_RETIRED = s.reg Reg.ENS_RETIRED) (d : Nat) :
    t.deskRetired d = s.deskRetired d := congrArg (bit · d) h

theorem State.deskRetired_setFlag (s : State) {d : Nat} (hd : d < 16) (x : Bool) :
    (s.setFlag Reg.ENS_RETIRED d x).deskRetired d = x := State.flag_setFlag s _ _ x (by omega)

theorem State.deskRetired_setFlag_other (s : State) {d e : Nat} (hd : d < 16) (other : e ≠ d) (x : Bool) :
    (s.setFlag Reg.ENS_RETIRED d x).deskRetired e = s.deskRetired e :=
  State.flag_setFlag_other s _ _ x _ _ (by omega) (.inr other)

/-! ### The end of a self-test -/

/-- The desk that was tested is idle and its result shown; what asked for the test has it (R420, R421). -/
def State.testNoted (s : State) (d : Nat) (passes : Bool) : State :=
  let s1 := (s.deskIdle d).setReg Reg.ENS_BIST_RESULT
    (word (2 ^ 31 + 0x10000 * ((s.fld Reg.ENS_BIST_RESULT 23 16 + 1) % 256) + 256 * passes.toNat + d))
  s1.setEns { s1.ens with
    due := s1.ens.due.filter (· != d), lastTested := d
    asks := s1.ens.asks.map (fun e =>
      if e.2.left.testBit d && e.2.retest == s.deskRetired d then
        (e.1, { e.2 with left := numWithBit e.2.left d false, passed := numWithBit e.2.passed d passes })
      else e) }

/-- A desk that passes a retest is in use again, one that fails a test is retired (R419). -/
def State.testJudged (s : State) (d : Nat) (passes : Bool) : State :=
  let s2 := s.testNoted d passes
  if s.deskRetired d && passes then
    ((s2.setFlag Reg.ENS_RETIRED d false).setFlag Reg.ENS_SUSPECT d false).raise 105 (word d)
  else if !s.deskRetired d && !passes then (s2.retireDesk d 3 0xFF).retiredEvent d 3 0xFF
  else s2

theorem State.endTest_eq (s : State) (d : Nat) (passes : Bool) : s.endTest d passes =
    ((s.testJudged d passes).raise 107 (word (d + 16 * passes.toNat + 32 * (!s.deskRetired d && !passes).toNat))).ensRun := rfl

theorem State.testNoted_reg (s : State) (d : Nat) (passes : Bool) {a : Nat} (other : a ≠ Reg.ENS_BIST_RESULT) :
    (s.testNoted d passes).reg a = s.reg a := State.reg_setReg_other (s.deskIdle d) _ _ _ other

theorem State.testNoted_result (s : State) (d : Nat) (passes : Bool) : (s.testNoted d passes).reg Reg.ENS_BIST_RESULT =
    word (2 ^ 31 + 0x10000 * ((s.fld Reg.ENS_BIST_RESULT 23 16 + 1) % 256) + 256 * passes.toNat + d) :=
  State.reg_setReg_self (s.deskIdle d) _ _

theorem State.testNoted_stores (s : State) (d : Nat) (passes : Bool) : storesSame s (s.testNoted d passes) := ⟨rfl, rfl, rfl, rfl⟩

theorem State.testNoted_ens (s : State) (d : Nat) (passes : Bool) : (s.testNoted d passes).ens.lastTested = d ∧
    d ∉ (s.testNoted d passes).ens.due ∧ (s.testNoted d passes).desk d = .idle := by
  have dropped : d ∉ s.ens.due.filter (· != d) := by simp
  have idle : Cells.get (fun _ => .idle) (Cells.put (fun _ => .idle) s.ens.desks d .idle) d = DeskUse.idle :=
    (Cells.get_put _ _ _ _ _).trans (if_pos rfl)
  exact ⟨rfl, dropped, idle⟩

/-- What judging the test leaves: the stores, the test's own record and every register but those of retirement. -/
structure TestKept (s t : State) (d : Nat) : Prop where
  stores : storesSame s t
  lastTested : t.ens.lastTested = s.ens.lastTested
  due : t.ens.due = s.ens.due
  desks : t.ens.desks = s.ens.desks
  result : t.reg Reg.ENS_BIST_RESULT = s.reg Reg.ENS_BIST_RESULT
  others : ∀ e, e < 16 → e ≠ d → t.deskRetired e = s.deskRetired e

theorem TestKept.trans {s t u : State} {d : Nat} (h : TestKept s t d) (k : TestKept t u d) : TestKept s u d :=
  ⟨h.stores.trans k.stores, k.lastTested.trans h.lastTested, k.due.trans h.due, k.desks.trans h.desks, k.result.trans h.result,
    fun e he other => (k.others e he other).trans (h.others e he other)⟩

theorem TestKept.raise (s : State) (d : Nat) {e : Nat} (he : e < 128) (arg : Word) : TestKept s (s.raise e arg) d :=
  have ens := State.raise_ens s e he arg
  ⟨s.raise_stores he arg, congrArg Ens.lastTested ens, congrArg Ens.due ens, congrArg Ens.desks ens,
    State.reg_raise s e he arg _ (by decide),
    fun k _ _ => State.deskRetired_of_reg (State.reg_raise s e he arg _ (by decide)) k⟩

theorem TestKept.reinstated (s : State) {d : Nat} (hd : d < 16) :
    TestKept s ((s.setFlag Reg.ENS_RETIRED d false).setFlag Reg.ENS_SUSPECT d false) d := by
  refine ⟨⟨rfl, rfl, rfl, rfl⟩, rfl, rfl, rfl, ?_, fun e _ other => ?_⟩
  · rw [State.reg_setFlag_other _ _ _ _ _ (by decide), State.reg_setFlag_other _ _ _ _ _ (by decide)]
  · rw [← State.deskRetired_setFlag_other s hd other false]
    exact State.deskRetired_of_reg (State.reg_setFlag_other _ _ _ _ _ (by decide)) e

theorem TestKept.retireDesk (s : State) {d : Nat} (hd : d < 16) (c r : Nat) : TestKept s (s.retireDesk d c r) d := by
  refine ⟨⟨rfl, rfl, rfl, rfl⟩, rfl, rfl, rfl, s.retireDesk_reg d c r (by decide) (by decide), fun e _ other => ?_⟩
  rw [← State.deskRetired_setFlag_other s hd other true]
  exact State.deskRetired_of_reg (s.retireDesk_flags d c r) e

theorem State.testJudged_kept (s : State) {d : Nat} (hd : d < 16) (passes : Bool) :
    TestKept (s.testNoted d passes) (s.testJudged d passes) d := by
  unfold State.testJudged
  generalize s.testNoted d passes = u
  simp only
  split
  · exact (TestKept.reinstated u hd).trans (.raise _ d (by decide) _)
  · split
    · exact (TestKept.retireDesk u hd 3 0xFF).trans (.raise _ d (by decide) _)
    · exact ⟨⟨rfl, rfl, rfl, rfl⟩, rfl, rfl, rfl, rfl, fun _ _ _ => rfl⟩

/-- A desk is retired behind its test where it failed, and only there. -/
theorem State.testJudged_retired (s : State) {d : Nat} (hd : d < 16) (passes : Bool) : (s.testJudged d passes).deskRetired d = !passes := by
  have before : (s.testNoted d passes).deskRetired d = s.deskRetired d := State.deskRetired_of_reg (s.testNoted_reg d passes (by decide)) d
  unfold State.testJudged
  generalize s.testNoted d passes = u at before ⊢
  simp only
  split
  next both =>
    obtain ⟨_, passed⟩ := Bool.and_eq_true_iff.1 both
    rw [passed]
    refine Eq.trans (State.deskRetired_of_reg ?_ d) (State.deskRetired_setFlag u hd false)
    rw [State.reg_raise _ _ (by decide) _ _ (by decide), State.reg_setFlag_other _ _ _ _ _ (by decide)]
  next notBoth =>
    split
    next neither =>
      obtain ⟨_, failed⟩ := Bool.and_eq_true_iff.1 neither
      rw [failed]
      refine Eq.trans (State.deskRetired_of_reg ?_ d) (State.deskRetired_setFlag u hd true)
      rw [State.retiredEvent, State.reg_raise _ _ (by decide) _ _ (by decide), State.retireDesk_flags]
    next notNeither =>
      rw [before]
      cases hr : s.deskRetired d <;> cases passes <;> simp_all

theorem State.retiredEvent_reg (s : State) (d c r : Nat) {a : Nat} (h : raiseReg a = false) : (s.retiredEvent d c r).reg a = s.reg a :=
  State.reg_raise s 104 (by decide) _ a h

theorem State.testJudged_failed {s : State} {d : Nat} {passes : Bool} (used : s.deskRetired d = false) (failed : passes = false) :
    s.testJudged d passes = ((s.testNoted d passes).retireDesk d 3 0xFF).retiredEvent d 3 0xFF := by
  simp only [State.testJudged, used, failed, Bool.false_and, Bool.not_false, Bool.true_and, if_true, Bool.false_eq_true, if_false]

theorem State.testJudged_log (s : State) {d : Nat} {passes : Bool} (used : s.deskRetired d = false) (failed : passes = false) :
    (s.testJudged d passes).reg Reg.ENS_RETIRE_LOG = word (d + 16 * 3 + 0x10000 * 0xFF) := by
  rw [State.testJudged_failed used failed, State.retiredEvent_reg _ _ _ _ (by decide)]
  exact State.retireDesk_log _ d 3 0xFF

/-! ### Tests asked for (R421) -/

theorem execRowWrite_tests {s s1 : State} {p : Port} {w : BufWord} (h : fronted s p w s1 = true) :
    (w.off = Reg.ENS_DESK_TEST → exec (.deskTestWrite p) s = .next (s1.writeDeskTest w.val)) ∧
    (w.off = Reg.ENS_DESK_RETEST → exec (.deskRetestWrite p) s = .next (s1.writeDeskRetest w.val)) := by
  constructor
  · intro hw
    have row := rowOf_deskTest hw
    exact congrArg Host.Outcome.next ((State.takeWord_fronted h row).trans (by simp only [State.applyWord, row]))
  · intro hw
    have row := rowOf_deskRetest hw
    exact congrArg Host.Outcome.next ((State.takeWord_fronted h row).trans (by simp only [State.applyWord, row]))

/-- Settles O57: self-tests by what a test's end notes and judges, bands by their passes, verbs by their bodies. -/
theorem desksAreTestedAndLeased : Obligations.DesksAreTestedAndLeased := by
  unfold Obligations.DesksAreTestedAndLeased
  refine ⟨?notDue, ?due, ?noTest, ?running, ?tested, ?verbs, ?writes, ?asked, ?allowed, ?noBand, ?band, ?noPass, ?residue, ?passes,
    fun _ => rfl, ?settled, ?retired, ?ensSet, ?ensCommit, ?commitGo, ?ensRead⟩
  case notDue =>
    intro s p hp early
    refine congrArg Host.Outcome.next (if_neg ?_)
    simp only [← hp, Bool.and_eq_true, decide_eq_true_eq]
    rintro ⟨⟨⟨on, periodic⟩, some⟩, late⟩
    rcases early with off | single | zero | soon
    · exact absurd (on.symm.trans off) (by decide)
    · exact absurd (periodic.symm.trans single) (by decide)
    · omega
    · omega
  case due =>
    intro s u p d hp on periodic some late hu
    have falls : (s.coreOn && s.fflag Reg.ENS_CFG 16 && decide (0 < s.ffld Reg.ENS_CFG 15 8) &&
        decide (s.ffld Reg.ENS_CFG 15 8 * 60 * 32768 ≤ s.elapsed s.ens.dueFrom)) = true := by
      simp [← hp, on, periodic, some, late]
    constructor
    · intro found
      exact congrArg Host.Outcome.next ((if_pos falls).trans (by simp only [found]; rw [hu]; rfl))
    · intro all
      have noneLeft : ((List.range 16).map (fun k => (s.ens.lastTested + 1 + k) % 16)).find? (fun d => !s.deskRetired d) = none := by
        refine List.find?_eq_none.2 fun e he => ?_
        obtain ⟨k, _, rfl⟩ := List.mem_map.1 he
        simp [all _ (Nat.mod_lt _ (by decide))]
      exact congrArg Host.Outcome.next ((if_pos falls).trans (by simp only [noneLeft]; exact hu.symm))
  case noTest =>
    intro passes s none
    exact congrArg Host.Outcome.next (by simp only [none])
  case running =>
    intro passes s d test early
    exact congrArg Host.Outcome.next (by simp [test, early])
  case tested =>
    intro passes s d test done
    have hd : d < 16 := List.mem_range.1 (List.mem_of_find?_eq_some test)
    have ends : exec (.bistEnd passes) s = .next (s.endTest d passes) := congrArg Host.Outcome.next (by simp [test, done])
    obtain ⟨stores, lastTested, due, desks, result, others⟩ := s.testJudged_kept hd passes
    obtain ⟨last, dropped, idle⟩ := s.testNoted_ens d passes
    refine ⟨_, ends.trans (congrArg Host.Outcome.next (s.endTest_eq d passes)), ?_⟩
    have ens := State.raise_ens (s.testJudged d passes) 107 (by decide) (word (d + 16 * passes.toNat + 32 * (!s.deskRetired d && !passes).toNat))
    have regs : ∀ a, raiseReg a = false → ((s.testJudged d passes).raise 107
        (word (d + 16 * passes.toNat + 32 * (!s.deskRetired d && !passes).toNat))).reg a = (s.testJudged d passes).reg a :=
      State.reg_raise _ _ (by decide) _
    have flags (e : Nat) := State.deskRetired_of_reg (regs Reg.ENS_RETIRED (by decide)) e
    refine ⟨(congrArg Ens.lastTested ens).trans (lastTested.trans last), ?_, ?_, ?_, ?_, ?_, ?_, ?_⟩
    · rw [ens, due]
      exact dropped
    · rw [State.desk, ens, desks]
      exact idle
    · rw [regs _ (by decide), result, s.testNoted_result]
    · rw [flags, s.testJudged_retired hd]
    · intro e he other
      rw [flags, others e he other]
      exact State.deskRetired_of_reg (s.testNoted_reg d passes (by decide)) e
    · intro used failed
      rw [regs _ (by decide), s.testJudged_log used failed]
    · exact (s.testNoted_stores d passes).trans (stores.trans (State.raise_stores _ (by decide) _))
  case verbs =>
    intro ring s v u ha hu
    exact ⟨fun h => congrArg Host.Outcome.next ((State.runVerb_body _ h ha).trans (congrArg State.ensRun (hu false).symm)),
      fun h => congrArg Host.Outcome.next ((State.runVerb_body _ h ha).trans (congrArg State.ensRun (hu true).symm))⟩
  case writes =>
    intro p s s1 w h
    exact execRowWrite_tests h
  case asked =>
    intro s key mask retest _
    exact (Cells.find_insert _ _ _ _).trans (if_pos rfl)
  case allowed =>
    intro s d may
    simp only [State.testAllowed, Bool.and_eq_true, beq_iff_eq, Bool.not_eq_true'] at may
    obtain ⟨⟨⟨idle, unleased⟩, _⟩, _⟩ := may
    exact ⟨idle, unleased⟩
  case noBand =>
    intro s h
    exact congrArg Host.Outcome.next (if_neg (Bool.eq_false_iff.1 h))
  case band =>
    intro s h
    exact congrArg Host.Outcome.next (if_pos h)
  case noPass =>
    intro desk errs s h
    refine congrArg Host.Outcome.next ?_
    split
    · rename_i p first b pass band
      rcases h with noBand | noPass | early
      · exact absurd (band.symm.trans noBand) (by simp)
      · exact absurd pass (noPass p first)
      · simp [early]
    · rfl
  case residue =>
    intro errs
    simp [passOk]
  case passes =>
    intro desk good bad s s1 s2 b p band done ok fault idle
    refine ⟨fun pass after => ?_, fun pass after => ?_, fun f pass after => ?_, fun f pass after => ?_⟩
    · exact congrArg Host.Outcome.next (by simp only [pass, band, done, ok, after, idle, Bool.not_true, Bool.false_eq_true, if_false, if_true])
    · exact congrArg Host.Outcome.next (by simp only [pass, band, done, fault, after, idle, Bool.not_true, Bool.false_eq_true, if_false])
    · exact congrArg Host.Outcome.next (by simp only [pass, band, done, ok, after, idle, Bool.not_true, Bool.false_eq_true, if_false, if_true])
    · exact congrArg Host.Outcome.next (by simp only [pass, band, done, fault, after, idle, Bool.not_true, Bool.false_eq_true, if_false])
  case settled =>
    intro s b band ran
    unfold State.settleBand
    rw [band]
    simp only [ran, if_true]
    rfl
  case retired =>
    intro s d c r hd
    exact ⟨(State.deskRetired_of_reg (s.retireDesk_flags d c r) d).trans (s.deskRetired_setFlag hd true), s.retireDesk_log d c r,
      fun a flags log => s.retireDesk_reg d c r flags log⟩
  case ensSet =>
    intro ring s v h ha
    have code := admitted_code h
    exact congrArg Host.Outcome.next ((State.runVerb_body _ h ha).trans (by simp only [State.stageVerb, State.stageEntry, code, if_true, State.stage]))
  case ensCommit =>
    intro ring s v h ha
    exact congrArg Host.Outcome.next (State.runVerb_body _ h ha)
  case commitGo =>
    intro p s s1 w h hw hv
    have row := rowOf_ensCommit hw hv
    exact congrArg Host.Outcome.next ((State.takeWord_fronted h row).trans (by simp only [State.applyWord, row, State.ensGo, hv, if_true]))
  case ensRead =>
    intro ring s v h ha
    refine congrArg Host.Outcome.next ((State.runVerb_body _ h ha).trans ?_)
    split <;> rfl

end Sys2Proof.Machine
end

section
/-!
REFUTATION of what is said of the stores at a tick (R17, R72, R206, Tables 3-1 and 3-5): a tick at which a thermal level brings a
ceiling into force turns an ascent back, and the rung that is kept takes the power of the Hall's banks.
-/

namespace Sys2Proof.Machine

/-- An ascent from PIANISSIMO to PIANO with bank 0 powered (U3), while slot 0 has become asserted: its class is WARM, whose action in
force has the ceiling PIANISSIMO. -/
def State.heatedAscent : State :=
  { State.reset with
    regs := [(Reg.DEV_LADDER_STATE, 0xA3#32), (slotWord 0 1, 0x10000#32)]
    force := [(Reg.SENSE_ACT_WARM, 0x300010#32), (slotWord 0 1, 0x100#32)]
    banks := 1#48
    boot := { step := .released }
    ladder := { core := .fastRc, step := .banks, start := 3 }
    sense := { State.reset.sense with slotsDirty := true } }

/-- The tick is not at a 1 s boundary, and neither a new WALL nor a commit waits. -/
theorem heatedAscent_plain : State.heatedAscent.tune.hold = none ∧ State.heatedAscent.atSecond = false ∧
    State.heatedAscent.face.wallNext = none ∧ State.heatedAscent.commits = [] := by decide

/-- The ceiling PIANISSIMO ends the ascent where it began. -/
theorem heatedAscent_tick : State.heatedAscent.tickEffects.banks = 0#48 := by decide +kernel

/-- Refutes O60: the tick turns the ascent back, and bank 0 loses its power. -/
theorem not_anEmptyQueueIsOneTick : ¬ Obligations.AnEmptyQueueIsOneTick := by
  unfold Obligations.AnEmptyQueueIsOneTick
  rintro ⟨_, _, ticks, _⟩
  obtain ⟨noHold, noSecond, noWall, noCommit⟩ := heatedAscent_plain
  obtain ⟨_, ⟨_, banks, _, _⟩, _, _⟩ := ticks State.heatedAscent noHold noSecond noWall noCommit
  rw [heatedAscent_tick] at banks
  exact absurd banks (by decide)

end Sys2Proof.Machine
end

section
/-!
PROOF of SENSE's rounds, results, coulomb counter, rails and verbs (09: R188 to R212).
-/

namespace Sys2Proof.Machine

/-! ### Result words (R189) -/

/-- The fields of a result word. -/
theorem resultWord_fields (old : Word) {value : Nat} (small : value < 65536) (fault stale : Bool) :
    field (resultWord old value fault stale) 15 0 = value ∧
    field (resultWord old value fault stale) 23 16 = (field old 23 16 + 1) % 256 ∧
    bit (resultWord old value fault stale) 28 = fault ∧ bit (resultWord old value fault stale) 30 = stale ∧
    bit (resultWord old value fault stale) 31 = true := by
  have seq : (field old 23 16 + 1) % 256 < 256 := Nat.mod_lt _ (by decide)
  unfold resultWord
  generalize (field old 23 16 + 1) % 256 = q at seq ⊢
  simp only [field, bit, word, BitVec.toNat_ofNat, Nat.shiftRight_eq_div_pow]
  cases fault <;> cases stale <;> simp only [Bool.false_eq_true, if_false, if_true, beq_iff_eq, beq_eq_false_iff_ne] <;> omega

/-- The results stand in registers of their own. -/
theorem resultReg_inj : ∀ c < 13, ∀ d < 13, c ≠ d → resultReg c ≠ resultReg d := by decide

/-- A channel that its slots hear at the end of the tick. -/
def State.noteFresh (s : State) (ch : Nat) : State := s.setSense { s.sense with fresh := ch :: s.sense.fresh }

theorem State.noteFresh_reg (s : State) (ch a : Nat) : (s.noteFresh ch).reg a = s.reg a := rfl

theorem State.noteFresh_stores (s : State) (ch : Nat) : storesSame s (s.noteFresh ch) := ⟨rfl, rfl, rfl, rfl⟩

theorem State.setReg_stores (s : State) (a : Nat) (w : Word) : storesSame s (s.setReg a w) := ⟨rfl, rfl, rfl, rfl⟩

theorem State.noteFresh_fresh (s : State) (ch : Nat) : (s.noteFresh ch).sense.fresh = ch :: s.sense.fresh := rfl

theorem State.noteFresh_metro (s : State) (ch : Nat) : (s.noteFresh ch).metro = s.metro := rfl

theorem State.publish_eq (s : State) (ch value : Nat) (fault stale : Bool) : s.publish ch value fault stale =
    (s.setReg (resultReg ch) (resultWord (s.reg (resultReg ch)) (value % 65536) fault stale)).noteFresh ch := by
  unfold State.publish State.noteFresh
  rfl

theorem State.publish_reg (s : State) (ch value : Nat) (fault stale : Bool) : (s.publish ch value fault stale).reg (resultReg ch) =
    resultWord (s.reg (resultReg ch)) (value % 65536) fault stale := by
  rw [State.publish_eq, State.noteFresh_reg, State.reg_setReg_self]

theorem State.publish_reg_other (s : State) (ch value : Nat) (fault stale : Bool) {a : Nat} (other : a ≠ resultReg ch) :
    (s.publish ch value fault stale).reg a = s.reg a := by
  rw [State.publish_eq, State.noteFresh_reg, State.reg_setReg_other _ _ _ _ other]

theorem State.publish_stores (s : State) (ch value : Nat) (fault stale : Bool) : storesSame s (s.publish ch value fault stale) := by
  rw [State.publish_eq]
  exact (s.setReg_stores _ _).trans (State.noteFresh_stores _ ch)

theorem State.publish_fresh (s : State) (ch value : Nat) (fault stale : Bool) :
    (s.publish ch value fault stale).sense.fresh = ch :: s.sense.fresh := by
  rw [State.publish_eq, State.noteFresh_fresh, State.setReg_sense]

theorem State.publish_metro (s : State) (ch value : Nat) (fault stale : Bool) : (s.publish ch value fault stale).metro = s.metro := by
  rw [State.publish_eq, State.noteFresh_metro, State.setReg_metro]

/-! ### CHARGE (R192, R193) -/

theorem State.charge_of_reg {s t : State} (low : t.reg Reg.SENSE_CHG_LO = s.reg Reg.SENSE_CHG_LO)
    (high : ∀ i < 16, (t.reg Reg.SENSE_CHG_HI).getLsbD i = (s.reg Reg.SENSE_CHG_HI).getLsbD i) : t.charge = s.charge := by
  unfold State.charge
  rw [low]
  refine congrArg (· ++ s.reg Reg.SENSE_CHG_LO) (BitVec.eq_of_getLsbD_eq fun i hi => ?_)
  rw [BitVec.getLsbD_setWidth, BitVec.getLsbD_setWidth, high i hi]

theorem State.charge_setCharge (s : State) (v : BitVec 48) : (s.setCharge v).charge = v := by
  have low : (s.setCharge v).reg Reg.SENSE_CHG_LO = v.setWidth 32 := by
    rw [State.setCharge, State.reg_setFld_other _ _ _ _ _ _ (by decide), State.reg_setReg_self]
  have high : (s.setCharge v).reg Reg.SENSE_CHG_HI =
      withField ((s.setReg Reg.SENSE_CHG_LO (v.setWidth 32)).reg Reg.SENSE_CHG_HI) 15 0 (v.toNat / 2 ^ 32) :=
    State.reg_setReg_self _ _ _
  unfold State.charge
  rw [low, high]
  refine BitVec.eq_of_getLsbD_eq fun i hi => ?_
  rw [BitVec.getLsbD_append]
  by_cases below : i < 32
  · simp [below]
  · have place : i - 32 < 16 := by omega
    have shift : (v.toNat / 2 ^ 32).testBit (i - 32) = v.getLsbD i := by
      rw [Nat.testBit_div_two_pow, BitVec.getLsbD, Nat.sub_add_cancel (Nat.le_of_not_lt below)]
    simp only [below, if_false, BitVec.getLsbD_setWidth, place, decide_true, Bool.true_and]
    rw [getLsbD_withField _ _ _ _ _ (by decide) (by decide), if_pos (by omega), Nat.sub_zero, shift]

theorem State.setCharge_metro (s : State) (v : BitVec 48) : (s.setCharge v).metro = s.metro := rfl

theorem State.setFld_stores (s : State) (a hi lo v : Nat) : storesSame s (s.setFld a hi lo v) := ⟨rfl, rfl, rfl, rfl⟩

theorem State.setCharge_stores (s : State) (v : BitVec 48) : storesSame s (s.setCharge v) := ⟨rfl, rfl, rfl, rfl⟩

theorem State.charge_words (s : State) : s.charge.setWidth 32 = s.reg Reg.SENSE_CHG_LO ∧
    s.charge.toNat / 2 ^ 32 = s.fld Reg.SENSE_CHG_HI 15 0 := by
  unfold State.charge
  constructor
  · refine BitVec.eq_of_getLsbD_eq fun i hi => ?_
    rw [BitVec.getLsbD_setWidth, BitVec.getLsbD_append]
    simp [hi]
  · have low := (s.reg Reg.SENSE_CHG_LO).isLt
    rw [BitVec.toNat_append, BitVec.toNat_setWidth, ← Nat.shiftLeft_add_eq_or_of_lt low, Nat.shiftLeft_eq, State.fld, field,
      Nat.shiftRight_zero]
    omega

theorem State.ibatSample_eq (s : State) (total v c : Int) (hv : roundDiv total 4096 - signed 16 (s.ffld Reg.SENSE_CC_CFG 15 0) = v)
    (hc : clampInt (-32768) 32767 v = c) : s.ibatSample total = ((s.publish 7 (unsigned 16 c) (decide (c ≠ v))).setCharge
      ((s.publish 7 (unsigned 16 c) (decide (c ≠ v))).charge + BitVec.ofInt 48 c)).setFld Reg.SENSE_CHG_HI 31 24
        ((s.publish 7 (unsigned 16 c) (decide (c ≠ v))).fld Reg.SENSE_IBAT 23 16) := by
  subst hc hv
  rfl

theorem resultReg_ibat : resultReg 7 = Reg.SENSE_IBAT := by decide

/-- A sample: IBAT is published, CHARGE grows by it and shows its SEQ. -/
theorem State.ibatSample_shows {s : State} {total v c : Int} (hv : v = roundDiv total 4096 - signed 16 (s.ffld Reg.SENSE_CC_CFG 15 0))
    (hc : c = clampInt (-32768) 32767 v) : (s.ibatSample total).fld Reg.SENSE_IBAT 15 0 = unsigned 16 c ∧
      (s.ibatSample total).flag Reg.SENSE_IBAT 28 = decide (c ≠ v) ∧
      (s.ibatSample total).charge = s.charge + BitVec.ofInt 48 c ∧
      (s.ibatSample total).fld Reg.SENSE_CHG_HI 31 24 = (s.ibatSample total).fld Reg.SENSE_IBAT 23 16 ∧
      (s.ibatSample total).metro = s.metro ∧ storesSame s (s.ibatSample total) := by
  have low : unsigned 16 c < 65536 := by
    unfold unsigned
    omega
  have before : (s.publish 7 (unsigned 16 c) (decide (c ≠ v))).charge = s.charge :=
    State.charge_of_reg (s.publish_reg_other 7 _ _ _ (by decide))
      fun i _ => congrArg (BitVec.getLsbD · i) (s.publish_reg_other 7 _ _ _ (by decide))
  have value : (s.publish 7 (unsigned 16 c) (decide (c ≠ v))).reg Reg.SENSE_IBAT =
      resultWord (s.reg Reg.SENSE_IBAT) (unsigned 16 c % 65536) (decide (c ≠ v)) false := by
    rw [← resultReg_ibat, State.publish_reg]
  obtain ⟨shown, _, fault, _, _⟩ := resultWord_fields (s.reg Reg.SENSE_IBAT) (Nat.mod_lt (unsigned 16 c) (by decide)) (decide (c ≠ v)) false
  have stores := s.publish_stores 7 (unsigned 16 c) (decide (c ≠ v)) false
  have clock := s.publish_metro 7 (unsigned 16 c) (decide (c ≠ v)) false
  rw [s.ibatSample_eq total v c hv.symm hc.symm]
  generalize s.publish 7 (unsigned 16 c) (decide (c ≠ v)) = u at before value stores clock ⊢
  have ibat : (((u.setCharge (u.charge + BitVec.ofInt 48 c)).setFld Reg.SENSE_CHG_HI 31 24 (u.fld Reg.SENSE_IBAT 23 16)).reg
      Reg.SENSE_IBAT) = u.reg Reg.SENSE_IBAT := by
    rw [State.reg_setFld_other _ _ _ _ _ _ (by decide), State.setCharge, State.reg_setFld_other _ _ _ _ _ _ (by decide),
      State.reg_setReg_other _ _ _ _ (by decide)]
  refine ⟨?_, ?_, ?_, ?_, (State.setFld_metro _ _ _ _ _).trans ((u.setCharge_metro _).trans clock),
    stores.trans ((u.setCharge_stores _).trans (State.setFld_stores _ _ _ _ _))⟩
  · rw [State.fld, ibat, value, shown, Nat.mod_eq_of_lt low]
  · rw [State.flag, ibat, value, fault]
  · have kept : ((u.setCharge (u.charge + BitVec.ofInt 48 c)).setFld Reg.SENSE_CHG_HI 31 24 (u.fld Reg.SENSE_IBAT 23 16)).charge =
        (u.setCharge (u.charge + BitVec.ofInt 48 c)).charge := by
      refine State.charge_of_reg (State.reg_setFld_other _ _ _ _ _ _ (by decide)) fun i hi => ?_
      rw [State.setFld, State.reg_setReg_self, getLsbD_withField _ _ _ _ _ (by decide) (by decide), if_neg (by omega)]
    rw [kept, State.charge_setCharge, before]
  · have small : u.fld Reg.SENSE_IBAT 23 16 < 2 ^ 8 := field_lt _ 23 16
    rw [State.fld_setFld _ _ _ _ _ (by decide) (by decide), Nat.mod_eq_of_lt small]
    exact (congrArg (field · 23 16) ibat).symm

/-! ### Rails (R199, R200) -/

theorem State.railClass_iff (s : State) (r mv : Nat) :
    (s.railClass r mv = 2 ↔ mv < 10 * s.ffld (Reg.SENSE_RAIL_VBAT + 4 * r) 8 0) ∧
    (s.railClass r mv = 1 ↔ 10 * s.ffld (Reg.SENSE_RAIL_VBAT + 4 * r) 8 0 ≤ mv ∧
      mv ≤ 10 * s.ffld (Reg.SENSE_RAIL_VBAT + 4 * r) 24 16) := by
  unfold State.railClass
  split
  next low => exact ⟨by simp [low], by simp; omega⟩
  next notLow =>
    split
    next high => exact ⟨by simp [notLow], by simp; omega⟩
    next notHigh => exact ⟨by simp [notLow], by simp; omega⟩

theorem State.dwellClass_iff (s : State) (r c : Nat) (mv : List Nat) : s.dwellClass r mv = some c ↔
    max 1 (s.ffld Reg.SENSE_SUPPLY_CFG 7 0) ≤ mv.length ∧
      ∀ m ∈ mv.reverse.take (max 1 (s.ffld Reg.SENSE_SUPPLY_CFG 7 0)), s.railClass r m = c := by
  unfold State.dwellClass
  simp only
  generalize hd : max 1 (s.ffld Reg.SENSE_SUPPLY_CFG 7 0) = dwell
  have pos : 1 ≤ dwell := hd ▸ Nat.le_max_left _ _
  have len : (mv.reverse.take dwell).length = min dwell mv.length := by rw [List.length_take, List.length_reverse]
  generalize mv.reverse.take dwell = last at len
  cases last with
  | nil =>
    simp only [List.length_nil] at len
    simp only [List.map_nil, reduceCtorEq, false_iff]
    omega
  | cons m ms =>
    simp only [List.length_cons] at len
    simp only [List.map_cons, List.length_map, List.forall_mem_cons]
    constructor
    · intro given
      split at given
      next full =>
        obtain ⟨number, same⟩ := full
        have own : s.railClass r m = c := Option.some.inj given
        refine ⟨by omega, own, fun x hx => ?_⟩
        have equal := List.all_eq_true.1 same _ (List.mem_map_of_mem hx)
        exact (beq_iff_eq.1 equal).trans own
      next => exact absurd given (by simp)
    · rintro ⟨enough, own, rest⟩
      have same : (ms.map (s.railClass r)).all (fun x => x == s.railClass r m) = true := by
        rw [List.all_map]
        exact List.all_eq_true.2 fun x hx => beq_iff_eq.2 ((rest x hx).trans own.symm)
      rw [if_pos ⟨by omega, same⟩, own]

/-! ### The supply guard's ceiling (R72, R200) -/

/-- The ceilings stand as before. -/
structure CeilKept (s t : State) : Prop where
  shown : t.reg Reg.DEV_FORCE = s.reg Reg.DEV_FORCE
  supply : t.ladder.ceilSupply = s.ladder.ceilSupply

theorem CeilKept.refl (s : State) : CeilKept s s := ⟨rfl, rfl⟩

theorem CeilKept.trans {s t u : State} (h : CeilKept s t) (k : CeilKept t u) : CeilKept s u :=
  ⟨k.shown.trans h.shown, k.supply.trans h.supply⟩

theorem CeilKept.raise (s : State) {e : Nat} (he : e < 128) (arg : Word) : CeilKept s (s.raise e arg) :=
  ⟨State.reg_raise s e he arg _ (by decide), congrArg Ladder.ceilSupply (State.raise_ladder s e he arg)⟩

theorem CeilKept.setReg (s : State) {a : Nat} (other : Reg.DEV_FORCE ≠ a) (v : Word) : CeilKept s (s.setReg a v) :=
  ⟨State.reg_setReg_other s a _ v other, rfl⟩

theorem State.answerMove_ceilKept (s : State) (st : Status) (res : List Word) : CeilKept s (s.answerMove st res) := by
  unfold State.answerMove
  split
  · rw [State.completeRing_only]
    exact ⟨rfl, rfl⟩
  · exact .refl s

theorem State.settleRung_ceilKept (s : State) : CeilKept s s.settleRung :=
  State.settleRung_cases (P := fun t => CeilKept s t) (.refl s) ⟨State.reg_setFld_other _ _ _ _ _ _ (by decide), rfl⟩
    fun _ kept => ⟨kept.shown, kept.supply⟩

theorem State.setTgt_ceilKept (s : State) (t : Nat) : CeilKept s (s.setTgt t) := .setReg s (by decide) _

theorem State.endMove_ceilKept (s : State) : CeilKept s s.endMove := by
  have shown : CeilKept s s.moveShown :=
    (s.settleRung_ceilKept.trans (.setReg _ (a := Reg.DEV_LADDER_STATE) (by decide) _)).trans
      (.setReg _ (a := Reg.DEV_LADDER_STATE) (by decide) _)
  rw [State.endMove_eq]
  refine CeilKept.trans ?_ (.raise _ (by decide) _)
  exact ⟨shown.shown, shown.supply⟩

/-- A move begun for no verb, on whatever else of the ladder. -/
theorem CeilKept.beginMove {s u : State} (h : CeilKept s u) (t start : Nat) (cause : MoveCause) (by_ : Option Nat) (capped : Bool)
    (step : MoveStep) : CeilKept s { (u.setTgt t).setFlag Reg.DEV_LADDER_STATE 7 true with
      ladder := { ((u.setTgt t).setFlag Reg.DEV_LADDER_STATE 7 true).ladder with
        start := start, cause := cause, byRing := by_, capped := capped, step := step } } :=
  have begun := (h.trans (u.setTgt_ceilKept t)).trans (.setReg _ (a := Reg.DEV_LADDER_STATE) (by decide) _)
  ⟨begun.shown, begun.supply⟩

theorem State.request_ceilKept (s : State) (target : Nat) (cause : MoveCause) : CeilKept s (s.request target cause none) := by
  have superseded := s.answerMove_ceilKept .superseded []
  unfold State.request
  simp only
  split
  · split
    · exact s.setTgt_ceilKept _
    · exact (CeilKept.refl s).beginMove _ _ _ _ _ _
  · split
    · exact superseded.beginMove _ _ _ _ _ _
    · split
      · refine CeilKept.trans ?_ (State.endMove_ceilKept _)
        have named := superseded.trans (State.setTgt_ceilKept _ (max target s.ceil))
        exact ⟨named.shown, named.supply⟩
      · split
        · exact superseded.beginMove _ _ _ _ _ _
        · exact superseded.beginMove _ _ _ _ _ _

/-- What a new ceiling c makes of the move, behind its event. -/
def State.heedCeil (s2 : State) (c : Nat) : State :=
  if s2.ladder.step = .task1 then (if s2.tgt < c then s2.setTgt c else s2)
  else if s2.moving && decide (s2.tgt < s2.cur) then
    if c < s2.ladder.start then
      if s2.tgt < c then
        State.setTgt { s2 with ladder := { s2.ladder with step := ascentStep s2.ladder.step c, capped := true } } c
      else s2
    else
      let s3 := (s2.answerMove .superseded []).setFlag Reg.DEV_LADDER_STATE 7 false
      let s4 := ({ s3 with ladder := { s3.ladder with step := .none } }.settleRung).setTgt s3.cur
      if s4.cur < c then s4.request c .forced none else s4
  else if s2.tgt < c ∨ (!s2.moving ∧ s2.cur < c) then s2.request c .forced none
  else s2

/-- A ceiling c shown with the bits of its causes. -/
def State.ceilShown (s : State) (c bits : Nat) : State := (s.setFld Reg.DEV_FORCE 2 0 c).setFld Reg.DEV_FORCE 9 8 bits

theorem State.applyCeil_eq {s : State} {c bits : Nat} (hc : max s.ladder.ceilThermal (max s.ladder.ceilBattery s.ladder.ceilSupply) = c)
    (hb : (if s.ladder.ceilBattery ≠ 0 ∨ s.ladder.ceilSupply ≠ 0 then 1 else 0) + (if s.ladder.ceilThermal ≠ 0 then 2 else 0) = bits) :
    s.applyCeil = if (s.ceilShown c bits).reg Reg.DEV_FORCE = s.reg Reg.DEV_FORCE then s
      else ((s.ceilShown c bits).raise 3 (word (c + 256 * bits))).heedCeil c := by
  subst hc hb
  rfl

theorem State.heedCeil_ceilKept (s : State) (c : Nat) : CeilKept s (s.heedCeil c) := by
  unfold State.heedCeil
  simp only
  split
  · split
    · exact s.setTgt_ceilKept c
    · exact .refl s
  · split
    · split
      · split
        · exact CeilKept.trans (t := { s with ladder := { s.ladder with step := ascentStep s.ladder.step c, capped := true } })
            ⟨rfl, rfl⟩ (State.setTgt_ceilKept _ c)
        · exact .refl s
      · have stopped := (s.answerMove_ceilKept .superseded []).trans
          (.setReg _ (a := Reg.DEV_LADDER_STATE) (by decide) (withBit ((s.answerMove .superseded []).reg Reg.DEV_LADDER_STATE) 7 false))
        have still : CeilKept s { (s.answerMove .superseded []).setFlag Reg.DEV_LADDER_STATE 7 false with
            ladder := { ((s.answerMove .superseded []).setFlag Reg.DEV_LADDER_STATE 7 false).ladder with step := .none } } :=
          ⟨stopped.shown, stopped.supply⟩
        have settled := (still.trans (State.settleRung_ceilKept _)).trans
          (State.setTgt_ceilKept _ ((s.answerMove .superseded []).setFlag Reg.DEV_LADDER_STATE 7 false).cur)
        split
        · exact settled.trans (State.request_ceilKept _ _ _)
        · exact settled
    · split
      · exact s.request_ceilKept _ _
      · exact .refl s

theorem State.ceil_ceilShown (s : State) {c : Nat} (hc : c < 8) (bits : Nat) : (s.ceilShown c bits).ceil = c := by
  unfold State.ceil State.ceilShown
  rw [State.fld_setFld_other _ _ _ _ _ _ _ _ (by decide) (by decide) (.inr (.inr (by decide))), State.fld_setFld _ _ _ _ _ (by decide) (by decide)]
  exact Nat.mod_eq_of_lt hc

theorem State.ceil_of_reg {s t : State} (h : t.reg Reg.DEV_FORCE = s.reg Reg.DEV_FORCE) : t.ceil = s.ceil := congrArg (field · 2 0) h

/-- The ceiling that the block's words ask for is in force. -/
theorem State.applyCeil_shows {s : State} {c : Nat} (hc : max s.ladder.ceilThermal (max s.ladder.ceilBattery s.ladder.ceilSupply) = c)
    (small : c < 8) : s.applyCeil.ceil = c ∧ s.applyCeil.ladder.ceilSupply = s.ladder.ceilSupply := by
  generalize hb : (if s.ladder.ceilBattery ≠ 0 ∨ s.ladder.ceilSupply ≠ 0 then 1 else 0) + (if s.ladder.ceilThermal ≠ 0 then 2 else 0) = bits
  rw [State.applyCeil_eq hc hb]
  have shown := s.ceil_ceilShown small bits
  split
  next same => exact ⟨(State.ceil_of_reg same).symm.trans shown, rfl⟩
  next =>
    have supply : (s.ceilShown c bits).ladder.ceilSupply = s.ladder.ceilSupply := rfl
    have kept := (CeilKept.raise (s.ceilShown c bits) (e := 3) (by decide) (word (c + 256 * bits))).trans (State.heedCeil_ceilKept _ c)
    exact ⟨(State.ceil_of_reg kept.shown).trans shown, kept.supply.trans supply⟩

theorem State.guardCeil_shows {s : State} (thermal : s.ladder.ceilThermal ≤ 5) (battery : s.ladder.ceilBattery ≤ 5) :
    s.guardCeil.ceil = 5 ∧ s.guardCeil.ladder.ceilSupply = 5 := by
  have highest : max s.ladder.ceilThermal (max s.ladder.ceilBattery 5) = 5 := by omega
  exact State.applyCeil_shows (s := { s with ladder := { s.ladder with ceilSupply := 5 } }) highest (by decide)

end Sys2Proof.Machine
end

section
/-!
PROOF of SENSE's rounds, results, rails, charger and verbs, put together (09: R188 to R212).
-/

namespace Sys2Proof.Machine

/-! ### Commands at their conditions -/

theorem exec_conversion_held {raw : Int} {s : State} (h : s.senseOn = false ∨ s.sense.left = [] ∨ s.sense.convAt = some s.edge) :
    exec (.conversion raw) s = .next s := by
  refine congrArg Host.Outcome.next ?_
  split
  next ch rest left =>
    refine if_neg fun on => ?_
    simp only [Bool.and_eq_true, bne_iff_ne] at on
    rcases h with off | none | taken
    · exact absurd (on.1.symm.trans off) (by decide)
    · exact absurd (left.symm.trans none) (by simp)
    · exact on.2 taken
  next => rfl

theorem exec_ibatSample {s s1 : State} (total : Int) (mark : s.metro.toNat % 4096 = 0) (fresh : s.sense.ibatAt ≠ some s.metro)
    (up : s.boot.step ≠ .por) (awake : s.boot.step ≠ .tacet)
    (h : s1 = { s with sense := { s.sense with ibatAt := some s.metro } }) :
    exec (.ibatSample total) s = .next (if s.canSample then s1.ibatSample total else s1.bump Reg.SENSE_CC_MISSED 31 0) := by
  have marked : (s.metro.toNat % 4096 == 0 && s.sense.ibatAt != some s.metro && s.boot.step != .por && s.boot.step != .tacet) = true := by
    simp [mark, fresh, up, awake]
  rw [h]
  exact congrArg Host.Outcome.next (if_pos marked)

/-- A whole register counted up. -/
theorem State.bump_whole (s : State) (a : Nat) : s.bump a 31 0 = s.setReg a (s.reg a + 1#32) := by
  have counted := s.reg_bump_whole a
  rw [State.bump, State.setFld, State.reg_setReg_self] at counted
  rw [State.bump, State.setFld, counted]

theorem exec_supplyLoss {s : State} (h : s.senseOn = false ∨ s.guarded = false ∨ s.suppliesAwaited = true ∨ s.lostRails = []) :
    exec .supplyLoss s = .next s := by
  refine congrArg Host.Outcome.next (if_neg fun lost => ?_)
  simp only [Bool.and_eq_true, Bool.not_eq_true', List.isEmpty_eq_false_iff] at lost
  obtain ⟨⟨⟨on, guarded⟩, notAwaited⟩, some⟩ := lost
  rcases h with off | unguarded | awaited | none
  · exact absurd (on.symm.trans off) (by decide)
  · exact absurd (guarded.symm.trans unguarded) (by decide)
  · exact absurd (awaited.symm.trans notAwaited) (by decide)
  · exact some none

/-- What a class new to a rail does, given its report (R199, R200). -/
theorem exec_railClassChange {rail : BitVec 3} {mv : List Nat} {c old : Nat} {s s0 s1 s2 : State} (six : rail.toNat < 6)
    (on : s.senseOn = true) (hold : old = Cells.get (fun _ => 0) s.sense.rails rail.toNat)
    (hc : c = (s.dwellClass rail.toNat mv).getD old)
    (h0 : s0 = if rail = 2#3 then State.setFlag { s with sense := { s.sense with coreMv := some (mv.getLastD 0) } }
      Reg.SENSE_RAIL_STATUS 16 (decide (s.confirmMv ≤ mv.getLastD 0)) else s)
    (h1 : s1 = s0.setRail rail.toNat c)
    (h2 : s2 = if old = 0 then s1 else s1.raise 44 (s1.reg Reg.SENSE_RAIL_STATUS &&& 0x3FFF#32)) :
    exec (.railClassChange rail mv) s = .next (if old = c then s0 else
      if rail = 0#3 ∧ c = 2 ∧ s2.guarded then s2.brownout else s2) := by
  have named (n : Nat) (hn : n < 8) : rail.toNat = n ↔ rail = BitVec.ofNat 3 n := by
    rw [← BitVec.toNat_inj, BitVec.toNat_ofNat, Nat.mod_eq_of_lt hn]
  have seen : (if rail.toNat = 2 then s.seeCore (mv.getLastD 0) else s) = s0 := by
    rw [h0]
    simp only [named 2 (by decide)]
    rfl
  have first : (rail.toNat = 0) = (rail = 0#3) := propext (named 0 (by decide))
  have runs : (!s.senseOn || decide (6 ≤ rail.toNat)) = false := by
    rw [on, decide_eq_false (by omega)]
    rfl
  refine congrArg Host.Outcome.next ?_
  simp only [runs, Bool.false_eq_true, if_false, seen, ← hold, ← hc, ← h1, ← h2, first]

theorem exec_chgStatChange {level : Bool} {s : State} (h : s.senseOn = false ∨ level = s.pins.chgStat) :
    exec (.chgStatChange level) s = .next { s with pins := { s.pins with chgStat := level } } := by
  refine congrArg Host.Outcome.next ?_
  simp only
  split
  next same =>
    rw [beq_iff_eq.1 same]
  next changed =>
    have off := h.resolve_right fun same => changed (beq_iff_eq.2 same)
    rw [off]
    exact if_neg Bool.false_ne_true

/-- Settles O35: rounds and rails by their commands' conditions, results by their words, verbs by their bodies. -/
theorem senseResultsAndVerbs : Obligations.SenseResultsAndVerbs := by
  unfold Obligations.SenseResultsAndVerbs
  refine ⟨?due, ?notDue, ?converts, fun _ _ => exec_conversion_held, ?publishes, ?vbat, ?sample, ?counts, ?noCounts,
    State.railClass_iff, ?dwell, ?rail, ?noRail, fun _ => State.guardCeil_shows, ?loss, fun _ => exec_supplyLoss, ?charger,
    fun _ _ => exec_chgStatChange, ?senseRead, ?senseSet, ?slotSet, ?ntcTable, ?ccSet, ?chgSet⟩
  case due =>
    intro s n pm due hn hpm
    rw [hn] at hpm ⊢
    rw [hpm]
    exact congrArg Host.Outcome.next (if_pos due)
  case notDue =>
    intro s notDue
    exact congrArg Host.Outcome.next (if_neg (Bool.eq_false_iff.1 notDue))
  case converts =>
    intro raw s s1 ch rest on left free h1
    refine congrArg Host.Outcome.next ?_
    have runs : (s.senseOn && s.sense.convAt != some s.edge) = true := by simp [on, free]
    simp only [left, runs, if_true]
    rw [h1]
    rfl
  case publishes =>
    intro s ch value fault stale t hch ht
    obtain ⟨shown, seq, faulty, old, ready⟩ := resultWord_fields (s.reg (resultReg ch)) (Nat.mod_lt value (by decide : 65536 > 0)) fault stale
    have word := s.publish_reg ch value fault stale
    rw [ht]
    simp only [State.fld, State.flag, word]
    exact ⟨shown, seq, faulty, old, ready,
      fun c hc other => s.publish_reg_other ch value fault stale (resultReg_inj c hc ch hch other),
      s.publish_fresh ch value fault stale, s.publish_stores ch value fault stale⟩
  case vbat =>
    intro raw s
    rfl
  case sample =>
    intro total s s1 v c mark fresh up awake h1
    have runs := exec_ibatSample total mark fresh up awake h1
    refine ⟨fun not => ?_, fun may hv hc => ?_⟩
    · have same : s1.reg Reg.SENSE_CC_MISSED = s.reg Reg.SENSE_CC_MISSED := by rw [h1]; rfl
      rw [runs, not, State.bump_whole, same]
      rfl
    · have regs : s1.regs = s.regs := by rw [h1]
      have words : s1.ffld Reg.SENSE_CC_CFG 15 0 = s.ffld Reg.SENSE_CC_CFG 15 0 := by rw [h1]; rfl
      obtain ⟨ibat, clamped, charge, seq, clock, stores⟩ := State.ibatSample_shows (s := s1) (total := total) (words ▸ hv) hc
      have before : s1.charge = s.charge := State.charge_of_reg (State.reg_of_regs regs _) fun i _ =>
        congrArg (BitVec.getLsbD · i) (State.reg_of_regs regs _)
      refine ⟨s1.ibatSample total, runs.trans (by rw [may]; rfl), ibat, clamped, charge.trans (by rw [before]), seq, ?_, ?_⟩
      · rw [clock, h1]
      · exact storesSame.trans (by rw [h1]; exact ⟨rfl, rfl, rfl, rfl⟩) stores
  case counts =>
    intro counts s due
    exact congrArg Host.Outcome.next (if_pos due)
  case noCounts =>
    intro counts s notDue
    exact congrArg Host.Outcome.next (if_neg (Bool.eq_false_iff.1 notDue))
  case dwell =>
    intro s r dwell c mv hd
    rw [hd]
    exact s.dwellClass_iff r c mv
  case rail =>
    intro rail mv c old s s0 s1 s2 six on hold hc h0 h1 h2
    have runs := exec_railClassChange six on hold hc h0 h1 h2
    refine ⟨fun same => ?_, fun new quiet => ?_, fun new first low guarded => ?_⟩
    · rw [runs, if_pos same]
    · rw [runs, if_neg new, if_neg quiet]
    · rw [runs, if_neg new, if_pos ⟨first, low, guarded⟩]
      rfl
  case noRail =>
    intro rail mv s h
    refine congrArg Host.Outcome.next ?_
    have held : (!s.senseOn || decide (6 ≤ rail.toNat)) = true := by
      rcases h with beyond | off
      · simp [beyond]
      · simp [off]
    simp only [held, if_true]
  case loss =>
    intro s on guarded notAwaited some
    have lost : (s.senseOn && s.guarded && !s.suppliesAwaited && !s.lostRails.isEmpty) = true := by
      simp [on, guarded, notAwaited, some]
    exact congrArg Host.Outcome.next (if_pos lost)
  case charger =>
    intro level s s1 on changed h1
    refine congrArg Host.Outcome.next ?_
    simp only [beq_eq_false_iff_ne.2 changed, Bool.false_eq_true, if_false, on, if_true]
    rw [h1]
    rfl
  case senseRead =>
    intro ring s v h ha
    exact congrArg Host.Outcome.next (State.runVerb_body _ h ha)
  case senseSet =>
    intro ring s v h ha may
    exact congrArg Host.Outcome.next (State.runVerb_body _ h (by simp [ha, may]))
  case slotSet =>
    intro ring s v n h ha hn
    rw [hn]
    exact congrArg Host.Outcome.next (State.runVerb_body _ h ha)
  case ntcTable =>
    intro ring s v n a h ha hn one six last at_
    rw [hn] at one six last ⊢
    rw [at_]
    exact congrArg Host.Outcome.next (State.runVerb_body _ h (by simp only [ha, one, six, last, decide_true, Bool.and_self]))
  case ccSet =>
    intro ring s t v new h ha hnew ht
    obtain ⟨low, high⟩ := s.charge_words
    refine ⟨?_, ht ▸ s.charge_setCharge new⟩
    refine congrArg Host.Outcome.next ((State.runVerb_body _ h ha).trans ?_)
    simp only [← hnew, ← ht, low, high]
  case chgSet =>
    intro ring s v h ha
    exact congrArg Host.Outcome.next (State.runVerb_body _ h ha)

end Sys2Proof.Machine
end

section
/-!
REFUTATION of what is said of EPOCH at a SYSTEM reset (R86, Table 0-5): the statement names every state, also one whose word store is
not in its canonical form. No step brings the part to such a state (O3).
-/

namespace Sys2Proof.Machine

/-- A word store that lists EPOCH twice: a reset drops the first entry, which has the reset value, and the second is read from then on. -/
def State.twiceListed : State := { State.reset with regs := [(Reg.DEV_EPOCH, 0#32), (Reg.DEV_EPOCH, 5#32)] }

theorem twiceListed_epoch : State.twiceListed.fld Reg.DEV_EPOCH 15 0 = 0 := by decide

theorem twiceListed_reset : (State.twiceListed.applySystem 1).fld Reg.DEV_EPOCH 15 0 = 6 := by decide +kernel

/-- Refutes O14: EPOCH reads 0 before the reset and 6 after it. -/
theorem not_resetsAreAskedForAndApplied : ¬ Obligations.ResetsAreAskedForAndApplied := by
  unfold Obligations.ResetsAreAskedForAndApplied
  rintro ⟨applied, _⟩
  obtain ⟨t, rfl, epoch, _⟩ := applied State.twiceListed 1 (by decide) (by decide)
  rw [twiceListed_reset, twiceListed_epoch] at epoch
  exact absurd epoch (by decide)

end Sys2Proof.Machine
end
